-- ==== Sys2Proof/Word.lean ====
section
/-!
DEFINITION. The words of the SKV-324 and the plain data that its commands carry: lane letters, link
directions, conversions, lane-link blocks (R25, R27, R144, R321, R400), Jalsyn frames (R356, R370),
CAN frames, USDO paths and the small enumerations of the manual. No arithmetic beyond the words' own.
-/

namespace Sys2Proof

abbrev Byte := BitVec 8
abbrev Half := BitVec 16
abbrev Word := BitVec 32
abbrev Long := BitVec 64

/-- An IEEE 754 binary32 number, held as its bit pattern (R87). -/
abbrev F32 := BitVec 32

/-- A raw 14-bit conversion, 0 to 16383 (R159). -/
abbrev Code := BitVec 14

/-- A 32-bit turn value: 2^32 is one electrical turn (R128). -/
abbrev Turn := BitVec 32

/-- The three lanes of one module (R10). -/
inductive LaneId where
  | a | b | c
  deriving DecidableEq, Repr

/-- The two lane links of a lane: forward to the next lane of A, B, C, A, back to the previous (R11). -/
inductive LinkDir where
  | fwd | back
  deriving DecidableEq, Repr

/-- The two Jalsyn channels of a lane (R353). -/
inductive Chan where
  | a | b
  deriving DecidableEq, Repr

/-- The side of a bridge leg. -/
inductive Side where
  | low | high
  deriving DecidableEq, Repr

/-- A switch of the lane's power stage: a bridge switch or the chopper (R197). -/
inductive Switch where
  | bridge (leg : Fin 24) (side : Side)
  | chopper
  deriving DecidableEq, Repr

/-- Lane roles, coded as `ROLE` of R83. -/
inductive Role where
  | lead | heel | watch | none
  deriving DecidableEq, Repr

/-- Device modes, coded 0 to 5 (R69). -/
inductive Mode where
  | startup | standby | operational | reduced | descent | safe
  deriving DecidableEq, Repr

/-- Fault classes (R290). -/
inductive FaultClass where
  | corrected | contained | fatal
  deriving DecidableEq, Repr

/-- Fault reactions, weakest first (R291). -/
inductive Reaction where
  | log | notify | kennel | degrade | surrender | halt
  deriving DecidableEq, Repr

/-- Power states of a lane (R512). -/
inductive PowerState where
  | run | idle | sleep | deep
  deriving DecidableEq, Repr

/-- Reset kinds, coded 1 to 7 (R503). -/
inductive ResetKind where
  | powerOn | brownOut | external | watchdog | haltRestart | software | crossLane
  deriving DecidableEq, Repr

/-- Where a lane stands on its way from power to the joined state (R502) and out of it again. -/
inductive Phase where
  | off            -- no supply, or the AON rail dropped
  | inReset        -- a reset is asserted, or the release is awaited
  | startDelay     -- oscillator start delay running (R479)
  | stagger        -- waiting for its BIST stagger (R304)
  | bist           -- BIST running (R304)
  | bistFailed     -- BIST failed, the lane is held in reset (R305)
  | boot           -- boot ROM verifies the firmware (R425)
  | bootFailed     -- no firmware slot passed (R425)
  | loaded         -- firmware runs, configuration loaded, not joined
  | joined         -- joined (R41)
  | withdrawn      -- withdrawn, on its way to the software reset of R44
  | halted         -- halted, up to the HALT-restart (R294)
  | haltedState    -- STATE 4 after the HALT-restart (R294)
  | clockWait      -- clock-wait (R487)
  | sleep
  | deep
  deriving DecidableEq, Repr

/-- One conversion: its code and the outcome of the self-check of the first try and of the repeat (R165). -/
structure Conv where
  code   : Code
  first  : Bool := true
  second : Bool := true
  deriving DecidableEq, Repr

/-- The conversions held at a winding's sample instant (R162, R163, R169). -/
structure Sample where
  iu     : Conv
  iv     : Conv
  iw     : Conv
  link   : Conv
  phases : Code × Code × Code   -- phase voltages, used while the gates are off
  sin    : Conv
  cos    : Conv
  deriving DecidableEq, Repr

/-- What the back-EMF measurement of R149 delivers: peak line-to-line amplitudes, the phase angles
between neighbouring line voltages in degrees, the vector's peak, angle and electrical speed in rad/s. -/
structure CatchMeas where
  peaks  : F32 × F32 × F32
  angles : F32 × F32 × F32
  ep     : F32
  theta  : Turn
  we     : F32
  sensor : Turn            -- the position source's angle over the same interval
  deriving DecidableEq, Repr

/-- Readings of a sniff step in volts (R224): the three phases of the winding and every phase of each
other port, port by port. -/
structure SniffReading where
  u : F32
  v : F32
  w : F32
  others : List (Fin 8 × F32)   -- (port, voltage of one of its phases, in the order U, V, W)
  deriving DecidableEq, Repr

/-- Levels of the asynchronous inputs frozen at tick start, and the vote clients of R514 that find their
blocks quiet in the parts the model does not run (acquisition rotation, storage writes, CAN bus idle). -/
structure TickInputs where
  sin     : BitVec 12
  edm     : BitVec 4
  whistle : Bool
  quiet   : BitVec 14
  deriving DecidableEq, Repr

/-- The tick record of R25, field by field; `crc` is the CRC word as received or sent. -/
structure TickRecord where
  sender   : LaneId
  role     : Role
  devmode  : BitVec 8
  leash    : Half
  tick     : Word
  health   : Word
  din      : Word
  ain      : List Half
  psetv    : Word
  idq      : List Half
  angle    : List Half
  auth     : List F32
  sfstate  : BitVec 48
  mirhdr   : Half
  tickhi   : Word
  crc      : Word
  deriving DecidableEq, Repr

/-- The channel block of R321. -/
structure ChannelBlock where
  tick : Word
  sinv : Word
  sdv  : BitVec 96
  crc  : Word
  deriving DecidableEq, Repr

/-- The mirror block of R27: 64 words and a CRC. -/
structure MirrorBlock where
  words : List Word
  crc   : Word
  deriving DecidableEq, Repr

/-- The join block of R144: 24 signed 64-bit accumulators and a CRC. -/
structure JoinBlock where
  accs : List Long
  crc  : Word
  deriving DecidableEq, Repr

/-- Kinds of a dictionary block (R400). -/
inductive DictKind where
  | empty | prepare | accept | refuse | commit | cancel
  deriving DecidableEq, Repr

/-- The dictionary block of R400. -/
structure DictBlock where
  tick   : Word
  kind   : DictKind
  seq    : Byte
  origin : LaneId
  len    : Byte
  index  : Half
  sub    : Byte
  arg    : Word
  value  : Long
  crc    : Word
  deriving DecidableEq, Repr

/-- How a block ended on the link: complete before the receiver's next tick start, or not (R28). -/
inductive Arrival where
  | inTime | late
  deriving DecidableEq, Repr

/-- A path over which a client reaches a lane's dictionary (R384, R389). -/
inductive Path where
  | can (n : Fin 4)
  | tunnel (cnode : BitVec 7)
  deriving DecidableEq, Repr

/-- A USDO request as CiA 1301 spells it out of a message (R385). -/
inductive UsdoReq where
  | downloadInit (sid : Byte) (index : Half) (sub : Byte) (size : Nat) (data : Option (List Byte))
  | downloadSeg  (sid : Byte) (data : List Byte) (last : Bool)
  | uploadInit   (sid : Byte) (index : Half) (sub : Byte)
  | uploadSeg    (sid : Byte)
  | abort        (sid : Byte)
  deriving DecidableEq, Repr

/-- A received Jalsyn frame as the receiver's MAC delivers it (R356, R358). Times are cycle times of the
receiver in 10 ns units, after the path-delay correction. -/
structure JalsynFrame where
  fcsOk   : Bool
  headerOk : Bool          -- EtherType, destination, no tag, LEN consistent with the frame length
  cycle   : Half
  slot    : Half
  node    : BitVec 6
  ref     : Bool
  launch  : Bool
  event   : Bool
  payload : List Byte
  start   : Int            -- start delimiter, cycle time in 10 ns units
  stop    : Int            -- end of the frame, cycle time in 10 ns units
  gstart  : Int            -- start delimiter in the receiver's global time, ns
  deriving DecidableEq, Repr

/-- A CAN frame (R411, R463). -/
structure CanFrame where
  ident : BitVec 29
  ext   : Bool
  fd    : Bool
  brs   : Bool
  data  : List Byte
  deriving DecidableEq, Repr

/-- A SENT frame as the receiver times it (R257, R258). Widths are in units of 1/64 clock tick. -/
structure SentFrame where
  tick    : Nat            -- measured tick, ns (synchronisation pulse divided by 56)
  status  : BitVec 4
  nibbles : List (Nat × BitVec 4)   -- pulse width in 1/64 ticks, value
  crcOk   : Bool
  slow    : Option (BitVec 2 × Byte × Half)   -- a completed slow message: format, ID, data
  startPh : Nat            -- falling edge of the synchronisation pulse, lane clock, 2.5 ns counts
  stopPh  : Nat            -- end of the frame, lane clock, 2.5 ns counts
  deriving DecidableEq, Repr

/-- The item of an engine window that an upset strikes, and the bits it flips (R272, R278). -/
inductive Upset where
  | leadWord (item word : Nat) (mask : Word)
  | tailWord (item word : Nat) (mask : Word)
  | eccCorrected (item : Nat)
  | eccUncorrectable (item : Nat)
  | comparatorStuck
  deriving DecidableEq, Repr

/-- Levels of a feedback port's three lines, or of its Hall lines, after the filter (R243). -/
structure FbLines where
  a : Bool
  b : Bool
  i : Bool
  h : BitVec 3
  deriving DecidableEq, Repr

/-- The number of a lane, 0 A, 1 B, 2 C. -/
def LaneId.num : LaneId → Nat
  | .a => 0 | .b => 1 | .c => 2

/-- The lane a number names; 3 names none. -/
def LaneId.ofNum : Nat → Option LaneId
  | 0 => some .a | 1 => some .b | 2 => some .c | _ => none

/-- The three lanes. -/
def allLanes : List LaneId := [.a, .b, .c]

/-- The other two lanes. -/
def LaneId.others (l : LaneId) : List LaneId := allLanes.filter (fun o => o != l)

/-- A lane's index among the lanes. -/
def LaneId.fin : LaneId → Fin 3
  | .a => 0 | .b => 1 | .c => 2

/-- The lane at the far end of a link (R11). -/
def LaneId.peer : LaneId → LinkDir → LaneId
  | .a, .fwd => .b | .b, .fwd => .c | .c, .fwd => .a
  | .a, .back => .c | .b, .back => .a | .c, .back => .b

/-- The link on which a lane reaches another lane. -/
def LaneId.linkTo (me : LaneId) (o : LaneId) : Option LinkDir :=
  if me.peer .fwd = o then some .fwd else if me.peer .back = o then some .back else none

def LinkDir.other : LinkDir → LinkDir
  | .fwd => .back | .back => .fwd

def Role.code : Role → Nat
  | .lead => 0 | .heel => 1 | .watch => 2 | .none => 3

def Role.ofCode : Nat → Role
  | 0 => .lead | 1 => .heel | 2 => .watch | _ => .none

def Mode.code : Mode → Nat
  | .startup => 0 | .standby => 1 | .operational => 2 | .reduced => 3 | .descent => 4 | .safe => 5

def Mode.ofCode : Nat → Option Mode
  | 0 => some .startup | 1 => some .standby | 2 => some .operational | 3 => some .reduced
  | 4 => some .descent | 5 => some .safe | _ => none

def ResetKind.code : ResetKind → Nat
  | .powerOn => 1 | .brownOut => 2 | .external => 3 | .watchdog => 4 | .haltRestart => 5
  | .software => 6 | .crossLane => 7

def FaultClass.code : FaultClass → Nat
  | .corrected => 0 | .contained => 1 | .fatal => 2

def Reaction.code : Reaction → Nat
  | .log => 0 | .notify => 1 | .kennel => 2 | .degrade => 3 | .surrender => 4 | .halt => 5

def Chan.num : Chan → Nat
  | .a => 0 | .b => 1

def LinkDir.num : LinkDir → Nat
  | .fwd => 0 | .back => 1

def DictKind.code : DictKind → Nat
  | .empty => 0 | .prepare => 1 | .accept => 2 | .refuse => 3 | .commit => 4 | .cancel => 5

/-- The code of a path, as `SessionPath` reports it (R450). -/
def Path.code : Path → Nat
  | .can n => n.val | .tunnel _ => 4

end Sys2Proof
end

