-- ==== Sys2Proof/Syntax.lean ====
section
/-!
DEFINITION. The commands of the SKV-324: one constructor for each row of spec/opcode_table.json, in the
table's order. Every command names the lane `l` that it reaches; what the outside world determines (a
conversion, an edge, a received block, a written value, the path of a write) is an operand.
-/

namespace Sys2Proof

/-- A command to the device, or an event at one of its lands or timers, at lane `l`. Operands named `v` are the
values written to a dictionary object; `path` is the path of the write; `caller` is the application thread
128 + n that accesses the window; `entry` is the path of a lane-shared command at its
entry lane, none at the other lanes; `ph` is a time since the tick start in 2.5 ns counts. -/
inductive Instr where
  /-- TICK_START (R22). -/
  | tickStart (l : LaneId) (inp : TickInputs)
  /-- SEND_TICK_RECORD (R25). -/
  | sendTickRecord (l : LaneId)
  /-- RECEIVE_TICK_RECORD (R28). -/
  | receiveTickRecord (l : LaneId) (dir : LinkDir) (r : TickRecord) (arr : Arrival)
  /-- RECEIVE_CHANNEL_BLOCK (R321). -/
  | receiveChannelBlock (l : LaneId) (dir : LinkDir) (b : ChannelBlock) (arr : Arrival)
  /-- RECEIVE_MIRROR_BLOCK (R66). -/
  | receiveMirrorBlock (l : LaneId) (dir : LinkDir) (b : MirrorBlock) (arr : Arrival)
  /-- RECEIVE_JOIN_BLOCK (R144). -/
  | receiveJoinBlock (l : LaneId) (dir : LinkDir) (b : JoinBlock) (arr : Arrival)
  /-- RECEIVE_DICTIONARY_BLOCK (R400). -/
  | receiveDictionaryBlock (l : LaneId) (dir : LinkDir) (b : DictBlock) (arr : Arrival)
  /-- TICK_MARKER_RECEIVED (R34). -/
  | tickMarkerReceived (l : LaneId) (dir : LinkDir) (offset : Int)
  /-- LANE_LINK_LOST (R29). -/
  | laneLinkLost (l : LaneId) (dir : LinkDir)
  /-- LONE_LISTEN_END (R61). -/
  | loneListenEnd (l : LaneId)
  /-- CLEAR_LINK_COUNTERS (R30). -/
  | clearLinkCounters (l : LaneId) (v : Byte)
  /-- LEASE_EXPIRY (R48). -/
  | leaseExpiry (l : LaneId)
  /-- HEEL_SILENT_TAKEOVER (R49). -/
  | heelSilentTakeover (l : LaneId)
  /-- DEMOTE_VOTE (R52). -/
  | demoteVote (l : LaneId)
  /-- DEMOTE_UNSUPPORTED (R54). -/
  | demoteUnsupported (l : LaneId)
  /-- MIRROR_DIVERGENCE_REPEAT (R67). -/
  | mirrorDivergenceRepeat (l : LaneId)
  /-- LANE_JOIN (R42). -/
  | laneJoin (l : LaneId) (j : LaneId)
  /-- STARTUP_END (R43). -/
  | startupEnd (l : LaneId)
  /-- MODE_REQUEST_STANDBY (R70). -/
  | modeRequestStandby (l : LaneId)
  /-- MODE_REQUEST_RUN (R70). -/
  | modeRequestRun (l : LaneId)
  /-- MODE_REQUEST_SAFE (R70). -/
  | modeRequestSafe (l : LaneId)
  /-- STANDSTILL_DETECTED (R71). -/
  | standstillDetected (l : LaneId)
  /-- DESCENT_LIMIT_ELAPSED (R70). -/
  | descentLimitElapsed (l : LaneId)
  /-- BOOST_END (R74). -/
  | boostEnd (l : LaneId) (p : Fin 8)
  /-- ENGINE_WINDOW (R90). -/
  | engineWindow (l : LaneId) (w : Fin 8) (stall : Nat) (upsets : List Upset)
  /-- COMMIT_INSTANT (R95). -/
  | commitInstant (l : LaneId) (p : Fin 8)
  /-- ITEM_DEADLINE (R109). -/
  | itemDeadline (l : LaneId) (slot : Fin 192)
  /-- SLOT_ESCALATION (R110). -/
  | slotEscalation (l : LaneId) (slot : Fin 192)
  /-- APP_ENTRY_STALE (R99). -/
  | appEntryStale (l : LaneId) (e : Fin 256)
  /-- FOLLOWING_ERROR (R108). -/
  | followingError (l : LaneId) (slot : Fin 192)
  /-- COMMAND_TIMEOUT (R104). -/
  | commandTimeout (l : LaneId) (g : Fin 24)
  /-- AIN_FAULT_TIMEOUT (R106). -/
  | ainFaultTimeout (l : LaneId) (n : Fin 4)
  /-- PSET_EDGE (R107). -/
  | psetEdge (l : LaneId) (lineA lineB : Bool) (ph width : Nat)
  /-- PSET_TIMEOUT (R107). -/
  | psetTimeout (l : LaneId)
  /-- NOTCH_EPOCH_END (R113). -/
  | notchEpochEnd (l : LaneId) (slot : Fin 192)
  /-- CLEAR_PEAKS (R123). -/
  | clearPeaks (l : LaneId) (v : Byte)
  /-- SAMPLE_INSTANT (R163). -/
  | sampleInstant (l : LaneId) (p : Fin 8) (smp : Sample)
  /-- CARRIER_PEAK_SAMPLE (R179). -/
  | carrierPeakSample (l : LaneId) (p : Fin 8) (codes : Vector Code 3)
  /-- BACKGROUND_CONVERSION (R168). -/
  | backgroundConversion (l : LaneId) (ch : Fin 192) (code : Code)
  /-- REFERENCE_CHECK (R170). -/
  | referenceCheck (l : LaneId) (adc : Fin 16) (codes : Vector Code 3)
  /-- CLEAR_ACQ_FLAGS (R183). -/
  | clearAcqFlags (l : LaneId) (v : Byte)
  /-- OVERCURRENT_TRIP (R173). -/
  | overcurrentTrip (l : LaneId) (leg : Fin 24) (high : Bool)
  /-- PHASE_VOLTAGE_CROSSING (R174). -/
  | phaseVoltageCrossing (l : LaneId) (leg : Fin 24) (rising : Bool) (ph : Nat)
  /-- LEG_EVENT (R188). -/
  | legEvent (l : LaneId) (leg : Fin 24) (side : Side) (ph : Nat)
  /-- GATE_RAIL_UNDERVOLTAGE (R186). -/
  | gateRailUndervoltage (l : LaneId)
  /-- GATE_RAIL_RECOVERY (R186). -/
  | gateRailRecovery (l : LaneId)
  /-- GATE_CHECK (R190). -/
  | gateCheck (l : LaneId) (leg : Fin 24) (side : Side) (vgs : F32) (atTurnOn : Bool)
  /-- BOOTSTRAP_UNDERVOLTAGE (R195). -/
  | bootstrapUndervoltage (l : LaneId) (leg : Fin 24)
  /-- VDS_TRIP (R197). -/
  | vdsTrip (l : LaneId) (sw : Switch)
  /-- HARD_SHORT_TRIP (R198). -/
  | hardShortTrip (l : LaneId) (sw : Switch)
  /-- RETRY_WAIT_END (R206). -/
  | retryWaitEnd (l : LaneId) (p : Fin 8) (offVgsBad : Bool)
  /-- LINK_CONVERSION (R210). -/
  | linkConversion (l : LaneId) (c : Conv) (dt : Nat)
  /-- LINK_LOW_RECOVERY (R230). -/
  | linkLowRecovery (l : LaneId)
  /-- CHOPPER_FAULT (R209). -/
  | chopperFault (l : LaneId) (cause : Fin 4)
  /-- LADDER_ASC (R211). -/
  | ladderAsc (l : LaneId)
  /-- LADDER_ASC_RELEASE (R211). -/
  | ladderAscRelease (l : LaneId)
  /-- CLEAR_PORT_COUNTERS (R217). -/
  | clearPortCounters (l : LaneId) (p : Fin 8) (v : Byte)
  /-- CLEAR_GATE_DRIVE_COUNTERS (R219). -/
  | clearGateDriveCounters (l : LaneId) (v : Byte)
  /-- CATCH_MEASUREMENT_END (R149). -/
  | catchMeasurementEnd (l : LaneId) (p : Fin 8) (m : CatchMeas)
  /-- CATCH_REPEAT (R149). -/
  | catchRepeat (l : LaneId) (p : Fin 8)
  /-- HFI_POLARITY_DETECT (R138). -/
  | hfiPolarityDetect (l : LaneId) (p : Fin 8) (pos neg : F32)
  /-- LOS_LIMIT_REACHED (R146). -/
  | losLimitReached (l : LaneId) (p : Fin 8)
  /-- ANGLE_VOTE_DISAGREE (R147). -/
  | angleVoteDisagree (l : LaneId) (g : Fin 24)
  /-- CONTROLLED_STOP_STANDSTILL (R151). -/
  | controlledStopStandstill (l : LaneId) (g : Fin 24)
  /-- SNIFF_STEP_1_END (R224). -/
  | sniffStep1End (l : LaneId) (p : Fin 8) (r : SniffReading)
  /-- SNIFF_STEP_2_END (R224). -/
  | sniffStep2End (l : LaneId) (p : Fin 8) (r : SniffReading)
  /-- SNIFF_TEST_RESULT (R225). -/
  | sniffTestResult (l : LaneId) (p : Fin 8)
  /-- SNIFF_POSTPONE_REPEAT (R227). -/
  | sniffPostponeRepeat (l : LaneId) (p : Fin 8)
  /-- CURRENT_SUM_FAULT (R229). -/
  | currentSumFault (l : LaneId) (p : Fin 8)
  /-- VSENS_FAULT (R231). -/
  | vsensFault (l : LaneId) (kind : Fin 3)
  /-- CABLE_TEST (R232). -/
  | cableTest (l : LaneId) (path : Path) (v : Byte)
  /-- CABLE_DIAG_COMPLETE (R232). -/
  | cableDiagComplete (l : LaneId) (ch : Chan) (result : Fin 8) (polrev : Bool) (dist : Byte)
  /-- CAN_BUS_FAULT (R233). -/
  | canBusFault (l : LaneId) (n : Fin 4) (kind : Fin 3)
  /-- CAN_BUS_FAULT_CLEAR (R241). -/
  | canBusFaultClear (l : LaneId) (n : Fin 4) (kind : Fin 3)
  /-- GROUND_SHIFT (R234). -/
  | groundShift (l : LaneId)
  /-- GROUND_SHIFT_RECOVERY (R234). -/
  | groundShiftRecovery (l : LaneId)
  /-- CLEAR_WIRING_COUNTERS (R237). -/
  | clearWiringCounters (l : LaneId) (v : Byte)
  /-- ENCODER_OUTPUT_FAULT (R222). -/
  | encoderOutputFault (l : LaneId) (reel : Bool)
  /-- ENCODER_OUTPUT_RESTORE (R222). -/
  | encoderOutputRestore (l : LaneId) (reel : Bool)
  /-- FEEDBACK_TRANSITION (R246). -/
  | feedbackTransition (l : LaneId) (p : Fin 8) (lines : FbLines) (ph : Nat)
  /-- HALL_ILLEGAL_TIMEOUT (R253). -/
  | hallIllegalTimeout (l : LaneId) (p : Fin 8)
  /-- FEEDBACK_LEVEL_FAULT (R245). -/
  | feedbackLevelFault (l : LaneId) (p : Fin 8)
  /-- LEVELF_CLEAR (R245). -/
  | levelfClear (l : LaneId) (p : Fin 8)
  /-- COUNTER_PRESET (R248). -/
  | counterPreset (l : LaneId) (p : Fin 8) (v : Word)
  /-- CLEAR_FEEDBACK_COUNTERS (R261). -/
  | clearFeedbackCounters (l : LaneId) (p : Fin 8) (v : Byte)
  /-- SENT_FRAME_RECEIVED (R258). -/
  | sentFrameReceived (l : LaneId) (n : Fin 4) (f : SentFrame)
  /-- SENT_BUS_LOW (R258). -/
  | sentBusLow (l : LaneId) (n : Fin 4)
  /-- SENT_TIMEOUT (R258). -/
  | sentTimeout (l : LaneId) (n : Fin 4)
  /-- CLEAR_SENT_COUNTERS (R264). -/
  | clearSentCounters (l : LaneId) (v : Byte)
  /-- CLOSE_PORT_WRITE (R285). -/
  | closePortWrite (l : LaneId) (ch : Fin 16) (tail : Bool) (words : List Word)
  /-- PAIR_CLOSE_TIMEOUT (R285). -/
  | pairCloseTimeout (l : LaneId) (ch : Fin 16)
  /-- CLEAR_PASS_COUNTERS (R288). -/
  | clearPassCounters (l : LaneId) (v : Byte)
  /-- HALT_RESTART (R294). -/
  | haltRestart (l : LaneId)
  /-- KENNEL_RELEASE (R295). -/
  | kennelRelease (l : LaneId) (path : Path) (code : Half) (pass : Bool)
  /-- CLEAR_HISTORY (R299). -/
  | clearHistory (l : LaneId) (path : Path) (v : Byte)
  /-- CLEAR_FIRST (R299). -/
  | clearFirst (l : LaneId) (path : Path) (v : Byte)
  /-- INJECT_ARM (R303). -/
  | injectArm (l : LaneId) (path : Path) (v : Byte)
  /-- INJECTION_EXPIRED (R303). -/
  | injectionExpired (l : LaneId)
  /-- BIST_START (R304). -/
  | bistStart (l : LaneId)
  /-- BIST_COMPLETE (R305). -/
  | bistComplete (l : LaneId) (failed : Half) (time : Half)
  /-- ROTATING_SELF_TEST (R306). -/
  | rotatingSelfTest (l : LaneId) (n : Fin 13)
  /-- SELF_TEST_COMPLETE (R306). -/
  | selfTestComplete (l : LaneId) (n : Fin 13) (unit : Nat) (pass : Bool) (found : Option Word)
  /-- REFERENCE_WINDOW_CROSSING (R308). -/
  | referenceWindowCrossing (l : LaneId) (ch : Fin 3) (high : Bool)
  /-- SAFETY_CHANNEL_OPEN (R317). -/
  | safetyChannelOpen (l : LaneId) (n : Fin 12)
  /-- SAFETY_CHANNEL_CLOSED (R317). -/
  | safetyChannelClosed (l : LaneId) (n : Fin 12)
  /-- TPO_PULSE_START (R318). -/
  | tpoPulseStart (l : LaneId) (n : Fin 6)
  /-- TPO_PULSE_END (R319). -/
  | tpoPulseEnd (l : LaneId) (n : Fin 6) (readHigh : Bool) (low : BitVec 12) (pulsing : BitVec 12)
  /-- TPO_OVERLOAD (R318). -/
  | tpoOverload (l : LaneId) (n : Fin 6)
  /-- DEGRADED_TIMER_ELAPSED (R327). -/
  | degradedTimerElapsed (l : LaneId) (n : Fin 24)
  /-- DISCREPANCY_TIMEOUT (R325). -/
  | discrepancyTimeout (l : LaneId) (n : Fin 24)
  /-- DARK_PULSE_START (R332). -/
  | darkPulseStart (l : LaneId) (n : Fin 4)
  /-- DARK_PULSE_END (R332). -/
  | darkPulseEnd (l : LaneId) (n : Fin 4) (mv : Nat)
  /-- SOUT_OFF_READBACK_FAULT (R332). -/
  | soutOffReadbackFault (l : LaneId) (n : Fin 4)
  /-- SOUT_OVERCURRENT (R332). -/
  | soutOvercurrent (l : LaneId) (n : Fin 4)
  /-- SOUT_OPEN_LOAD (R332). -/
  | soutOpenLoad (l : LaneId) (n : Fin 4)
  /-- DIAG_INTERVAL_OVERRUN (R333). -/
  | diagIntervalOverrun (l : LaneId) (n : Fin 4)
  /-- EDM_CHECK (R335). -/
  | edmCheck (l : LaneId) (n : Fin 4) (closed : Bool)
  /-- SOUT_UNLOCK (R334). -/
  | soutUnlock (l : LaneId) (path : Path) (v : Byte) (mv : Nat)
  /-- SAFE_DATA_TIMEOUT (R340). -/
  | safeDataTimeout (l : LaneId) (input : Fin 24) (copyB : Bool)
  /-- CLEAR_CVU_COUNTERS (R351). -/
  | clearCvuCounters (l : LaneId) (v : Byte)
  /-- CLEAR_SAFE_DATA_COUNTERS (R351). -/
  | clearSafeDataCounters (l : LaneId) (v : Byte)
  /-- JALSYN_FRAME_RECEIVED (R358). -/
  | jalsynFrameReceived (l : LaneId) (ch : Chan) (f : JalsynFrame)
  /-- REFERENCE_DISAGREEMENT (R372). -/
  | referenceDisagreement (l : LaneId)
  /-- ACCEPTANCE_WINDOW_END (R367). -/
  | acceptanceWindowEnd (l : LaneId) (entry : Fin 2048)
  /-- TRANSMIT_READ (R364). -/
  | transmitRead (l : LaneId) (entry : Fin 2048)
  /-- TRANSMIT_FRAME (R364). -/
  | transmitFrame (l : LaneId) (entry : Fin 2048)
  /-- SEND_REFERENCE (R371). -/
  | sendReference (l : LaneId) (ch : Chan)
  /-- CYCLE_START (R359). -/
  | cycleStart (l : LaneId)
  /-- JALSYN_CHANNEL_LOST (R374). -/
  | jalsynChannelLost (l : LaneId) (ch : Chan)
  /-- JALSYN_CHANNEL_RETURN (R374). -/
  | jalsynChannelReturn (l : LaneId) (ch : Chan)
  /-- PHY_LINK_DOWN (R232). -/
  | phyLinkDown (l : LaneId) (ch : Chan)
  /-- LISTEN_PERIOD_END (R375). -/
  | listenPeriodEnd (l : LaneId)
  /-- LAUNCH_DELAY_ELAPSED (R375). -/
  | launchDelayElapsed (l : LaneId)
  /-- CYCLE_POINT_EVENT (R377). -/
  | cyclePointEvent (l : LaneId) (n : Fin 16)
  /-- CLEAR_JALSYN_COUNTERS (R382). -/
  | clearJalsynCounters (l : LaneId) (v : Byte)
  /-- USDO_DOWNLOAD_INITIATE (R389). -/
  | usdoDownloadInitiate (l : LaneId) (path : Path) (sid : Byte) (idx : Half) (sub : Byte) (size : Nat) (data : Option (List Byte))
  /-- USDO_DOWNLOAD_SEGMENT (R392). -/
  | usdoDownloadSegment (l : LaneId) (path : Path) (sid : Byte) (data : List Byte) (last : Bool)
  /-- USDO_UPLOAD_INITIATE (R392). -/
  | usdoUploadInitiate (l : LaneId) (path : Path) (sid : Byte) (idx : Half) (sub : Byte)
  /-- USDO_UPLOAD_SEGMENT (R392). -/
  | usdoUploadSegment (l : LaneId) (path : Path) (sid : Byte)
  /-- USDO_ABORT (R389). -/
  | usdoAbort (l : LaneId) (path : Path) (sid : Byte)
  /-- USDO_TIMEOUT (R391). -/
  | usdoTimeout (l : LaneId) (path : Path) (sid : Byte)
  /-- TUNNEL_MESSAGE (R386). -/
  | tunnelMessage (l : LaneId) (req : UsdoReq)
  /-- DICTIONARY_WRITE (R395). -/
  | dictionaryWrite (l : LaneId) (path : Path) (idx : Half) (sub : Byte) (data : List Byte)
  /-- REPLICATION_RESEND (R401). -/
  | replicationResend (l : LaneId)
  /-- REPLICATION_FAILED (R401). -/
  | replicationFailed (l : LaneId)
  /-- PREPARE_DISCARD (R401). -/
  | prepareDiscard (l : LaneId)
  /-- HEARTBEAT (R408). -/
  | heartbeat (l : LaneId) (n : Fin 4)
  /-- CAN_FRAME_RECEIVED (R411). -/
  | canFrameReceived (l : LaneId) (n : Fin 4) (f : CanFrame)
  /-- CAN_BUS_OFF (R409). -/
  | canBusOff (l : LaneId) (n : Fin 4)
  /-- CAN_BUS_OFF_RECOVERY (R409). -/
  | canBusOffRecovery (l : LaneId) (n : Fin 4)
  /-- CLEAR_CAN_COUNTERS (R409). -/
  | clearCanCounters (l : LaneId) (n : Fin 4) (v : Byte)
  /-- CLEAR_SERVER_COUNTERS (R412). -/
  | clearServerCounters (l : LaneId) (v : Byte)
  /-- STAGE_DATA (R422). -/
  | stageData (l : LaneId) (path : Path) (data : List Byte)
  /-- CONFIG_STAGE (R423). -/
  | configStage (l : LaneId) (entry : Option Path) (v : Word)
  /-- CONFIG_VERIFY (R423). -/
  | configVerify (l : LaneId) (entry : Option Path) (v : Word)
  /-- CONFIG_COMMIT (R423). -/
  | configCommit (l : LaneId) (entry : Option Path) (v : Word)
  /-- CONFIG_REVERT (R423). -/
  | configRevert (l : LaneId) (entry : Option Path) (v : Word)
  /-- CONFIG_COMMAND_COMPLETE (R423). -/
  | configCommandComplete (l : LaneId)
  /-- LOAD_DATA (R427). -/
  | loadData (l : LaneId) (path : Path) (data : List Byte)
  /-- FIRMWARE_ACTIVATE (R427). -/
  | firmwareActivate (l : LaneId) (path : Path) (v : Word)
  /-- FIRMWARE_START (R425). -/
  | firmwareStart (l : LaneId) (banksBad : BitVec 4)
  /-- FIRMWARE_CONFIRM (R428). -/
  | firmwareConfirm (l : LaneId)
  /-- KEY_PROGRAM (R430). -/
  | keyProgram (l : LaneId) (path : Path) (n : Byte)
  /-- KEY_REVOKE (R431). -/
  | keyRevoke (l : LaneId) (path : Path) (n : Byte)
  /-- CHALLENGE_READ (R432). -/
  | challengeRead (l : LaneId) (path : Path)
  /-- SESSION_RESPONSE (R432). -/
  | sessionResponse (l : LaneId) (path : Path) (data : List Byte)
  /-- SESSION_CLOSE (R433). -/
  | sessionClose (l : LaneId) (path : Path) (v : Byte)
  /-- SESSION_EXPIRY (R433). -/
  | sessionExpiry (l : LaneId)
  /-- AUTH_LOCKOUT_END (R432). -/
  | authLockoutEnd (l : LaneId)
  /-- ATTEST_CHALLENGE (R434). -/
  | attestChallenge (l : LaneId) (path : Path) (data : List Byte)
  /-- ATTEST_REGENERATE (R435). -/
  | attestRegenerate (l : LaneId) (path : Path) (v : Byte)
  /-- TAMPER_DETECTED (R435). -/
  | tamperDetected (l : LaneId) (cause : Byte)
  /-- DEBUG_RESPONSE (R436). -/
  | debugResponse (l : LaneId) (path : Path) (data : List Byte)
  /-- LOG_TRIGGER (R439). -/
  | logTrigger (l : LaneId) (v : Byte)
  /-- CAPTURE_WRITTEN (R439). -/
  | captureWritten (l : LaneId)
  /-- TREND_RECORD (R442). -/
  | trendRecord (l : LaneId)
  /-- LOGBOOK_ERASE (R451). -/
  | logbookErase (l : LaneId) (path : Path) (v : Byte)
  /-- ERASE_COMPLETE (R451). -/
  | eraseComplete (l : LaneId)
  /-- READ_DATA (R451). -/
  | readData (l : LaneId) (path : Path)
  /-- SCH_START (R466). -/
  | schStart (l : LaneId) (caller : Fin 128) (w : Word)
  /-- SCH_STOP (R466). -/
  | schStop (l : LaneId) (caller : Fin 128) (w : Word)
  /-- SCH_PRIO (R466). -/
  | schPrio (l : LaneId) (caller : Fin 128) (w : Word)
  /-- SCH_YIELD (R466). -/
  | schYield (l : LaneId) (caller : Fin 128)
  /-- SCH_WAIT_TICK (R455). -/
  | schWaitTick (l : LaneId) (caller : Fin 128)
  /-- SCH_WAIT_CYCLE (R455). -/
  | schWaitCycle (l : LaneId) (caller : Fin 128)
  /-- SCH_WAIT_DELAY (R455). -/
  | schWaitDelay (l : LaneId) (caller : Fin 128) (us : BitVec 24)
  /-- WAIT_DELAY_EXPIRY (R455). -/
  | waitDelayExpiry (l : LaneId) (t : Fin 128)
  /-- THREAD_FAULT (R456). -/
  | threadFault (l : LaneId) (t : Fin 128) (code : Byte) (addr : Word)
  /-- FLW_POST (R460). -/
  | flwPost (l : LaneId) (caller : Fin 128)
  /-- FLW_TAKE (R461). -/
  | flwTake (l : LaneId) (caller : Fin 128) (w : Word)
  /-- FLW_DONE (R461). -/
  | flwDone (l : LaneId) (caller : Fin 128)
  /-- CAN_FRAME_TRANSMITTED (R464). -/
  | canFrameTransmitted (l : LaneId) (n : Fin 4)
  /-- CVU_FEED (R468). -/
  | cvuFeed (l : LaneId) (caller : Fin 128) (u : Fin 16) (w : Word)
  /-- CVU_FEEDB (R468). -/
  | cvuFeedb (l : LaneId) (caller : Fin 128) (u : Fin 16) (w : Word)
  /-- CVU_FINISH (R342). -/
  | cvuFinish (l : LaneId) (caller : Fin 128) (u : Fin 16) (w : Word)
  /-- CVU_RESET (R468). -/
  | cvuReset (l : LaneId) (caller : Fin 128) (u : Fin 16)
  /-- CVU_CTRL (R468). -/
  | cvuCtrl (l : LaneId) (caller : Fin 128) (u : Fin 16) (w : Word)
  /-- CVU_DEFERRED_WRITE (R341). -/
  | cvuDeferredWrite (l : LaneId) (caller : Fin 128) (u : Fin 16) (reg : Byte) (w : Word)
  /-- JSN_SEL (R469). -/
  | jsnSel (l : LaneId) (caller : Fin 128) (w : Word)
  /-- JSN_MARK (R469). -/
  | jsnMark (l : LaneId) (caller : Fin 128)
  /-- SIG_ENTRY_WRITE (R470). -/
  | sigEntryWrite (l : LaneId) (caller : Fin 128) (e : Fin 1024) (w : Word) (late : Bool)
  /-- FLA_RAISE (R471). -/
  | flaRaise (l : LaneId) (caller : Fin 128) (n : Fin 8)
  /-- FLA_HSEL (R471). -/
  | flaHsel (l : LaneId) (caller : Fin 128) (idx : Fin 32)
  /-- LGC_TRIGGER (R472). -/
  | lgcTrigger (l : LaneId) (caller : Fin 128)
  /-- TIM_TIMELO_READ (R473). -/
  | timTimeloRead (l : LaneId) (caller : Fin 128) (ph : Nat)
  /-- APP_REGISTER_WRITE (R465). -/
  | appRegisterWrite (l : LaneId) (caller : Fin 128) (addr : Word) (w : Word)
  /-- CLEAR_APP_COUNTERS (R475). -/
  | clearAppCounters (l : LaneId) (v : Byte)
  /-- OSCILLATOR_START_DELAY_END (R479). -/
  | oscillatorStartDelayEnd (l : LaneId) (xtalOk : Bool)
  /-- CLOCK_MONITOR_TRIP (R486). -/
  | clockMonitorTrip (l : LaneId) (monitor : Fin 8)
  /-- ASYNC_DOMAIN_SWITCH (R483). -/
  | asyncDomainSwitch (l : LaneId) (dom : Fin 8)
  /-- WINDOW_GATE_END (R485). -/
  | windowGateEnd (l : LaneId) (dev : Int)
  /-- CLOCK_WAIT_RECOVERY (R487). -/
  | clockWaitRecovery (l : LaneId)
  /-- GATING_ABANDONED (R489). -/
  | gatingAbandoned (l : LaneId) (dom : Fin 8)
  /-- FREQUENCY_METER_START (R495). -/
  | frequencyMeterStart (l : LaneId) (v : Byte)
  /-- FREQUENCY_METER_DONE (R495). -/
  | frequencyMeterDone (l : LaneId) (count : Word) (stopped : Bool)
  /-- CLEAR_CLOCK_COUNTERS (R493). -/
  | clearClockCounters (l : LaneId) (v : Byte)
  /-- POWER_ON_RELEASE (R498). -/
  | powerOnRelease (l : LaneId) (oscMv idMv : Half) (extOsc : Bool)
  /-- BROWN_OUT (R499). -/
  | brownOut (l : LaneId)
  /-- OVERVOLTAGE_PROTECTION (R500). -/
  | overvoltageProtection (l : LaneId)
  /-- OVP_RECLOSE (R500). -/
  | ovpReclose (l : LaneId)
  /-- VBAT_WINDOW_CROSSING (R501). -/
  | vbatWindowCrossing (l : LaneId) (high : Bool) (mv : Nat)
  /-- VBAT_FLAG_CLEAR (R501). -/
  | vbatFlagClear (l : LaneId) (high : Bool)
  /-- EXTERNAL_RESET (R505). -/
  | externalReset (l : LaneId)
  /-- WATCHDOG_EXPIRY (R506). -/
  | watchdogExpiry (l : LaneId)
  /-- CROSS_LANE_RESET_REQUEST (R507). -/
  | crossLaneResetRequest (l : LaneId)
  /-- LANE_RESET (R526). -/
  | laneReset (l : LaneId) (path : Path) (v : Byte)
  /-- CROSS_RESET (R526). -/
  | crossReset (l : LaneId) (path : Path) (v : Byte)
  /-- CLEAR_SUPPLY_COUNTERS (R526). -/
  | clearSupplyCounters (l : LaneId) (v : Byte)
  /-- POWER_REQUEST_RUN (R513). -/
  | powerRequestRun (l : LaneId)
  /-- POWER_REQUEST_IDLE (R513). -/
  | powerRequestIdle (l : LaneId)
  /-- POWER_REQUEST_SLEEP (R513). -/
  | powerRequestSleep (l : LaneId)
  /-- POWER_REQUEST_DEEP (R513). -/
  | powerRequestDeep (l : LaneId)
  /-- READY_SYMBOL_RECEIVED (R515). -/
  | readySymbolReceived (l : LaneId) (dir : LinkDir)
  /-- POWER_ENTRY_ABANDON (R515). -/
  | powerEntryAbandon (l : LaneId)
  /-- WAKE_EVENT (R517). -/
  | wakeEvent (l : LaneId) (kind : Fin 7) (detail : Fin 16)
  /-- WAKE_TIMER_EXPIRY (R517). -/
  | wakeTimerExpiry (l : LaneId)
  /-- TAP_BYPASS (R541). -/
  | tapBypass (l : LaneId)
  /-- TAP_IDCODE (R541). -/
  | tapIdcode (l : LaneId)
  /-- TAP_SAMPLE_PRELOAD (R541). -/
  | tapSamplePreload (l : LaneId) (cells : List Byte)
  /-- TAP_EXTEST (R542). -/
  | tapExtest (l : LaneId)
  /-- TAP_CLAMP (R542). -/
  | tapClamp (l : LaneId)
  /-- TAP_HIGHZ (R542). -/
  | tapHighz (l : LaneId)
  /-- TAP_RESET (R541). -/
  | tapReset (l : LaneId)
  /-- DIE_HOT (R546). -/
  | dieHot (l : LaneId) (temp : F32)
  /-- DIE_HOT_CLEAR (R546). -/
  | dieHotClear (l : LaneId) (temp : F32)
  /-- EXTERNAL_RESET_RELEASE (R505). -/
  | externalResetRelease (l : LaneId)
  /-- AON_RAIL_DROP (R497). -/
  | aonRailDrop (l : LaneId)
  /-- REVERSE_POLARITY_FLAG (R235). -/
  | reversePolarityFlag (l : LaneId)
  /-- PHY_LINK_UP (R374). -/
  | phyLinkUp (l : LaneId) (ch : Chan)
  /-- BOOTSTRAP_HIGH_CROSSING (R195). -/
  | bootstrapHighCrossing (l : LaneId) (leg : Fin 24)
  deriving DecidableEq, Repr

end Sys2Proof
end

