-- ==== Sys2Proof/Decode.lean ====
section
/-!
DEFINITION. The command that a word spells. No row of the opcode table gives bits, so no word spells one.
-/

namespace Sys2Proof

/-- The command a word spells by the table's bits: none, as the table gives no row bits (log entry 5). -/
def decodeTableWord (_nbits _w : Nat) : Option Instr := none

end Sys2Proof
end

