-- ==== Sys2Proof/Config.lean ====
section
/-!
DEFINITION. The free values: what the manual leaves open. Each is a constant without a body, so that no proof can
see a value of it; a claim about one holds for every value.
-/

namespace Sys2Proof

/-- The source number of an event for which the manual gives a class but no source (log entry 22): the argument
names the event. -/
opaque Config.openSource : Nat → BitVec 9

/-- The syndrome of an event for which the manual lists none that fits (log entry 26): the argument names the event. -/
opaque Config.openSyndrome : Nat → BitVec 32

/-- The engine's sine table at an angle of the first half turn (R270; log entry 42). -/
opaque Config.sinHalf : BitVec 31 → F32

/-- The engine's cosine table at an angle of the first half turn (R270; log entry 42). -/
opaque Config.cosHalf : BitVec 31 → F32

/-- The engine's angle unit, y and x, for x without a sign bit (R270; log entry 42). -/
opaque Config.atanRight : F32 → F32 → Turn

/-- The measured value of a slot whose `FeedbackEntry` names no entry (192 more for an `OBS` slot's missing torque):
no rule states it (R97, R101; log entry 52). -/
opaque Config.noFeedback : Nat → F32

/-- The angle error that the injection extension forms from the difference of the q-axis current between two ticks and
the sign of the injection (R138; log entry 53). -/
opaque Config.hfiError : F32 → Bool → F32

/-- One step of a tracking loop: bandwidth, tick period, angle error, angle and speed before; angle and speed after
(R138, R139; log entry 53). -/
opaque Config.trackingLoop : F32 → F32 → F32 → Turn → F32 → Turn × F32

/-- The filter of the sine/cosine source's speed: its output before, the difference over one tick in rad/s (R136; log
entry 53). -/
opaque Config.sincosFilter : F32 → F32 → F32

/-- The amplitude of a lane's sine/cosine pair at commissioning (R137; log entry 54). -/
opaque Config.sincosRef : Nat → F32

/-- Whether a step counts up at a level of the direction line: the manual gives the line no polarity (R107; log
entry 55). -/
opaque Config.stepUp : Bool → Bool

/-- The natural logarithm of the NTC conversion (R180; log entry 42). -/
opaque Config.ln : F32 → F32

/-- Whether a Hall change by three sectors, from one sector to the opposite one, counts down: the manual counts a
skip as the net signed step, whose sign is open there (log entry 40). -/
opaque Config.hallOpposite : Nat → Nat → Bool

/-- Whether an SRAM macro holds an engine state or checkpoint bank: the manual numbers neither (R267, R292, R302; log
entry 56). -/
opaque Config.engineBank : Nat → Bool

/-- Whether an Ed25519 signature verifies: key, message, signature (R414, RFC 8032; log entry 23). -/
opaque Config.ed25519 : List Byte → List Byte → List Byte → Bool

/-- Whether an ML-DSA-65 signature verifies: key, message, signature (R414, FIPS 204; log entry 23). -/
opaque Config.mlDsa65 : List Byte → List Byte → List Byte → Bool

/-- The 32 bytes that the random source delivers at a draw (R432; log entry 24). -/
opaque Config.nonce : Nat → BitVec 256

/-- The public keys, 1984 bytes, of the attestation pair generated at a draw (R434; log entry 24). -/
opaque Config.attestPublic : Nat → BitVec 15872

/-- The two signatures, 3373 bytes, over a message by the attestation pair of a draw (R434; log entry 23). -/
opaque Config.attestSign : Nat → List Byte → BitVec 26984

/-- The flags of a capture's header with `TRUNC` set, and of a trigger's: the manual names no bit (R439; log entry
57). -/
opaque Config.truncFlags : BitVec 16

/-- The USDO message of an answer: session identifier, abort code, data returned. CiA 1301 codes it (R385); the manual
does not (log entry 58). -/
opaque Config.usdoMessage : Nat → Option (BitVec 32) → List Byte → List Byte

/-- How many bytes beyond four a USDO message carries, which CiA 1301 fixes (R385; log entry 58). -/
opaque Config.usdoPart : Nat

/-- Whether the unit of a kennel release written over a USDO path passes its test, by draw (R295; log entry 59). -/
opaque Config.releaseTest : Nat → Bool

/-- The voltage read at a safety output whose unlock is written over a USDO path, mV, by draw (R334; log entry 59). -/
opaque Config.unlockVolts : Nat → BitVec 16

end Sys2Proof
end

