-- ==== Sys2Proof/Machine/Crc.lean ====
section
/-!
DEFINITION. Byte lists, little-endian fields and the two checks of the manual: CRC-32C (R25, R27) and the
CRC-64 of the signature registers (R273).
-/

namespace Sys2Proof.Machine

/-- The `k` low bytes of a natural, least significant first. -/
def leBytes : Nat → Nat → List Byte
  | 0, _ => []
  | k + 1, n => BitVec.ofNat 8 n :: leBytes k (n / 256)

/-- The natural that bytes spell, least significant first. -/
def leNat : List Byte → Nat
  | [] => 0
  | b :: bs => b.toNat + 256 * leNat bs

/-- The signed integer that bytes spell, least significant first. -/
def leInt (bs : List Byte) : Int :=
  let n := leNat bs
  if bs = [] then 0
  else if 2 * n ≥ 256 ^ bs.length then (n : Int) - 256 ^ bs.length else n

/-- Bytes `off` to `off + len − 1`, zeros beyond the end. -/
def slice (bs : List Byte) (off len : Nat) : List Byte :=
  let r := (bs.drop off).take len
  r ++ List.replicate (len - r.length) 0

/-- The little-endian natural at an offset. -/
def natAt (bs : List Byte) (off len : Nat) : Nat := leNat (slice bs off len)

/-- Eight steps of the reflected CRC-32C division, polynomial 0x1EDC6F41. -/
def crc32Bits : Nat → Word → Word
  | 0, r => r
  | k + 1, r => crc32Bits k (if r.getLsbD 0 then (r >>> 1) ^^^ 0x82F63B78 else r >>> 1)

/-- One byte into a running CRC-32C value. -/
def crc32Byte (r : Word) (b : Byte) : Word := crc32Bits 8 (r ^^^ b.setWidth 32)

/-- Bytes into a running CRC-32C value. -/
def crc32Feed (r : Word) (bs : List Byte) : Word := bs.foldl crc32Byte r

/-- CRC-32C: initial value all ones, reflected, final XOR all ones (R27, R341). -/
def crc32c (bs : List Byte) : Word := ~~~(crc32Feed 0xFFFFFFFF bs)

/-- Steps of the reflected CRC-64 division, polynomial 0x42F0E1EBA9EA3693 (R273). -/
def crc64Bits : Nat → Long → Long
  | 0, r => r
  | k + 1, r => crc64Bits k (if r.getLsbD 0 then (r >>> 1) ^^^ 0xC96C5795D7870F42 else r >>> 1)

/-- One 32-bit word into a signature register, least significant byte first (R273). -/
def crc64Word (r : Long) (w : Word) : Long := crc64Bits 32 (r ^^^ w.setWidth 64)

/-- Words into a signature register. -/
def crc64Feed (r : Long) (ws : List Word) : Long := ws.foldl crc64Word r

/-- A word's four bytes, least significant first. -/
def wordBytes (w : Word) : List Byte := leBytes 4 w.toNat

/-- A half-word's two bytes. -/
def halfBytes (w : Half) : List Byte := leBytes 2 w.toNat

/-- A flag as a bit. -/
def bit1 (b : Bool) : Nat := if b then 1 else 0

/-- A bit placed. -/
def bitAt (b : Bool) (n : Nat) : Nat := if b then 2 ^ n else 0

/-- Bit `n` of a natural. -/
def tbit (v n : Nat) : Bool := v.testBit n

/-- Bits `hi` down to `lo` of a natural. -/
def bits (v hi lo : Nat) : Nat := (v / 2 ^ lo) % 2 ^ (hi + 1 - lo)

/-- A counter that stops at its largest value. -/
def satInc {w : Nat} (v : BitVec w) : BitVec w := if v = BitVec.allOnes w then v else v + 1

/-- The 16-bit number taken as signed. -/
def sint16 (n : Nat) : Int := if n % 65536 ≥ 32768 then (n % 65536 : Nat) - (65536 : Int) else (n % 65536 : Nat)

/-- The 32-bit number taken as signed. -/
def sint32 (n : Nat) : Int :=
  if n % 4294967296 ≥ 2147483648 then (n % 4294967296 : Nat) - (4294967296 : Int) else (n % 4294967296 : Nat)

end Sys2Proof.Machine
end

