-- ==== Sys2Proof/Machine/F32.lean ====
section
/-!
DEFINITION. IEEE 754 binary32 arithmetic with round-to-nearest-even and subnormals (R87), exact over
natural mantissas and narrowed once per operation. A NaN result is the canonical quiet NaN (R271).
-/

namespace Sys2Proof.Machine

/-- The canonical quiet NaN, positive in the lead pass (R271). -/
def F32.nan : F32 := 0x7FC00000

/-- An infinity. -/
def F32.inf (neg : Bool) : F32 := if neg then 0xFF800000 else 0x7F800000

/-- A zero. -/
def F32.zero (neg : Bool) : F32 := if neg then 0x80000000 else 0

/-- The sign bit. -/
def F32.sign (x : F32) : Bool := x.getLsbD 31

/-- The biased exponent. -/
def F32.expo (x : F32) : Nat := (x.toNat / 2 ^ 23) % 256

/-- The fraction field. -/
def F32.frac (x : F32) : Nat := x.toNat % 2 ^ 23

/-- A NaN of any payload. -/
def F32.isNaN (x : F32) : Bool := F32.expo x == 255 && F32.frac x != 0

/-- An infinity of either sign. -/
def F32.isInf (x : F32) : Bool := F32.expo x == 255 && F32.frac x == 0

/-- Neither NaN nor infinite. -/
def F32.finite (x : F32) : Bool := F32.expo x != 255

/-- A zero of either sign. -/
def F32.isZero (x : F32) : Bool := x.toNat % 2 ^ 31 == 0

/-- The natural mantissa of a finite number: its size is `mant x` times 2 to the power `pow x`. -/
def F32.mant (x : F32) : Nat := if F32.expo x = 0 then F32.frac x else F32.frac x + 2 ^ 23

/-- The power of two that scales the mantissa. -/
def F32.pow (x : F32) : Int := if F32.expo x = 0 then -149 else (F32.expo x : Int) - 150

/-- Round the natural `m`, with a lost positive part below its last bit where `st` says so, times 2 to
the power `e`, to the nearest binary32 with ties to even (R87). -/
def F32.round (neg : Bool) (m : Nat) (e : Int) (st : Bool := false) : F32 :=
  if m = 0 then F32.zero neg
  else
    let len : Int := (Nat.log2 m : Int) + 1
    let sh : Int := max (len - 24) (-149 - e)
    let qe : Nat × Int :=
      if sh ≤ 0 then (m * 2 ^ (-sh).toNat, e + sh)
      else
        let k := sh.toNat
        let q := m / 2 ^ k
        let r := m % 2 ^ k
        let half := 2 ^ (k - 1)
        let up := decide (half < r) || (r == half && (st || q % 2 == 1))
        (if up then q + 1 else q, e + sh)
    let q := qe.1
    -- q is at most 2^24; the biased exponent of a mantissa with the hidden bit set is qe.2 + 150
    let be : Int := if q < 2 ^ 23 then 0 else qe.2 + 150
    let body : Nat := if q < 2 ^ 23 then q else be.toNat * 2 ^ 23 + (q - 2 ^ 23)
    if body ≥ 255 * 2 ^ 23 then F32.inf neg
    else BitVec.ofNat 32 (body + (if neg then 2 ^ 31 else 0))

/-- A signed integer times 2 to the power `e`, rounded. -/
def F32.ofScaled (m : Int) (e : Int) : F32 := F32.round (decide (m < 0)) m.natAbs e

/-- An integer as binary32. -/
def F32.ofInt (m : Int) : F32 := F32.ofScaled m 0

/-- A natural as binary32. -/
def F32.ofNat (m : Nat) : F32 := F32.ofScaled (m : Int) 0

/-- Negation: the sign bit inverted. -/
def F32.neg (x : F32) : F32 := x ^^^ 0x80000000

/-- Magnitude. -/
def F32.abs (x : F32) : F32 := x &&& 0x7FFFFFFF

/-- The signed mantissa of a finite number. -/
def F32.smant (x : F32) : Int := if F32.sign x then -(F32.mant x : Int) else (F32.mant x : Int)

/-- The rational value of a quotient of naturals, rounded: `n / d` times 2 to the power `e`. -/
def F32.ratio (neg : Bool) (n d : Nat) (e : Int) : F32 :=
  if n = 0 then F32.zero neg
  else
    let k := 64 + Nat.log2 d
    let q := n * 2 ^ k / d
    let r := n * 2 ^ k % d
    F32.round neg (2 * q + (if r = 0 then 0 else 1)) (e - k - 1)

/-- The quotient of two integers, `d` positive. -/
def F32.ofRatio (n : Int) (d : Nat) : F32 :=
  F32.ratio (decide (n < 0)) n.natAbs d 0

/-- Sum (R87). -/
def F32.add (x y : F32) : F32 :=
  if F32.isNaN x || F32.isNaN y then F32.nan
  else if F32.isInf x then (if F32.isInf y && F32.sign x != F32.sign y then F32.nan else x)
  else if F32.isInf y then y
  else
    let e := min (F32.pow x) (F32.pow y)
    let m := F32.smant x * 2 ^ (F32.pow x - e).toNat + F32.smant y * 2 ^ (F32.pow y - e).toNat
    if m = 0 then F32.zero (F32.sign x && F32.sign y)
    else F32.ofScaled m e

/-- Difference. -/
def F32.sub (x y : F32) : F32 := F32.add x (F32.neg y)

/-- Product. -/
def F32.mul (x y : F32) : F32 :=
  let s := F32.sign x != F32.sign y
  if F32.isNaN x || F32.isNaN y then F32.nan
  else if F32.isInf x || F32.isInf y then
    (if F32.isZero x || F32.isZero y then F32.nan else F32.inf s)
  else F32.round s (F32.mant x * F32.mant y) (F32.pow x + F32.pow y)

/-- Quotient. -/
def F32.div (x y : F32) : F32 :=
  let s := F32.sign x != F32.sign y
  if F32.isNaN x || F32.isNaN y then F32.nan
  else if F32.isInf x then (if F32.isInf y then F32.nan else F32.inf s)
  else if F32.isInf y then F32.zero s
  else if F32.isZero y then (if F32.isZero x then F32.nan else F32.inf s)
  else F32.ratio s (F32.mant x) (F32.mant y) (F32.pow x - F32.pow y)

/-- The integer square root of `n` found bit by bit, from bit `k − 1` down, on top of `r`. -/
def natRoot (n : Nat) : Nat → Nat → Nat
  | 0, r => r
  | k + 1, r => natRoot n k (if (r + 2 ^ k) * (r + 2 ^ k) ≤ n then r + 2 ^ k else r)

/-- Square root. -/
def F32.sqrt (x : F32) : F32 :=
  if F32.isNaN x then F32.nan
  else if F32.isZero x then x
  else if F32.sign x then F32.nan
  else if F32.isInf x then x
  else
    -- make the exponent even, then take the root with 64 spare bits
    let odd := (F32.pow x) % 2 = 1
    let m := if odd then F32.mant x * 2 else F32.mant x
    let e := if odd then F32.pow x - 1 else F32.pow x
    let big := m * 2 ^ 64
    let r := natRoot big 48 0
    F32.round false (2 * r + (if r * r = big then 0 else 1)) (e / 2 - 33)

/-- The order key of a number that is not a NaN: −0 lies below +0 (R271). -/
def F32.key (x : F32) : Int :=
  if F32.sign x then -((x.toNat % 2 ^ 31 : Nat) : Int) - 1 else ((x.toNat % 2 ^ 31 : Nat) : Int)

/-- Less than; false where an operand is a NaN; the two zeros are equal. -/
def F32.lt (x y : F32) : Bool :=
  !F32.isNaN x && !F32.isNaN y && !(F32.isZero x && F32.isZero y) && decide (F32.key x < F32.key y)

/-- Less than or equal. -/
def F32.le (x y : F32) : Bool :=
  !F32.isNaN x && !F32.isNaN y && ((F32.isZero x && F32.isZero y) || decide (F32.key x ≤ F32.key y))

/-- Greater than. -/
def F32.gt (x y : F32) : Bool := F32.lt y x

/-- Greater than or equal. -/
def F32.ge (x y : F32) : Bool := F32.le y x

/-- Numerically equal. -/
def F32.eq (x y : F32) : Bool :=
  !F32.isNaN x && !F32.isNaN y && ((F32.isZero x && F32.isZero y) || decide (x = y))

/-- The smaller of two numbers; −0 is below +0 (R271). -/
def F32.min (x y : F32) : F32 :=
  if F32.isNaN x || F32.isNaN y then F32.nan else if F32.key x ≤ F32.key y then x else y

/-- The larger of two numbers; −0 is below +0 (R271). -/
def F32.max (x y : F32) : F32 :=
  if F32.isNaN x || F32.isNaN y then F32.nan else if F32.key x ≤ F32.key y then y else x

/-- Limit a number to a range. -/
def F32.clamp (x lo hi : F32) : F32 := F32.min (F32.max x lo) hi

/-- The largest integer not above a finite number. -/
def F32.floorInt (x : F32) : Int :=
  if F32.pow x ≥ 0 then F32.smant x * 2 ^ (F32.pow x).toNat
  else F32.smant x / (2 ^ (-F32.pow x).toNat : Int)

/-- Floor, as a binary32 number. -/
def F32.floor (x : F32) : F32 :=
  if F32.isNaN x then F32.nan
  else if F32.isInf x || F32.isZero x then x
  else if F32.floorInt x = 0 then F32.zero false
  else F32.ofInt (F32.floorInt x)

/-- The nearest integer of a finite number, ties to even. -/
def F32.toInt (x : F32) : Int :=
  if F32.pow x ≥ 0 then F32.smant x * 2 ^ (F32.pow x).toNat
  else
    let d : Int := 2 ^ (-F32.pow x).toNat
    let q := F32.smant x / d
    let r := F32.smant x % d
    if 2 * r > d then q + 1 else if 2 * r = d && q % 2 == 1 then q + 1 else q

/-- The nearest integer of a number times 2 to the power `k`, ties to even; 0 where the number is not finite. -/
def F32.toScaled (x : F32) (k : Nat) : Int :=
  if !F32.finite x then 0
  else if F32.pow x + k ≥ 0 then F32.smant x * 2 ^ (F32.pow x + k).toNat
  else
    let d : Int := 2 ^ (-(F32.pow x + k)).toNat
    let q := F32.smant x / d
    let r := F32.smant x % d
    if 2 * r > d then q + 1 else if 2 * r = d && q % 2 == 1 then q + 1 else q

/-- The nearest integer, 0 where the number is not finite. -/
def F32.nearest (x : F32) : Int := F32.toScaled x 0

/-- A finite non-negative number of seconds, or of any unit, times a whole number, rounded to a natural. -/
def F32.times (x : F32) (n : Nat) : Nat :=
  if !F32.finite x || F32.sign x then 0
  else if F32.pow x ≥ 0 then F32.mant x * 2 ^ (F32.pow x).toNat * n
  else (F32.mant x * n + 2 ^ ((-F32.pow x).toNat - 1)) / 2 ^ (-F32.pow x).toNat

/-- Multiply and add with one rounding, for the equations that show it. -/
def F32.fma (x y z : F32) : F32 :=
  if F32.isNaN x || F32.isNaN y || F32.isNaN z || !F32.finite x || !F32.finite y || !F32.finite z then
    F32.add (F32.mul x y) z
  else
    let ep := F32.pow x + F32.pow y
    let e := Min.min ep (F32.pow z)
    let m := F32.smant x * F32.smant y * 2 ^ (ep - e).toNat + F32.smant z * 2 ^ (F32.pow z - e).toNat
    if m = 0 then F32.zero ((F32.sign x != F32.sign y) && F32.sign z) else F32.ofScaled m e

/-- A binary16 number as binary32, exactly. -/
def F32.ofHalf (h : BitVec 16) : F32 :=
  let neg := h.getLsbD 15
  let e : Nat := (h.toNat / 2 ^ 10) % 32
  let f : Nat := h.toNat % 2 ^ 10
  if e = 31 then (if f = 0 then F32.inf neg else F32.nan)
  else if e = 0 then F32.round neg f (-24)
  else F32.round neg (f + 1024) ((e : Int) - 25)

/-- A number rounded to binary16, to nearest with ties to even. -/
def F32.toHalf (x : F32) : BitVec 16 :=
  let s : Nat := if F32.sign x then 2 ^ 15 else 0
  if F32.isNaN x then 0x7E00
  else if F32.isInf x then BitVec.ofNat 16 (s + 0x7C00)
  else if F32.mant x = 0 then BitVec.ofNat 16 s
  else
    let m := F32.mant x
    let e := F32.pow x
    let sh : Int := Max.max ((Nat.log2 m : Int) + 1 - 11) (-24 - e)
    let q : Nat :=
      if sh ≤ 0 then m * 2 ^ (-sh).toNat
      else
        let d := 2 ^ sh.toNat
        let q := m / d
        let r := m % d
        if d < 2 * r ∨ (2 * r = d ∧ q % 2 = 1) then q + 1 else q
    let be : Int := e + sh + 24
    let body : Nat := if be ≤ 0 then q else be.toNat * 1024 + q
    BitVec.ofNat 16 (s + Min.min body 0x7C00)

/-- The decimal fraction `n / 10^k`, as binary32. -/
def F32.dec (n : Int) (k : Nat) : F32 := F32.ofRatio n (10 ^ k)

end Sys2Proof.Machine
end

