-- ==== Sys2Proof/Machine/NMap.lean ====
section
/-!
DEFINITION. Sparse tables keyed by a number: the signal bus, the slots, the buffers, the dictionary stores.
One canonical form: keys strictly rising, no entry equal to what an unlisted key reads as.
-/

namespace Sys2Proof.Machine

/-- A sparse table: pairs of key and value, keys strictly rising, default values left out. -/
abbrev NMap (α : Type) := List (Nat × α)

/-- The listed value of a key. -/
def NMap.find {α : Type} : NMap α → Nat → Option α
  | [], _ => none
  | (k, v) :: m, n => if k = n then some v else NMap.find m n

/-- The value of a key; an unlisted key reads as `d`. -/
def NMap.read {α : Type} (m : NMap α) (d : α) (n : Nat) : α :=
  match m.find n with
  | some v => v
  | none => d

/-- The table without a key. -/
def NMap.drop {α : Type} : NMap α → Nat → NMap α
  | [], _ => []
  | (k, v) :: m, n => if k = n then NMap.drop m n else (k, v) :: NMap.drop m n

/-- The table with a key listed at a value, keys kept rising. -/
def NMap.insert {α : Type} : NMap α → Nat → α → NMap α
  | [], n, x => [(n, x)]
  | (k, v) :: m, n, x =>
    if n < k then (n, x) :: (k, v) :: m
    else if n = k then (n, x) :: m
    else (k, v) :: NMap.insert m n x

/-- A write: the key reads as `x` afterwards, every other key as before; the form stays canonical. -/
def NMap.write {α : Type} [DecidableEq α] (m : NMap α) (d : α) (n : Nat) (x : α) : NMap α :=
  if x = d then m.drop n else m.insert n x

/-- Every listed value changed; values that become the default are left out. -/
def NMap.mapDflt {α : Type} [DecidableEq α] (m : NMap α) (d : α) (f : α → α) : NMap α :=
  (m.map (fun p => (p.1, f p.2))).filter (fun p => decide (p.2 ≠ d))

/-- Every listed value changed with its key; values that become the default are left out. -/
def NMap.mapWith {α : Type} [DecidableEq α] (m : NMap α) (d : α) (f : Nat → α → α) : NMap α :=
  (m.map (fun p => (p.1, f p.1 p.2))).filter (fun p => decide (p.2 ≠ d))

/-- Keys strictly rising from `lo` on. -/
def NMap.sortedFrom {α : Type} : Nat → NMap α → Bool
  | _, [] => true
  | lo, (k, _) :: m => decide (lo ≤ k) && NMap.sortedFrom (k + 1) m

/-- The canonical form: keys strictly rising, no default listed. -/
def NMap.wf {α : Type} [DecidableEq α] (d : α) (m : NMap α) : Bool :=
  NMap.sortedFrom 0 m && m.all (fun p => decide (p.2 ≠ d))

end Sys2Proof.Machine
end

