-- ==== Sys2Proof/Machine/State.lean ====
section
/-!
DEFINITION. The state of the SKV-324: everything the manual gives the machine, as plain data. Each field's
comment names the rule of spec/ that gives it; the last letter says where its reset value comes from:
S the manual, D a DESIGN CHOICE (log entries 2 and 3), M the model's own field (log entries 1 and 4).
-/

namespace Sys2Proof.Machine

/-! ### Tick and lane links (01_tick_and_lanes.md) -/

/-- The tick input frame: the asynchronous inputs frozen at tick start (R31). -/
structure TickFrame where
  sin     : BitVec 12 := 0      -- R31 | `SIN0`–`SIN11` as frozen | D
  edm     : BitVec 4 := 0       -- R31 | `EDM0`–`EDM3` as frozen | D
  whistle : Bool := false       -- R31 | `WHISTLE` as frozen | D
  ain     : Vector Half 4 := Vector.replicate 4 0   -- R31, R106 | raw `AIN` conversions as frozen | D
  pset    : Word := 0           -- R31, R107 | `PSET` value as frozen | D
  deriving DecidableEq, Repr

/-- The receive side of one lane link (R28 to R30, R33). -/
structure LinkRx where
  inService : Bool := false               -- R29 | the link has entered service | S
  lost      : Bool := false               -- R29 | the link is declared lost | S
  missRun   : Nat := 0                    -- R29 | consecutive ticks without a valid tick record | S
  badNow    : Bool := false               -- R507 | a block failed its CRC or `TICK` check in this tick | S
  complete  : Bool := false               -- R30 | a tick record arrived completely in this tick | S
  got       : Option TickRecord := none   -- R28 | tick record accepted in this tick | S
  last      : Option TickRecord := none   -- R33 | tick record last accepted before this tick | S
  prior     : Option TickRecord := none   -- R131 | tick record accepted before `last` | S
  age       : Nat := 0                    -- R33 | ticks since `last` was received, 1 = the previous tick | S
  chan      : Option ChannelBlock := none -- R321 | channel block accepted in this tick | S
  chanPrev  : Option ChannelBlock := none -- R322 | channel block accepted in the previous tick | S
  mirror    : Option MirrorBlock := none  -- R66 | mirror block accepted in this tick | S
  join      : Option JoinBlock := none    -- R144 | join block accepted in this tick | S
  dict      : Option DictBlock := none    -- R400 | dictionary block accepted in this tick | S
  dictPrev  : Option DictBlock := none    -- R399 | dictionary block accepted in the previous tick | S
  valid     : Word := 0                   -- R30 | `RecordsValid` of the link | S
  crcErr    : Word := 0                   -- R30 | `CrcErrors` of the link | S
  tickMis   : Word := 0                   -- R30 | `TickMismatch` of the link | S
  missing   : Word := 0                   -- R30 | `Missing` of the link | S
  deriving DecidableEq, Repr

/-- What one lane link carries of this lane in a tick, block by block (R27). -/
structure LinkTx where
  record : Option TickRecord := none    -- R25 | tick record sent in this tick | S
  chan   : Option ChannelBlock := none  -- R321 | channel block sent | S
  mirror : Option MirrorBlock := none   -- R27 | mirror block sent | S
  join   : Option JoinBlock := none     -- R144 | join block sent | S
  dict   : Option DictBlock := none     -- R400 | dictionary block sent | S
  deriving DecidableEq, Repr

/-- Tick counter, lane links, tick input frame and phase lock. -/
structure TickSt where
  count    : Long := 0                -- R16, R18 | extended tick count (`TickCount`, `TickCountHigh`) | S
  fwd      : LinkRx := {}             -- R11 | forward link, receive side | S
  back     : LinkRx := {}             -- R11 | back link, receive side | S
  fwdTx    : LinkTx := {}             -- R11 | forward link, send side | S
  backTx   : LinkTx := {}             -- R11 | back link, send side | S
  frame    : TickFrame := {}          -- R31 | tick input frame of this tick | S
  levels   : TickInputs := { sin := 0, edm := 0, whistle := false, quiet := 0x3FFF } -- R31, R514 | levels of the lands at this tick start | D
  onJalsyn : Bool := false            -- R34, R35 | the phase reference is Jalsyn global time | S
  offset   : Int := 0                 -- R34, R36 | offset of the tick start from its reference, ns | D
  deriving DecidableEq, Repr

/-! ### Lane authority (02_lane_authority.md) -/

/-- Kinds of fault counted after the last entry into OPERATIONAL with three lanes (R77). -/
inductive FaultKind where
  | laneLoss | jalsynChannel | winding | positionSource | safetyChannel | safeDataCopy | chopper
  deriving DecidableEq, Repr

/-- One counted fault: its kind, the lane, and the winding, channel, instance or slot it names. -/
structure CountedFault where
  kind : FaultKind
  lane : LaneId
  part : Nat
  deriving DecidableEq, Repr

/-- One lane as another lane sees it (R83). -/
structure LaneView where
  joined   : Bool := false     -- R83 | a valid record has come from the lane and it is not lost | S
  lost     : Bool := false     -- R60, R83 | the lane is lost | S
  role     : Role := .none     -- R83 | role in the lane's last record | S
  follower : Bool := false     -- R83 | joined without a role | S
  netblind : Bool := false     -- R83, R301 | both Jalsyn channels of the lane are lost | S
  acked    : Bool := false     -- R144 | the lane has acknowledged a renewal since it joined | S
  netOk    : Bool := false     -- R41, R301 | the lane reports itself integrated | S
  epoch    : BitVec 6 := 0     -- R83 | epoch in the lane's last record | S
  rejoins  : BitVec 4 := 0     -- R83 | rejoin attempts seen | S
  deriving DecidableEq, Repr

/-- Roles, leash, votes, mirroring, modes, boost and counters of one lane. -/
structure AuthSt where
  role        : Role := .none              -- R40, R42 | this lane's role | S
  follower    : Bool := false              -- R40 | this lane is a follower | S
  views       : Vector LaneView 3 := Vector.replicate 3 {}  -- R83 | the lanes as this lane sees them | S
  epoch       : BitVec 6 := 0              -- R46 | lease epoch last accepted | S
  accepted    : Bool := false              -- R46 | an epoch has been accepted since the last reset | S
  holder      : Option LaneId := none      -- R45 | `HOLDER`, the leash holder as seen | S
  holding     : Bool := false              -- R47 | this lane holds the leash | S
  noLease     : Bool := false              -- R61 | the leash is held without lease | S
  lastAck     : Nat := 0                   -- R48 | tick start of the last `ACK` for the current epoch | S
  ackNow      : Bool := false              -- R47 | a valid renewal was accepted at this tick start | S
  seenNow     : Bool := false              -- R45 | `SEEN` | S
  relSeen     : Bool := false              -- R45, R55 | `RELSEEN` | S
  releasing   : Bool := false              -- R55 | `RELEASE` goes out in this tick's record | S
  silent      : Nat := 0                   -- R49 | silent ticks counted | S
  demoting    : Bool := false              -- R52 | this lane sends `DEMOTE` | S
  demoteFor   : Option LaneId := none      -- R53 | the Lead that this lane votes to demote | S
  demoteTicks : Nat := 0                   -- R54 | tick starts since `DEMOTE` was first sent | S
  voteStands  : Bool := false              -- R54 | both comparing lanes vote | S
  devGroup    : Vector Nat 24 := Vector.replicate 24 0  -- R52 | consecutive deviating ticks, per drive group | S
  devSf       : Vector Nat 24 := Vector.replicate 24 0  -- R52 | the same, per safety-function instance | S
  devMode     : Nat := 0                   -- R52 | the same, device mode | S
  ownAuth     : Vector F32 24 := Vector.replicate 24 0  -- R51 | own authority setpoint of each group, latest committed | S
  ownAuthNow  : BitVec 24 := 0             -- R52 | groups whose setpoint was computed for this tick | S
  ownSfNow : Bool := false           -- R52 | safety-function states were computed for this tick | S
  sentAuth    : Vector F32 24 := Vector.replicate 24 0  -- R24, R52 | own setpoints as captured at T/2 | S
  sentOk      : BitVec 24 := 0             -- R23, R52 | groups with an own output captured at T/2 | S
  sentSf      : BitVec 48 := 0             -- R24, R52 | own safety-function states captured at T/2 | S
  sentSfOk    : Bool := false              -- R52 | own safety states were computed for the tick | S
  sentMode    : Mode := .startup           -- R24, R52 | own device mode captured at T/2 | S
  sentTick    : Option Long := none        -- R24 | tick in which the record was sent | S
  applied     : Vector F32 24 := Vector.replicate 24 0  -- R51 | authority setpoint applied, per group | S
  ownMode     : Mode := .startup           -- R70 | device mode as computed by this lane | S
  mode        : Mode := .startup           -- R69 | `DeviceMode`, as applied | S
  gap         : Bool := true               -- R58 | no valid renewed Lead record of the previous tick | S
  modePending : Option Nat := none         -- R58 | `ModeRequest` value held over a gap | S
  startedAt   : Nat := 0                   -- R43 | lane time of the first lane's power-on release, 2.5 ns counts | D
  startupOver : Bool := false              -- R43 | STARTUP has ended | S
  loneSince   : Option Nat := none         -- R61 | tick from which the lone lane listens | S
  loneHeard   : Bool := false              -- R61 | a health frame of another own lane arrived while listening | S
  capture     : List Word := []            -- R66 | own mirror words captured at T/2 | S
  mirSeq      : Byte := 0                  -- R25 | mirror sequence of the next block | S
  mirFirst    : Bool := true               -- R67 | the next block is loaded without comparison | S
  mirLoad     : Option (List Word) := none -- R67 | words to load at the next tick start | S
  mirRuns     : List Nat := List.replicate 64 0   -- R67 | consecutive differing blocks, per word | S
  rejoins     : BitVec 4 := 0              -- R44, R83 | rejoin attempts of this lane this power cycle | S
  noRejoin    : Bool := false              -- R44 | the lane was halted or has used its tries | S
  refused     : BitVec 4 := 0              -- R70, R83 | refused mode requests, saturating at 15 | S
  standstill  : Bool := false              -- R71 | standstill holds | S
  stillSince  : Option Nat := none         -- R71 | lane time since which the standstill condition holds | S
  descentEnd  : Option Nat := none         -- R70 | lane time at which `DescentLimit` elapses | S
  ballast     : Bool := false              -- R72 | the ballast list is shed | S
  faultsOn    : Bool := false              -- R77 | OPERATIONAL with three lanes has been entered, so faults count | S
  faults      : List CountedFault := []    -- R77 | faults counted since OPERATIONAL with three lanes | S
  mGroup      : Vector Nat 24 := Vector.replicate 24 0  -- R73 | healthy windings m, per group | S
  mGranted    : Vector Nat 24 := Vector.replicate 24 9  -- R74 | lowest m for which boost has been granted, 9 = none | S
  awaited     : BitVec 72 := 0             -- R74 | windings (3 per group, by lane) not yet running since the enable | S
  boostEnd    : Vector (Option Nat) 8 := Vector.replicate 8 none  -- R74 | end of the boost of each winding, lane time | S
  boostRamp   : Vector (Option Nat) 8 := Vector.replicate 8 none  -- R74 | start of the ramp back to rated current, lane time | S
  renewals    : Word := 0                  -- R84 | `RenewalsAcked` | S
  expiries    : Half := 0                  -- R84 | `LeaseExpiries` | S
  minMargin   : Byte := 255                -- R84 | `MinLeaseMargin` | S
  takeovers   : Half := 0                  -- R84 | `Takeovers` | S
  demSent     : Half := 0                  -- R84 | `DemotesSent` | S
  demRecv     : Half := 0                  -- R84 | `DemotesReceived` | S
  mirCorr     : Word := 0                  -- R84 | `MirrorCorrected` | S
  health      : List Byte := []            -- R84 | health frame last formed, 49 bytes | S
  deriving DecidableEq, Repr

/-! ### Control engine (03_control_engine.md) -/

/-- State of one loop slot (R97 to R114, R122). -/
structure SlotSt where
  started  : Bool := false       -- R100 | the first run has been made since the slot started | S
  i        : F32 := 0            -- R97 | integrator | S
  ud       : F32 := 0            -- R97, R100 | filtered derivative term | S
  vPrev    : F32 := 0            -- R97 | `v_prev` | S
  uPrev    : F32 := 0            -- R97 | `u_prev` | S
  n1s1     : F32 := 0            -- R111 | notch 1, s1 | S
  n1s2     : F32 := 0            -- R111 | notch 1, s2 | S
  n2s1     : F32 := 0            -- R111 | notch 2, s1 | S
  n2s2     : F32 := 0            -- R111 | notch 2, s2 | S
  f1       : Option F32 := none  -- R113, R121 | notch 1 frequency as adapted or loaded; none = `Notch1Freq` | S
  f2       : Option F32 := none  -- R113, R121 | notch 2 frequency as adapted or loaded; none = `Notch2Freq` | S
  bank     : List (F32 × F32) := []   -- R112 | the eight complex detectors, empty = all zero | S
  epoch    : Nat := 0            -- R113 | runs in the present epoch | S
  epochs   : Nat := 0            -- R114 | epochs ended since the slot started, up to 2 | S
  epLimit  : Bool := false       -- R114 | a run of the epoch was limited or held | S
  epEvent  : Bool := false       -- R114 | an event of the slot, its group or the lane fell in the epoch | S
  epEventP : Bool := false       -- R114 | the same, epoch before | S
  th       : F32 := 0            -- R101 | observer position | S
  w        : F32 := 0            -- R101 | observer speed | S
  dist     : F32 := 0            -- R101 | observer disturbance | S
  ferr     : F32 := 0            -- R108 | following-error timer, s | S
  fault    : Bool := false       -- R108 | the following-error fault has been raised since the timer was last clear | S
  status   : Half := 0           -- R122 | `SlotStatus` without `CONSEC` | S
  consec   : Nat := 0            -- R110, R122 | consecutive missed or held runs | S
  hold     : Option F32 := none  -- R329 | held setpoint of a category 2 stop after standstill | S
  misses   : Word := 0           -- R109 | `DeadlineMisses` | S
  invalid  : Word := 0           -- R97 | `InvalidRuns` | S
  deriving DecidableEq, Repr

/-- One auxiliary analogue input as agreed (R106). -/
structure AinSt where
  f       : F32 := 0               -- R106 | agreed fraction | S
  value   : Option F32 := none     -- R106 | setpoint last given outside the broken-wire bands | S
  broken  : Option Nat := none     -- R106 | lane time since which the broken-wire state lasts | S
  range   : Bool := false          -- R106 | range flag | S
  invalid : Bool := false          -- R106 | the input is invalid | S
  deriving DecidableEq, Repr

/-- The pulse setpoint input (R107). -/
structure PsetSt where
  lineA   : Bool := false          -- R107 | level of the step or A line | D
  lineB   : Bool := false          -- R107 | level of the direction or B line | D
  count   : Word := 0              -- R107 | signed step or quadrature count | S
  freq    : Word := 0              -- R107 | frequency, 1 mHz units | S
  duty    : F32 := 0               -- R107 | duty | S
  edgeAt  : Option Nat := none     -- R107 | lane time of the last accepted edge | S
  riseAt  : Option Nat := none     -- R107 | lane time of the last rising edge | S
  high    : Nat := 0               -- R107 | width of the last high time, 2.5 ns counts | S
  agreed  : Word := 0              -- R107 | agreed value in the configured form | S
  value   : Option F32 := none     -- R107 | setpoint last given while valid | S
  broken  : Option Nat := none     -- R107 | lane time since which the duty form reads as a broken wire | S
  invalid : Bool := false          -- R107 | the input is invalid | S
  join    : Bool := false          -- R107 | the counter takes the agreed count at the next tick start | S
  deriving DecidableEq, Repr

/-- The Jalsyn command value of one drive group (R104). -/
structure CmdSt where
  due     : Option (F32 × Nat) := none  -- R104 | value accepted and the lane time from which it may be copied | S
  fresh   : Nat := 0                    -- R104 | Jalsyn cycles since the value was last renewed | S
  ever    : Bool := false               -- R104 | a value has been copied | S
  stale   : Bool := false               -- R104 | the value is flagged stale | S
  timeout : Bool := false               -- R104 | the command-timeout fault stands | S
  deriving DecidableEq, Repr

/-- The control engine of one lane: bus, slots, generators, program, inputs. -/
structure EngineSt where
  bus       : NMap F32 := []        -- R118 | signal bus, 1024 binary32 entries; an unlisted entry is 0.0 | S
  busBad    : NMap Bool := []       -- R97, R110 | entries flagged invalid | S
  busStale  : NMap Bool := []       -- R97, R104 | entries flagged stale | S
  appNext   : NMap F32 := []        -- R120, R470 | application entries written and not yet frozen | S
  appLate   : NMap (Option F32) := [] -- R470, R474 | entries written in the freeze cycle of the next tick start; unlisted = none | S
  appWritten : NMap Nat := []       -- R99 | tick of the last write of an application entry | S
  slots     : NMap SlotSt := []     -- R86 | the 192 slots; an unlisted slot is at its start state | S
  traj      : Vector (F32 × F32) 32 := Vector.replicate 32 (0, 0)  -- R105 | p and v of the trajectory generators | S
  trajOn    : BitVec 32 := 0        -- R105 | generators that have started | S
  windows   : Vector (List Nat) 8 := Vector.replicate 8 []  -- R85, R92 | tick program, slots of each window in order | S
  placed    : NMap Nat := []        -- R121 | `PlacedWindow` + 1 of each slot; unlisted = 255 | S
  planned   : Vector Nat 8 := Vector.replicate 8 0   -- R123 | `PlannedCycles` | S
  units     : Half := 0             -- R123 | `UnitsUsed` | S
  positions : Byte := 0             -- R123 | `PositionsUsed` | S
  peaks     : Vector Half 8 := Vector.replicate 8 0  -- R123 | `PeakCycles` | S
  rejCause  : Byte := 0             -- R124 | `RejectCause` | S
  rejSlot   : Byte := 255           -- R123 | `RejectSlot` | S
  running   : Bool := false         -- R85, R513 | the tick program runs (stopped in IDLE and out of joined states) | D
  ain       : Vector AinSt 4 := Vector.replicate 4 {}   -- R106 | auxiliary analogue inputs | S
  pset      : PsetSt := {}          -- R107 | pulse setpoint input | S
  cmd       : Vector CmdSt 24 := Vector.replicate 24 {} -- R104 | Jalsyn command values | S
  late      : BitVec 192 := 0       -- R109 | items abandoned at their commit point, their miss not yet counted | S
  frozen    : Bool := false         -- R72 | notch, resistance and dead-time adaptation are frozen | S
  deriving DecidableEq, Repr

/-! ### Field control (04_field_control.md) -/

/-- `WSTATE` of a winding (R158). -/
inductive WState where
  | disabled | measuring | stopping | refused | running | torqueFree | lost | kennelled
  deriving DecidableEq, Repr

/-- What follows the standstill of a controlled stop (R151). -/
inductive StopUse where
  | category1 | category2 | groupReaction | catchAgainst
  deriving DecidableEq, Repr

/-- State of the winding on one motor port (R128 to R158). -/
structure WindingSt where
  ws       : WState := .disabled     -- R158 | `WSTATE` | S
  src      : BitVec 3 := 0           -- R158 | `SRC`, active angle source, 7 = borrowed | S
  flags    : Word := 0               -- R158 | `FieldStatus` bits 6 to 17 | S
  catchCode : Byte := 0              -- R158 | `CATCHCODE` | S
  asc      : Bool := false           -- R148 | torque-free is held as active short circuit on the low sides | S
  theta    : Turn := 0               -- R128 | own electrical angle | S
  we       : F32 := 0                -- R128 | own electrical speed, rad/s | S
  wePrev   : F32 := 0                -- R145 | own electrical speed of the tick before | S
  ownAngle : Bool := false           -- R142 | the winding has an own angle (`PLOST` is clear) | S
  srcLost  : Bool := false           -- R137, R141 | the position source is lost | S
  xd       : F32 := 0                -- R129 | d-axis integrator | S
  xq       : F32 := 0                -- R129 | q-axis integrator | S
  idfw     : F32 := 0                -- R129 | field-weakening current | S
  id       : F32 := 0                -- R129 | Id of the last run | S
  iq       : F32 := 0                -- R129 | Iq of the last run | S
  va       : F32 := 0                -- R139 | commanded voltage, alpha | S
  vb       : F32 := 0                -- R139 | commanded voltage, beta | S
  ial      : F32 := 0                -- R139 | measured current, alpha | S
  ibe      : F32 := 0                -- R139 | measured current, beta | S
  duty     : F32 × F32 × F32 := (0, 0, 0)         -- R133 | duties in effect | S
  cmp      : F32 × F32 × F32 := (0, 0, 0)         -- R117, R129 | compare values in effect: the duties with dead-time compensation | S
  newDuty  : Option ((F32 × F32 × F32) × (F32 × F32 × F32)) := none -- R94, R95 | duties and compare values computed, to take effect at the commit instant | S
  ticksOn  : Nat := 0                -- R134 | runs since the winding started | S
  rampFrom : Option Nat := none      -- R149 | lane time at which the 5 ms ramp of the references began | S
  hfiOn    : Bool := false           -- R138 | injection is applied | S
  hfiSign  : Bool := false           -- R138 | sign of the next injection | S
  hfiTheta : Turn := 0               -- R138 | injection estimate | S
  hfiW     : F32 := 0                -- R138 | speed of the injection tracking loop | S
  hfiIq    : F32 := 0                -- R138 | q-axis current of the tick before | S
  hfiFound : Bool := false           -- R138 | the magnet's north pole is found | S
  hfiSince : Option Nat := none      -- R138 | lane time at which the tracking loop began to settle | S
  obsTheta : Turn := 0               -- R139 | back-EMF observer angle | S
  obsW     : F32 := 0                -- R139 | speed of the observer's tracking loop | S
  rs       : Option F32 := none      -- R154, R157 | `RsEstimate`; none = `Rs20` | S
  rsAt     : Option Nat := none      -- R153 | lane time of the last update of Rs | S
  dT       : F32 := 0                -- R153 | thermal model rise over the NTC | S
  overTemp : Bool := false           -- R152 | the over-temperature fault stands | S
  overSpd  : Nat := 0                -- R145 | consecutive ticks above `MaxSpeed` | S
  voteDev  : Nat := 0                -- R145 | consecutive ticks beyond `AngleVoteLimit` | S
  again    : Option Nat := none      -- R149, R227, R230 | lane time at which the measurement or the sniff test repeats | S
  measAt   : Nat := 0                -- R149 | lane time at which the back-EMF measurement began | S
  losAt    : List Nat := []          -- R146 | lane times of the losses of synchronism within 10 s | S
  fromLos  : Bool := false           -- R146 | the catch in progress re-synchronises after a loss | S
  losEvents : Half := 0              -- R157 | `LosEvents` | S
  refusals : Half := 0               -- R157 | `CatchRefusals` | S
  recon    : Word := 0               -- R157 | `ReconCount` | S
  modClamp : Word := 0               -- R157 | `ModClampCount` | S
  openMax  : F32 × F32 × F32 := (0, 0, 0)  -- R228 | peak absolute phase currents of the present turn window | S
  openNet  : Option Int := none      -- R228 | net angle since the turn window began, 1/2^32 turn; none = no window | S
  openPrev : Option Turn := none     -- R228 | angle of the run before | S
  isumRuns : Nat := 0                -- R229 | consecutive runs with the current sum out of bound | S
  dfr      : Vector (Option Nat × Option Nat) 3 := Vector.replicate 3 (none, none) -- R117 | measured rise and fall delays of the legs this tick, 2.5 ns counts | S
  deriving DecidableEq, Repr

/-- One drive group as a lane sees it (R142 to R151). -/
structure GroupSt where
  angle    : Half := 0               -- R142 | group angle, 1/65536 electrical turn | S
  valid    : Bool := false           -- R142 | some lane supplied an angle at this tick start | S
  others   : Bool := false           -- R141 | another lane supplied an angle at this tick start | S
  nValid   : Nat := 0                -- R142, R147 | valid lanes at this tick start | S
  apart    : Int := 0                -- R147 | d of the two valid lanes | S
  formed   : Bool := false           -- R143 | a group angle has been formed since STARTUP or the last restart | S
  speed    : F32 := 0                -- R143 | filtered speed, rev/s | S
  acc      : BitVec 48 := 0          -- R143 | position accumulator, signed, 1/65536 electrical turn | S
  accOn    : Bool := false           -- R143 | the accumulator runs | S
  steps    : Int := 0                -- R144 | steps formed since the tick the join block reflects | S
  enabled  : Bool := false           -- R70, R149 | the group has been enabled | S
  stop     : Option StopUse := none  -- R151 | controlled stop in progress | S
  stopped  : Bool := false           -- R151 | the stop has reached standstill | S
  fallback : Bool := false           -- R141, R147 | the group runs on its `FallbackSource` | S
  disagree : Nat := 0                -- R147 | consecutive ticks in which two valid lanes disagree | S
  reacted  : Bool := false           -- R151 | the group reaction stands until the group is next enabled | S
  deriving DecidableEq, Repr

/-- Field control of one lane. -/
structure FieldSt where
  wind   : Vector WindingSt 8 := Vector.replicate 8 {}   -- R86 | windings on `MP0`–`MP7` | S
  groups : Vector GroupSt 24 := Vector.replicate 24 {}   -- R142 | drive groups | S
  joinGot : Bool := false            -- R144 | the join block has been loaded | S
  joinFor : Option LaneId := none    -- R144 | lane to which Lead sends join blocks | S
  joinLeft : Nat := 0                -- R144 | join blocks still to send | S
  deriving DecidableEq, Repr

/-! ### Sensing (05_power_stage_sensing.md) -/

/-- Acquisition of one lane (R159 to R184). -/
structure AcqSt where
  codes    : NMap Half := []         -- R168, R184 | latest conversion of each of the 192 channels; unlisted = 0 | D
  frozen   : NMap Half := []         -- R168, R184 | the conversions as frozen into the tick input frame; unlisted = 0 | D
  shuntA   : Vector F32 24 := Vector.replicate 24 0   -- R176 | latest shunt current of each leg, A | S
  shuntOk  : BitVec 24 := 0          -- R165, R166 | legs whose last shunt conversion is valid | S
  vdc      : F32 := 0                -- R167 | latest `S168` conversion, V | S
  sinStale : Bool := false           -- R165 | the last angle-pair conversion failed twice | S
  lateConv : BitVec 8 := 0           -- R165 | ports whose last sample needed a repeat (a stall under R109) | S
  health   : BitVec 16 := 0xFFFF     -- R183 | `AdcHealth` | S
  badRef   : BitVec 16 := 0          -- R170 | converters whose last reference check was bad | S
  roles    : List (Fin 16) := (List.finRange 16).take 12   -- R162, R170 | converter of each of the 12 roles `ADC0`–`ADC11` | S
  retries  : Word := 0               -- R183 | `ConvRetries` | S
  invalids : Word := 0               -- R183 | `ConvInvalid` | S
  sats     : Word := 0               -- R183 | `SatCount` | S
  cmpHigh  : BitVec 192 := 0         -- R183 | `CmpHighFlags` | S
  cmpLow   : BitVec 192 := 0         -- R183 | `CmpLowFlags` | S
  offs     : Vector F32 24 := Vector.replicate 24 0   -- R116, R178 | offset o of each shunt channel, counts | S
  start    : Vector (Option F32) 24 := Vector.replicate 24 none  -- R178 | start-up value of o; none = not yet enabled | S
  trimHeld : BitVec 24 := 0          -- R116 | shunt channels held at the trim bound, fault raised | S
  startBad : BitVec 8 := 0           -- R178 | ports refused for their start-up offset | S
  ntc      : Vector F32 8 := Vector.replicate 8 0x41C80000   -- R180 | NTC temperatures, 25.0 °C | D
  ntcBad   : BitVec 8 := 0           -- R180 | NTC channels open or short | S
  ntcIn    : Vector F32 8 := Vector.replicate 8 0x41C80000   -- R168 | NTC temperatures as last converted | D
  vbat     : F32 := 0                -- R501 | latest `S169` conversion, V | S
  crossLow : Vector (Option Nat) 24 := Vector.replicate 24 none -- R174 | lane time of the last falling phase-node crossing | S
  crossUp  : Vector (Option Nat) 24 := Vector.replicate 24 none -- R174 | lane time of the last rising phase-node crossing | S
  deriving DecidableEq, Repr

/-! ### Gate drive (06_gate_drive.md) -/

/-- Gate state of one leg (R188, R216). -/
inductive LegGate where
  | off                      -- both switches off
  | low                      -- low side conducts
  | high                     -- high side conducts
  deriving DecidableEq, Repr

/-- How a winding's gates are driven (R215). -/
inductive GateMode where
  | off                      -- all six gates off
  | asc (side : Side)        -- active short circuit on one side
  | pwm                      -- switching under the current loop
  deriving DecidableEq, Repr

/-- The fault that holds a winding (R205). -/
inductive PortFault where
  | short | overcurrent | gate | bootstrap | doubleShort
  deriving DecidableEq, Repr

/-- One leg of a bridge. -/
structure LegSt where
  gate     : LegGate := .off           -- R188 | which switch conducts | S
  fault    : Bool := false             -- R190 | the leg's gate fault flag | S
  shorted  : Bool := false             -- R201 | `SC_U`, `SC_V` or `SC_W` of the leg | S
  conductions : Nat := 0               -- R195 | low-side conduction intervals since switching began, up to 2 | S
  refresh  : Option Nat := none        -- R193 | tick of the first forced refresh | S
  refreshNow : Bool := false           -- R193 | a refresh is forced in this tick | S
  tc       : Option F32 := none        -- R117 | dead-time compensation, s; none = the configured dead time | S
  riseCmd  : Option Nat := none        -- R117 | ideal time of the last commanded rising edge, lane time | S
  fallCmd  : Option Nat := none        -- R117 | ideal time of the last commanded falling edge, lane time | S
  deriving DecidableEq, Repr

/-- Protection of one motor port (R205, R206, R217, R218). -/
structure PortSt where
  mode     : GateMode := .off          -- R215 | gate state of the winding | S
  legs     : Vector LegSt 3 := Vector.replicate 3 {}  -- R188 | legs U, V, W | S
  fault    : Option PortFault := none  -- R205 | fault being handled | S
  bootOff  : Bool := false             -- R216 | gates off after a bootstrap fault in high-side active short circuit | S
  scSide   : Side := .low              -- R218 | `SC_SIDE` | S
  hard     : Bool := false             -- R218 | `HARD` | S
  double   : Bool := false             -- R218 | `DOUBLE` | S
  tries    : List Nat := []            -- R206 | lane times of the tries | S
  waitEnd  : Option Nat := none        -- R206 | end of the retry wait | S
  latched  : Bool := false             -- R206 | `LATCHED` | S
  ladder   : Bool := false             -- R218 | `LADDER` | S
  retrying : Bool := false             -- R206, R227 | the enable in progress follows a retry | S
  reenable : Bool := false             -- R186, R211, R230 | the winding re-enables when the lane-wide cause clears | S
  tripAt   : Option Nat := none        -- R202, R216 | lane time of the last trip that turned its gates off | S
  tripGates : Vector LegGate 3 := Vector.replicate 3 .off -- R202 | what the legs conducted at that trip | S
  trips    : Word := 0                 -- R217 | `ShortTrips` | S
  hardTrips : Word := 0                -- R217 | `HardShortTrips` | S
  gateFaults : Word := 0               -- R217 | `GateFaults` | S
  refreshes : Word := 0                -- R217 | `RefreshCount` | S
  retries  : Word := 0                 -- R217 | `Retries` | S
  deriving DecidableEq, Repr

/-- Causes of a chopper fault, coded as `CHCAUSE` (R209, R220). -/
inductive ChopCause where
  | none | openPath | shortResistor | shortSwitch | gate
  deriving DecidableEq, Repr

/-- Gate drive of one lane. -/
structure GateSt where
  ports    : Vector PortSt 8 := Vector.replicate 8 {}   -- R185 | motor ports `MP0`–`MP7` | S
  railUv   : Bool := false             -- R220 | `RAILUV` | S
  chOn     : Bool := false             -- R220 | `CHON` | S
  chSince  : Nat := 0                  -- R207 | lane time of the chopper's last change | S
  chFault  : Bool := false             -- R220 | `CHFAULT` | S
  chCause  : ChopCause := .none        -- R220 | `CHCAUSE` | S
  chEnergy : Bool := false             -- R220 | `CHENERGY` | S
  energy   : F32 := 0                  -- R208 | energy estimate E, J | S
  chForced : Bool := false             -- R211, R212 | the chopper is forced on at `V_ABS` | S
  ladderAsc : Bool := false            -- R220 | `LADDERASC` | S
  belowAsc : Option Nat := none        -- R211 | lane time since which the link is below `V_ASC` − `LadderHyst` | S
  vabs     : Bool := false             -- R220 | `VABS` | S
  regenCut : Bool := false             -- R220 | `REGENCUT` | S
  regen    : F32 := 0                  -- R219 | `RegenLimit` | S
  ascEvents : Half := 0                -- R219 | `LadderAscEvents` | S
  pumpF    : Bool := false             -- R220 | `PUMPF` | S
  linkAt   : Option Nat := none        -- R208 | lane time of the last link conversion | S
  forcedLow : Bool := true             -- R189, R215 | every gate output is driven low | S
  deriving DecidableEq, Repr

/-! ### Wiring diagnostics (07_wiring_faults.md) -/

/-- The sniff test in progress (R223, R224). -/
structure SniffRun where
  port  : Fin 8                        -- R223 | port under test | S
  start : Nat                          -- R224 | lane time of the start | S
  step1 : Option SniffReading := none  -- R224 | readings at the end of step 1 | S
  step2 : Option SniffReading := none  -- R224 | readings at the end of step 2 | S
  deriving DecidableEq, Repr

/-- Wiring status of one lane (R237 to R241). -/
structure WiringSt where
  sniff    : Option SniffRun := none   -- R223 | test in progress | S
  queue    : List (Fin 8) := []        -- R223 | ports whose test is due, ascending | S
  postponed : BitVec 8 := 0            -- R227 | ports whose test repeats for a low link | S
  results  : Vector Half 8 := Vector.replicate 8 0   -- R238 | `SniffResult` | S
  runs     : Word := 0                 -- R237 | `SniffRuns` | S
  failures : Word := 0                 -- R237 | `SniffFailures` | S
  skips    : Word := 0                 -- R237 | `SniffSkips` | S
  vsensUv  : Bool := false             -- R239 | `VSENSUV` | S
  vsensOv  : Bool := false             -- R239 | `VSENSOV` | S
  vsensOc  : Bool := false             -- R239 | `VSENSOC` | S
  gndShift : Bool := false             -- R239 | `GNDSHIFT` | S
  revpol   : Bool := false             -- R239 | `REVPOL` | S
  linkLow  : Bool := false             -- R239 | `LINKLOW` | S
  linkBack : Option Nat := none        -- R230 | lane time since which the link is above 9 V | S
  tetherF  : Bool := false             -- R239 | `TETHERF` | S
  reelF    : Bool := false             -- R239 | `REELF` | S
  tetherOff : Option Nat := none       -- R222 | end of the 100 ms off time of `TETHER` | S
  reelOff  : Option Nat := none        -- R222 | end of the 100 ms off time of `REEL` | S
  openPh   : BitVec 8 := 0             -- R239 | `OPENPH` | S
  isum     : BitVec 8 := 0             -- R239 | `ISUM` | S
  cableA   : Half := 0                 -- R240 | `CableDiagA` | S
  cableB   : Half := 0                 -- R240 | `CableDiagB` | S
  cableRunA : Bool := false            -- R232 | diagnostics of channel A run | S
  cableRunB : Bool := false            -- R232 | diagnostics of channel B run | S
  canFaults : Half := 0                -- R241 | `CanBusFaults` | S
  revCell  : Bool := false             -- R235 | reverse-polarity flag cell of the supply monitor | D
  deriving DecidableEq, Repr

/-! ### Position feedback (08_position_feedback.md) -/

/-- One accepted transition: its lane time and its signed step. -/
structure FbEdge where
  time : Nat
  step : Int
  deriving DecidableEq, Repr

/-- One feedback port (R242 to R254, R261, R262). -/
structure FbPortSt where
  lines    : FbLines := { a := false, b := false, i := false, h := 0 }  -- R243 | accepted levels of the lines | D
  angle    : Nat := 0                  -- R247 | `AngleCount` | S
  counter  : Word := 0                 -- R247 | `Counter`, signed | S
  satHi    : Bool := false             -- R262 | `SATHI` | S
  satLo    : Bool := false             -- R262 | `SATLO` | S
  down     : Bool := false             -- R262 | `DIR` | S
  suspect  : Bool := false             -- R262 | `SUSPECT` | S
  failed   : Bool := false             -- R262 | `FAILED` | S
  levelF   : Bool := false             -- R262 | `LEVELF` | S
  aligned  : Bool := false             -- R262 | `ALIGNED` | S
  indexSeen : Bool := false            -- R262 | `INDEXSEEN` | S
  spdMeth  : Bool := false             -- R262 | `SPDMETH` | S
  still    : Bool := false             -- R262 | `STANDSTILL` | S
  sector   : BitVec 3 := 7             -- R262 | `SECTOR` | S
  illRun   : Nat := 0                  -- R262 | `ILLRUN` | S
  illAt    : List Nat := []            -- R249 | absolute count since each of the last illegal transitions, newest first | S
  idxRun   : Nat := 0                  -- R262 | `IDXRUN` | S
  skips    : List Nat := []            -- R253 | absolute count since each of the last sector skips, newest first | S
  edges    : List FbEdge := []         -- R254 | the last five accepted transitions, newest first | S
  hallEdges : List FbEdge := []        -- R136 | the last two accepted Hall sector changes, newest first | S
  net      : Int := 0                  -- R254 | net count since the last freeze, index corrections excluded | S
  prevEdge : Option Nat := none        -- R254 | last accepted transition before the previous freeze | S
  speed    : F32 := 0                  -- R254, R261 | `Speed` | S
  frozenAngle : Nat := 0               -- R254 | `AngleCount` at the last freeze | S
  frozenCounter : Word := 0            -- R254 | `Counter` at the last freeze | S
  illegal  : Word := 0                 -- R261 | `IllegalCount` | S
  corrections : Word := 0              -- R261 | `IndexCorrections` | S
  rejects  : Word := 0                 -- R261 | `IndexRejects` | S
  hallErrs : Word := 0                 -- R261 | `HallErrors` | S
  lastIndex : Nat := 0                 -- R261 | `LastIndexCount` | S
  deriving DecidableEq, Repr

/-- One SENT input (R257 to R259, R265). -/
structure SentSt where
  fast     : Word := 0                 -- R264 | `FastValue` | S
  fastPrev : Word := 0                 -- R259 | fast value of the accepted frame before | S
  startAt  : Option Nat := none        -- R259 | falling edge that started the last accepted frame, lane time | S
  stopAt   : Option Nat := none        -- R259 | completion of the last accepted frame | S
  startPrev : Option Nat := none       -- R259 | the same, frame before | S
  tick     : Option Nat := none        -- R258 | measured tick of the previous frame | S
  slow     : Word := 0                 -- R264 | `SlowMessage` | S
  flags    : Half := 0                 -- R265 | `SentStatus` | S
  errors   : Word := 0                 -- R264 | `FrameErrors` | S
  deriving DecidableEq, Repr

/-- Feedback of one lane. -/
structure FeedbackSt where
  ports    : Vector FbPortSt 8 := Vector.replicate 8 {}  -- R242 | ports `FB0`–`FB7` | S
  sent     : Vector SentSt 4 := Vector.replicate 4 {}    -- R257 | inputs `SENT0`–`SENT3` | S
  tetherOn : Bool := false             -- R263 | `OutputStatus` bit 0 | S
  tetherCut : Bool := false            -- R263 | `OutputStatus` bit 1 | S
  reelOn   : Bool := false             -- R263 | `OutputStatus` bit 2 | S
  reelHeld : Bool := false             -- R263 | `OutputStatus` bit 3 | S
  reelAcc  : Int := 0                  -- R256 | `REEL` accumulator | S
  reelState : BitVec 2 := 0            -- R256 | `REEL` output quadrature state, B·A | S
  reelIndex : Bool := false            -- R256 | `REEL` output I | S
  reelCount : Word := 0                -- R263 | `ReelCount` | S
  deriving DecidableEq, Repr

/-! ### Machine safety functions (11_machine_safety.md) -/

/-- State of one safety-function instance: the four state words of R327, field by field. -/
structure InstSt where
  state    : BitVec 2 := 0        -- R323 | 0 TRIPPED, 1 CLEAR, 2 DEGRADED, 3 LOCKED | S
  armed    : Bool := false        -- R327 | `ARMED` | S
  bothOpen : Bool := false        -- R327 | both channels open in one tick since LOCKED was entered | S
  cause    : BitVec 2 := 0        -- R327 | `LOCKCAUSE` | S
  first    : BitVec 2 := 0        -- R327 | `TWOHAND`: channel that closed first | S
  degRun   : Bool := false        -- R327 | degraded timer running | S
  resetOn  : Bool := false        -- R327 | reset source active | S
  hold     : Bool := false        -- R327 | category 2 hold in force | S
  degTimer : Word := 0            -- R327 | degraded timer, ticks | S
  disc     : Word := 0            -- R327 | discrepancy timer, ticks | S
  resetFor : Word := 0            -- R327 | time for which the reset source has been active, ticks | S
  deriving DecidableEq, Repr

/-! ### Lead pass, tail pass and signatures (09_time_redundant_execution.md) -/

/-- The engine state at the last good window end (R275). -/
structure Checkpoint where
  slots  : NMap SlotSt := []                                     -- R275 | slot state lines | S
  traj   : Vector (F32 × F32) 32 := Vector.replicate 32 (0, 0)   -- R275 | trajectory words | S
  trajOn : BitVec 32 := 0                                        -- R275 | started generators | S
  wind   : Vector WindingSt 8 := Vector.replicate 8 {}           -- R275 | `DQCUR` state; the counters of the winding are not restored | S
  inst   : Vector InstSt 24 := Vector.replicate 24 {}            -- R275 | safety-function state words | S
  deriving DecidableEq, Repr

/-- A paired resident job on a comparator channel 16 to 31 (R285). -/
structure PairSt where
  leadClosed : Bool := false         -- R285 | the lead thread has closed | S
  tailClosed : Bool := false         -- R285 | the tail thread has closed | S
  closedAt   : Option Nat := none    -- R285 | tick of the first close | S
  repeats    : Nat := 0              -- R285 | repeats of the present job | S
  deriving DecidableEq, Repr

/-- Pass comparison of one lane. -/
structure PassSt where
  lead     : Vector Long 32 := Vector.replicate 32 0xFFFFFFFFFFFFFFFF  -- R273 | lead signature registers | S
  tail     : Vector Long 32 := Vector.replicate 32 0xFFFFFFFFFFFFFFFF  -- R273 | tail signature registers | S
  used     : BitVec 32 := 0            -- R274 | channels fed in the present window | S
  ckpt     : Checkpoint := {}          -- R275 | checkpoint of the open epoch | S
  pairs    : Vector PairSt 16 := Vector.replicate 16 {}  -- R285 | thread pairs, channels 16 to 31 | S
  dutyBad  : Option (Fin 8) := none    -- R272 | a duty mismatch of this tick awaits its restore | S
  restoring : Bool := false            -- R276 | this tick is a restore tick | S
  bad      : BitVec 32 := 0            -- R278 | channels with an uncorrectable delay-register error in the present window | S
  stuck    : Bool := false             -- R281 | the comparator does not report a difference (an upset) | S
  recent   : List Nat := []            -- R277 | lane times of the mismatches of the last 1 s | S
  ends     : Nat := 0                  -- R280 | window ends since the last tagged test | S
  target   : Nat := 0                  -- R280 | next target, 0 to 8 channels, 9 duty comparator | S
  chanBit  : Nat := 0                  -- R280 | bit position for channels | S
  dutyBit  : Nat := 0                  -- R280 | bit position for the duty comparator | S
  again    : Bool := false             -- R281 | the last tagged test is to be repeated | S
  dutyTag  : Bool := false             -- R280 | the next duty compare is tagged | S
  dutyMis  : Word := 0                 -- R288 | `DutyMismatches` | S
  sigMis   : Word := 0                 -- R288 | `SignatureMismatches` | S
  softMis  : Word := 0                 -- R288 | `SoftwareMismatches` | S
  restores : Word := 0                 -- R288 | `Restores` | S
  lastTick : Word := 0                 -- R288 | `LastMismatchTick` | S
  lastSrc  : Byte := 255               -- R288 | `LastMismatchSource` | S
  tagged   : Word := 0                 -- R288 | `TaggedTests` | S
  tagRep   : Word := 0                 -- R288 | `TaggedRepeats` | S
  eccCorr  : Word := 0                 -- R288 | `DelayEccCorrected` | S
  eccUnc   : Word := 0                 -- R288 | `DelayEccUncorrected` | S
  agreeInc : Word := 0                 -- R288 | `AgreeIncomplete` | S
  agreeDis : Word := 0                 -- R288 | `AgreeDisagree` | S
  incNow   : Bool := false             -- R284 | agreement incomplete in this tick (`AGREEINC`) | S
  sinPrev  : BitVec 12 := 0            -- R282 | agreed `SIN` values | S
  edmPrev  : BitVec 4 := 0             -- R282 | agreed `EDM` values | S
  whistle  : Bool := false             -- R282 | agreed `WHISTLE` | S
  ainPrev  : Vector Half 4 := Vector.replicate 4 0   -- R282 | agreed `AIN` conversions | S
  ainMark  : BitVec 4 := 0             -- R282 | agreed `AIN` values held stale or invalid | S
  psetPrev : Word := 0                 -- R282 | agreed `PSET` value | S
  psetMark : Bool := false             -- R282 | the agreed `PSET` value is held stale or invalid | S
  deriving DecidableEq, Repr

/-! ### Fault collection and self-test (10_faults_and_selftest.md) -/

/-- An event record, field by field (R297); `at` is the lane time of detection, for R298. -/
structure EventRec where
  time  : Long
  tick  : Word
  src   : Half
  mode  : Byte
  role  : Byte
  syn   : Word
  unit  : Half
  seq   : Half
  at'   : Nat
  deriving DecidableEq, Repr

/-- An armed injection (R303). -/
structure Injection where
  checker : Nat
  pattern : Nat
  react   : Bool
  until'  : Nat
  deriving DecidableEq, Repr

/-- One rotating self-test (R306, R307). -/
structure TestSt where
  passedAt : Option Nat := none   -- R307 | lane time of the last completion with a pass | S
  failed   : Bool := false        -- R307 | failed and not yet passed since | S
  unit     : Nat := 0             -- R306 | unit or block whose turn is next | S
  startedAt : Option Nat := none  -- R306 | lane time of the start of the run in progress | S
  deriving DecidableEq, Repr

/-- Fault collector, kennels, injection, BIST and self-tests of one lane. -/
structure FaultSt where
  history   : List EventRec := []        -- R298 | `History`, oldest first, at most 32 | S
  overwritten : Word := 0                -- R310 | `Overwritten` | S
  suppressed : Word := 0                 -- R310 | `Suppressed` | S
  first     : Option EventRec := none    -- R299 | `FirstRecord` | S
  later     : Word := 0                  -- R310 | `LaterCount` | S
  seq       : Half := 0                  -- R297 | next event sequence number | S
  kPorts    : BitVec 8 := 0              -- R312 | kennelled motor ports | S
  kCans     : BitVec 4 := 0              -- R312 | kennelled CAN ports | S
  kCores    : BitVec 2 := 0              -- R312 | kennelled application cores 2 and 3 | S
  kSlots    : BitVec 192 := 0            -- R310 | `KennelledSlots` | S
  kChans    : BitVec 192 := 0            -- R310 | `KennelledChannels` | S
  kAdcs     : BitVec 16 := 0             -- R312 | kennelled converters | S
  kUnits    : BitVec 16 := 0             -- R310 | `KennelledUnits` | S
  refusals  : Half := 0                  -- R310 | `ReleaseRefusals` | S
  injStatus : Byte := 0                  -- R310 | `InjectStatus` | S
  armed     : Option Injection := none   -- R303 | armed injection | S
  bistResult : Half := 0                 -- R310 | `BistResult` | S
  bistTime  : Half := 0                  -- R310 | `BistTime` | S
  unusable  : BitVec 4 := 0              -- R305 | units marked unusable: P12, P13, P14, P15 | S
  degreq    : BitVec 2 := 0              -- R296, R301 | `DEGREQ` | S
  tests     : Vector TestSt 13 := Vector.replicate 13 {}   -- R306 | rotating self-tests 1 to 12 | S
  lastTest  : Half := 0                  -- R84, R307 | `LastRotatingTest` | S
  coverage  : Half := 0                  -- R84, R307 | `SelfTestCoverage` | S
  corrected : Word := 0                  -- R84 | `CorrectedCount` | S
  contained : Word := 0                  -- R84 | `ContainedCount` | S
  fatal     : Half := 0                  -- R84 | `FatalCount` | S
  haltedAt  : Option Nat := none         -- R294 | lane time of the halt | S
  deriving DecidableEq, Repr

/-- Channel status (R322). -/
inductive ChStat where
  | opened | closed | lost
  deriving DecidableEq, Repr

/-- One `SIN` terminal in its own lane (R317 to R320). -/
structure SinSt where
  closed   : Bool := false        -- R317 | the filtered channel is closed | S
  faulted  : Bool := false        -- R319 | the channel is faulted | S
  misses   : Nat := 0             -- R319 | consecutive pulses that failed the check | S
  crosses  : Vector Nat 6 := Vector.replicate 6 0   -- R319 | consecutive cross-circuits with each other `TPO` | S
  passes   : Nat := 0             -- R320 | consecutive passing pulses while faulted | S
  deriving DecidableEq, Repr

/-- One `TPO` output (R318). -/
structure TpoSt where
  pulsing  : Bool := false        -- R318 | driven low by a pulse | S
  faulted  : Bool := false        -- R318 | the output is faulted | S
  deriving DecidableEq, Repr

/-- One `SOUT` output (R331 to R335, R350). -/
structure SoutSt where
  cmd      : Bool := false        -- R350 | `CMD`, energise commanded | S
  readback : Bool := false        -- R350 | `READBACK` | S
  locked   : Bool := false        -- R350 | `LOCKOFF` | S
  cause    : BitVec 2 := 0        -- R350 | `LOCKCAUSE` | S
  openload : Bool := false        -- R350 | `OPENLOAD` | S
  deferred : Bool := false        -- R350 | `DEFERRED` | S
  edm      : Bool := false        -- R350 | `EDM`, feedback contact closed | S
  dark     : Bool := false        -- R332 | a dark pulse is in progress | S
  darkTick : Option Nat := none   -- R333 | tick of the deferred pulse | S
  changedAt : Option Nat := none  -- R333, R335 | lane time of the last change of the commanded state | S
  onFor    : Nat := 0             -- R333 | energised time since the last completed pulse, 2.5 ns counts | S
  overrun  : Bool := false        -- R333 | source 343 has been raised for the present interval | S
  edmBadAt : Option Nat := none   -- R335 | lane time since which the feedback is away from its expected state | S
  deriving DecidableEq, Repr

/-- One train of the pulse plan (R336). -/
structure PulseTrain where
  lane   : LaneId
  isTpo  : Bool
  num    : Nat
  offset : Nat
  period : Nat      -- ms
  width  : Nat      -- µs
  deriving DecidableEq, Repr

/-- One copy of a safe-data input (R339, R340). -/
structure SdCopy where
  valid    : Bool := false        -- R339 | valid in the present cycle | S
  clash    : Bool := false        -- R339 | valid copies of different entries differed in this cycle | S
  block    : List Byte := []      -- R339 | the 16 bytes of the valid block of this cycle | S
  value    : Option Bool := none  -- R340 | last accepted value | S
  age      : Nat := 0             -- R340 | cycles since the last accepted value | S
  lost     : Bool := true         -- R340 | the copy is reported lost | S
  alive    : Option Byte := none  -- R339, R342 | last accepted alive value | S
  deriving DecidableEq, Repr

/-- One check-value unit (R341, R342, R468). -/
structure CvuSt where
  running  : Word := 0xFFFFFFFF   -- R468 | `CVU_VALUE`, running value before the final XOR | S
  expect   : Word := 0            -- R468 | `CVU_EXPECT` | S
  buf      : Vector Word 16 := Vector.replicate 16 0   -- R468 | `CVU_BUF0`–`15` | S
  result   : Word := 0            -- R468 | `CVU_RESULT` | S
  mismatch : Bool := false        -- R468 | `MISMATCH` | S
  skip     : Bool := false        -- R468 | `SKIP` | S
  reject   : Bool := false        -- R468 | `ALIVEREJ` | S
  ctrlRef  : Bool := false        -- R468 | `CTRLREF` | S
  last     : Byte := 0            -- R468 | `LAST` of `CVU_ALIVE` | S
  first    : Bool := true         -- R468 | `FIRST` of `CVU_ALIVE` | S
  aliveSkip : BitVec 4 := 0       -- R468 | `ALIVESKIP` | S
  postFlow : BitVec 6 := 0        -- R468 | `POSTFLOW` | S
  postEn   : Bool := false        -- R468 | `POSTEN` | S
  deriving DecidableEq, Repr

/-- Safety functions, safety I/O, safe data and check-value units of one lane. -/
structure SafetySt where
  inst     : Vector InstSt 24 := Vector.replicate 24 {}   -- R323 | safety-function instances as computed | S
  appliedInst : BitVec 48 := 0                            -- R323, R328 | applied states, 2 bits each | S
  sin      : Vector SinSt 12 := Vector.replicate 12 {}    -- R317 | `SIN0`–`SIN11` | S
  tpo      : Vector TpoSt 6 := Vector.replicate 6 {}      -- R318 | `TPO0`–`TPO5` | S
  sout     : Vector SoutSt 4 := Vector.replicate 4 {}     -- R331 | `SOUT0`–`SOUT3` | S
  sinvNow  : Word := 0xFFFFFF                             -- R321, R322 | `SINV` frozen at this tick start | S
  sdvNow   : BitVec 96 := 0                               -- R321, R322 | `SDV` frozen at this tick start | S
  sinvPrev : Word := 0xFFFFFF                             -- R322 | `SINV` of the block sent in the previous tick | S
  sdvPrev  : BitVec 96 := 0                               -- R322 | `SDV` of the block sent in the previous tick | S
  term     : Vector ChStat 36 := Vector.replicate 36 .lost  -- R322 | status of the terminals, 12 × lane + n | S
  sdStat   : Vector ChStat 48 := Vector.replicate 48 .lost  -- R322 | status of the safe-data copies, 2 × input + copy | S
  plan     : List PulseTrain := []                        -- R336 | pulse plan | S
  sd       : Vector (SdCopy × SdCopy) 24 := Vector.replicate 24 ({}, {})  -- R340 | safe-data inputs, copies A and B | S
  cvu      : Vector CvuSt 16 := Vector.replicate 16 {}    -- R341 | check-value units | S
  incomplete : Word := 0                                  -- R349 | `PulseIncomplete` | S
  expMis   : Word := 0                                    -- R351 | `ExpectMismatches` | S
  aliveRej : Word := 0                                    -- R351 | `AliveRejects` | S
  safeMis  : Word := 0                                    -- R351 | `SafeMismatches` | S
  category : Option (BitVec 2) := none                    -- R329 | stop demand of this lane: 0 category 0, 1 category 1 | S
  deriving DecidableEq, Repr

/-! ### Jalsyn (12_jalsyn_network.md) -/

/-- `SYNCSTATE` (R381). -/
inductive SyncState where
  | listen | wait | launch | integrating | sync | silent | refused
  deriving DecidableEq, Repr

/-- A reference frame as taken (R370). -/
structure RefFrame where
  cycleStart : Long
  txOffset   : Word
  cycleLen   : Word
  schedId    : Word
  rank       : Nat
  node       : Nat
  cycle      : Half
  launch     : Bool
  start      : Int       -- start delimiter, receiver's global time, ns
  deriving DecidableEq, Repr

/-- One Jalsyn buffer: payload and status word (R369). -/
structure BufSt where
  data   : List Byte := []        -- R369 | payload of the last delivery, or the page to be sent | S
  page   : List Byte := []        -- R469 | the page that the application writes or reads | S
  slen   : Nat := 0               -- R369, R469 | payload length of `data` | S
  fresh  : Bool := false          -- R369 | `FRESH` | S
  chanB  : Bool := false          -- R369 | channel of the delivered copy | S
  pair   : BitVec 3 := 0          -- R369 | pair status | S
  cycle  : Half := 0              -- R369 | cycle counter of the delivery | S
  deriving DecidableEq, Repr

/-- What one receive or transmit entry has seen in the present cycle (R364, R366, R367). -/
structure EntryCyc where
  gotA    : Bool := false              -- R366 | a valid copy arrived on channel A | S
  gotB    : Bool := false              -- R366 | a valid copy arrived on channel B | S
  endB    : Option Int := none         -- R366 | end of the copy on B | S
  dataA   : List Byte := []            -- R367 | payload of copy A | S
  dataB   : List Byte := []            -- R367 | payload of copy B | S
  captured : Option (List Byte) := none -- R364 | content captured at the read instant | S
  ended    : Bool := false             -- R367 | the acceptance window of this cycle has ended | S
  read     : Bool := false             -- R364 | the read instant of this cycle has passed | S
  deriving DecidableEq, Repr

/-- Counters of one Jalsyn channel (R382). -/
structure ChanCount where
  framesTx : Word := 0       -- R382 | `FramesTx` | S
  framesRx : Word := 0       -- R382 | `FramesRx` | S
  fcs      : Word := 0       -- R382 | `FcsErrors` | S
  unknown  : Word := 0       -- R382 | `UnknownFrames` | S
  cycMis   : Word := 0       -- R382 | `CycleMismatch` | S
  window   : Word := 0       -- R382 | `WindowViolations` | S
  emptyRx  : Word := 0       -- R382 | `EmptyRx` | S
  emptyTx  : Word := 0       -- R382 | `EmptyTx` | S
  refMiss  : Word := 0       -- R382 | `RefMissing` | S
  second   : Word := 0       -- R382 | `SecondCopies` | S
  differ   : Word := 0       -- R382 | `SecondDiffer` | S
  incompl  : Word := 0       -- R382 | `BothIncomplete` | S
  downs    : Half := 0       -- R382 | `LinkDowns` | S
  dup      : Half := 0       -- R382 | `DuplicateNode` | S
  collide  : Half := 0       -- R382 | `LaunchCollisions` | S
  deriving DecidableEq, Repr

/-- One Jalsyn channel of a lane. -/
structure ChanSt where
  linkUp   : Bool := false             -- R381 | PHY link up | D
  downAt   : Option Nat := none        -- R374 | lane time at which the link dropped | S
  lost     : Bool := false             -- R374 | channel lost | S
  heard    : Bool := false             -- R374 | a valid frame arrived in this cycle | S
  quiet    : Nat := 0                  -- R374 | consecutive cycles without a valid frame | S
  refRun   : Nat := 0                  -- R374 | consecutive cycles with a valid reference | S
  refHere  : Bool := false             -- R371 | a valid reference started in this cycle | S
  taken    : Option RefFrame := none   -- R371 | the reference taken in this cycle | S
  cnt      : ChanCount := {}           -- R382 | counters of the channel | S
  deriving DecidableEq, Repr

/-- Jalsyn of one lane. -/
structure NetSt where
  sync     : SyncState := .listen      -- R381 | `SYNCSTATE` | S
  chA      : ChanSt := {}              -- R353 | channel A | S
  chB      : ChanSt := {}              -- R353 | channel B | S
  portsOff : Bool := true              -- R420 | the Jalsyn ports are off | S
  gbase    : Int := 0                  -- R359 | global time at the last cycle start, ns | S
  cbase    : Nat := 0                  -- R359 | lane time of the last cycle start | S
  grid     : Int := 0                  -- R359, R370 | `CYCLESTART` of the present cycle, ns | S
  servoed  : Bool := false             -- R372 | the references of this cycle have been used | S
  cycle    : Half := 0                 -- R380 | `CycleCounter` | S
  offset   : Int := 0                  -- R380 | `Offset`, ns | S
  rPrev    : Int := 0                  -- R372 | offset not yet removed | S
  rho      : Int := 0                  -- R380 | `RateCorrection`, ppb | S
  rateFault : Bool := false            -- R381 | `RATEFAULT` | S
  disagree : Nat := 0                  -- R372 | consecutive cycles of disagreement | S
  goodRefs : Nat := 0                  -- R373 | consecutive good references while silent | S
  resume   : Bool := false             -- R373 | transmits again from the next cycle start | S
  listenLeft : Nat := 3                -- R375 | cycle starts up to the end of the listen period | S
  launches : Nat := 0                  -- R375 | launch references sent in consecutive cycles | S
  firstRef : Option RefFrame := none   -- R375 | the first reference held while integrating | S
  refuse   : BitVec 2 := 0             -- R381 | `REFUSECAUSE` | S
  mRank    : BitVec 2 := 0             -- R381 | `MASTERRANK` | S
  mNode    : BitVec 6 := 0             -- R381 | `MASTERNODE` | S
  bufs     : NMap BufSt := []          -- R360 | buffers 0 to 511 and the health frames 512 to 514; unlisted = empty | S
  entries  : NMap EntryCyc := []       -- R364, R366 | entries in the present cycle; unlisted = nothing yet | S
  slotCnt  : NMap Word := []           -- R380 | `SlotCounters`; unlisted = 0 | S
  parityBad : NMap Bool := []          -- R378 | entries disabled for a parity error | S
  unequal  : Word := 0                 -- R382 | `BothUnequal` | S
  refDis   : Word := 0                 -- R382 | `RefDisagree` | S
  reint    : Half := 0                 -- R382 | `Reintegrations` | S
  reject   : Half := 0                 -- R380 | `ScheduleReject` | S
  sent     : List (Chan × JalsynFrame) := []   -- R356 | frames sent in the present cycle, newest first | S
  cpeSeen  : BitVec 16 := 0            -- R377 | cycle points fired in the present cycle | S
  everSync : Bool := false             -- R359 | the lane has been synchronised | S
  deriving DecidableEq, Repr

/-! ### Object dictionary and CAN (13_object_dictionary.md) -/

/-- One open USDO session (R389 to R392). -/
structure UsdoSession where
  path   : Path
  sid    : Byte
  index  : Half
  sub    : Byte
  upload : Bool
  data   : List Byte      -- the snapshot still to send, or the bytes received so far
  size   : Nat            -- announced size of a download
  last   : Nat            -- lane time of the last segment
  deriving DecidableEq, Repr

/-- What the server answered to the last request (R385, R396). -/
structure UsdoReply where
  path  : Option Path     -- the path of the transfer, where the command names it
  sid   : Byte
  abort : Option Word     -- abort code, none = success
  data  : List Byte       -- bytes returned
  last  : Bool            -- the session is over
  deriving DecidableEq, Repr

/-- A replication for which this lane is the entry lane (R399, R401). -/
structure Replication where
  seq     : Byte
  index   : Half
  sub     : Byte
  len     : Nat
  value   : Long
  path    : Path
  sid     : Byte
  sentAt  : Nat                  -- tick of the first PREPARE
  resent  : Bool
  accepts : List LaneId
  applyAt : Option Nat           -- tick named by COMMIT
  deriving DecidableEq, Repr

/-- A PREPARE that this lane has accepted (R399, R401, R402). -/
structure Prepared where
  origin  : LaneId
  seq     : Byte
  index   : Half
  sub     : Byte
  value   : Long
  at'     : Nat                  -- tick of the ACCEPT
  applyAt : Option Nat
  deriving DecidableEq, Repr

/-- One CAN port (R409, R410). -/
structure CanSt where
  errState : BitVec 2 := 3       -- R410 | `ERRSTATE`, 3 = off | D
  txErr    : Byte := 0           -- R409 | `TxErrorCount` | S
  rxErr    : Byte := 0           -- R409 | `RxErrorCount` | S
  busOffs  : Half := 0           -- R409 | `BusOffEvents` | S
  framesRx : Word := 0           -- R409 | `FramesRx` | S
  framesTx : Word := 0           -- R409 | `FramesTx` | S
  nextBeat : Option Nat := none  -- R408 | lane time of the next heartbeat | S
  tx       : List CanFrame := []     -- R385, R408, R464 | frames handed to the port and not yet sent, oldest first | S
  deriving DecidableEq, Repr

/-- Dictionary server, replication and CAN ports of one lane. -/
structure DictSt where
  rw       : NMap (List Byte) := []       -- R394 | written values of `RW` objects; unlisted = default | S
  nodeId   : Nat := 0                     -- R388 | `ActiveNodeId` | S
  sessions : List UsdoSession := []       -- R390 | open USDO sessions | S
  reply    : Option UsdoReply := none     -- R385 | the last answer of the server | S
  tunnelQ  : List (List Byte) := []       -- R386 | responses waiting for the tunnel transmit buffer, oldest first | S
  refusals : Word := 0                    -- R412 | `SessionRefusals` | S
  aborts   : Word := 0                    -- R412 | `AbortsSent` | S
  repFails : Word := 0                    -- R412 | `ReplicationFailures` | S
  ignored  : Word := 0                    -- R412 | `TunnelIgnored` | S
  seq      : Byte := 0                    -- R400 | next replication number | S
  open'    : Option Replication := none   -- R401 | replication in which this lane is the entry lane | S
  held     : List Prepared := []          -- R402 | accepted PREPAREs | S
  txFwd    : List DictBlock := []         -- R400 | messages queued for the forward link, in sending order | S
  txBack   : List DictBlock := []         -- R400 | messages queued for the back link | S
  can      : Vector CanSt 4 := Vector.replicate 4 {}  -- R409 | ports `CAN0`–`CAN3` | S
  deriving DecidableEq, Repr

/-! ### Images, security and logbook (14_images_and_security.md) -/

/-- Roles of a configuration slot pair (R418). -/
inductive SlotRole where
  | staged | active | previous
  deriving DecidableEq, Repr

/-- The slot directory: pair (0 to 2), version and digest of each role (R418). -/
structure SlotDir where
  staged   : Nat := 0                        -- R418 | pair of the STAGED role | D
  active   : Nat := 1                        -- R418 | pair of the ACTIVE role | D
  previous : Nat := 2                        -- R418 | pair of the PREVIOUS role | D
  vStaged  : Word := 0                       -- R418 | version of STAGED, 0 empty | S
  vActive  : Word := 0                       -- R418 | version of ACTIVE, 0 empty | S
  vPrevious : Word := 0                      -- R418 | version of PREVIOUS, 0 empty | S
  dStaged  : List Byte := []                 -- R418 | digest of STAGED | S
  dActive  : List Byte := []                 -- R418 | digest of ACTIVE | S
  dPrevious : List Byte := []                -- R418 | digest of PREVIOUS | S
  seq      : Word := 0                       -- R418 | sequence number of both copies | D
  deriving DecidableEq, Repr

/-- The boot record (R425, R427). -/
structure BootRecord where
  runningB : Bool := false                   -- R425 | the running slot is B | D
  trial    : Bool := false                   -- R427 | trial flag | S
  confirmed : Bool := false                  -- R448 | confirmed since the last activation | S
  emptyA   : Bool := false                   -- R427 | slot A is marked empty | D
  emptyB   : Bool := true                    -- R427 | slot B is marked empty | D
  tried    : Bool := false                   -- R428 | the slot in trial has been started once | S
  fallbacks : Half := 0                      -- R448 | `Fallbacks` | S
  deriving DecidableEq, Repr

/-- A stored key pair, two copies (R429). -/
structure KeyCopies where
  first  : List Byte := []                   -- R429 | first copy: Ed25519 key, ML-DSA-65 key | D
  second : List Byte := []                   -- R429 | second copy | D
  deriving DecidableEq, Repr

/-- A logbook capture (R439). -/
structure Capture where
  time   : Long
  tick   : Word
  source : Half
  trunc  : Bool
  pre    : Nat                -- pre-trigger samples
  post   : Nat                -- post-trigger samples wanted
  left   : Nat                -- post-trigger samples still to take
  age    : Nat                -- samples recorded since the trigger
  divider : Byte
  signals : List Half
  samples : List (List F32)   -- oldest first
  fatal   : Bool              -- the capture of a FATAL trigger
  deriving DecidableEq, Repr

/-- A marker (R440). -/
structure Marker where
  time   : Long
  tick   : Word
  source : Half
  deriving DecidableEq, Repr

/-- The lane's managed storage and what else outlives a loss of power (R437, R509). -/
structure NvStore where
  regions  : Vector (List Byte) 6 := Vector.replicate 6 []   -- R418 | regions `CS0`–`CS5`, trailing zeros left out | D
  dir      : SlotDir := {}                                   -- R418 | slot directory | D
  fwA      : List Byte := []                                 -- R425 | firmware slot A | D
  fwB      : List Byte := []                                 -- R425 | firmware slot B | D
  boot     : BootRecord := {}                                -- R425 | boot record | D
  keys     : Vector KeyCopies 12 := Vector.replicate 12 {}   -- R429 | key copies | D
  attestOk : Bool := false                                   -- R434 | an attestation key pair is held | S
  attestId : Nat := 0                                        -- R434 | which generated pair is held (its keys are free values) | D
  attestZero : Bool := false                                 -- R449 | `AttestState` | S
  captures : List Capture := []                              -- R439 | capture ring, newest first | S
  trend    : List (Long × List F32) := []                    -- R442 | trend ring, newest first | S
  sessions : Half := 0                                       -- R432 | session count | D
  bad      : Bool := false                                   -- R417 | storage reports an uncorrectable error | S
  deriving DecidableEq, Repr

/-- One-time-programmable memory (R426, R429). Its bits only rise. -/
structure Otp where
  counter : BitVec 255 := 0                                  -- R426 | security counter, one fuse per step | D
  prints  : Vector (BitVec 256) 12 := Vector.replicate 12 0  -- R429 | fingerprints of the key slots | D
  burnt   : BitVec 12 := 0                                   -- R429 | slots whose fingerprint is burnt | D
  revoked : BitVec 12 := 0                                   -- R429 | revocation bits | S
  deriving DecidableEq, Repr

/-- Service session, staging, loading and logbook work of one lane. -/
structure ImageSt where
  stagingStatus : Byte := 0              -- R445 | `StagingStatus` | S
  stagingGot : Nat := 0                  -- R445 | `StagingReceived` | S
  stStaged : Byte := 0                   -- R445 | `StagedStatus` | S
  stActive : Byte := 0                   -- R445 | `ActiveStatus` | S
  stPrevious : Byte := 0                 -- R445 | `PreviousStatus` | S
  busy     : List (Nat × Word × Byte) := [] -- R446 | slot commands running, oldest first: 1 Stage to 4 Revert, version, result | S
  mismatch : Bool := false               -- R446 | `MISMATCH` | S
  fwMismatch : Bool := false             -- R446 | `FWMISMATCH` | S
  level    : Bool := false               -- R421 | every live lane holds a valid ACTIVE image, as last compared | S
  copyResult : BitVec 2 := 0             -- R446 | `COPYRESULT` | S
  copySlot : BitVec 3 := 0               -- R446 | `COPYSLOT` | S
  repairs  : Half := 0                   -- R445 | `CopyRepairs` | S
  lastResult : Byte := 0                 -- R445 | `LastCommandResult` | S
  loadStatus : Byte := 0                 -- R448 | `LoadStatus` | S
  loadGot  : Nat := 0                    -- R427 | firmware bytes received | S
  stA      : Byte := 0                   -- R448 | `StatusA` | D
  stB      : Byte := 0                   -- R448 | `StatusB` | D
  trialTicks : Nat := 0                  -- R428 | consecutive ticks in which records were sent while in trial | S
  trialFrom : Nat := 0                   -- R428 | lane time of the reset that began the trial | S
  nonce    : Option (List Byte) := none  -- R432 | the valid challenge, 48 bytes | S
  nonceAt  : Nat := 0                    -- R432 | lane time of the challenge | S
  session  : Option (Path × Nat × Nat × Nat) := none  -- R432 | open session: path, end (lane time), `EDSLOT`, `MLSLOT` | S
  failures : List Nat := []              -- R432 | lane times of the failed responses of the last 10 min | S
  lockout  : Option Nat := none          -- R432 | lane time at which the lockout ends | S
  authFails : Half := 0                  -- R450 | `AuthFailures` | S
  rcPending : NMap (List Byte) := []     -- R395, R433 | `RC` writes of the session, not yet in effect | S
  signature : List Byte := []            -- R449 | `AttestSignature` | S
  debug    : Bool := false               -- R436 | debug access is unlocked | S
  markers  : List Marker := []                           -- R440 | `MarkerList`, oldest first | S
  markerN  : Word := 0                   -- R451 | `Markers` | S
  ring     : List (List F32) := []       -- R438 | SRAM log ring, newest first, at most 32 768 samples | S
  pending  : List Capture := []          -- R440 | pending captures, oldest first | S
  descs    : List Marker := []           -- R510, R511 | descriptors of triggers found pending after a reset | S
  trendSum : List F32 := []              -- R442 | sums of the trend signals in the present 10 ms | S
  trendN   : Nat := 0                    -- R442 | samples in `trendSum` | S
  erasing  : Bool := false               -- R451 | `LogStatus` bit 1 | S
  truncated : Bool := false              -- R451 | `LogStatus` bit 2 | S
  deriving DecidableEq, Repr

/-! ### Scheduler and application window (15_scheduler_application.md) -/

/-- An item of a flow (R459). -/
structure Item where
  tag  : Word
  info : Word
  data : List Byte        -- as many bytes as `INFO` bits 6 to 0 say
  deriving DecidableEq, Repr

/-- What a WAITING thread waits for (R452, R455, R461). -/
inductive WaitFor where
  | tick                      -- next tick start
  | cycle                     -- next Jalsyn cycle start
  | delay (until' : Nat)      -- lane time, 2.5 ns counts
  | item (flow : Fin 64)      -- an item of a flow
  deriving DecidableEq, Repr

/-- State of an application thread, with what it waits for or where it runs (R452). -/
inductive RunState where
  | dormant
  | ready
  | running (core3 : Bool)
  | waiting (w : WaitFor)
  | faulted
  deriving DecidableEq, Repr

/-- One application thread context with its window staging registers (R452, R465). -/
structure ThreadSt where
  run      : RunState := .dormant      -- R452 | thread state | S
  prio     : Option (Fin 16) := none   -- R466 | priority set by `SCH_PRIO`; none = the configured one | S
  cleared  : Bool := false             -- R466 | registers were cleared and the entry address loaded by the last start | S
  core3    : Option Bool := none       -- R466 | `CORE` of `SCH_STATE`, last core; none = 0 | S
  dispatches : Half := 0               -- R466 | `DISPATCHES` | S
  preempts : Word := 0                 -- R466 | `SCH_PREEMPTS` | S
  schRes   : BitVec 3 := 0             -- R466 | `SCH_RESULT` | S
  pflow    : BitVec 6 := 0             -- R467 | `FLW_PFLOW` | S
  ptag     : Word := 0                 -- R467 | `FLW_PTAG` | S
  plen     : BitVec 7 := 0             -- R467 | `FLW_PLEN` | S
  pdata    : Vector Word 16 := Vector.replicate 16 0   -- R467 | `FLW_PDATA0`–`15` | S
  presult  : BitVec 3 := 0             -- R467 | `FLW_PRESULT` | S
  tresult  : BitVec 3 := 0             -- R467 | `FLW_TRESULT` | S
  held     : Option (Fin 64 × Item) := none            -- R461, R467 | held item (`FLW_TTAG`, `FLW_TINFO`, `FLW_TDATA`) | S
  jsnSel   : BitVec 9 := 0             -- R469 | `JSN_SEL` | S
  jsnPage  : List Byte := []           -- R469 | receive page fixed by `JSN_SEL` | S
  jsnSince : Nat := 0                  -- R469 | deliveries since the selection, up to 2; `JSN_VALID` = 0 at 2 | S
  jsnLen   : BitVec 11 := 0            -- R469 | `JSN_LEN` | S
  jsnRes   : BitVec 2 := 0             -- R469 | `JSN_RESULT` | S
  flaSyn   : Word := 0                 -- R471 | `FLA_SYNDROME` | S
  flaUnit  : Half := 0                 -- R471 | `FLA_UNIT` | S
  hrec     : Option EventRec := none   -- R471 | `FLA_HREC0`–`5`; none = `HVALID` 0 | S
  lgcRes   : BitVec 2 := 0             -- R472 | `LGC_RESULT` | S
  timeHi   : Word := 0                 -- R473 | `TIM_TIMEHI` | S
  deriving DecidableEq, Repr

/-- Who is served with the item in service of a flow (R461, R464). -/
inductive Server where
  | thread (t : Fin 128)
  | port (n : Fin 4)
  | resident
  deriving DecidableEq, Repr

/-- One atomic flow (R460, R461). -/
structure FlowSt where
  queue   : List Item := []            -- R460 | queued items, oldest first | S
  serving : Option (Server × Item) := none   -- R461 | item in service | S
  waiters : List (Fin 128) := []       -- R461 | waiting threads, in order of arrival | S
  refused : Half := 0                  -- R467 | `REFUSED` | S
  deriving DecidableEq, Repr

/-- Scheduler, flows and application window of one lane. -/
structure SchedSt where
  threads  : NMap ThreadSt := []       -- R452 | application threads 128 + i; unlisted = DORMANT with cleared staging | S
  ready    : List (Fin 128) := []      -- R453 | ready threads; those of one priority stand in the order of their list | S
  core2    : Option (Fin 128) := none  -- R454 | thread running on core 2 | S
  core3    : Option (Fin 128) := none  -- R454 | thread running on core 3 | S
  flows    : NMap FlowSt := []         -- R458 | the 64 flows; unlisted = empty and idle | S
  flaAt    : Vector (Option Nat) 8 := Vector.replicate 8 none  -- R471 | lane time of the last accepted raise of sources 376 to 383 | S
  flaRef   : Bool := false             -- R471 | `FLA_RRESULT` | S
  flaSeq   : Half := 0                 -- R471 | `FLA_NOTIFY` `SEQ` | S
  flaCount : Half := 0                 -- R471 | `FLA_NOTIFY` `COUNT` | S
  code     : List Byte := []           -- R465 | code region of the application memory, zero beyond | S
  data     : List Byte := []           -- R465 | data region of the application memory, zero beyond | S
  cpe      : Half := 0                 -- R469 | `JSN_CPEFIRED` | S
  stopped  : Bool := false             -- R294, R452 | a halt stopped every application thread | S
  refusals : Word := 0                 -- R475 | `FlowRefusals` | S
  laneRefs : Word := 0                 -- R475 | `LaneRefusals` | S
  drops    : Word := 0                 -- R475 | `HardwareDrops` | S
  faults   : Word := 0                 -- R475 | `ThreadFaults` | S
  deriving DecidableEq, Repr

/-! ### Clocks (16_clocks.md) -/

/-- The frequency meter's channel 1 (R491, R495). -/
structure MeterSt where
  state    : Byte := 0                 -- R495 | `MeterState` | S
  measured : Nat := 0                  -- R495 | measured source of the running measurement | S
  ref      : Nat := 0                  -- R495 | reference source of the running measurement | S
  gate     : Nat := 0                  -- R495 | `GateCycles` of the running measurement | S
  count    : Word := 0                 -- R495 | `Count` | S
  hz       : F32 := 0                  -- R495 | `MeasuredHz` | S
  deriving DecidableEq, Repr

/-- Clock sources, domains and monitors of one lane. -/
structure ClockSt where
  xtal     : Bool := false             -- R494 | `XTALRUN` | S
  rc40     : Bool := false             -- R494 | `RC40RUN` | S
  lprc     : Bool := false             -- R494 | `LPRCRUN` | S
  plla     : Bool := false             -- R494 | `PLLALOCK` | S
  pllb     : Bool := false             -- R494 | `PLLBLOCK` | S
  xtalWin  : Bool := false             -- R494 | `XTALWIN` | S
  clkWait  : Bool := false             -- R494 | `CLKWAIT` | S
  extOsc   : Bool := false             -- R494 | `EXTOSC` | S
  altsrc   : Byte := 0                 -- R494 | `ALTSRC` | S
  domrun   : Byte := 0                 -- R494 | `DOMRUN` | S
  devNow   : Int := 0                  -- R485, R493 | `XtalDeviation`, ppm | S
  devPrev  : Int := 0                  -- R485 | deviation of the gate before, ppm | S
  good     : Nat := 0                  -- R487 | consecutive good gates in clock-wait | S
  lprcLate : Bool := false             -- R492 | an LPRC window trip in DEEP switches `AON` at the next wake | S
  forced   : Bool := false             -- R486 | the outputs are forced by a monitor | S
  failures : Half := 0                 -- R493 | `ClockFailures` | S
  last     : Byte := 0                 -- R493 | `LastFailure` | S
  abandoned : Word := 0                -- R493 | `GatingAbandoned` | S
  meter    : MeterSt := {}             -- R495 | frequency meter | S
  deriving DecidableEq, Repr

/-! ### Supply, resets and power states (17_supply_reset_power.md) -/

/-- What one link's `SAFE`-domain receiver has seen (R507, R515). -/
structure LinkSymbols where
  readyNow : Bool := false             -- R515 | the ready symbol arrived in this tick | S
  readyPrev : Bool := false            -- R515 | the ready symbol arrived in the previous tick | S
  badTicks : Nat := 0                  -- R507 | consecutive ticks with a failing record from a lost peer | S
  sendReset : Nat := 0                 -- R507 | ticks in which a reset request is still to be sent | S
  deriving DecidableEq, Repr

/-- The entry into SLEEP or DEEP in progress (R515). -/
structure Entry where
  deep     : Bool
  apply    : Nat                       -- tick a
  deriving DecidableEq, Repr

/-- Supply, resets, power votes and wake of one lane. -/
structure SupplySt where
  last     : Byte := 1                 -- R526 | `LastReset` | S
  counts   : Vector Half 6 := Vector.replicate 6 0   -- R526 | `ResetCounts`, kinds 2 to 7 | S
  vMin     : F32 := 0x42B40000         -- R526 | `VbatMin`, 90.0 | S
  vMax     : F32 := 0                  -- R526 | `VbatMax` | S
  vLow     : Bool := false             -- R526 | `VBATLOW` | S
  vHigh    : Bool := false             -- R526 | `VBATHIGH` | S
  ovprot   : Bool := false             -- R526 | `OVPROT` | S
  aonHeld  : Bool := false             -- R526 | `AONHELD` | S
  halt     : Bool := false             -- R508 | halt latch | S
  swOpen   : Bool := false             -- R500 | the protection switch is open | S
  aonUp    : Bool := false             -- R497 | the `AON` rail has been held since the last power-on release | S
  kind     : Byte := 1                 -- R503 | kind of the reset that is asserted or ran last | S
  rstn     : Bool := false             -- R505 | `RSTn` is held low | D
  brownout : Bool := true              -- R499 | the lane waits for a power-on release | S
  t0       : Nat := 0                  -- R502 | lane time of the power-on release or of the reset's end | D
  porAt    : Nat := 0                  -- R297, R498 | lane time of the last power-on release | D
  wdAt     : Option Nat := none        -- R506 | lane time of the last service; none = not armed | S
  fwd      : LinkSymbols := {}         -- R507, R515 | symbols on the forward link | S
  back     : LinkSymbols := {}         -- R507, R515 | symbols on the back link | S
  idle     : Bool := false             -- R528 | `PowerState` | S
  votes    : BitVec 14 := 0x3FFF       -- R528 | `Votes` | S
  refusers : BitVec 14 := 0            -- R528 | `Refusers` | S
  gateHeld : BitVec 14 := 0            -- R489, R514 | clients whose clock gate was abandoned in this entry | S
  entry    : Option Entry := none      -- R515 | entry in progress | S
  readySent : Bool := false            -- R515 | the ready symbol has been sent | S
  result   : Byte := 0                 -- R528 | `LastEntryResult` | S
  abandons : Half := 0                 -- R528 | `EntriesAbandoned` | S
  latched  : Option (Nat × Nat) := none -- R518 | wake event latched during entry: kind and detail | S
  dropAt   : Nat := 0                  -- R517 | lane time of the drop | S
  wake     : Half := 0                 -- R529 | `LastWake` | S
  bankBad  : BitVec 4 := 0             -- R529 | `WakeStatus` bits 3 to 0 | S
  wakeDur  : Bool := false             -- R529 | `WAKEDURING` | S
  wakePat  : Bool := false             -- R517 | the wake pattern was sent on both links at the last wake | S
  fromDeep : Bool := false             -- R519, R520 | the start in progress is a wake from DEEP | S
  fromSleep : Bool := false            -- R519 | the start in progress is a wake from SLEEP | S
  deriving DecidableEq, Repr

/-! ### Module (18_module_and_lands.md) -/

/-- Instructions of the test access port (R541). -/
inductive TapInstr where
  | bypass | idcode | samplePreload | extest | clamp | highz
  deriving DecidableEq, Repr

/-- The test access port of one lane (R541, R542). -/
structure TapSt where
  inReset  : Bool := true              -- R541 | `TRSTn` low holds the port in reset | S
  instr    : TapInstr := .idcode       -- R541 | instruction register (IEEE 1149.1: IDCODE after reset) | D
  acts     : TapInstr := .idcode       -- R542 | instruction that acts (EXTEST, CLAMP, HIGHZ act as BYPASS outside reset) | D
  dr       : Word := 0xC3240A5B        -- R541 | selected data register: IDCODE, or the bypass bit | D
  cells    : List Byte := []           -- R541 | boundary cells as last sampled or preloaded | D
  driving  : Bool := false             -- R542 | the boundary cells drive the outputs | S
  floating : Bool := false             -- R542 | the outputs float | S
  deriving DecidableEq, Repr

/-- Straps and die temperature of one lane. -/
structure ModuleSt where
  oscCode  : BitVec 3 := 0             -- R549 | `OscStrapCode` | D
  idCode   : BitVec 3 := 0             -- R549 | `IdStrapCode` | D
  oscMv    : Half := 0                 -- R549 | `OscStrapVoltage` | D
  idMv     : Half := 0                 -- R549 | `IdStrapVoltage` | D
  oscErr   : Bool := false             -- R549 | `OSCERR` | S
  idErr    : Bool := false             -- R549 | `IDERR` | S
  die      : F32 := 0x41C80000         -- R550 | `DieTemperature`, 25.0 °C | D
  dieMax   : F32 := 0xC2700000         -- R550 | `DieTemperatureMax`, −60.0 °C | S
  dieHot   : Bool := false             -- R550 | `DIEHOT` | S
  tap      : TapSt := {}               -- R541 | test access port | S
  deriving DecidableEq, Repr

/-! ### A lane and the device -/

/-- What a lane holds outside its managed storage and one-time-programmable memory. -/
structure Live where
  me    : LaneId := .a                 -- R10 | this lane's letter (`LaneLetter`) | S
  phase : Phase := .off                -- R502 | where the lane stands between power and the joined state | S
  clk   : Nat := 0                     -- R107, R517 | lane time counter, 2.5 ns counts | M
  start : Nat := 0                     -- R14 | lane time of the present tick start | M
  cfg   : NMap (List Byte) := []       -- R394 | `IMG` values in effect, keyed index × 256 + sub; unlisted = default | S
  rc    : NMap (List Byte) := []       -- R394, R509 | the `RC` store of managed storage, whose values are in effect; unlisted = default | S
  tk    : TickSt := {}                 -- R14 to R39 | tick and lane links | S
  au    : AuthSt := {}                 -- R40 to R84 | lane authority | S
  en    : EngineSt := {}               -- R85 to R127 | control engine | S
  fc    : FieldSt := {}                -- R128 to R158 | field control | S
  aq    : AcqSt := {}                  -- R159 to R184 | acquisition | S
  gd    : GateSt := {}                 -- R185 to R220 | gate drive | S
  wi    : WiringSt := {}               -- R221 to R241 | wiring diagnostics | S
  fb    : FeedbackSt := {}             -- R242 to R267 | feedback | S
  ps    : PassSt := {}                 -- R268 to R288 | pass comparison | S
  fl    : FaultSt := {}                -- R289 to R315 | faults and self-test | S
  sf    : SafetySt := {}               -- R316 to R352 | machine safety | S
  jn    : NetSt := {}                  -- R353 to R383 | Jalsyn | S
  di    : DictSt := {}                 -- R384 to R412 | dictionary and CAN | S
  im    : ImageSt := {}                -- R413 to R451 | images, security, logbook | S
  sc    : SchedSt := {}                -- R452 to R476 | scheduler and application window | S
  ck    : ClockSt := {}                -- R477 to R496 | clocks | S
  su    : SupplySt := {}               -- R497 to R530 | supply, resets, power | S
  mo    : ModuleSt := {}               -- R531 to R552 | module | S
  deriving DecidableEq, Repr

/-- One lane: its live state, its managed storage and its one-time-programmable memory (R10, R509). -/
structure Lane where
  live  : Live := {}                   -- R10 | everything that a loss of power clears, and the retention banks | S
  store : NvStore := {}                -- R509 | managed storage | D
  otp   : Otp := {}                    -- R426, R429 | one-time-programmable memory | D
  deriving DecidableEq, Repr

/-- The module: three lanes, the manufacturer's identity, the free-value counter and the waiting commands. -/
structure State where
  a       : Lane := {}                 -- R10 | lane A | S
  b       : Lane := {}                 -- R10 | lane B | S
  c       : Lane := {}                 -- R10 | lane C | S
  serial  : List Byte := []            -- R3, R4 | `SerialNumber`, 12 characters set at manufacture | D
  free    : Nat := 0                   -- (model) | counter that draws the next free value | M
  pending : List Instr := []           -- (model) | commands waiting, first in, first out | M
  deriving DecidableEq, Repr

/-- Why a step may stop the machine. No command of this model raises a fault: every command has an effect,
or no effect, by the manual's rules. -/
inductive Fault where
  /-- Raised by no command. Safe: a machine that never stops hides nothing. -/
  | none
  deriving DecidableEq, Repr

/-- Why a command may be refused. -/
inductive Refusal where
  /-- Raised by an arm of `exec` whose command has no meaning yet. Safe: nothing can be proved of its effect. -/
  | notModelled (mnemonic : String)
  deriving DecidableEq, Repr

/-- The state right after reset: three lanes without power, before their first power-on release, every
register at the manual's reset value or, where it gives none, at the value its field comment shows. -/
def State.reset : State :=
  { a := { live := { me := .a } }, b := { live := { me := .b } }, c := { live := { me := .c } } }

end Sys2Proof.Machine
end

