-- ==== Sys2Proof/Machine/Objects.lean ====
section
/-!
DEFINITION. The object dictionary: every object of the manual with its index, sub-indices, type, access, scope,
default and range (R393 to R395 and the object tables of each chapter). A family of objects or of sub-indices is
one entry with counts `n` and `m`. `HighestSubIndex` rows stand among the read-only objects.
-/

namespace Sys2Proof.Machine

/-- Data types (R393). -/
inductive OType where
  | u8 | u16 | u32 | i16 | i32 | f32 | str | dom
  deriving DecidableEq, Repr

/-- Access classes (R394). -/
inductive Access where
  | ro | rw | rc | img | cmd
  deriving DecidableEq, Repr

/-- What a range column states about the value alone (R395). -/
inductive ORange where
  | any
  | nat (lo hi : Nat)
  | natOr (lo hi other : Nat)
  | list (xs : List Nat)
  | step (lo hi st : Nat)
  | divisor (lo hi of' : Nat)
  | mask (m : Nat)
  | int (lo hi : Int)
  | real (lo hi : F32)
  | realOr0 (lo hi : F32)
  | realPos (hi : F32)
  | realBelow (lo hi : F32)
  | len (lo hi : Nat)
  | lenStep (lo hi st : Nat)
  | lenOr (a b : Nat)
  deriving DecidableEq, Repr

/-- An object, or a family of `n` indices and `m` sub-indices. -/
structure Obj where
  idx    : Nat
  n      : Nat := 1
  sub    : Nat
  m      : Nat := 1
  ty     : OType
  acc    : Access
  shared : Bool := false
  dflt   : List Byte := []
  range  : ORange := .any
  deriving DecidableEq, Repr

/-- The bytes of a fixed-size type; 0 for a string or a domain (R393). -/
def OType.size : OType → Nat
  | .u8 => 1 | .u16 => 2 | .u32 => 4 | .i16 => 2 | .i32 => 4 | .f32 => 4 | .str => 0 | .dom => 0

/-- The range check of a value of the right size (R393, R395). -/
def ORange.holds (r : ORange) (bs : List Byte) : Bool :=
  let n := leNat bs
  let x : F32 := BitVec.ofNat 32 n
  match r with
  | .any => true
  | .nat lo hi => decide (lo ≤ n ∧ n ≤ hi)
  | .natOr lo hi o => decide ((lo ≤ n ∧ n ≤ hi) ∨ n = o)
  | .list xs => xs.contains n
  | .step lo hi st => decide (lo ≤ n ∧ n ≤ hi ∧ (n - lo) % st = 0)
  | .divisor lo hi d => decide (lo ≤ n ∧ n ≤ hi ∧ d % n = 0)
  | .mask m => decide (n &&& m = n)
  | .int lo hi => decide (lo ≤ leInt bs ∧ leInt bs ≤ hi)
  | .real lo hi => F32.finite x && F32.le lo x && F32.le x hi
  | .realOr0 lo hi => F32.isZero x || (F32.finite x && F32.le lo x && F32.le x hi)
  | .realPos hi => F32.finite x && F32.lt 0 x && F32.le x hi
  | .realBelow lo hi => F32.finite x && F32.le lo x && F32.lt x hi
  | .len lo hi => decide (lo ≤ bs.length ∧ bs.length ≤ hi)
  | .lenStep lo hi st => decide (lo ≤ bs.length ∧ bs.length ≤ hi ∧ bs.length % st = 0)
  | .lenOr a b => decide (bs.length = a ∨ bs.length = b)

/-- The key of sub-index `sub + k` of index `idx + i` in the stores. -/
def Obj.key (o : Obj) (i k : Nat) : Nat := (o.idx + i) * 256 + (o.sub + k)

/-- The default of `CanFilters`: sixteen unused entries, target 255 (R411). -/
def canFiltersDefault : List Byte :=
  (List.replicate 16 (List.replicate 8 (0 : Byte) ++ [0xFF, 0, 0, 0])).flatten

/-- The fixed entries of the fault map, `FIXED` set (R292). -/
def sourceFixed (s : Nat) : Option Nat :=
  if s = 2 ∨ s = 4 then some 0x4C
  else if s = 8 ∨ s = 18 ∨ s = 20 ∨ s = 48 ∨ (64 ≤ s ∧ s ≤ 81) then some 0x49
  else if s = 16 ∨ s = 19 then some 0x40
  else if s = 17 ∨ s = 82 ∨ s = 83 ∨ s = 97 ∨ s = 196 ∨ s = 209 then some 0x55
  else if s = 96 ∨ s = 208 ∨ (128 ≤ s ∧ s < 192 ∧ s % 8 = 1) then some 0x4A
  else none

/-- The default map entry of a source: the fixed value, the default its rule names, else CONTAINED with
`NOTIFY` (R292, R344, R376, R444, R496, R530, R540, R546, R552). -/
def sourceDefault (s : Nat) : Nat :=
  match sourceFixed s with
  | some v => v
  | none =>
    if [3, 5, 7, 9, 24, 49, 98, 199, 276, 277, 279, 280, 340, 352, 354, 359, 360].contains s then 0
    else if 128 ≤ s ∧ s < 192 ∧ s % 8 = 6 then 0
    else if s = 10 ∨ s = 12 then 0x0C
    else if s = 210 ∨ s = 344 ∨ s = 370 then 0x0A
    else 0x09

/-- The default of `FaultSourceMap`, 768 bytes (R310, R311). -/
def faultMapDefault : List Byte := (List.range 384).flatMap (fun s => leBytes 2 (sourceDefault s))

/-- `producerHeartbeat` (R407). -/
def Obj.producerHeartbeat : Obj :=
  { idx := 0x1017, sub := 0x00, ty := .u16, acc := .rc, dflt := leBytes 2 0, range := .natOr 10 10000 0 }

/-- `canMode` (R409). -/
def Obj.canMode : Obj :=
  { idx := 0x1F00, n := 4, sub := 0x01, ty := .u8, acc := .rc, dflt := leBytes 1 0, range := .nat 0 2 }

/-- `canNominalRate` (R409). -/
def Obj.canNominalRate : Obj :=
  { idx := 0x1F00, n := 4, sub := 0x02, ty := .u8, acc := .rc, dflt := leBytes 1 2, range := .nat 0 3 }

/-- `canDataRate` (R409). -/
def Obj.canDataRate : Obj :=
  { idx := 0x1F00, n := 4, sub := 0x03, ty := .u8, acc := .rc, dflt := leBytes 1 1, range := .nat 0 6 }

/-- `canNominalSamplePoint` (R409). -/
def Obj.canNominalSamplePoint : Obj :=
  { idx := 0x1F00, n := 4, sub := 0x04, ty := .u8, acc := .rc, dflt := leBytes 1 80, range := .nat 60 90 }

/-- `canDataSamplePoint` (R409). -/
def Obj.canDataSamplePoint : Obj :=
  { idx := 0x1F00, n := 4, sub := 0x05, ty := .u8, acc := .rc, dflt := leBytes 1 75, range := .nat 60 90 }

/-- `canUsdoServer` (R409). -/
def Obj.canUsdoServer : Obj :=
  { idx := 0x1F00, n := 4, sub := 0x06, ty := .u8, acc := .rc, dflt := leBytes 1 1, range := .nat 0 1 }

/-- `canHeartbeatEnable` (R409). -/
def Obj.canHeartbeatEnable : Obj :=
  { idx := 0x1F00, n := 4, sub := 0x07, ty := .u8, acc := .rc, dflt := leBytes 1 1, range := .nat 0 1 }

/-- `canFilters` (R411). -/
def Obj.canFilters : Obj :=
  { idx := 0x1F08, n := 4, sub := 0x01, ty := .dom, acc := .rc, dflt := canFiltersDefault, range := .len 192 192 }

/-- `nodeIdBase` (R412). -/
def Obj.nodeIdBase : Obj :=
  { idx := 0x1F10, sub := 0x01, ty := .u8, acc := .rc, dflt := leBytes 1 0, range := .nat 0 125 }

/-- `usdoTimeout` (R412). -/
def Obj.usdoTimeout : Obj :=
  { idx := 0x1F20, sub := 0x01, ty := .u16, acc := .rc, dflt := leBytes 2 500, range := .nat 10 5000 }

/-- `tickRate` (R16). -/
def Obj.tickRate : Obj :=
  { idx := 0x2010, sub := 0x00, ty := .u32, acc := .img, shared := true, dflt := leBytes 4 20000, range := .nat 10000 100000 }

/-- `cycleTicks` (R16). -/
def Obj.cycleTicks : Obj :=
  { idx := 0x2011, sub := 0x00, ty := .u16, acc := .img, shared := true, dflt := leBytes 2 20, range := .nat 3 1000 }

/-- `laneAtRank` (R82). -/
def Obj.laneAtRank : Obj :=
  { idx := 0x2400, sub := 0x01, m := 3, ty := .u8, acc := .img, shared := true, dflt := leBytes 1 0, range := .nat 0 2 }

/-- `leaseTicks` (R82). -/
def Obj.leaseTicks : Obj :=
  { idx := 0x2401, sub := 0x00, ty := .u8, acc := .img, shared := true, dflt := leBytes 1 4, range := .nat 2 16 }

/-- `descentLimit` (R82). -/
def Obj.descentLimit : Obj :=
  { idx := 0x2402, sub := 0x00, ty := .u16, acc := .img, shared := true, dflt := leBytes 2 60, range := .nat 1 300 }

/-- `compareTicks` (R82). -/
def Obj.compareTicks : Obj :=
  { idx := 0x2403, sub := 0x00, ty := .u8, acc := .img, shared := true, dflt := leBytes 1 3, range := .nat 1 16 }

/-- `boostTime` (R82). -/
def Obj.boostTime : Obj :=
  { idx := 0x2404, sub := 0x00, ty := .u8, acc := .img, shared := true, dflt := leBytes 1 10, range := .nat 0 30 }

/-- `rejoinTries` (R82). -/
def Obj.rejoinTries : Obj :=
  { idx := 0x2405, sub := 0x00, ty := .u8, acc := .img, shared := true, dflt := leBytes 1 1, range := .nat 0 3 }

/-- `standstillSignal` (R82). -/
def Obj.standstillSignal : Obj :=
  { idx := 0x2406, sub := 0x00, ty := .u16, acc := .img, shared := true, dflt := leBytes 2 65535, range := .natOr 0 1023 65535 }

/-- `compareTolerance` (R82). -/
def Obj.compareTolerance : Obj :=
  { idx := 0x2407, sub := 0x01, m := 24, ty := .f32, acc := .img, shared := true, dflt := leBytes 4 0x3BA3D70A, range := .real 0x00000000 0x3DCCCCCD }

/-- `ballastSlots` (R82). -/
def Obj.ballastSlots : Obj :=
  { idx := 0x2408, sub := 0x01, ty := .dom, acc := .img, shared := true, dflt := List.replicate 24 0, range := .len 24 24 }

/-- `ballastCan` (R82). -/
def Obj.ballastCan : Obj :=
  { idx := 0x2408, sub := 0x02, ty := .u8, acc := .img, shared := true, dflt := leBytes 1 0, range := .nat 0 15 }

/-- `mirrorWord` (R82). -/
def Obj.mirrorWord : Obj :=
  { idx := 0x2420, sub := 0x01, m := 64, ty := .u16, acc := .img, shared := true, dflt := leBytes 2 0, range := .nat 0 65535 }

/-- `groupPortA` (R156). -/
def Obj.groupPortA : Obj :=
  { idx := 0x2800, n := 24, sub := 0x01, ty := .u8, acc := .img, shared := true, dflt := leBytes 1 255, range := .natOr 0 7 255 }

/-- `groupPortB` (R156). -/
def Obj.groupPortB : Obj :=
  { idx := 0x2800, n := 24, sub := 0x02, ty := .u8, acc := .img, shared := true, dflt := leBytes 1 255, range := .natOr 0 7 255 }

/-- `groupPortC` (R156). -/
def Obj.groupPortC : Obj :=
  { idx := 0x2800, n := 24, sub := 0x03, ty := .u8, acc := .img, shared := true, dflt := leBytes 1 255, range := .natOr 0 7 255 }

/-- `groupForceRatio` (R156). -/
def Obj.groupForceRatio : Obj :=
  { idx := 0x2800, n := 24, sub := 0x04, ty := .f32, acc := .img, shared := true, dflt := leBytes 4 0, range := .realOr0 0x3A83126F 0x49742400 }

/-- `groupPolePairs` (R156). -/
def Obj.groupPolePairs : Obj :=
  { idx := 0x2800, n := 24, sub := 0x05, ty := .u8, acc := .img, shared := true, dflt := leBytes 1 4, range := .nat 1 32 }

/-- `groupRatedCurrent` (R156). -/
def Obj.groupRatedCurrent : Obj :=
  { idx := 0x2800, n := 24, sub := 0x06, ty := .f32, acc := .img, shared := true, dflt := leBytes 4 0x41200000, range := .real 0x3DCCCCCD 0x447A0000 }

/-- `groupMaxSpeed` (R156). -/
def Obj.groupMaxSpeed : Obj :=
  { idx := 0x2800, n := 24, sub := 0x07, ty := .f32, acc := .img, shared := true, dflt := leBytes 4 0x42C80000, range := .real 0x3DCCCCCD 0x44FA0000 }

/-- `groupMaxAccel` (R156). -/
def Obj.groupMaxAccel : Obj :=
  { idx := 0x2800, n := 24, sub := 0x08, ty := .f32, acc := .img, shared := true, dflt := leBytes 4 0x447A0000, range := .real 0x3F800000 0x49742400 }

/-- `groupPositionSource` (R156). -/
def Obj.groupPositionSource : Obj :=
  { idx := 0x2800, n := 24, sub := 0x09, ty := .u8, acc := .img, shared := true, dflt := leBytes 1 1, range := .nat 0 4 }

/-- `groupFallbackSource` (R156). -/
def Obj.groupFallbackSource : Obj :=
  { idx := 0x2800, n := 24, sub := 0x0A, ty := .u8, acc := .img, shared := true, dflt := leBytes 1 255, range := .list [0, 1, 3, 255] }

/-- `groupHallFitted` (R156). -/
def Obj.groupHallFitted : Obj :=
  { idx := 0x2800, n := 24, sub := 0x0B, ty := .u8, acc := .img, shared := true, dflt := leBytes 1 0, range := .nat 0 1 }

/-- `groupSentInput` (R156). -/
def Obj.groupSentInput : Obj :=
  { idx := 0x2800, n := 24, sub := 0x0C, ty := .u8, acc := .img, shared := true, dflt := leBytes 1 0, range := .nat 0 3 }

/-- `groupLineCount` (R156). -/
def Obj.groupLineCount : Obj :=
  { idx := 0x2800, n := 24, sub := 0x0D, ty := .u32, acc := .img, shared := true, dflt := leBytes 4 1024, range := .nat 1 1048576 }

/-- `groupElecOffset` (R156). -/
def Obj.groupElecOffset : Obj :=
  { idx := 0x2800, n := 24, sub := 0x0E, m := 3, ty := .f32, acc := .img, shared := true, dflt := leBytes 4 0, range := .realBelow 0 0x3F800000 }

/-- `groupAngleVoteLimit` (R156). -/
def Obj.groupAngleVoteLimit : Obj :=
  { idx := 0x2800, n := 24, sub := 0x11, ty := .f32, acc := .img, shared := true, dflt := leBytes 4 0x41700000, range := .real 0x40000000 0x42700000 }

/-- `groupAngleVoteTicks` (R156). -/
def Obj.groupAngleVoteTicks : Obj :=
  { idx := 0x2800, n := 24, sub := 0x12, ty := .u8, acc := .img, shared := true, dflt := leBytes 1 4, range := .nat 1 32 }

/-- `groupLosLimit` (R156). -/
def Obj.groupLosLimit : Obj :=
  { idx := 0x2800, n := 24, sub := 0x13, ty := .u8, acc := .img, shared := true, dflt := leBytes 1 3, range := .nat 1 10 }

/-- `groupCatchLimit` (R156). -/
def Obj.groupCatchLimit : Obj :=
  { idx := 0x2800, n := 24, sub := 0x14, ty := .f32, acc := .img, shared := true, dflt := leBytes 4 0x3F666666, range := .real 0x3F000000 0x3F7AE148 }

/-- `groupCatchRestLevel` (R156). -/
def Obj.groupCatchRestLevel : Obj :=
  { idx := 0x2800, n := 24, sub := 0x15, ty := .f32, acc := .img, shared := true, dflt := leBytes 4 0x3F000000, range := .real 0x3DCCCCCD 0x40A00000 }

/-- `groupStopTorque` (R156). -/
def Obj.groupStopTorque : Obj :=
  { idx := 0x2800, n := 24, sub := 0x16, ty := .f32, acc := .img, shared := true, dflt := leBytes 4 0x3F800000, range := .realPos 0x49742400 }

/-- `groupPositionModulus` (R156). -/
def Obj.groupPositionModulus : Obj :=
  { idx := 0x2800, n := 24, sub := 0x17, ty := .f32, acc := .img, shared := true, dflt := leBytes 4 0, range := .real 0x00000000 0x49742400 }

/-- `groupSpeedFilter` (R156). -/
def Obj.groupSpeedFilter : Obj :=
  { idx := 0x2800, n := 24, sub := 0x18, ty := .f32, acc := .img, shared := true, dflt := leBytes 4 0x3A83126F, range := .real 0x00000000 0x3DCCCCCD }

/-- `groupGroupReaction` (R156). -/
def Obj.groupGroupReaction : Obj :=
  { idx := 0x2800, n := 24, sub := 0x19, ty := .u8, acc := .img, shared := true, dflt := leBytes 1 1, range := .nat 0 3 }

/-- `groupAuthoritySlot` (R156). -/
def Obj.groupAuthoritySlot : Obj :=
  { idx := 0x2800, n := 24, sub := 0x1A, ty := .u8, acc := .img, shared := true, dflt := leBytes 1 255, range := .natOr 8 190 255 }

/-- `fieldRs20` (R157). -/
def Obj.fieldRs20 : Obj :=
  { idx := 0x2900, n := 24, sub := 0x01, ty := .f32, acc := .img, shared := true, dflt := leBytes 4 0x3D4CCCCD, range := .real 0x38D1B717 0x42C80000 }

/-- `fieldLd` (R157). -/
def Obj.fieldLd : Obj :=
  { idx := 0x2900, n := 24, sub := 0x02, ty := .f32, acc := .img, shared := true, dflt := leBytes 4 0x38D1B717, range := .real 0x33D6BF95 0x3F800000 }

/-- `fieldLq` (R157). -/
def Obj.fieldLq : Obj :=
  { idx := 0x2900, n := 24, sub := 0x03, ty := .f32, acc := .img, shared := true, dflt := leBytes 4 0x38D1B717, range := .real 0x33D6BF95 0x3F800000 }

/-- `fieldFluxLinkage` (R157). -/
def Obj.fieldFluxLinkage : Obj :=
  { idx := 0x2900, n := 24, sub := 0x04, ty := .f32, acc := .img, shared := true, dflt := leBytes 4 0x3C23D70A, range := .real 0x3727C5AC 0x41200000 }

/-- `fieldMutualD` (R157). -/
def Obj.fieldMutualD : Obj :=
  { idx := 0x2900, n := 24, sub := 0x05, ty := .f32, acc := .img, shared := true, dflt := leBytes 4 0, range := .real 0 0x7F7FFFFF }

/-- `fieldMutualQ` (R157). -/
def Obj.fieldMutualQ : Obj :=
  { idx := 0x2900, n := 24, sub := 0x06, ty := .f32, acc := .img, shared := true, dflt := leBytes 4 0, range := .real 0 0x7F7FFFFF }

/-- `fieldCurrentBandwidth` (R157). -/
def Obj.fieldCurrentBandwidth : Obj :=
  { idx := 0x2900, n := 24, sub := 0x07, ty := .f32, acc := .img, shared := true, dflt := leBytes 4 0x447A0000, range := .real 0x42480000 0x7F7FFFFF }

/-- `fieldIdRef` (R157). -/
def Obj.fieldIdRef : Obj :=
  { idx := 0x2900, n := 24, sub := 0x08, ty := .f32, acc := .img, shared := true, dflt := leBytes 4 0, range := .real 0xFF7FFFFF 0 }

/-- `fieldModulation` (R157). -/
def Obj.fieldModulation : Obj :=
  { idx := 0x2900, n := 24, sub := 0x09, ty := .u8, acc := .img, shared := true, dflt := leBytes 1 0, range := .nat 0 2 }

/-- `fieldModIndexMax` (R157). -/
def Obj.fieldModIndexMax : Obj :=
  { idx := 0x2900, n := 24, sub := 0x0A, ty := .f32, acc := .img, shared := true, dflt := leBytes 4 0x3F7AE148, range := .real 0x3F000000 0x3F800000 }

/-- `fieldWindowTime` (R157). -/
def Obj.fieldWindowTime : Obj :=
  { idx := 0x2900, n := 24, sub := 0x0B, ty := .f32, acc := .img, shared := true, dflt := leBytes 4 0x3F800000, range := .real 0x3F19999A 0x40A00000 }

/-- `fieldFwGain` (R157). -/
def Obj.fieldFwGain : Obj :=
  { idx := 0x2900, n := 24, sub := 0x0C, ty := .f32, acc := .img, shared := true, dflt := leBytes 4 0, range := .real 0x00000000 0x49742400 }

/-- `fieldIdMin` (R157). -/
def Obj.fieldIdMin : Obj :=
  { idx := 0x2900, n := 24, sub := 0x0D, ty := .f32, acc := .img, shared := true, dflt := leBytes 4 0, range := .real 0xFF7FFFFF 0x7F7FFFFF }

/-- `fieldHfiVoltage` (R157). -/
def Obj.fieldHfiVoltage : Obj :=
  { idx := 0x2900, n := 24, sub := 0x0E, ty := .f32, acc := .img, shared := true, dflt := leBytes 4 0x40000000, range := .real 0x3F000000 0x41A00000 }

/-- `fieldBlendLow` (R157). -/
def Obj.fieldBlendLow : Obj :=
  { idx := 0x2900, n := 24, sub := 0x0F, ty := .f32, acc := .img, shared := true, dflt := leBytes 4 0x41A00000, range := .real 0x3F800000 0x43FA0000 }

/-- `fieldBlendHigh` (R157). -/
def Obj.fieldBlendHigh : Obj :=
  { idx := 0x2900, n := 24, sub := 0x10, ty := .f32, acc := .img, shared := true, dflt := leBytes 4 0x42200000, range := .real 0x3F800000 0x43FA0000 }

/-- `fieldPllBandwidth` (R157). -/
def Obj.fieldPllBandwidth : Obj :=
  { idx := 0x2900, n := 24, sub := 0x11, ty := .f32, acc := .img, shared := true, dflt := leBytes 4 0x42C80000, range := .real 0x40A00000 0x447A0000 }

/-- `fieldRsAdapt` (R157). -/
def Obj.fieldRsAdapt : Obj :=
  { idx := 0x2900, n := 24, sub := 0x12, ty := .u8, acc := .img, shared := true, dflt := leBytes 1 1, range := .nat 0 1 }

/-- `fieldRsAdaptSpeed` (R157). -/
def Obj.fieldRsAdaptSpeed : Obj :=
  { idx := 0x2900, n := 24, sub := 0x13, ty := .f32, acc := .img, shared := true, dflt := leBytes 4 0x40A00000, range := .real 0x00000000 0x42480000 }

/-- `fieldNtcChannel` (R157). -/
def Obj.fieldNtcChannel : Obj :=
  { idx := 0x2900, n := 24, sub := 0x14, ty := .u8, acc := .img, shared := true, dflt := leBytes 1 255, range := .natOr 0 7 255 }

/-- `fieldThermalRth` (R157). -/
def Obj.fieldThermalRth : Obj :=
  { idx := 0x2900, n := 24, sub := 0x15, ty := .f32, acc := .img, shared := true, dflt := leBytes 4 0x3F800000, range := .real 0x3C23D70A 0x42C80000 }

/-- `fieldThermalTau` (R157). -/
def Obj.fieldThermalTau : Obj :=
  { idx := 0x2900, n := 24, sub := 0x16, ty := .f32, acc := .img, shared := true, dflt := leBytes 4 0x42700000, range := .real 0x3F800000 0x45610000 }

/-- `fieldTempDerate` (R157). -/
def Obj.fieldTempDerate : Obj :=
  { idx := 0x2900, n := 24, sub := 0x17, ty := .f32, acc := .img, shared := true, dflt := leBytes 4 0x430C0000, range := .real 0x42200000 0x437A0000 }

/-- `fieldTempMax` (R157). -/
def Obj.fieldTempMax : Obj :=
  { idx := 0x2900, n := 24, sub := 0x18, ty := .f32, acc := .img, shared := true, dflt := leBytes 4 0x43200000, range := .real 0x42200000 0x437A0000 }

/-- `slotKind` (R121). -/
def Obj.slotKind : Obj :=
  { idx := 0x3000, n := 192, sub := 0x01, ty := .u8, acc := .img, shared := true, dflt := leBytes 1 0, range := .nat 0 255 }

/-- `slotLanes` (R121). -/
def Obj.slotLanes : Obj :=
  { idx := 0x3000, n := 192, sub := 0x02, ty := .u8, acc := .img, shared := true, dflt := leBytes 1 7, range := .mask 7 }

/-- `slotGroup` (R121). -/
def Obj.slotGroup : Obj :=
  { idx := 0x3000, n := 192, sub := 0x03, ty := .u8, acc := .img, shared := true, dflt := leBytes 1 255, range := .natOr 0 23 255 }

/-- `slotWindow` (R121). -/
def Obj.slotWindow : Obj :=
  { idx := 0x3000, n := 192, sub := 0x04, ty := .u8, acc := .img, shared := true, dflt := leBytes 1 255, range := .natOr 0 7 255 }

/-- `slotDivider` (R121). -/
def Obj.slotDivider : Obj :=
  { idx := 0x3000, n := 192, sub := 0x05, ty := .u16, acc := .img, shared := true, dflt := leBytes 2 1, range := .nat 1 256 }

/-- `slotPhase` (R121). -/
def Obj.slotPhase : Obj :=
  { idx := 0x3000, n := 192, sub := 0x06, ty := .u16, acc := .img, shared := true, dflt := leBytes 2 0, range := .nat 0 65535 }

/-- `slotFeedbackEntry` (R121). -/
def Obj.slotFeedbackEntry : Obj :=
  { idx := 0x3000, n := 192, sub := 0x07, ty := .u16, acc := .img, shared := true, dflt := leBytes 2 65535, range := .natOr 0 1023 65535 }

/-- `slotSetpointSource` (R121). -/
def Obj.slotSetpointSource : Obj :=
  { idx := 0x3000, n := 192, sub := 0x08, ty := .u8, acc := .img, shared := true, dflt := leBytes 1 0, range := .nat 0 5 }

/-- `slotSetpointIndex` (R121). -/
def Obj.slotSetpointIndex : Obj :=
  { idx := 0x3000, n := 192, sub := 0x09, ty := .u16, acc := .img, shared := true, dflt := leBytes 2 0, range := .nat 0 65535 }

/-- `slotSetpointValue` (R121). -/
def Obj.slotSetpointValue : Obj :=
  { idx := 0x3000, n := 192, sub := 0x0A, ty := .f32, acc := .img, shared := true, dflt := leBytes 4 0, range := .real 0xCE6E6B28 0x4E6E6B28 }

/-- `slotAltSource` (R121). -/
def Obj.slotAltSource : Obj :=
  { idx := 0x3000, n := 192, sub := 0x0B, ty := .u8, acc := .img, shared := true, dflt := leBytes 1 255, range := .natOr 0 5 255 }

/-- `slotAltIndex` (R121). -/
def Obj.slotAltIndex : Obj :=
  { idx := 0x3000, n := 192, sub := 0x0C, ty := .u16, acc := .img, shared := true, dflt := leBytes 2 0, range := .nat 0 65535 }

/-- `slotSelectEntry` (R121). -/
def Obj.slotSelectEntry : Obj :=
  { idx := 0x3000, n := 192, sub := 0x0D, ty := .u16, acc := .img, shared := true, dflt := leBytes 2 65535, range := .natOr 0 1023 65535 }

/-- `slotKp` (R121). -/
def Obj.slotKp : Obj :=
  { idx := 0x3000, n := 192, sub := 0x0E, ty := .f32, acc := .img, shared := true, dflt := leBytes 4 0, range := .real 0xC9742400 0x49742400 }

/-- `slotKi` (R121). -/
def Obj.slotKi : Obj :=
  { idx := 0x3000, n := 192, sub := 0x0F, ty := .f32, acc := .img, shared := true, dflt := leBytes 4 0, range := .real 0x00000000 0x49742400 }

/-- `slotKd` (R121). -/
def Obj.slotKd : Obj :=
  { idx := 0x3000, n := 192, sub := 0x10, ty := .f32, acc := .img, shared := true, dflt := leBytes 4 0, range := .real 0x00000000 0x41200000 }

/-- `slotDerivTau` (R121). -/
def Obj.slotDerivTau : Obj :=
  { idx := 0x3000, n := 192, sub := 0x11, ty := .f32, acc := .img, shared := true, dflt := leBytes 4 0, range := .real 0x00000000 0x3F800000 }

/-- `slotDerivSource` (R121). -/
def Obj.slotDerivSource : Obj :=
  { idx := 0x3000, n := 192, sub := 0x12, ty := .u8, acc := .img, shared := true, dflt := leBytes 1 0, range := .nat 0 1 }

/-- `slotFeedforwardEntry` (R121). -/
def Obj.slotFeedforwardEntry : Obj :=
  { idx := 0x3000, n := 192, sub := 0x13, ty := .u16, acc := .img, shared := true, dflt := leBytes 2 65535, range := .natOr 0 1023 65535 }

/-- `slotKff` (R121). -/
def Obj.slotKff : Obj :=
  { idx := 0x3000, n := 192, sub := 0x14, ty := .f32, acc := .img, shared := true, dflt := leBytes 4 0, range := .real 0xC9742400 0x49742400 }

/-- `slotOutMin` (R121). -/
def Obj.slotOutMin : Obj :=
  { idx := 0x3000, n := 192, sub := 0x15, ty := .f32, acc := .img, shared := true, dflt := leBytes 4 0xBF800000, range := .real 0xCE6E6B28 0x4E6E6B28 }

/-- `slotOutMax` (R121). -/
def Obj.slotOutMax : Obj :=
  { idx := 0x3000, n := 192, sub := 0x16, ty := .f32, acc := .img, shared := true, dflt := leBytes 4 0x3F800000, range := .real 0xCE6E6B28 0x4E6E6B28 }

/-- `slotMinEntry` (R121). -/
def Obj.slotMinEntry : Obj :=
  { idx := 0x3000, n := 192, sub := 0x17, ty := .u16, acc := .img, shared := true, dflt := leBytes 2 65535, range := .natOr 0 1023 65535 }

/-- `slotMaxEntry` (R121). -/
def Obj.slotMaxEntry : Obj :=
  { idx := 0x3000, n := 192, sub := 0x18, ty := .u16, acc := .img, shared := true, dflt := leBytes 2 65535, range := .natOr 0 1023 65535 }

/-- `slotRateLimit` (R121). -/
def Obj.slotRateLimit : Obj :=
  { idx := 0x3000, n := 192, sub := 0x19, ty := .f32, acc := .img, shared := true, dflt := leBytes 4 0, range := .real 0x00000000 0x4E6E6B28 }

/-- `slotAntiWindup` (R121). -/
def Obj.slotAntiWindup : Obj :=
  { idx := 0x3000, n := 192, sub := 0x1A, ty := .u8, acc := .img, shared := true, dflt := leBytes 1 0, range := .nat 0 2 }

/-- `slotKaw` (R121). -/
def Obj.slotKaw : Obj :=
  { idx := 0x3000, n := 192, sub := 0x1B, ty := .f32, acc := .img, shared := true, dflt := leBytes 4 0, range := .real 0x00000000 0x49742400 }

/-- `slotNotch1Mode` (R121). -/
def Obj.slotNotch1Mode : Obj :=
  { idx := 0x3000, n := 192, sub := 0x1C, ty := .u8, acc := .img, shared := true, dflt := leBytes 1 0, range := .nat 0 2 }

/-- `slotNotch2Mode` (R121). -/
def Obj.slotNotch2Mode : Obj :=
  { idx := 0x3000, n := 192, sub := 0x20, ty := .u8, acc := .img, shared := true, dflt := leBytes 1 0, range := .nat 0 2 }

/-- `slotNotch1Freq` (R121). -/
def Obj.slotNotch1Freq : Obj :=
  { idx := 0x3000, n := 192, sub := 0x1D, ty := .f32, acc := .img, shared := true, dflt := leBytes 4 0x42C80000, range := .realPos 0x7F7FFFFF }

/-- `slotNotch2Freq` (R121). -/
def Obj.slotNotch2Freq : Obj :=
  { idx := 0x3000, n := 192, sub := 0x21, ty := .f32, acc := .img, shared := true, dflt := leBytes 4 0x42C80000, range := .realPos 0x7F7FFFFF }

/-- `slotNotch1Q` (R121). -/
def Obj.slotNotch1Q : Obj :=
  { idx := 0x3000, n := 192, sub := 0x1E, ty := .f32, acc := .img, shared := true, dflt := leBytes 4 0x40000000, range := .real 0x3F000000 0x42480000 }

/-- `slotNotch2Q` (R121). -/
def Obj.slotNotch2Q : Obj :=
  { idx := 0x3000, n := 192, sub := 0x22, ty := .f32, acc := .img, shared := true, dflt := leBytes 4 0x40000000, range := .real 0x3F000000 0x42480000 }

/-- `slotNotch1Depth` (R121). -/
def Obj.slotNotch1Depth : Obj :=
  { idx := 0x3000, n := 192, sub := 0x1F, ty := .f32, acc := .img, shared := true, dflt := leBytes 4 0x3DCCCCCD, range := .real 0x00000000 0x3F800000 }

/-- `slotNotch2Depth` (R121). -/
def Obj.slotNotch2Depth : Obj :=
  { idx := 0x3000, n := 192, sub := 0x23, ty := .f32, acc := .img, shared := true, dflt := leBytes 4 0x3DCCCCCD, range := .real 0x00000000 0x3F800000 }

/-- `slotAdaptMin` (R121). -/
def Obj.slotAdaptMin : Obj :=
  { idx := 0x3000, n := 192, sub := 0x24, ty := .f32, acc := .img, shared := true, dflt := leBytes 4 0x42480000, range := .realPos 0x7F7FFFFF }

/-- `slotAdaptMax` (R121). -/
def Obj.slotAdaptMax : Obj :=
  { idx := 0x3000, n := 192, sub := 0x25, ty := .f32, acc := .img, shared := true, dflt := leBytes 4 0x447A0000, range := .realPos 0x7F7FFFFF }

/-- `slotAdaptRate` (R121). -/
def Obj.slotAdaptRate : Obj :=
  { idx := 0x3000, n := 192, sub := 0x26, ty := .f32, acc := .img, shared := true, dflt := leBytes 4 0x42480000, range := .real 0x3DCCCCCD 0x461C4000 }

/-- `slotAdaptThreshold` (R121). -/
def Obj.slotAdaptThreshold : Obj :=
  { idx := 0x3000, n := 192, sub := 0x27, ty := .f32, acc := .img, shared := true, dflt := leBytes 4 0x3C23D70A, range := .realPos 0x7F7FFFFF }

/-- `slotDetectorLength` (R121). -/
def Obj.slotDetectorLength : Obj :=
  { idx := 0x3000, n := 192, sub := 0x28, ty := .u16, acc := .img, shared := true, dflt := leBytes 2 128, range := .nat 16 1024 }

/-- `slotTrajNumber` (R121). -/
def Obj.slotTrajNumber : Obj :=
  { idx := 0x3000, n := 192, sub := 0x29, ty := .u8, acc := .img, shared := true, dflt := leBytes 1 255, range := .natOr 0 31 255 }

/-- `slotTrajMode` (R121). -/
def Obj.slotTrajMode : Obj :=
  { idx := 0x3000, n := 192, sub := 0x2A, ty := .u8, acc := .img, shared := true, dflt := leBytes 1 0, range := .nat 0 1 }

/-- `slotTrajVmax` (R121). -/
def Obj.slotTrajVmax : Obj :=
  { idx := 0x3000, n := 192, sub := 0x2B, ty := .f32, acc := .img, shared := true, dflt := leBytes 4 0x3F800000, range := .realPos 0x4E6E6B28 }

/-- `slotTrajAmax` (R121). -/
def Obj.slotTrajAmax : Obj :=
  { idx := 0x3000, n := 192, sub := 0x2C, ty := .f32, acc := .img, shared := true, dflt := leBytes 4 0x3F800000, range := .realPos 0x4E6E6B28 }

/-- `slotWrapModulus` (R121). -/
def Obj.slotWrapModulus : Obj :=
  { idx := 0x3000, n := 192, sub := 0x2D, ty := .f32, acc := .img, shared := true, dflt := leBytes 4 0, range := .real 0x00000000 0x4E6E6B28 }

/-- `slotFollowErrLimit` (R121). -/
def Obj.slotFollowErrLimit : Obj :=
  { idx := 0x3000, n := 192, sub := 0x2E, ty := .f32, acc := .img, shared := true, dflt := leBytes 4 0, range := .real 0x00000000 0x4E6E6B28 }

/-- `slotFollowErrTime` (R121). -/
def Obj.slotFollowErrTime : Obj :=
  { idx := 0x3000, n := 192, sub := 0x2F, ty := .u16, acc := .img, shared := true, dflt := leBytes 2 100, range := .nat 0 10000 }

/-- `slotBumpless` (R121). -/
def Obj.slotBumpless : Obj :=
  { idx := 0x3000, n := 192, sub := 0x30, ty := .u8, acc := .img, shared := true, dflt := leBytes 1 0, range := .nat 0 1 }

/-- `ainMin` (R125). -/
def Obj.ainMin : Obj :=
  { idx := 0x3200, sub := 0x01, m := 4, ty := .f32, acc := .img, shared := true, dflt := leBytes 4 0, range := .real 0xCE6E6B28 0x4E6E6B28 }

/-- `ainMax` (R125). -/
def Obj.ainMax : Obj :=
  { idx := 0x3200, sub := 0x05, m := 4, ty := .f32, acc := .img, shared := true, dflt := leBytes 4 0x3F800000, range := .real 0xCE6E6B28 0x4E6E6B28 }

/-- `ainRule` (R125). -/
def Obj.ainRule : Obj :=
  { idx := 0x3200, sub := 0x09, m := 4, ty := .u8, acc := .img, shared := true, dflt := leBytes 1 1, range := .nat 0 4 }

/-- `ainFaultTime` (R125). -/
def Obj.ainFaultTime : Obj :=
  { idx := 0x3200, sub := 0x0D, ty := .u16, acc := .img, shared := true, dflt := leBytes 2 10, range := .nat 1 1000 }

/-- `psetForm` (R125). -/
def Obj.psetForm : Obj :=
  { idx := 0x3210, sub := 0x01, ty := .u8, acc := .img, shared := true, dflt := leBytes 1 0, range := .nat 0 3 }

/-- `psetScale` (R125). -/
def Obj.psetScale : Obj :=
  { idx := 0x3210, sub := 0x02, ty := .f32, acc := .img, shared := true, dflt := leBytes 4 0x3F800000, range := .real 0xCE6E6B28 0x4E6E6B28 }

/-- `psetPwmMin` (R125). -/
def Obj.psetPwmMin : Obj :=
  { idx := 0x3210, sub := 0x03, ty := .f32, acc := .img, shared := true, dflt := leBytes 4 0, range := .real 0xCE6E6B28 0x4E6E6B28 }

/-- `psetPwmMax` (R125). -/
def Obj.psetPwmMax : Obj :=
  { idx := 0x3210, sub := 0x04, ty := .f32, acc := .img, shared := true, dflt := leBytes 4 0x3F800000, range := .real 0xCE6E6B28 0x4E6E6B28 }

/-- `psetTimeout` (R125). -/
def Obj.psetTimeout : Obj :=
  { idx := 0x3210, sub := 0x05, ty := .u16, acc := .img, shared := true, dflt := leBytes 2 50, range := .nat 1 1000 }

/-- `psetRule` (R125). -/
def Obj.psetRule : Obj :=
  { idx := 0x3210, sub := 0x06, ty := .u8, acc := .img, shared := true, dflt := leBytes 1 1, range := .nat 0 4 }

/-- `psetMinPulse` (R125). -/
def Obj.psetMinPulse : Obj :=
  { idx := 0x3210, sub := 0x07, ty := .u16, acc := .img, shared := true, dflt := leBytes 2 100, range := .step 20 1000 20 }

/-- `appDefaults` (R125). -/
def Obj.appDefaults : Obj :=
  { idx := 0x3400, sub := 0x01, ty := .dom, acc := .img, shared := true, dflt := List.replicate 1024 0, range := .len 1024 1024 }

/-- `missLimit` (R125). -/
def Obj.missLimit : Obj :=
  { idx := 0x3420, sub := 0x01, ty := .u8, acc := .img, shared := true, dflt := leBytes 1 3, range := .nat 1 16 }

/-- `cmdStaleCycles` (R125). -/
def Obj.cmdStaleCycles : Obj :=
  { idx := 0x3420, sub := 0x02, ty := .u8, acc := .img, shared := true, dflt := leBytes 1 3, range := .nat 1 16 }

/-- `appStaleTicks` (R125). -/
def Obj.appStaleTicks : Obj :=
  { idx := 0x3420, sub := 0x03, ty := .u16, acc := .img, shared := true, dflt := leBytes 2 0, range := .nat 0 65535 }

/-- `offsetTrimDiv` (R125). -/
def Obj.offsetTrimDiv : Obj :=
  { idx := 0x3420, sub := 0x04, ty := .u8, acc := .img, shared := true, dflt := leBytes 1 16, range := .nat 1 255 }

/-- `offsetTrimLimit` (R125). -/
def Obj.offsetTrimLimit : Obj :=
  { idx := 0x3420, sub := 0x05, ty := .f32, acc := .img, shared := true, dflt := leBytes 4 0x3CA3D70A, range := .real 0x3A83126F 0x3D4CCCCD }

/-- `deadTimeAdapt` (R125). -/
def Obj.deadTimeAdapt : Obj :=
  { idx := 0x3420, sub := 0x06, ty := .u8, acc := .img, shared := true, dflt := leBytes 1 1, range := .nat 0 1 }

/-- `deadTimeBand` (R125). -/
def Obj.deadTimeBand : Obj :=
  { idx := 0x3420, sub := 0x07, ty := .f32, acc := .img, shared := true, dflt := leBytes 4 0x3D4CCCCD, range := .real 0x3C23D70A 0x3E4CCCCD }

/-- `signatureWindow` (R287). -/
def Obj.signatureWindow : Obj :=
  { idx := 0x3430, sub := 0x01, ty := .u8, acc := .img, shared := true, dflt := leBytes 1 4, range := .nat 1 64 }

/-- `shuntGain` (R182). -/
def Obj.shuntGain : Obj :=
  { idx := 0x3800, sub := 0x01, m := 8, ty := .u8, acc := .img, shared := true, dflt := leBytes 1 2, range := .nat 0 3 }

/-- `shuntResistance` (R182). -/
def Obj.shuntResistance : Obj :=
  { idx := 0x3800, sub := 0x09, m := 8, ty := .f32, acc := .img, shared := true, dflt := leBytes 4 0x3A83126F, range := .real 0x38D1B717 0x3DCCCCCD }

/-- `chopperShuntGain` (R182). -/
def Obj.chopperShuntGain : Obj :=
  { idx := 0x3800, sub := 0x11, ty := .u8, acc := .img, shared := true, dflt := leBytes 1 1, range := .nat 0 3 }

/-- `chopperShuntResistance` (R182). -/
def Obj.chopperShuntResistance : Obj :=
  { idx := 0x3800, sub := 0x12, ty := .f32, acc := .img, shared := true, dflt := leBytes 4 0x3A83126F, range := .real 0x38D1B717 0x3DCCCCCD }

/-- `ocThreshold` (R182). -/
def Obj.ocThreshold : Obj :=
  { idx := 0x3800, sub := 0x13, m := 8, ty := .f32, acc := .img, shared := true, dflt := leBytes 4 0x3F666666, range := .real 0x3F000000 0x3F7AE148 }

/-- `ntcBeta` (R182). -/
def Obj.ntcBeta : Obj :=
  { idx := 0x3800, sub := 0x1B, m := 8, ty := .f32, acc := .img, shared := true, dflt := leBytes 4 0x4556B000, range := .real 0x447A0000 0x461C4000 }

/-- `ntcR25` (R182). -/
def Obj.ntcR25 : Obj :=
  { idx := 0x3800, sub := 0x23, m := 8, ty := .f32, acc := .img, shared := true, dflt := leBytes 4 0, range := .realOr0 0x42C80000 0x49742400 }

/-- `gateVoltage` (R219). -/
def Obj.gateVoltage : Obj :=
  { idx := 0x3C00, sub := 0x01, ty := .u8, acc := .img, dflt := leBytes 1 1, range := .nat 0 2 }

/-- `vChOn` (R219). -/
def Obj.vChOn : Obj :=
  { idx := 0x3C00, sub := 0x02, ty := .f32, acc := .img, dflt := leBytes 4 0x42580000, range := .real 0x00000000 0x42B40000 }

/-- `chHyst` (R219). -/
def Obj.chHyst : Obj :=
  { idx := 0x3C00, sub := 0x03, ty := .f32, acc := .img, dflt := leBytes 4 0x40000000, range := .real 0x3F000000 0x41200000 }

/-- `vRegenCut` (R219). -/
def Obj.vRegenCut : Obj :=
  { idx := 0x3C00, sub := 0x04, ty := .f32, acc := .img, dflt := leBytes 4 0x42680000, range := .real 0x00000000 0x42B40000 }

/-- `vAsc` (R219). -/
def Obj.vAsc : Obj :=
  { idx := 0x3C00, sub := 0x05, ty := .f32, acc := .img, dflt := leBytes 4 0x42780000, range := .real 0x00000000 0x42B40000 }

/-- `vAbs` (R219). -/
def Obj.vAbs : Obj :=
  { idx := 0x3C00, sub := 0x06, ty := .f32, acc := .img, dflt := leBytes 4 0x42880000, range := .real 0x00000000 0x42B40000 }

/-- `ladderHyst` (R219). -/
def Obj.ladderHyst : Obj :=
  { idx := 0x3C00, sub := 0x07, ty := .f32, acc := .img, dflt := leBytes 4 0x3F800000, range := .real 0x3F000000 0x40A00000 }

/-- `supplyAcceptance` (R219). -/
def Obj.supplyAcceptance : Obj :=
  { idx := 0x3C00, sub := 0x08, ty := .f32, acc := .img, dflt := leBytes 4 0, range := .real 0x00000000 0x461C4000 }

/-- `chopperResistance` (R219). -/
def Obj.chopperResistance : Obj :=
  { idx := 0x3C00, sub := 0x09, ty := .f32, acc := .img, dflt := leBytes 4 0, range := .realOr0 0x3F000000 0x447A0000 }

/-- `chopperPower` (R219). -/
def Obj.chopperPower : Obj :=
  { idx := 0x3C00, sub := 0x0A, ty := .f32, acc := .img, dflt := leBytes 4 0, range := .real 0x00000000 0x469C4000 }

/-- `chopperEnergy` (R219). -/
def Obj.chopperEnergy : Obj :=
  { idx := 0x3C00, sub := 0x0B, ty := .f32, acc := .img, dflt := leBytes 4 0, range := .real 0x00000000 0x49742400 }

/-- `chopperVdsThreshold` (R219). -/
def Obj.chopperVdsThreshold : Obj :=
  { idx := 0x3C00, sub := 0x0C, ty := .u8, acc := .img, dflt := leBytes 1 9, range := .nat 0 31 }

/-- `chopperBlanking` (R219). -/
def Obj.chopperBlanking : Obj :=
  { idx := 0x3C00, sub := 0x0D, ty := .u8, acc := .img, dflt := leBytes 1 9, range := .nat 0 63 }

/-- `chopperOnStrength` (R219). -/
def Obj.chopperOnStrength : Obj :=
  { idx := 0x3C00, sub := 0x0E, ty := .u8, acc := .img, dflt := leBytes 1 8, range := .nat 0 15 }

/-- `chopperOffStrength` (R219). -/
def Obj.chopperOffStrength : Obj :=
  { idx := 0x3C00, sub := 0x0F, ty := .u8, acc := .img, dflt := leBytes 1 8, range := .nat 0 15 }

/-- `portCarrierEighth` (R217). -/
def Obj.portCarrierEighth : Obj :=
  { idx := 0x3C10, n := 8, sub := 0x01, ty := .u8, acc := .img, dflt := leBytes 1 0, range := .nat 0 7 }

/-- `portDeadTime` (R217). -/
def Obj.portDeadTime : Obj :=
  { idx := 0x3C10, n := 8, sub := 0x02, ty := .u8, acc := .img, dflt := leBytes 1 19, range := .nat 0 255 }

/-- `portHsOnStrength` (R217). -/
def Obj.portHsOnStrength : Obj :=
  { idx := 0x3C10, n := 8, sub := 0x03, ty := .u8, acc := .img, dflt := leBytes 1 8, range := .nat 0 15 }

/-- `portHsOffStrength` (R217). -/
def Obj.portHsOffStrength : Obj :=
  { idx := 0x3C10, n := 8, sub := 0x04, ty := .u8, acc := .img, dflt := leBytes 1 8, range := .nat 0 15 }

/-- `portLsOnStrength` (R217). -/
def Obj.portLsOnStrength : Obj :=
  { idx := 0x3C10, n := 8, sub := 0x05, ty := .u8, acc := .img, dflt := leBytes 1 8, range := .nat 0 15 }

/-- `portLsOffStrength` (R217). -/
def Obj.portLsOffStrength : Obj :=
  { idx := 0x3C10, n := 8, sub := 0x06, ty := .u8, acc := .img, dflt := leBytes 1 8, range := .nat 0 15 }

/-- `portScOffStrength` (R217). -/
def Obj.portScOffStrength : Obj :=
  { idx := 0x3C10, n := 8, sub := 0x07, ty := .u8, acc := .img, dflt := leBytes 1 3, range := .nat 0 15 }

/-- `portVdsThreshold` (R217). -/
def Obj.portVdsThreshold : Obj :=
  { idx := 0x3C10, n := 8, sub := 0x08, ty := .u8, acc := .img, dflt := leBytes 1 9, range := .nat 0 31 }

/-- `portVdsBlanking` (R217). -/
def Obj.portVdsBlanking : Obj :=
  { idx := 0x3C10, n := 8, sub := 0x09, ty := .u8, acc := .img, dflt := leBytes 1 9, range := .nat 0 63 }

/-- `portHardShortThreshold` (R217). -/
def Obj.portHardShortThreshold : Obj :=
  { idx := 0x3C10, n := 8, sub := 0x0A, ty := .u8, acc := .img, dflt := leBytes 1 1, range := .nat 0 3 }

/-- `portMinPulse` (R217). -/
def Obj.portMinPulse : Obj :=
  { idx := 0x3C10, n := 8, sub := 0x0B, ty := .u8, acc := .img, dflt := leBytes 1 5, range := .nat 0 25 }

/-- `portBootRefresh` (R217). -/
def Obj.portBootRefresh : Obj :=
  { idx := 0x3C10, n := 8, sub := 0x0C, ty := .f32, acc := .img, dflt := leBytes 4 0x3F4CCCCD, range := .real 0x3F19999A 0x3F666666 }

/-- `portBootFault` (R217). -/
def Obj.portBootFault : Obj :=
  { idx := 0x3C10, n := 8, sub := 0x0D, ty := .f32, acc := .img, dflt := leBytes 4 0x3F266666, range := .real 0x3F000000 0x7F7FFFFF }

/-- `portRefreshTicks` (R217). -/
def Obj.portRefreshTicks : Obj :=
  { idx := 0x3C10, n := 8, sub := 0x0E, ty := .u8, acc := .img, dflt := leBytes 1 4, range := .nat 1 64 }

/-- `portRetryWait` (R217). -/
def Obj.portRetryWait : Obj :=
  { idx := 0x3C10, n := 8, sub := 0x0F, ty := .u8, acc := .img, dflt := leBytes 1 10, range := .nat 1 255 }

/-- `portRetryCount` (R217). -/
def Obj.portRetryCount : Obj :=
  { idx := 0x3C10, n := 8, sub := 0x10, ty := .u8, acc := .img, dflt := leBytes 1 3, range := .nat 0 7 }

/-- `fbMode` (R261). -/
def Obj.fbMode : Obj :=
  { idx := 0x4000, n := 8, sub := 0x01, ty := .u8, acc := .img, dflt := leBytes 1 0, range := .nat 0 4 }

/-- `fbFilter` (R261). -/
def Obj.fbFilter : Obj :=
  { idx := 0x4000, n := 8, sub := 0x02, ty := .u8, acc := .img, dflt := leBytes 1 3, range := .nat 0 31 }

/-- `fbHallFilter` (R261). -/
def Obj.fbHallFilter : Obj :=
  { idx := 0x4000, n := 8, sub := 0x03, ty := .u8, acc := .img, dflt := leBytes 1 2, range := .nat 0 100 }

/-- `fbInvert` (R261). -/
def Obj.fbInvert : Obj :=
  { idx := 0x4000, n := 8, sub := 0x04, ty := .u8, acc := .img, dflt := leBytes 1 0, range := .nat 0 1 }

/-- `fbIndexMode` (R261). -/
def Obj.fbIndexMode : Obj :=
  { idx := 0x4000, n := 8, sub := 0x05, ty := .u8, acc := .img, dflt := leBytes 1 0, range := .nat 0 1 }

/-- `fbIndexPosition` (R261). -/
def Obj.fbIndexPosition : Obj :=
  { idx := 0x4000, n := 8, sub := 0x06, ty := .u32, acc := .img, dflt := leBytes 4 0, range := .nat 0 4294967295 }

/-- `fbIndexTolerance` (R261). -/
def Obj.fbIndexTolerance : Obj :=
  { idx := 0x4000, n := 8, sub := 0x07, ty := .u8, acc := .img, dflt := leBytes 1 2, range := .nat 0 15 }

/-- `fbSoftLimitEnable` (R261). -/
def Obj.fbSoftLimitEnable : Obj :=
  { idx := 0x4000, n := 8, sub := 0x08, ty := .u8, acc := .img, dflt := leBytes 1 0, range := .nat 0 1 }

/-- `fbSoftMin` (R261). -/
def Obj.fbSoftMin : Obj :=
  { idx := 0x4000, n := 8, sub := 0x09, ty := .i32, acc := .img, dflt := leBytes 4 2147483648, range := .int (-2147483648) 2147483646 }

/-- `fbSoftMax` (R261). -/
def Obj.fbSoftMax : Obj :=
  { idx := 0x4000, n := 8, sub := 0x0A, ty := .i32, acc := .img, dflt := leBytes 4 2147483647, range := .int (-2147483647) 2147483647 }

/-- `fbSpeedCountMin` (R261). -/
def Obj.fbSpeedCountMin : Obj :=
  { idx := 0x4000, n := 8, sub := 0x0B, ty := .u8, acc := .img, dflt := leBytes 1 4, range := .nat 1 64 }

/-- `fbSpeedTimeout` (R261). -/
def Obj.fbSpeedTimeout : Obj :=
  { idx := 0x4000, n := 8, sub := 0x0C, ty := .u16, acc := .img, dflt := leBytes 2 100, range := .nat 1 10000 }

/-- `fbPortLineCount` (R261). -/
def Obj.fbPortLineCount : Obj :=
  { idx := 0x4000, n := 8, sub := 0x0D, ty := .u32, acc := .img, dflt := leBytes 4 1024, range := .nat 1 1048576 }

/-- `tetherSource` (R263). -/
def Obj.tetherSource : Obj :=
  { idx := 0x4010, sub := 0x01, ty := .u8, acc := .img, dflt := leBytes 1 255, range := .natOr 0 7 255 }

/-- `tetherCutOnFail` (R263). -/
def Obj.tetherCutOnFail : Obj :=
  { idx := 0x4010, sub := 0x02, ty := .u8, acc := .img, dflt := leBytes 1 1, range := .nat 0 1 }

/-- `reelSource` (R263). -/
def Obj.reelSource : Obj :=
  { idx := 0x4010, sub := 0x03, ty := .u8, acc := .img, dflt := leBytes 1 255, range := .natOr 0 7 255 }

/-- `reelM` (R263). -/
def Obj.reelM : Obj :=
  { idx := 0x4010, sub := 0x04, ty := .u16, acc := .img, dflt := leBytes 2 1, range := .nat 1 65535 }

/-- `reelN` (R263). -/
def Obj.reelN : Obj :=
  { idx := 0x4010, sub := 0x05, ty := .u16, acc := .img, dflt := leBytes 2 1, range := .nat 1 65535 }

/-- `reelIndex` (R263). -/
def Obj.reelIndex : Obj :=
  { idx := 0x4010, sub := 0x06, ty := .u8, acc := .img, dflt := leBytes 1 0, range := .nat 0 1 }

/-- `reelInvert` (R263). -/
def Obj.reelInvert : Obj :=
  { idx := 0x4010, sub := 0x07, ty := .u8, acc := .img, dflt := leBytes 1 0, range := .nat 0 1 }

/-- `sentTick` (R264). -/
def Obj.sentTick : Obj :=
  { idx := 0x4020, sub := 0x01, m := 4, ty := .u16, acc := .img, dflt := leBytes 2 0, range := .natOr 30 900 0 }

/-- `dataNibbles` (R264). -/
def Obj.dataNibbles : Obj :=
  { idx := 0x4020, sub := 0x05, m := 4, ty := .u8, acc := .img, dflt := leBytes 1 6, range := .nat 1 6 }

/-- `angleNibbles` (R264). -/
def Obj.angleNibbles : Obj :=
  { idx := 0x4020, sub := 0x09, m := 4, ty := .u8, acc := .img, dflt := leBytes 1 3, range := .nat 1 255 }

/-- `crcVariant` (R264). -/
def Obj.crcVariant : Obj :=
  { idx := 0x4020, sub := 0x0D, m := 4, ty := .u8, acc := .img, dflt := leBytes 1 1, range := .nat 0 1 }

/-- `pausePulse` (R264). -/
def Obj.pausePulse : Obj :=
  { idx := 0x4020, sub := 0x11, m := 4, ty := .u8, acc := .img, dflt := leBytes 1 0, range := .nat 0 1 }

/-- `statusMask` (R264). -/
def Obj.statusMask : Obj :=
  { idx := 0x4020, sub := 0x15, m := 4, ty := .u8, acc := .img, dflt := leBytes 1 0, range := .nat 0 15 }

/-- `sentLatency` (R264). -/
def Obj.sentLatency : Obj :=
  { idx := 0x4020, sub := 0x19, m := 4, ty := .f32, acc := .img, dflt := leBytes 4 0, range := .real 0x00000000 0x447A0000 }

/-- `sentTimeout` (R264). -/
def Obj.sentTimeout : Obj :=
  { idx := 0x4020, sub := 0x1D, m := 4, ty := .u16, acc := .img, dflt := leBytes 2 5, range := .nat 1 1000 }

/-- `nodeId` (R380). -/
def Obj.nodeId : Obj :=
  { idx := 0x4400, sub := 0x01, ty := .u8, acc := .img, dflt := leBytes 1 0, range := .nat 0 63 }

/-- `phyRateA` (R380). -/
def Obj.phyRateA : Obj :=
  { idx := 0x4400, sub := 0x02, ty := .u8, acc := .img, dflt := leBytes 1 0, range := .nat 0 1 }

/-- `phyRateB` (R380). -/
def Obj.phyRateB : Obj :=
  { idx := 0x4400, sub := 0x03, ty := .u8, acc := .img, dflt := leBytes 1 0, range := .nat 0 1 }

/-- `phyRoleA` (R380). -/
def Obj.phyRoleA : Obj :=
  { idx := 0x4400, sub := 0x04, ty := .u8, acc := .img, dflt := leBytes 1 0, range := .nat 0 1 }

/-- `phyRoleB` (R380). -/
def Obj.phyRoleB : Obj :=
  { idx := 0x4400, sub := 0x05, ty := .u8, acc := .img, dflt := leBytes 1 0, range := .nat 0 1 }

/-- `masterRank` (R380). -/
def Obj.masterRank : Obj :=
  { idx := 0x4400, sub := 0x06, ty := .u8, acc := .img, dflt := leBytes 1 255, range := .natOr 0 3 255 }

/-- `backupDelay` (R380). -/
def Obj.backupDelay : Obj :=
  { idx := 0x4400, sub := 0x07, ty := .u8, acc := .img, dflt := leBytes 1 10, range := .nat 2 100 }

/-- `refGuard` (R380). -/
def Obj.refGuard : Obj :=
  { idx := 0x4400, sub := 0x08, ty := .u16, acc := .img, dflt := leBytes 2 500, range := .nat 50 5000 }

/-- `launchStep` (R380). -/
def Obj.launchStep : Obj :=
  { idx := 0x4400, sub := 0x09, ty := .u16, acc := .img, dflt := leBytes 2 50, range := .nat 20 1000 }

/-- `rxDelayA` (R380). -/
def Obj.rxDelayA : Obj :=
  { idx := 0x4400, sub := 0x0A, ty := .u32, acc := .img, dflt := leBytes 4 0, range := .nat 0 100000 }

/-- `rxDelayB` (R380). -/
def Obj.rxDelayB : Obj :=
  { idx := 0x4400, sub := 0x0B, ty := .u32, acc := .img, dflt := leBytes 4 0, range := .nat 0 100000 }

/-- `prepTime` (R380). -/
def Obj.prepTime : Obj :=
  { idx := 0x4400, sub := 0x0C, ty := .u8, acc := .img, dflt := leBytes 1 2, range := .nat 1 50 }

/-- `lossCycles` (R380). -/
def Obj.lossCycles : Obj :=
  { idx := 0x4400, sub := 0x0D, ty := .u8, acc := .img, dflt := leBytes 1 3, range := .nat 1 16 }

/-- `scheduleId` (R380). -/
def Obj.scheduleId : Obj :=
  { idx := 0x4400, sub := 0x0E, ty := .u32, acc := .img, dflt := leBytes 4 0, range := .nat 0 4294967295 }

/-- `commandMap` (R380). -/
def Obj.commandMap : Obj :=
  { idx := 0x4400, sub := 0x0F, ty := .dom, acc := .img, dflt := List.replicate 96 0xFF, range := .len 96 96 }

/-- `scheduleTable` (R360). -/
def Obj.scheduleTable : Obj :=
  { idx := 0x4410, sub := 0x01, ty := .dom, acc := .img, dflt := [], range := .len 32768 32768 }

/-- `cyclePoint` (R383). -/
def Obj.cyclePoint : Obj :=
  { idx := 0x4430, sub := 0x01, m := 16, ty := .u32, acc := .img, dflt := leBytes 4 0, range := .nat 0 4294967295 }

/-- `cycleTarget`, the target of a cycle-point event (R383). -/
def Obj.cycleTarget : Obj :=
  { idx := 0x4430, sub := 0x11, m := 16, ty := .u8, acc := .img, dflt := leBytes 1 255, range := .nat 0 255 }

/-- `tunnelRxBuffer` (R412). -/
def Obj.tunnelRxBuffer : Obj :=
  { idx := 0x4440, sub := 0x01, ty := .u16, acc := .img, dflt := leBytes 2 65535, range := .natOr 0 511 65535 }

/-- `tunnelTxBuffer` (R412). -/
def Obj.tunnelTxBuffer : Obj :=
  { idx := 0x4440, sub := 0x02, ty := .u16, acc := .img, dflt := leBytes 2 65535, range := .natOr 0 511 65535 }

/-- `instEnable` (R346). -/
def Obj.instEnable : Obj :=
  { idx := 0x4800, n := 24, sub := 0x01, ty := .u8, acc := .img, shared := true, dflt := leBytes 1 0, range := .nat 0 1 }

/-- `instChannel1` (R346). -/
def Obj.instChannel1 : Obj :=
  { idx := 0x4800, n := 24, sub := 0x02, ty := .u16, acc := .img, shared := true, dflt := leBytes 2 0, range := .nat 0 65535 }

/-- `instChannel2` (R346). -/
def Obj.instChannel2 : Obj :=
  { idx := 0x4800, n := 24, sub := 0x03, ty := .u16, acc := .img, shared := true, dflt := leBytes 2 0, range := .nat 0 65535 }

/-- `instLockSource` (R346). -/
def Obj.instLockSource : Obj :=
  { idx := 0x4800, n := 24, sub := 0x04, ty := .u16, acc := .img, shared := true, dflt := leBytes 2 0, range := .nat 0 65535 }

/-- `instResetSource` (R346). -/
def Obj.instResetSource : Obj :=
  { idx := 0x4800, n := 24, sub := 0x05, ty := .u16, acc := .img, shared := true, dflt := leBytes 2 0, range := .nat 0 65535 }

/-- `instResetMode` (R346). -/
def Obj.instResetMode : Obj :=
  { idx := 0x4800, n := 24, sub := 0x06, ty := .u8, acc := .img, shared := true, dflt := leBytes 1 0, range := .nat 0 1 }

/-- `instStopCategory` (R346). -/
def Obj.instStopCategory : Obj :=
  { idx := 0x4800, n := 24, sub := 0x07, ty := .u8, acc := .img, shared := true, dflt := leBytes 1 0, range := .nat 0 2 }

/-- `instHoldGroups` (R346). -/
def Obj.instHoldGroups : Obj :=
  { idx := 0x4800, n := 24, sub := 0x08, ty := .u32, acc := .img, shared := true, dflt := leBytes 4 0, range := .mask 0x00FFFFFF }

/-- `instDiscrepancyTime` (R346). -/
def Obj.instDiscrepancyTime : Obj :=
  { idx := 0x4800, n := 24, sub := 0x09, ty := .u16, acc := .img, shared := true, dflt := leBytes 2 200, range := .nat 10 2000 }

/-- `instActiveEntry` (R346). -/
def Obj.instActiveEntry : Obj :=
  { idx := 0x4800, n := 24, sub := 0x0A, ty := .u16, acc := .img, shared := true, dflt := leBytes 2 65535, range := .natOr 0 1023 65535 }

/-- `offFilter` (R348). -/
def Obj.offFilter : Obj :=
  { idx := 0x4820, sub := 0x01, m := 12, ty := .u8, acc := .img, dflt := leBytes 1 5, range := .nat 1 200 }

/-- `onFilter` (R348). -/
def Obj.onFilter : Obj :=
  { idx := 0x4820, sub := 0x0D, m := 12, ty := .u8, acc := .img, dflt := leBytes 1 10, range := .nat 1 100 }

/-- `pulseSource` (R348). -/
def Obj.pulseSource : Obj :=
  { idx := 0x4820, sub := 0x19, m := 12, ty := .u8, acc := .img, dflt := leBytes 1 255, range := .natOr 0 5 255 }

/-- `tpoWidth` (R348). -/
def Obj.tpoWidth : Obj :=
  { idx := 0x4820, sub := 0x25, m := 6, ty := .u16, acc := .img, dflt := leBytes 2 500, range := .step 200 2000 10 }

/-- `tpoPeriod` (R348). -/
def Obj.tpoPeriod : Obj :=
  { idx := 0x4820, sub := 0x2B, m := 6, ty := .u16, acc := .img, dflt := leBytes 2 100, range := .divisor 10 1000 1000 }

/-- `tripMask` (R349). -/
def Obj.tripMask : Obj :=
  { idx := 0x4830, sub := 0x01, m := 4, ty := .u32, acc := .img, dflt := leBytes 4 16777215, range := .mask 0x00FFFFFF }

/-- `enableEntry` (R349). -/
def Obj.enableEntry : Obj :=
  { idx := 0x4830, sub := 0x05, m := 4, ty := .u16, acc := .img, dflt := leBytes 2 65535, range := .natOr 0 1023 65535 }

/-- `standbyOn` (R349). -/
def Obj.standbyOn : Obj :=
  { idx := 0x4830, sub := 0x09, m := 4, ty := .u8, acc := .img, dflt := leBytes 1 0, range := .nat 0 1 }

/-- `soutPulseInterval` (R349). -/
def Obj.soutPulseInterval : Obj :=
  { idx := 0x4830, sub := 0x0D, m := 4, ty := .u16, acc := .img, dflt := leBytes 2 100, range := .divisor 10 1000 1000 }

/-- `soutPulseWidth` (R349). -/
def Obj.soutPulseWidth : Obj :=
  { idx := 0x4830, sub := 0x11, m := 4, ty := .u16, acc := .img, dflt := leBytes 2 300, range := .step 100 500 10 }

/-- `edmInput` (R349). -/
def Obj.edmInput : Obj :=
  { idx := 0x4830, sub := 0x15, m := 4, ty := .u8, acc := .img, dflt := leBytes 1 255, range := .natOr 0 3 255 }

/-- `edmTime` (R349). -/
def Obj.edmTime : Obj :=
  { idx := 0x4830, sub := 0x19, m := 4, ty := .u16, acc := .img, dflt := leBytes 2 100, range := .nat 10 1000 }

/-- `diagInterval` (R349). -/
def Obj.diagInterval : Obj :=
  { idx := 0x4830, sub := 0x23, m := 4, ty := .u16, acc := .img, dflt := leBytes 2 1000, range := .nat 20 10000 }

/-- `safetyDegradedTime` (R351). -/
def Obj.safetyDegradedTime : Obj :=
  { idx := 0x4831, sub := 0x00, ty := .u16, acc := .img, shared := true, dflt := leBytes 2 600, range := .nat 60 3600 }

/-- `residentUnits` (R351). -/
def Obj.residentUnits : Obj :=
  { idx := 0x4840, sub := 0x01, ty := .u8, acc := .img, shared := true, dflt := leBytes 1 8, range := .nat 0 16 }

/-- `safeDataInputs` (R351). -/
def Obj.safeDataInputs : Obj :=
  { idx := 0x4850, sub := 0x01, ty := .dom, acc := .img, shared := true, dflt := List.replicate 288 0xFF, range := .len 288 288 }

/-- `safeTimeout` (R351). -/
def Obj.safeTimeout : Obj :=
  { idx := 0x4850, sub := 0x02, ty := .u8, acc := .img, shared := true, dflt := leBytes 1 3, range := .nat 1 16 }

/-- `safeDataOutputs` (R351). -/
def Obj.safeDataOutputs : Obj :=
  { idx := 0x4850, sub := 0x03, ty := .dom, acc := .img, shared := true, dflt := List.replicate 192 0xFF, range := .len 192 192 }

/-- `faultSourceMap` (R310). -/
def Obj.faultSourceMap : Obj :=
  { idx := 0x4C00, sub := 0x01, ty := .dom, acc := .img, shared := true, dflt := faultMapDefault, range := .len 768 768 }

/-- `haltWindings` (R310). -/
def Obj.haltWindings : Obj :=
  { idx := 0x4C01, sub := 0x01, ty := .u8, acc := .img, shared := true, dflt := leBytes 1 0, range := .nat 0 1 }

/-- `coalesceTime` (R310). -/
def Obj.coalesceTime : Obj :=
  { idx := 0x4C01, sub := 0x02, ty := .u16, acc := .img, shared := true, dflt := leBytes 2 10, range := .nat 0 1000 }

/-- `bistStagger` (R310). -/
def Obj.bistStagger : Obj :=
  { idx := 0x4C01, sub := 0x03, ty := .u8, acc := .img, shared := true, dflt := leBytes 1 40, range := .nat 36 60 }

/-- `injectChecker` (R310). -/
def Obj.injectChecker : Obj :=
  { idx := 0x4C50, sub := 0x01, ty := .u8, acc := .rw, dflt := leBytes 1 0, range := .nat 0 104 }

/-- `injectPattern` (R310). -/
def Obj.injectPattern : Obj :=
  { idx := 0x4C50, sub := 0x02, ty := .u8, acc := .rw, dflt := leBytes 1 1, range := .nat 1 2 }

/-- `injectReact` (R310). -/
def Obj.injectReact : Obj :=
  { idx := 0x4C50, sub := 0x03, ty := .u8, acc := .rw, dflt := leBytes 1 0, range := .nat 0 1 }

/-- `logSignals` (R451). -/
def Obj.logSignals : Obj :=
  { idx := 0x4C60, sub := 0x01, ty := .dom, acc := .img, dflt := List.replicate 128 0xFF, range := .len 128 128 }

/-- `logDivider` (R451). -/
def Obj.logDivider : Obj :=
  { idx := 0x4C60, sub := 0x02, ty := .u8, acc := .img, dflt := leBytes 1 1, range := .nat 1 64 }

/-- `preTrigger` (R451). -/
def Obj.preTrigger : Obj :=
  { idx := 0x4C60, sub := 0x03, ty := .u16, acc := .img, dflt := leBytes 2 1000, range := .nat 0 1000 }

/-- `postTrigger` (R451). -/
def Obj.postTrigger : Obj :=
  { idx := 0x4C60, sub := 0x04, ty := .u16, acc := .img, dflt := leBytes 2 1000, range := .nat 0 10000 }

/-- `triggerClass` (R451). -/
def Obj.triggerClass : Obj :=
  { idx := 0x4C60, sub := 0x05, ty := .u8, acc := .img, dflt := leBytes 1 1, range := .nat 0 3 }

/-- `trendSignals` (R451). -/
def Obj.trendSignals : Obj :=
  { idx := 0x4C60, sub := 0x06, ty := .dom, acc := .img, dflt := List.replicate 32 0xFF, range := .len 32 32 }

/-- `captureSelect` (R451). -/
def Obj.captureSelect : Obj :=
  { idx := 0x4C60, sub := 0x0C, ty := .u32, acc := .rw, dflt := leBytes 4 0, range := .nat 0 4294967295 }

/-- `readOffset` (R451). -/
def Obj.readOffset : Obj :=
  { idx := 0x4C60, sub := 0x0D, ty := .u32, acc := .rw, dflt := leBytes 4 0, range := .nat 0 4294967295 }

/-- `measuredSource` (R495). -/
def Obj.measuredSource : Obj :=
  { idx := 0x5020, sub := 0x01, ty := .u8, acc := .rw, dflt := leBytes 1 1, range := .nat 0 10 }

/-- `referenceSource` (R495). -/
def Obj.referenceSource : Obj :=
  { idx := 0x5020, sub := 0x02, ty := .u8, acc := .rw, dflt := leBytes 1 0, range := .nat 0 10 }

/-- `gateCycles` (R495). -/
def Obj.gateCycles : Obj :=
  { idx := 0x5020, sub := 0x03, ty := .u32, acc := .rw, dflt := leBytes 4 25000, range := .nat 1 16777215 }

/-- `vbatLow` (R527). -/
def Obj.vbatLow : Obj :=
  { idx := 0x5031, sub := 0x01, ty := .f32, acc := .img, dflt := leBytes 4 0x40C00000, range := .real 0x40900000 0x7F7FFFFF }

/-- `vbatHigh` (R527). -/
def Obj.vbatHigh : Obj :=
  { idx := 0x5031, sub := 0x02, ty := .f32, acc := .img, dflt := leBytes 4 0x42680000, range := .real 0x41200000 0x42700000 }

/-- `entryTimeout` (R528). -/
def Obj.entryTimeout : Obj :=
  { idx := 0x5040, sub := 0x05, ty := .u16, acc := .img, shared := true, dflt := leBytes 2 50, range := .nat 10 500 }

/-- `wakeTimer` (R528). -/
def Obj.wakeTimer : Obj :=
  { idx := 0x5040, sub := 0x07, ty := .u32, acc := .rw, dflt := leBytes 4 0, range := .nat 0 604800 }

/-- `wakeEnable` (R528). -/
def Obj.wakeEnable : Obj :=
  { idx := 0x5040, sub := 0x08, ty := .u16, acc := .img, dflt := leBytes 2 479, range := .mask 0x01FF }

/-- `parkingEntry` (R528). -/
def Obj.parkingEntry : Obj :=
  { idx := 0x5040, sub := 0x09, ty := .u16, acc := .img, shared := true, dflt := leBytes 2 65535, range := .natOr 0 1023 65535 }

/-- `stageOffset` (R445). -/
def Obj.stageOffset : Obj :=
  { idx := 0x5400, sub := 0x01, ty := .u32, acc := .rw, dflt := leBytes 4 0, range := .nat 0 4194303 }

/-- `stageData` (R445). -/
def Obj.stageData : Obj :=
  { idx := 0x5400, sub := 0x02, ty := .dom, acc := .rw, dflt := [], range := .len 0 32768 }

/-- `fwLoadOffset` (R448). -/
def Obj.fwLoadOffset : Obj :=
  { idx := 0x5420, sub := 0x07, ty := .u32, acc := .rw, dflt := leBytes 4 0, range := .nat 0 67108863 }

/-- `fwLoadData` (R448). -/
def Obj.fwLoadData : Obj :=
  { idx := 0x5420, sub := 0x08, ty := .dom, acc := .rw, dflt := [], range := .len 0 32768 }

/-- `keyLoad` (R449). -/
def Obj.keyLoad : Obj :=
  { idx := 0x5430, sub := 0x19, ty := .dom, acc := .rw, dflt := [], range := .lenOr 0 1985 }

/-- `attestChallenge` (R449). -/
def Obj.attestChallenge : Obj :=
  { idx := 0x5430, sub := 0x1E, ty := .dom, acc := .rw, dflt := [], range := .lenOr 0 32 }

/-- `response` (R450). -/
def Obj.response : Obj :=
  { idx := 0x5440, sub := 0x02, ty := .dom, acc := .rw, dflt := [], range := .lenOr 0 3377 }

/-- `debugResponse` (R450). -/
def Obj.debugResponse : Obj :=
  { idx := 0x5440, sub := 0x08, ty := .dom, acc := .rw, dflt := [], range := .lenOr 0 3377 }

/-- `appThreads` (R475). -/
def Obj.appThreads : Obj :=
  { idx := 0x5800, sub := 0x01, ty := .dom, acc := .img, shared := true, dflt := [], range := .lenStep 0 2048 16 }

/-- `appCode` (R475). -/
def Obj.appCode : Obj :=
  { idx := 0x5810, sub := 0x01, ty := .dom, acc := .img, shared := true, dflt := [], range := .len 0 2097152 }

/-- `appData` (R475). -/
def Obj.appData : Obj :=
  { idx := 0x5810, sub := 0x02, ty := .dom, acc := .img, dflt := [], range := .len 0 1048576 }

/-- `flowDepth` (R475). -/
def Obj.flowDepth : Obj :=
  { idx := 0x5820, sub := 0x01, ty := .dom, acc := .img, dflt := List.replicate 64 0, range := .len 64 64 }

/-- `appBuffers` (R475). -/
def Obj.appBuffers : Obj :=
  { idx := 0x5830, sub := 0x01, ty := .dom, acc := .img, dflt := List.replicate 64 0, range := .len 64 64 }

/-- `canTxFlow` (R475). -/
def Obj.canTxFlow : Obj :=
  { idx := 0x5840, sub := 0x01, m := 4, ty := .u8, acc := .img, dflt := leBytes 1 255, range := .natOr 16 63 255 }

/-- `appFaultFlow` (R475). -/
def Obj.appFaultFlow : Obj :=
  { idx := 0x5840, sub := 0x05, ty := .u8, acc := .img, dflt := leBytes 1 255, range := .natOr 16 63 255 }

/-- Objects with a stored value, part 1. -/
def objectsStored1 : List Obj :=
  [Obj.producerHeartbeat,
   Obj.canMode,
   Obj.canNominalRate,
   Obj.canDataRate,
   Obj.canNominalSamplePoint,
   Obj.canDataSamplePoint,
   Obj.canUsdoServer,
   Obj.canHeartbeatEnable,
   Obj.canFilters,
   Obj.nodeIdBase,
   Obj.usdoTimeout,
   Obj.tickRate,
   Obj.cycleTicks,
   Obj.laneAtRank,
   Obj.leaseTicks,
   Obj.descentLimit,
   Obj.compareTicks,
   Obj.boostTime,
   Obj.rejoinTries,
   Obj.standstillSignal,
   Obj.compareTolerance,
   Obj.ballastSlots,
   Obj.ballastCan,
   Obj.mirrorWord,
   Obj.groupPortA,
   Obj.groupPortB,
   Obj.groupPortC,
   Obj.groupForceRatio,
   Obj.groupPolePairs,
   Obj.groupRatedCurrent,
   Obj.groupMaxSpeed,
   Obj.groupMaxAccel,
   Obj.groupPositionSource,
   Obj.groupFallbackSource,
   Obj.groupHallFitted,
   Obj.groupSentInput,
   Obj.groupLineCount,
   Obj.groupElecOffset,
   Obj.groupAngleVoteLimit,
   Obj.groupAngleVoteTicks,
   Obj.groupLosLimit,
   Obj.groupCatchLimit,
   Obj.groupCatchRestLevel,
   Obj.groupStopTorque,
   Obj.groupPositionModulus,
   Obj.groupSpeedFilter,
   Obj.groupGroupReaction,
   Obj.groupAuthoritySlot,
   Obj.fieldRs20,
   Obj.fieldLd,
   Obj.fieldLq,
   Obj.fieldFluxLinkage,
   Obj.fieldMutualD,
   Obj.fieldMutualQ,
   Obj.fieldCurrentBandwidth,
   Obj.fieldIdRef,
   Obj.fieldModulation,
   Obj.fieldModIndexMax,
   Obj.fieldWindowTime,
   Obj.fieldFwGain]

/-- Objects with a stored value, part 2. -/
def objectsStored2 : List Obj :=
  [Obj.fieldIdMin,
   Obj.fieldHfiVoltage,
   Obj.fieldBlendLow,
   Obj.fieldBlendHigh,
   Obj.fieldPllBandwidth,
   Obj.fieldRsAdapt,
   Obj.fieldRsAdaptSpeed,
   Obj.fieldNtcChannel,
   Obj.fieldThermalRth,
   Obj.fieldThermalTau,
   Obj.fieldTempDerate,
   Obj.fieldTempMax,
   Obj.slotKind,
   Obj.slotLanes,
   Obj.slotGroup,
   Obj.slotWindow,
   Obj.slotDivider,
   Obj.slotPhase,
   Obj.slotFeedbackEntry,
   Obj.slotSetpointSource,
   Obj.slotSetpointIndex,
   Obj.slotSetpointValue,
   Obj.slotAltSource,
   Obj.slotAltIndex,
   Obj.slotSelectEntry,
   Obj.slotKp,
   Obj.slotKi,
   Obj.slotKd,
   Obj.slotDerivTau,
   Obj.slotDerivSource,
   Obj.slotFeedforwardEntry,
   Obj.slotKff,
   Obj.slotOutMin,
   Obj.slotOutMax,
   Obj.slotMinEntry,
   Obj.slotMaxEntry,
   Obj.slotRateLimit,
   Obj.slotAntiWindup,
   Obj.slotKaw,
   Obj.slotNotch1Mode,
   Obj.slotNotch2Mode,
   Obj.slotNotch1Freq,
   Obj.slotNotch2Freq,
   Obj.slotNotch1Q,
   Obj.slotNotch2Q,
   Obj.slotNotch1Depth,
   Obj.slotNotch2Depth,
   Obj.slotAdaptMin,
   Obj.slotAdaptMax,
   Obj.slotAdaptRate,
   Obj.slotAdaptThreshold,
   Obj.slotDetectorLength,
   Obj.slotTrajNumber,
   Obj.slotTrajMode,
   Obj.slotTrajVmax,
   Obj.slotTrajAmax,
   Obj.slotWrapModulus,
   Obj.slotFollowErrLimit,
   Obj.slotFollowErrTime,
   Obj.slotBumpless]

/-- Objects with a stored value, part 3. -/
def objectsStored3 : List Obj :=
  [Obj.ainMin,
   Obj.ainMax,
   Obj.ainRule,
   Obj.ainFaultTime,
   Obj.psetForm,
   Obj.psetScale,
   Obj.psetPwmMin,
   Obj.psetPwmMax,
   Obj.psetTimeout,
   Obj.psetRule,
   Obj.psetMinPulse,
   Obj.appDefaults,
   Obj.missLimit,
   Obj.cmdStaleCycles,
   Obj.appStaleTicks,
   Obj.offsetTrimDiv,
   Obj.offsetTrimLimit,
   Obj.deadTimeAdapt,
   Obj.deadTimeBand,
   Obj.signatureWindow,
   Obj.shuntGain,
   Obj.shuntResistance,
   Obj.chopperShuntGain,
   Obj.chopperShuntResistance,
   Obj.ocThreshold,
   Obj.ntcBeta,
   Obj.ntcR25,
   Obj.gateVoltage,
   Obj.vChOn,
   Obj.chHyst,
   Obj.vRegenCut,
   Obj.vAsc,
   Obj.vAbs,
   Obj.ladderHyst,
   Obj.supplyAcceptance,
   Obj.chopperResistance,
   Obj.chopperPower,
   Obj.chopperEnergy,
   Obj.chopperVdsThreshold,
   Obj.chopperBlanking,
   Obj.chopperOnStrength,
   Obj.chopperOffStrength,
   Obj.portCarrierEighth,
   Obj.portDeadTime,
   Obj.portHsOnStrength,
   Obj.portHsOffStrength,
   Obj.portLsOnStrength,
   Obj.portLsOffStrength,
   Obj.portScOffStrength,
   Obj.portVdsThreshold,
   Obj.portVdsBlanking,
   Obj.portHardShortThreshold,
   Obj.portMinPulse,
   Obj.portBootRefresh,
   Obj.portBootFault,
   Obj.portRefreshTicks,
   Obj.portRetryWait,
   Obj.portRetryCount,
   Obj.fbMode,
   Obj.fbFilter]

/-- Objects with a stored value, part 4. -/
def objectsStored4 : List Obj :=
  [Obj.fbHallFilter,
   Obj.fbInvert,
   Obj.fbIndexMode,
   Obj.fbIndexPosition,
   Obj.fbIndexTolerance,
   Obj.fbSoftLimitEnable,
   Obj.fbSoftMin,
   Obj.fbSoftMax,
   Obj.fbSpeedCountMin,
   Obj.fbSpeedTimeout,
   Obj.fbPortLineCount,
   Obj.tetherSource,
   Obj.tetherCutOnFail,
   Obj.reelSource,
   Obj.reelM,
   Obj.reelN,
   Obj.reelIndex,
   Obj.reelInvert,
   Obj.sentTick,
   Obj.dataNibbles,
   Obj.angleNibbles,
   Obj.crcVariant,
   Obj.pausePulse,
   Obj.statusMask,
   Obj.sentLatency,
   Obj.sentTimeout,
   Obj.nodeId,
   Obj.phyRateA,
   Obj.phyRateB,
   Obj.phyRoleA,
   Obj.phyRoleB,
   Obj.masterRank,
   Obj.backupDelay,
   Obj.refGuard,
   Obj.launchStep,
   Obj.rxDelayA,
   Obj.rxDelayB,
   Obj.prepTime,
   Obj.lossCycles,
   Obj.scheduleId,
   Obj.commandMap,
   Obj.scheduleTable,
   Obj.cyclePoint,
   Obj.cycleTarget,
   Obj.tunnelRxBuffer,
   Obj.tunnelTxBuffer,
   Obj.instEnable,
   Obj.instChannel1,
   Obj.instChannel2,
   Obj.instLockSource,
   Obj.instResetSource,
   Obj.instResetMode,
   Obj.instStopCategory,
   Obj.instHoldGroups,
   Obj.instDiscrepancyTime,
   Obj.instActiveEntry,
   Obj.offFilter,
   Obj.onFilter,
   Obj.pulseSource,
   Obj.tpoWidth,
   Obj.tpoPeriod]

/-- Objects with a stored value, part 5. -/
def objectsStored5 : List Obj :=
  [Obj.tripMask,
   Obj.enableEntry,
   Obj.standbyOn,
   Obj.soutPulseInterval,
   Obj.soutPulseWidth,
   Obj.edmInput,
   Obj.edmTime,
   Obj.diagInterval,
   Obj.safetyDegradedTime,
   Obj.residentUnits,
   Obj.safeDataInputs,
   Obj.safeTimeout,
   Obj.safeDataOutputs,
   Obj.faultSourceMap,
   Obj.haltWindings,
   Obj.coalesceTime,
   Obj.bistStagger,
   Obj.injectChecker,
   Obj.injectPattern,
   Obj.injectReact,
   Obj.logSignals,
   Obj.logDivider,
   Obj.preTrigger,
   Obj.postTrigger,
   Obj.triggerClass,
   Obj.trendSignals,
   Obj.captureSelect,
   Obj.readOffset,
   Obj.measuredSource,
   Obj.referenceSource,
   Obj.gateCycles,
   Obj.vbatLow,
   Obj.vbatHigh,
   Obj.entryTimeout,
   Obj.wakeTimer,
   Obj.wakeEnable,
   Obj.parkingEntry,
   Obj.stageOffset,
   Obj.stageData,
   Obj.fwLoadOffset,
   Obj.fwLoadData,
   Obj.keyLoad,
   Obj.attestChallenge,
   Obj.response,
   Obj.debugResponse,
   Obj.appThreads,
   Obj.appCode,
   Obj.appData,
   Obj.flowDepth,
   Obj.appBuffers,
   Obj.canTxFlow,
   Obj.appFaultFlow]

/-- Every object with a stored value: `IMG`, `RC` and `RW`. -/
def objectsStored : List Obj :=
  objectsStored1 ++ objectsStored2 ++ objectsStored3 ++ objectsStored4 ++ objectsStored5

/-- Objects without a stored value (`RO` and `CMD`), part 1. -/
def objectsOther1 : List Obj := [
  /- DeviceType (R407) -/ { idx := 0x1000, sub := 0x00, ty := .u32, acc := .ro, dflt := leBytes 4 0, range := .any },
  /- ErrorRegister (R407) -/ { idx := 0x1001, sub := 0x00, ty := .u8, acc := .ro, dflt := leBytes 1 0, range := .any },
  /- HighestSubIndex (R407) -/ { idx := 0x1018, sub := 0x00, ty := .u8, acc := .ro, dflt := leBytes 1 4, range := .any },
  /- VendorId (R407) -/ { idx := 0x1018, sub := 0x01, ty := .u32, acc := .ro, dflt := leBytes 4 3419, range := .any },
  /- ProductCode (R407) -/ { idx := 0x1018, sub := 0x02, ty := .u32, acc := .ro, dflt := leBytes 4 3293184, range := .any },
  /- RevisionNumber (R407) -/ { idx := 0x1018, sub := 0x03, ty := .u32, acc := .ro, dflt := leBytes 4 196608, range := .any },
  /- SerialNumber (R407) -/ { idx := 0x1018, sub := 0x04, ty := .u32, acc := .ro, dflt := leBytes 4 0, range := .any },
  /- HighestSubIndex (R409) -/ { idx := 0x1F00, n := 4, sub := 0x00, ty := .u8, acc := .ro, dflt := leBytes 1 14, range := .any },
  /- PortStatus (R409) -/ { idx := 0x1F00, n := 4, sub := 0x08, ty := .u16, acc := .ro, dflt := leBytes 2 0, range := .any },
  /- TxErrorCount (R409) -/ { idx := 0x1F00, n := 4, sub := 0x09, ty := .u8, acc := .ro, dflt := leBytes 1 0, range := .any },
  /- RxErrorCount (R409) -/ { idx := 0x1F00, n := 4, sub := 0x0A, ty := .u8, acc := .ro, dflt := leBytes 1 0, range := .any },
  /- BusOffEvents (R409) -/ { idx := 0x1F00, n := 4, sub := 0x0B, ty := .u16, acc := .ro, dflt := leBytes 2 0, range := .any },
  /- FramesRx (R409) -/ { idx := 0x1F00, n := 4, sub := 0x0C, ty := .u32, acc := .ro, dflt := leBytes 4 0, range := .any },
  /- FramesTx (R409) -/ { idx := 0x1F00, n := 4, sub := 0x0D, ty := .u32, acc := .ro, dflt := leBytes 4 0, range := .any },
  /- ClearCounters (R409) -/ { idx := 0x1F00, n := 4, sub := 0x0E, ty := .u8, acc := .cmd, dflt := leBytes 1 0, range := .nat 0 0 },
  /- ActiveNodeId (R412) -/ { idx := 0x1F10, sub := 0x02, ty := .u8, acc := .ro, dflt := leBytes 1 0, range := .any },
  /- OpenSessions (R412) -/ { idx := 0x1F20, sub := 0x02, ty := .u8, acc := .ro, dflt := leBytes 1 0, range := .any },
  /- SessionRefusals (R412) -/ { idx := 0x1F20, sub := 0x03, ty := .u32, acc := .ro, dflt := leBytes 4 0, range := .any },
  /- AbortsSent (R412) -/ { idx := 0x1F20, sub := 0x04, ty := .u32, acc := .ro, dflt := leBytes 4 0, range := .any },
  /- ReplicationFailures (R412) -/ { idx := 0x1F20, sub := 0x05, ty := .u32, acc := .ro, dflt := leBytes 4 0, range := .any },
  /- TunnelIgnored (R412) -/ { idx := 0x1F20, sub := 0x06, ty := .u32, acc := .ro, dflt := leBytes 4 0, range := .any },
  /- ClearCounters (R412) -/ { idx := 0x1F20, sub := 0x07, ty := .u8, acc := .cmd, dflt := leBytes 1 0, range := .nat 0 0 },
  /- HighestSubIndex (R3) -/ { idx := 0x2000, sub := 0x00, ty := .u8, acc := .ro, dflt := leBytes 1 5, range := .any },
  /- ProductCode (R3) -/ { idx := 0x2000, sub := 0x01, ty := .str, acc := .ro, dflt := [0x53, 0x4B, 0x56, 0x2D, 0x33, 0x32, 0x34], range := .any },
  /- RevisionLetter (R3) -/ { idx := 0x2000, sub := 0x02, ty := .str, acc := .ro, dflt := [0x43], range := .any },
  /- SerialNumber (R3) -/ { idx := 0x2000, sub := 0x03, ty := .str, acc := .ro, dflt := [], range := .any },
  /- LaneCount (R3) -/ { idx := 0x2000, sub := 0x04, ty := .u8, acc := .ro, dflt := leBytes 1 3, range := .any },
  /- LaneLetter (R3) -/ { idx := 0x2000, sub := 0x05, ty := .str, acc := .ro, dflt := [], range := .any },
  /- TickCount (R16) -/ { idx := 0x2012, sub := 0x00, ty := .u32, acc := .ro, shared := true, dflt := leBytes 4 0, range := .any },
  /- TickCountHigh (R16) -/ { idx := 0x2013, sub := 0x00, ty := .u32, acc := .ro, shared := true, dflt := leBytes 4 0, range := .any },
  /- DeviceMode (R406) -/ { idx := 0x2020, sub := 0x00, ty := .u8, acc := .ro, shared := true, dflt := leBytes 1 0, range := .any },
  /- ModeRequest (R406) -/ { idx := 0x2021, sub := 0x00, ty := .u8, acc := .cmd, shared := true, dflt := leBytes 1 0, range := .nat 1 3 },
  /- HighestSubIndex (R82) -/ { idx := 0x2400, sub := 0x00, ty := .u8, acc := .ro, shared := true, dflt := leBytes 1 3, range := .any },
  /- LaneStatus A–C (R82) -/ { idx := 0x2410, sub := 0x01, m := 3, ty := .u32, acc := .ro, dflt := leBytes 4 0, range := .any },
  /- HighestSubIndex (R82) -/ { idx := 0x2420, sub := 0x00, ty := .u8, acc := .ro, shared := true, dflt := leBytes 1 64, range := .any },
  /- HighestSubIndex (R30) -/ { idx := 0x2430, sub := 0x00, ty := .u8, acc := .ro, dflt := leBytes 1 9, range := .any },
  /- FwdRecordsValid (R30) -/ { idx := 0x2430, sub := 0x01, ty := .u32, acc := .ro, dflt := leBytes 4 0, range := .any },
  /- FwdCrcErrors (R30) -/ { idx := 0x2430, sub := 0x02, ty := .u32, acc := .ro, dflt := leBytes 4 0, range := .any },
  /- FwdTickMismatch (R30) -/ { idx := 0x2430, sub := 0x03, ty := .u32, acc := .ro, dflt := leBytes 4 0, range := .any },
  /- FwdMissing (R30) -/ { idx := 0x2430, sub := 0x04, ty := .u32, acc := .ro, dflt := leBytes 4 0, range := .any }]

/-- Objects without a stored value (`RO` and `CMD`), part 2. -/
def objectsOther2 : List Obj := [
  /- BackRecordsValid (R30) -/ { idx := 0x2430, sub := 0x05, ty := .u32, acc := .ro, dflt := leBytes 4 0, range := .any },
  /- BackCrcErrors (R30) -/ { idx := 0x2430, sub := 0x06, ty := .u32, acc := .ro, dflt := leBytes 4 0, range := .any },
  /- BackTickMismatch (R30) -/ { idx := 0x2430, sub := 0x07, ty := .u32, acc := .ro, dflt := leBytes 4 0, range := .any },
  /- BackMissing (R30) -/ { idx := 0x2430, sub := 0x08, ty := .u32, acc := .ro, dflt := leBytes 4 0, range := .any },
  /- ClearCounters (R30) -/ { idx := 0x2430, sub := 0x09, ty := .u8, acc := .cmd, dflt := leBytes 1 0, range := .nat 0 0 },
  /- HighestSubIndex (R156) -/ { idx := 0x2800, n := 24, sub := 0x00, ty := .u8, acc := .ro, shared := true, dflt := leBytes 1 26, range := .any },
  /- HighestSubIndex (R157) -/ { idx := 0x2900, n := 24, sub := 0x00, ty := .u8, acc := .ro, shared := true, dflt := leBytes 1 31, range := .any },
  /- — (R157) -/ { idx := 0x2900, n := 24, sub := 0x19, ty := .u8, acc := .ro, shared := true, dflt := leBytes 1 0, range := .any },
  /- RsEstimate (R157) -/ { idx := 0x2900, n := 24, sub := 0x1A, ty := .f32, acc := .ro, dflt := leBytes 4 0, range := .any },
  /- FieldStatus (R157) -/ { idx := 0x2900, n := 24, sub := 0x1B, ty := .u32, acc := .ro, dflt := leBytes 4 0, range := .any },
  /- LosEvents (R157) -/ { idx := 0x2900, n := 24, sub := 0x1C, ty := .u16, acc := .ro, dflt := leBytes 2 0, range := .any },
  /- CatchRefusals (R157) -/ { idx := 0x2900, n := 24, sub := 0x1D, ty := .u16, acc := .ro, dflt := leBytes 2 0, range := .any },
  /- ReconCount (R157) -/ { idx := 0x2900, n := 24, sub := 0x1E, ty := .u32, acc := .ro, dflt := leBytes 4 0, range := .any },
  /- ModClampCount (R157) -/ { idx := 0x2900, n := 24, sub := 0x1F, ty := .u32, acc := .ro, dflt := leBytes 4 0, range := .any },
  /- HighestSubIndex (R121) -/ { idx := 0x3000, n := 192, sub := 0x00, ty := .u8, acc := .ro, shared := true, dflt := leBytes 1 54, range := .any },
  /- Notch1Adapted, Notch2Adapted (R121) -/ { idx := 0x3000, n := 192, sub := 0x31, ty := .f32, acc := .ro, dflt := leBytes 4 0, range := .any },
  /- Notch1Adapted, Notch2Adapted (R121) -/ { idx := 0x3000, n := 192, sub := 0x32, ty := .f32, acc := .ro, dflt := leBytes 4 0, range := .any },
  /- SlotStatus (R121) -/ { idx := 0x3000, n := 192, sub := 0x33, ty := .u16, acc := .ro, dflt := leBytes 2 0, range := .any },
  /- DeadlineMisses (R121) -/ { idx := 0x3000, n := 192, sub := 0x34, ty := .u32, acc := .ro, dflt := leBytes 4 0, range := .any },
  /- InvalidRuns (R121) -/ { idx := 0x3000, n := 192, sub := 0x35, ty := .u32, acc := .ro, dflt := leBytes 4 0, range := .any },
  /- PlacedWindow (R121) -/ { idx := 0x3000, n := 192, sub := 0x36, ty := .u8, acc := .ro, dflt := leBytes 1 255, range := .any },
  /- HighestSubIndex (R123) -/ { idx := 0x3410, sub := 0x00, ty := .u8, acc := .ro, dflt := leBytes 1 22, range := .any },
  /- PlannedCycles windows 0–7 (R123) -/ { idx := 0x3410, sub := 0x01, m := 8, ty := .u16, acc := .ro, dflt := leBytes 2 0, range := .any },
  /- WindowCycles (W) (R123) -/ { idx := 0x3410, sub := 0x09, ty := .u16, acc := .ro, dflt := leBytes 2 3750, range := .any },
  /- UnitsUsed (R123) -/ { idx := 0x3410, sub := 0x0A, ty := .u16, acc := .ro, dflt := leBytes 2 0, range := .any },
  /- PositionsUsed (R123) -/ { idx := 0x3410, sub := 0x0B, ty := .u8, acc := .ro, dflt := leBytes 1 0, range := .any },
  /- PeakCycles windows 0–7 (R123) -/ { idx := 0x3410, sub := 0x0C, m := 8, ty := .u16, acc := .ro, dflt := leBytes 2 0, range := .any },
  /- RejectCause (R123) -/ { idx := 0x3410, sub := 0x14, ty := .u8, acc := .ro, dflt := leBytes 1 0, range := .any },
  /- RejectSlot (R123) -/ { idx := 0x3410, sub := 0x15, ty := .u8, acc := .ro, dflt := leBytes 1 255, range := .any },
  /- ClearPeaks (R123) -/ { idx := 0x3410, sub := 0x16, ty := .u8, acc := .cmd, dflt := leBytes 1 0, range := .nat 0 0 },
  /- HighestSubIndex (R287) -/ { idx := 0x3430, sub := 0x00, ty := .u8, acc := .ro, shared := true, dflt := leBytes 1 1, range := .any },
  /- HighestSubIndex (R288) -/ { idx := 0x3431, sub := 0x00, ty := .u8, acc := .ro, dflt := leBytes 1 14, range := .any },
  /- DutyMismatches (R288) -/ { idx := 0x3431, sub := 0x01, ty := .u32, acc := .ro, dflt := leBytes 4 0, range := .any },
  /- SignatureMismatches (R288) -/ { idx := 0x3431, sub := 0x02, ty := .u32, acc := .ro, dflt := leBytes 4 0, range := .any },
  /- SoftwareMismatches (R288) -/ { idx := 0x3431, sub := 0x03, ty := .u32, acc := .ro, dflt := leBytes 4 0, range := .any },
  /- Restores (R288) -/ { idx := 0x3431, sub := 0x04, ty := .u32, acc := .ro, dflt := leBytes 4 0, range := .any },
  /- LastMismatchTick (R288) -/ { idx := 0x3431, sub := 0x05, ty := .u32, acc := .ro, dflt := leBytes 4 0, range := .any },
  /- LastMismatchSource (R288) -/ { idx := 0x3431, sub := 0x06, ty := .u8, acc := .ro, dflt := leBytes 1 255, range := .any },
  /- TaggedTests (R288) -/ { idx := 0x3431, sub := 0x07, ty := .u32, acc := .ro, dflt := leBytes 4 0, range := .any },
  /- TaggedRepeats (R288) -/ { idx := 0x3431, sub := 0x08, ty := .u32, acc := .ro, dflt := leBytes 4 0, range := .any }]

/-- Objects without a stored value (`RO` and `CMD`), part 3. -/
def objectsOther3 : List Obj := [
  /- DelayEccCorrected (R288) -/ { idx := 0x3431, sub := 0x09, ty := .u32, acc := .ro, dflt := leBytes 4 0, range := .any },
  /- DelayEccUncorrected (R288) -/ { idx := 0x3431, sub := 0x0A, ty := .u32, acc := .ro, dflt := leBytes 4 0, range := .any },
  /- AgreeIncomplete (R288) -/ { idx := 0x3431, sub := 0x0B, ty := .u32, acc := .ro, dflt := leBytes 4 0, range := .any },
  /- AgreeDisagree (R288) -/ { idx := 0x3431, sub := 0x0C, ty := .u32, acc := .ro, dflt := leBytes 4 0, range := .any },
  /- RecentMismatches (R288) -/ { idx := 0x3431, sub := 0x0D, ty := .u8, acc := .ro, dflt := leBytes 1 0, range := .any },
  /- ClearCounters (R288) -/ { idx := 0x3431, sub := 0x0E, ty := .u8, acc := .cmd, dflt := leBytes 1 0, range := .nat 0 0 },
  /- HighestSubIndex (R182) -/ { idx := 0x3800, sub := 0x00, ty := .u8, acc := .ro, shared := true, dflt := leBytes 1 42, range := .any },
  /- SenseValues (R184) -/ { idx := 0x3801, sub := 0x01, ty := .dom, acc := .ro, dflt := [], range := .any },
  /- HighestSubIndex (R183) -/ { idx := 0x3802, sub := 0x00, ty := .u8, acc := .ro, dflt := leBytes 1 10, range := .any },
  /- AdcHealth (R183) -/ { idx := 0x3802, sub := 0x01, ty := .u16, acc := .ro, dflt := leBytes 2 65535, range := .any },
  /- ScanRotation (R183) -/ { idx := 0x3802, sub := 0x02, ty := .u16, acc := .ro, dflt := leBytes 2 4200, range := .any },
  /- ConvRetries (R183) -/ { idx := 0x3802, sub := 0x03, ty := .u32, acc := .ro, dflt := leBytes 4 0, range := .any },
  /- ConvInvalid (R183) -/ { idx := 0x3802, sub := 0x04, ty := .u32, acc := .ro, dflt := leBytes 4 0, range := .any },
  /- SatCount (R183) -/ { idx := 0x3802, sub := 0x05, ty := .u32, acc := .ro, dflt := leBytes 4 0, range := .any },
  /- CmpHighFlags (R183) -/ { idx := 0x3802, sub := 0x06, ty := .dom, acc := .ro, dflt := [], range := .any },
  /- CmpLowFlags (R183) -/ { idx := 0x3802, sub := 0x07, ty := .dom, acc := .ro, dflt := [], range := .any },
  /- ClearFlags (R183) -/ { idx := 0x3802, sub := 0x08, ty := .u8, acc := .cmd, dflt := leBytes 1 0, range := .nat 0 0 },
  /- StartOffsets (R183) -/ { idx := 0x3802, sub := 0x09, ty := .dom, acc := .ro, dflt := [], range := .any },
  /- TrimOffsets (R183) -/ { idx := 0x3802, sub := 0x0A, ty := .dom, acc := .ro, dflt := [], range := .any },
  /- HighestSubIndex (R219) -/ { idx := 0x3C00, sub := 0x00, ty := .u8, acc := .ro, dflt := leBytes 1 20, range := .any },
  /- LaneDriveStatus (R219) -/ { idx := 0x3C00, sub := 0x10, ty := .u32, acc := .ro, dflt := leBytes 4 0, range := .any },
  /- RegenLimit (R219) -/ { idx := 0x3C00, sub := 0x11, ty := .f32, acc := .ro, dflt := leBytes 4 0, range := .any },
  /- ChopperEnergyUsed (R219) -/ { idx := 0x3C00, sub := 0x12, ty := .f32, acc := .ro, dflt := leBytes 4 0, range := .any },
  /- LadderAscEvents (R219) -/ { idx := 0x3C00, sub := 0x13, ty := .u16, acc := .ro, dflt := leBytes 2 0, range := .any },
  /- ClearCounters (R219) -/ { idx := 0x3C00, sub := 0x14, ty := .u8, acc := .cmd, dflt := leBytes 1 0, range := .nat 0 0 },
  /- HighestSubIndex (R217) -/ { idx := 0x3C10, n := 8, sub := 0x00, ty := .u8, acc := .ro, dflt := leBytes 1 23, range := .any },
  /- PortStatus (R217) -/ { idx := 0x3C10, n := 8, sub := 0x11, ty := .u32, acc := .ro, dflt := leBytes 4 0, range := .any },
  /- ShortTrips (R217) -/ { idx := 0x3C10, n := 8, sub := 0x12, ty := .u32, acc := .ro, dflt := leBytes 4 0, range := .any },
  /- HardShortTrips (R217) -/ { idx := 0x3C10, n := 8, sub := 0x13, ty := .u32, acc := .ro, dflt := leBytes 4 0, range := .any },
  /- GateFaults (R217) -/ { idx := 0x3C10, n := 8, sub := 0x14, ty := .u32, acc := .ro, dflt := leBytes 4 0, range := .any },
  /- RefreshCount (R217) -/ { idx := 0x3C10, n := 8, sub := 0x15, ty := .u32, acc := .ro, dflt := leBytes 4 0, range := .any },
  /- Retries (R217) -/ { idx := 0x3C10, n := 8, sub := 0x16, ty := .u32, acc := .ro, dflt := leBytes 4 0, range := .any },
  /- ClearCounters (R217) -/ { idx := 0x3C10, n := 8, sub := 0x17, ty := .u8, acc := .cmd, dflt := leBytes 1 0, range := .nat 0 0 },
  /- HighestSubIndex (R237) -/ { idx := 0x3C20, sub := 0x00, ty := .u8, acc := .ro, dflt := leBytes 1 17, range := .any },
  /- SniffResult MP0–MP7 (R237) -/ { idx := 0x3C20, sub := 0x01, m := 8, ty := .u16, acc := .ro, dflt := leBytes 2 0, range := .any },
  /- SniffRuns (R237) -/ { idx := 0x3C20, sub := 0x09, ty := .u32, acc := .ro, dflt := leBytes 4 0, range := .any },
  /- SniffFailures (R237) -/ { idx := 0x3C20, sub := 0x0A, ty := .u32, acc := .ro, dflt := leBytes 4 0, range := .any },
  /- SniffSkips (R237) -/ { idx := 0x3C20, sub := 0x0B, ty := .u32, acc := .ro, dflt := leBytes 4 0, range := .any },
  /- WiringFlags (R237) -/ { idx := 0x3C20, sub := 0x0C, ty := .u32, acc := .ro, dflt := leBytes 4 0, range := .any },
  /- CableDiagA (R237) -/ { idx := 0x3C20, sub := 0x0D, ty := .u16, acc := .ro, dflt := leBytes 2 0, range := .any }]

/-- Objects without a stored value (`RO` and `CMD`), part 4. -/
def objectsOther4 : List Obj := [
  /- CableDiagB (R237) -/ { idx := 0x3C20, sub := 0x0E, ty := .u16, acc := .ro, dflt := leBytes 2 0, range := .any },
  /- CableTest (R237) -/ { idx := 0x3C20, sub := 0x0F, ty := .u8, acc := .cmd, dflt := leBytes 1 0, range := .nat 0 2 },
  /- CanBusFaults (R237) -/ { idx := 0x3C20, sub := 0x10, ty := .u16, acc := .ro, dflt := leBytes 2 0, range := .any },
  /- ClearCounters (R237) -/ { idx := 0x3C20, sub := 0x11, ty := .u8, acc := .cmd, dflt := leBytes 1 0, range := .nat 0 0 },
  /- HighestSubIndex (R261) -/ { idx := 0x4000, n := 8, sub := 0x00, ty := .u8, acc := .ro, dflt := leBytes 1 24, range := .any },
  /- Counter (R261) -/ { idx := 0x4000, n := 8, sub := 0x0E, ty := .i32, acc := .ro, dflt := leBytes 4 0, range := .any },
  /- AngleCount (R261) -/ { idx := 0x4000, n := 8, sub := 0x0F, ty := .u32, acc := .ro, dflt := leBytes 4 0, range := .any },
  /- Speed (R261) -/ { idx := 0x4000, n := 8, sub := 0x10, ty := .f32, acc := .ro, dflt := leBytes 4 0, range := .real 0xC9742400 0x49742400 },
  /- FbStatus (R261) -/ { idx := 0x4000, n := 8, sub := 0x11, ty := .u32, acc := .ro, dflt := leBytes 4 0, range := .any },
  /- IllegalCount (R261) -/ { idx := 0x4000, n := 8, sub := 0x12, ty := .u32, acc := .ro, dflt := leBytes 4 0, range := .any },
  /- IndexCorrections (R261) -/ { idx := 0x4000, n := 8, sub := 0x13, ty := .u32, acc := .ro, dflt := leBytes 4 0, range := .any },
  /- IndexRejects (R261) -/ { idx := 0x4000, n := 8, sub := 0x14, ty := .u32, acc := .ro, dflt := leBytes 4 0, range := .any },
  /- HallErrors (R261) -/ { idx := 0x4000, n := 8, sub := 0x15, ty := .u32, acc := .ro, dflt := leBytes 4 0, range := .any },
  /- CounterPreset (R261) -/ { idx := 0x4000, n := 8, sub := 0x16, ty := .i32, acc := .cmd, dflt := leBytes 4 0, range := .int (-2147483648) 2147483647 },
  /- ClearCounters (R261) -/ { idx := 0x4000, n := 8, sub := 0x17, ty := .u8, acc := .cmd, dflt := leBytes 1 0, range := .nat 0 0 },
  /- LastIndexCount (R261) -/ { idx := 0x4000, n := 8, sub := 0x18, ty := .u32, acc := .ro, dflt := leBytes 4 0, range := .any },
  /- HighestSubIndex (R263) -/ { idx := 0x4010, sub := 0x00, ty := .u8, acc := .ro, dflt := leBytes 1 9, range := .any },
  /- ReelCount (R263) -/ { idx := 0x4010, sub := 0x08, ty := .i32, acc := .ro, dflt := leBytes 4 0, range := .any },
  /- OutputStatus (R263) -/ { idx := 0x4010, sub := 0x09, ty := .u8, acc := .ro, dflt := leBytes 1 0, range := .any },
  /- HighestSubIndex (R264) -/ { idx := 0x4020, sub := 0x00, ty := .u8, acc := .ro, dflt := leBytes 1 49, range := .any },
  /- FastValue (R264) -/ { idx := 0x4020, sub := 0x21, m := 4, ty := .u32, acc := .ro, dflt := leBytes 4 0, range := .any },
  /- SlowMessage (R264) -/ { idx := 0x4020, sub := 0x25, m := 4, ty := .u32, acc := .ro, dflt := leBytes 4 0, range := .any },
  /- SentStatus (R264) -/ { idx := 0x4020, sub := 0x29, m := 4, ty := .u16, acc := .ro, dflt := leBytes 2 0, range := .any },
  /- FrameErrors (R264) -/ { idx := 0x4020, sub := 0x2D, m := 4, ty := .u32, acc := .ro, dflt := leBytes 4 0, range := .any },
  /- ClearCounters (R264) -/ { idx := 0x4020, sub := 0x31, ty := .u8, acc := .cmd, dflt := leBytes 1 0, range := .nat 0 0 },
  /- HighestSubIndex (R380) -/ { idx := 0x4400, sub := 0x00, ty := .u8, acc := .ro, dflt := leBytes 1 22, range := .any },
  /- NodeStatus (R380) -/ { idx := 0x4400, sub := 0x10, ty := .u32, acc := .ro, dflt := leBytes 4 0, range := .any },
  /- GlobalTime (R380) -/ { idx := 0x4400, sub := 0x11, ty := .dom, acc := .ro, dflt := [], range := .any },
  /- CycleCounter (R380) -/ { idx := 0x4400, sub := 0x12, ty := .u16, acc := .ro, dflt := leBytes 2 0, range := .any },
  /- Offset (R380) -/ { idx := 0x4400, sub := 0x13, ty := .i32, acc := .ro, dflt := leBytes 4 0, range := .any },
  /- RateCorrection (R380) -/ { idx := 0x4400, sub := 0x14, ty := .i32, acc := .ro, dflt := leBytes 4 0, range := .any },
  /- ScheduleReject (R380) -/ { idx := 0x4400, sub := 0x15, ty := .u16, acc := .ro, dflt := leBytes 2 0, range := .any },
  /- SlotCounters (R380) -/ { idx := 0x4400, sub := 0x16, ty := .dom, acc := .ro, dflt := [], range := .any },
  /- HighestSubIndex (R382) -/ { idx := 0x4420, sub := 0x00, ty := .u8, acc := .ro, dflt := leBytes 1 34, range := .any },
  /- FramesTx (R382) -/ { idx := 0x4420, sub := 0x01, ty := .u32, acc := .ro, dflt := leBytes 4 0, range := .any },
  /- FramesTx (R382) -/ { idx := 0x4420, sub := 0x11, ty := .u32, acc := .ro, dflt := leBytes 4 0, range := .any },
  /- FramesRx (R382) -/ { idx := 0x4420, sub := 0x02, ty := .u32, acc := .ro, dflt := leBytes 4 0, range := .any },
  /- FramesRx (R382) -/ { idx := 0x4420, sub := 0x12, ty := .u32, acc := .ro, dflt := leBytes 4 0, range := .any },
  /- FcsErrors (R382) -/ { idx := 0x4420, sub := 0x03, ty := .u32, acc := .ro, dflt := leBytes 4 0, range := .any },
  /- FcsErrors (R382) -/ { idx := 0x4420, sub := 0x13, ty := .u32, acc := .ro, dflt := leBytes 4 0, range := .any }]

/-- Objects without a stored value (`RO` and `CMD`), part 5. -/
def objectsOther5 : List Obj := [
  /- UnknownFrames (R382) -/ { idx := 0x4420, sub := 0x04, ty := .u32, acc := .ro, dflt := leBytes 4 0, range := .any },
  /- UnknownFrames (R382) -/ { idx := 0x4420, sub := 0x14, ty := .u32, acc := .ro, dflt := leBytes 4 0, range := .any },
  /- CycleMismatch (R382) -/ { idx := 0x4420, sub := 0x05, ty := .u32, acc := .ro, dflt := leBytes 4 0, range := .any },
  /- CycleMismatch (R382) -/ { idx := 0x4420, sub := 0x15, ty := .u32, acc := .ro, dflt := leBytes 4 0, range := .any },
  /- WindowViolations (R382) -/ { idx := 0x4420, sub := 0x06, ty := .u32, acc := .ro, dflt := leBytes 4 0, range := .any },
  /- WindowViolations (R382) -/ { idx := 0x4420, sub := 0x16, ty := .u32, acc := .ro, dflt := leBytes 4 0, range := .any },
  /- EmptyRx (R382) -/ { idx := 0x4420, sub := 0x07, ty := .u32, acc := .ro, dflt := leBytes 4 0, range := .any },
  /- EmptyRx (R382) -/ { idx := 0x4420, sub := 0x17, ty := .u32, acc := .ro, dflt := leBytes 4 0, range := .any },
  /- EmptyTx (R382) -/ { idx := 0x4420, sub := 0x08, ty := .u32, acc := .ro, dflt := leBytes 4 0, range := .any },
  /- EmptyTx (R382) -/ { idx := 0x4420, sub := 0x18, ty := .u32, acc := .ro, dflt := leBytes 4 0, range := .any },
  /- RefMissing (R382) -/ { idx := 0x4420, sub := 0x09, ty := .u32, acc := .ro, dflt := leBytes 4 0, range := .any },
  /- RefMissing (R382) -/ { idx := 0x4420, sub := 0x19, ty := .u32, acc := .ro, dflt := leBytes 4 0, range := .any },
  /- SecondCopies (R382) -/ { idx := 0x4420, sub := 0x0A, ty := .u32, acc := .ro, dflt := leBytes 4 0, range := .any },
  /- SecondCopies (R382) -/ { idx := 0x4420, sub := 0x1A, ty := .u32, acc := .ro, dflt := leBytes 4 0, range := .any },
  /- SecondDiffer (R382) -/ { idx := 0x4420, sub := 0x0B, ty := .u32, acc := .ro, dflt := leBytes 4 0, range := .any },
  /- SecondDiffer (R382) -/ { idx := 0x4420, sub := 0x1B, ty := .u32, acc := .ro, dflt := leBytes 4 0, range := .any },
  /- BothIncomplete (R382) -/ { idx := 0x4420, sub := 0x0C, ty := .u32, acc := .ro, dflt := leBytes 4 0, range := .any },
  /- BothIncomplete (R382) -/ { idx := 0x4420, sub := 0x1C, ty := .u32, acc := .ro, dflt := leBytes 4 0, range := .any },
  /- LinkDowns (R382) -/ { idx := 0x4420, sub := 0x0D, ty := .u16, acc := .ro, dflt := leBytes 2 0, range := .any },
  /- LinkDowns (R382) -/ { idx := 0x4420, sub := 0x1D, ty := .u16, acc := .ro, dflt := leBytes 2 0, range := .any },
  /- DuplicateNode (R382) -/ { idx := 0x4420, sub := 0x0E, ty := .u16, acc := .ro, dflt := leBytes 2 0, range := .any },
  /- DuplicateNode (R382) -/ { idx := 0x4420, sub := 0x1E, ty := .u16, acc := .ro, dflt := leBytes 2 0, range := .any },
  /- LaunchCollisions (R382) -/ { idx := 0x4420, sub := 0x0F, ty := .u16, acc := .ro, dflt := leBytes 2 0, range := .any },
  /- LaunchCollisions (R382) -/ { idx := 0x4420, sub := 0x1F, ty := .u16, acc := .ro, dflt := leBytes 2 0, range := .any },
  /- BothUnequal (R382) -/ { idx := 0x4420, sub := 0x10, ty := .u32, acc := .ro, dflt := leBytes 4 0, range := .any },
  /- RefDisagree (R382) -/ { idx := 0x4420, sub := 0x20, ty := .u32, acc := .ro, dflt := leBytes 4 0, range := .any },
  /- ClearCounters (R382) -/ { idx := 0x4420, sub := 0x21, ty := .u8, acc := .cmd, dflt := leBytes 1 0, range := .nat 0 0 },
  /- HighestSubIndex (R383) -/ { idx := 0x4430, sub := 0x00, ty := .u8, acc := .ro, dflt := leBytes 1 32, range := .any },
  /- Reintegrations (R382) -/ { idx := 0x4420, sub := 0x22, ty := .u16, acc := .ro, dflt := leBytes 2 0, range := .any },
  /- HighestSubIndex (R346) -/ { idx := 0x4800, n := 24, sub := 0x00, ty := .u8, acc := .ro, shared := true, dflt := leBytes 1 13, range := .any },
  /- State (R346) -/ { idx := 0x4800, n := 24, sub := 0x0B, ty := .u8, acc := .ro, shared := true, dflt := leBytes 1 0, range := .any },
  /- Status (R346) -/ { idx := 0x4800, n := 24, sub := 0x0C, ty := .u16, acc := .ro, shared := true, dflt := leBytes 2 0, range := .any },
  /- DegradedRemaining (R346) -/ { idx := 0x4800, n := 24, sub := 0x0D, ty := .u16, acc := .ro, shared := true, dflt := leBytes 2 0, range := .any },
  /- HighestSubIndex (R348) -/ { idx := 0x4820, sub := 0x00, ty := .u8, acc := .ro, dflt := leBytes 1 51, range := .any },
  /- InputVerdicts (R348) -/ { idx := 0x4820, sub := 0x31, ty := .u32, acc := .ro, dflt := leBytes 4 0, range := .any },
  /- InputFaults (R348) -/ { idx := 0x4820, sub := 0x32, ty := .u16, acc := .ro, dflt := leBytes 2 0, range := .any },
  /- TpoFaults (R348) -/ { idx := 0x4820, sub := 0x33, ty := .u8, acc := .ro, dflt := leBytes 1 0, range := .any },
  /- HighestSubIndex (R349) -/ { idx := 0x4830, sub := 0x00, ty := .u8, acc := .ro, dflt := leBytes 1 38, range := .any },
  /- OutputStatus (R349) -/ { idx := 0x4830, sub := 0x1D, m := 4, ty := .u16, acc := .ro, dflt := leBytes 2 0, range := .any },
  /- SoutUnlock (R349) -/ { idx := 0x4830, sub := 0x21, ty := .u8, acc := .cmd, dflt := leBytes 1 0, range := .nat 0 3 },
  /- PulseIncomplete (R349) -/ { idx := 0x4830, sub := 0x22, ty := .u32, acc := .ro, dflt := leBytes 4 0, range := .any }]

/-- Objects without a stored value (`RO` and `CMD`), part 6. -/
def objectsOther6 : List Obj := [
  /- ExpectMismatches (R351) -/ { idx := 0x4840, sub := 0x02, ty := .u32, acc := .ro, dflt := leBytes 4 0, range := .any },
  /- AliveRejects (R351) -/ { idx := 0x4840, sub := 0x03, ty := .u32, acc := .ro, dflt := leBytes 4 0, range := .any },
  /- ClearCounters (R351) -/ { idx := 0x4840, sub := 0x04, ty := .u8, acc := .cmd, dflt := leBytes 1 0, range := .nat 0 0 },
  /- SafeMismatches (R351) -/ { idx := 0x4850, sub := 0x04, ty := .u32, acc := .ro, dflt := leBytes 4 0, range := .any },
  /- ClearCounters (R351) -/ { idx := 0x4850, sub := 0x05, ty := .u8, acc := .cmd, dflt := leBytes 1 0, range := .nat 0 0 },
  /- BistResult (R310) -/ { idx := 0x4C08, sub := 0x01, ty := .u16, acc := .ro, dflt := leBytes 2 0, range := .any },
  /- BistTime (R310) -/ { idx := 0x4C08, sub := 0x02, ty := .u16, acc := .ro, dflt := leBytes 2 0, range := .any },
  /- History (R310) -/ { idx := 0x4C10, sub := 0x01, ty := .dom, acc := .ro, dflt := [], range := .any },
  /- Overwritten (R310) -/ { idx := 0x4C10, sub := 0x02, ty := .u32, acc := .ro, dflt := leBytes 4 0, range := .any },
  /- Suppressed (R310) -/ { idx := 0x4C10, sub := 0x03, ty := .u32, acc := .ro, dflt := leBytes 4 0, range := .any },
  /- ClearHistory (R310) -/ { idx := 0x4C10, sub := 0x04, ty := .u8, acc := .cmd, dflt := leBytes 1 0, range := .nat 0 0 },
  /- FirstRecord (R310) -/ { idx := 0x4C20, sub := 0x01, ty := .dom, acc := .ro, dflt := [], range := .any },
  /- LaterCount (R310) -/ { idx := 0x4C20, sub := 0x02, ty := .u32, acc := .ro, dflt := leBytes 4 0, range := .any },
  /- ClearFirst (R310) -/ { idx := 0x4C20, sub := 0x03, ty := .u8, acc := .cmd, dflt := leBytes 1 0, range := .nat 0 0 },
  /- KennelStatus (R310) -/ { idx := 0x4C30, sub := 0x01, ty := .u32, acc := .ro, dflt := leBytes 4 0, range := .any },
  /- KennelledSlots (R310) -/ { idx := 0x4C30, sub := 0x02, ty := .dom, acc := .ro, dflt := [], range := .any },
  /- KennelledChannels (R310) -/ { idx := 0x4C30, sub := 0x03, ty := .dom, acc := .ro, dflt := [], range := .any },
  /- KennelRelease (R310) -/ { idx := 0x4C30, sub := 0x04, ty := .u16, acc := .cmd, dflt := leBytes 2 0, range := .nat 0 65535 },
  /- ReleaseRefusals (R310) -/ { idx := 0x4C30, sub := 0x05, ty := .u16, acc := .ro, dflt := leBytes 2 0, range := .any },
  /- KennelledUnits (R310) -/ { idx := 0x4C30, sub := 0x06, ty := .u16, acc := .ro, dflt := leBytes 2 0, range := .any },
  /- HighestSubIndex (R84) -/ { idx := 0x4C40, sub := 0x00, ty := .u8, acc := .ro, dflt := leBytes 1 16, range := .any },
  /- Role (R84) -/ { idx := 0x4C40, sub := 0x01, ty := .u8, acc := .ro, dflt := leBytes 1 3, range := .any },
  /- Mode (R84) -/ { idx := 0x4C40, sub := 0x02, ty := .u8, acc := .ro, dflt := leBytes 1 0, range := .any },
  /- Epoch (R84) -/ { idx := 0x4C40, sub := 0x03, ty := .u8, acc := .ro, dflt := leBytes 1 0, range := .any },
  /- RenewalsAcked (R84) -/ { idx := 0x4C40, sub := 0x04, ty := .u32, acc := .ro, dflt := leBytes 4 0, range := .any },
  /- LeaseExpiries (R84) -/ { idx := 0x4C40, sub := 0x05, ty := .u16, acc := .ro, dflt := leBytes 2 0, range := .any },
  /- MinLeaseMargin (R84) -/ { idx := 0x4C40, sub := 0x06, ty := .u8, acc := .ro, dflt := leBytes 1 255, range := .any },
  /- Takeovers (R84) -/ { idx := 0x4C40, sub := 0x07, ty := .u16, acc := .ro, dflt := leBytes 2 0, range := .any },
  /- DemotesSent (R84) -/ { idx := 0x4C40, sub := 0x08, ty := .u16, acc := .ro, dflt := leBytes 2 0, range := .any },
  /- DemotesReceived (R84) -/ { idx := 0x4C40, sub := 0x09, ty := .u16, acc := .ro, dflt := leBytes 2 0, range := .any },
  /- MirrorCorrected (R84) -/ { idx := 0x4C40, sub := 0x0A, ty := .u32, acc := .ro, dflt := leBytes 4 0, range := .any },
  /- CorrectedCount (R84) -/ { idx := 0x4C40, sub := 0x0B, ty := .u32, acc := .ro, dflt := leBytes 4 0, range := .any },
  /- ContainedCount (R84) -/ { idx := 0x4C40, sub := 0x0C, ty := .u32, acc := .ro, dflt := leBytes 4 0, range := .any },
  /- FatalCount (R84) -/ { idx := 0x4C40, sub := 0x0D, ty := .u16, acc := .ro, dflt := leBytes 2 0, range := .any },
  /- SelfTestCoverage (R84) -/ { idx := 0x4C40, sub := 0x0E, ty := .u16, acc := .ro, dflt := leBytes 2 0, range := .any },
  /- LastRotatingTest (R84) -/ { idx := 0x4C40, sub := 0x0F, ty := .u16, acc := .ro, dflt := leBytes 2 0, range := .any },
  /- FaultPair (R84) -/ { idx := 0x4C40, sub := 0x10, ty := .u16, acc := .ro, dflt := leBytes 2 0, range := .any },
  /- InjectArm (R310) -/ { idx := 0x4C50, sub := 0x04, ty := .u8, acc := .cmd, dflt := leBytes 1 0, range := .nat 0 0 },
  /- InjectStatus (R310) -/ { idx := 0x4C50, sub := 0x05, ty := .u8, acc := .ro, dflt := leBytes 1 0, range := .any },
  /- HighestSubIndex (R451) -/ { idx := 0x4C60, sub := 0x00, ty := .u8, acc := .ro, dflt := leBytes 1 16, range := .any }]

/-- Objects without a stored value (`RO` and `CMD`), part 7. -/
def objectsOther7 : List Obj := [
  /- Trigger (R451) -/ { idx := 0x4C60, sub := 0x07, ty := .u8, acc := .cmd, dflt := leBytes 1 0, range := .nat 0 0 },
  /- Erase (R451) -/ { idx := 0x4C60, sub := 0x08, ty := .u8, acc := .cmd, dflt := leBytes 1 0, range := .nat 0 0 },
  /- PendingTriggers (R451) -/ { idx := 0x4C60, sub := 0x09, ty := .u8, acc := .ro, dflt := leBytes 1 0, range := .any },
  /- Captures (R451) -/ { idx := 0x4C60, sub := 0x0A, ty := .u32, acc := .ro, dflt := leBytes 4 0, range := .any },
  /- Markers (R451) -/ { idx := 0x4C60, sub := 0x0B, ty := .u32, acc := .ro, dflt := leBytes 4 0, range := .any },
  /- ReadData (R451) -/ { idx := 0x4C60, sub := 0x0E, ty := .dom, acc := .ro, dflt := [], range := .any },
  /- MarkerList (R451) -/ { idx := 0x4C60, sub := 0x0F, ty := .dom, acc := .ro, dflt := [], range := .any },
  /- LogStatus (R451) -/ { idx := 0x4C60, sub := 0x10, ty := .u8, acc := .ro, dflt := leBytes 1 0, range := .any },
  /- HighestSubIndex (R493) -/ { idx := 0x5000, sub := 0x00, ty := .u8, acc := .ro, dflt := leBytes 1 6, range := .any },
  /- ClockFlags (R493) -/ { idx := 0x5000, sub := 0x01, ty := .u32, acc := .ro, dflt := leBytes 4 0, range := .any },
  /- XtalDeviation (R493) -/ { idx := 0x5000, sub := 0x02, ty := .i32, acc := .ro, dflt := leBytes 4 0, range := .any },
  /- ClockFailures (R493) -/ { idx := 0x5000, sub := 0x03, ty := .u16, acc := .ro, dflt := leBytes 2 0, range := .any },
  /- LastFailure (R493) -/ { idx := 0x5000, sub := 0x04, ty := .u8, acc := .ro, dflt := leBytes 1 0, range := .any },
  /- GatingAbandoned (R493) -/ { idx := 0x5000, sub := 0x05, ty := .u32, acc := .ro, dflt := leBytes 4 0, range := .any },
  /- ClearCounters (R493) -/ { idx := 0x5000, sub := 0x06, ty := .u8, acc := .cmd, dflt := leBytes 1 0, range := .nat 0 0 },
  /- HighestSubIndex (R549) -/ { idx := 0x5010, sub := 0x00, ty := .u8, acc := .ro, dflt := leBytes 1 5, range := .any },
  /- OscStrapCode (R549) -/ { idx := 0x5010, sub := 0x01, ty := .u8, acc := .ro, dflt := leBytes 1 0, range := .any },
  /- IdStrapCode (R549) -/ { idx := 0x5010, sub := 0x02, ty := .u8, acc := .ro, dflt := leBytes 1 0, range := .any },
  /- OscStrapVoltage (R549) -/ { idx := 0x5010, sub := 0x03, ty := .u16, acc := .ro, dflt := leBytes 2 0, range := .any },
  /- IdStrapVoltage (R549) -/ { idx := 0x5010, sub := 0x04, ty := .u16, acc := .ro, dflt := leBytes 2 0, range := .any },
  /- StrapFlags (R549) -/ { idx := 0x5010, sub := 0x05, ty := .u8, acc := .ro, dflt := leBytes 1 0, range := .any },
  /- HighestSubIndex (R495) -/ { idx := 0x5020, sub := 0x00, ty := .u8, acc := .ro, dflt := leBytes 1 7, range := .any },
  /- Start (R495) -/ { idx := 0x5020, sub := 0x04, ty := .u8, acc := .cmd, dflt := leBytes 1 0, range := .nat 0 0 },
  /- Count (R495) -/ { idx := 0x5020, sub := 0x05, ty := .u32, acc := .ro, dflt := leBytes 4 0, range := .any },
  /- MeasuredHz (R495) -/ { idx := 0x5020, sub := 0x06, ty := .f32, acc := .ro, dflt := leBytes 4 0, range := .any },
  /- MeterState (R495) -/ { idx := 0x5020, sub := 0x07, ty := .u8, acc := .ro, dflt := leBytes 1 0, range := .any },
  /- HighestSubIndex (R526) -/ { idx := 0x5030, sub := 0x00, ty := .u8, acc := .ro, dflt := leBytes 1 8, range := .any },
  /- LastReset (R526) -/ { idx := 0x5030, sub := 0x01, ty := .u8, acc := .ro, dflt := leBytes 1 1, range := .any },
  /- ResetCounts (R526) -/ { idx := 0x5030, sub := 0x02, ty := .dom, acc := .ro, dflt := [], range := .any },
  /- VbatMin (R526) -/ { idx := 0x5030, sub := 0x03, ty := .f32, acc := .ro, dflt := leBytes 4 0x42B40000, range := .real 0x00000000 0x42B40000 },
  /- VbatMax (R526) -/ { idx := 0x5030, sub := 0x04, ty := .f32, acc := .ro, dflt := leBytes 4 0, range := .real 0x00000000 0x42B40000 },
  /- SupplyFlags (R526) -/ { idx := 0x5030, sub := 0x05, ty := .u16, acc := .ro, dflt := leBytes 2 0, range := .any },
  /- LaneReset (R526) -/ { idx := 0x5030, sub := 0x06, ty := .u8, acc := .cmd, dflt := leBytes 1 0, range := .nat 0 0 },
  /- CrossReset (R526) -/ { idx := 0x5030, sub := 0x07, ty := .u8, acc := .cmd, dflt := leBytes 1 0, range := .nat 0 2 },
  /- ClearCounters (R526) -/ { idx := 0x5030, sub := 0x08, ty := .u8, acc := .cmd, dflt := leBytes 1 0, range := .nat 0 0 },
  /- HighestSubIndex (R527) -/ { idx := 0x5031, sub := 0x00, ty := .u8, acc := .ro, dflt := leBytes 1 2, range := .any },
  /- HighestSubIndex (R528) -/ { idx := 0x5040, sub := 0x00, ty := .u8, acc := .ro, dflt := leBytes 1 10, range := .any },
  /- PowerRequest (R528) -/ { idx := 0x5040, sub := 0x01, ty := .u8, acc := .cmd, shared := true, dflt := leBytes 1 0, range := .nat 0 3 },
  /- PowerState (R528) -/ { idx := 0x5040, sub := 0x02, ty := .u8, acc := .ro, dflt := leBytes 1 0, range := .any },
  /- Votes (R528) -/ { idx := 0x5040, sub := 0x03, ty := .u16, acc := .ro, dflt := leBytes 2 16383, range := .any }]

/-- Objects without a stored value (`RO` and `CMD`), part 8. -/
def objectsOther8 : List Obj := [
  /- Refusers (R528) -/ { idx := 0x5040, sub := 0x04, ty := .u16, acc := .ro, dflt := leBytes 2 0, range := .any },
  /- LastEntryResult (R528) -/ { idx := 0x5040, sub := 0x06, ty := .u8, acc := .ro, dflt := leBytes 1 0, range := .any },
  /- EntriesAbandoned (R528) -/ { idx := 0x5040, sub := 0x0A, ty := .u16, acc := .ro, dflt := leBytes 2 0, range := .any },
  /- HighestSubIndex (R529) -/ { idx := 0x5050, sub := 0x00, ty := .u8, acc := .ro, dflt := leBytes 1 2, range := .any },
  /- LastWake (R529) -/ { idx := 0x5050, sub := 0x01, ty := .u16, acc := .ro, dflt := leBytes 2 0, range := .any },
  /- WakeStatus (R529) -/ { idx := 0x5050, sub := 0x02, ty := .u8, acc := .ro, dflt := leBytes 1 0, range := .any },
  /- HighestSubIndex (R550) -/ { idx := 0x5060, sub := 0x00, ty := .u8, acc := .ro, dflt := leBytes 1 3, range := .any },
  /- DieTemperature (R550) -/ { idx := 0x5060, sub := 0x01, ty := .f32, acc := .ro, dflt := leBytes 4 0, range := .any },
  /- DieTemperatureMax (R550) -/ { idx := 0x5060, sub := 0x02, ty := .f32, acc := .ro, dflt := leBytes 4 0xC2700000, range := .any },
  /- ThermalFlags (R550) -/ { idx := 0x5060, sub := 0x03, ty := .u8, acc := .ro, dflt := leBytes 1 0, range := .any },
  /- HighestSubIndex (R445) -/ { idx := 0x5400, sub := 0x00, ty := .u8, acc := .ro, dflt := leBytes 1 14, range := .any },
  /- StagingStatus (R445) -/ { idx := 0x5400, sub := 0x03, ty := .u8, acc := .ro, dflt := leBytes 1 0, range := .any },
  /- StagingReceived (R445) -/ { idx := 0x5400, sub := 0x04, ty := .u32, acc := .ro, dflt := leBytes 4 0, range := .any },
  /- StagedVersion, ActiveVersion, PreviousVersion (R445) -/ { idx := 0x5400, sub := 0x05, ty := .u32, acc := .ro, dflt := leBytes 4 0, range := .any },
  /- StagedVersion, ActiveVersion, PreviousVersion (R445) -/ { idx := 0x5400, sub := 0x06, ty := .u32, acc := .ro, dflt := leBytes 4 0, range := .any },
  /- StagedVersion, ActiveVersion, PreviousVersion (R445) -/ { idx := 0x5400, sub := 0x07, ty := .u32, acc := .ro, dflt := leBytes 4 0, range := .any },
  /- StagedStatus, ActiveStatus, PreviousStatus (R445) -/ { idx := 0x5400, sub := 0x08, ty := .u8, acc := .ro, dflt := leBytes 1 0, range := .any },
  /- StagedStatus, ActiveStatus, PreviousStatus (R445) -/ { idx := 0x5400, sub := 0x09, ty := .u8, acc := .ro, dflt := leBytes 1 0, range := .any },
  /- StagedStatus, ActiveStatus, PreviousStatus (R445) -/ { idx := 0x5400, sub := 0x0A, ty := .u8, acc := .ro, dflt := leBytes 1 0, range := .any },
  /- ActiveDigest (R445) -/ { idx := 0x5400, sub := 0x0B, ty := .dom, acc := .ro, dflt := [], range := .any },
  /- SlotFlags (R445) -/ { idx := 0x5400, sub := 0x0C, ty := .u16, acc := .ro, dflt := leBytes 2 0, range := .any },
  /- CopyRepairs (R445) -/ { idx := 0x5400, sub := 0x0D, ty := .u16, acc := .ro, dflt := leBytes 2 0, range := .any },
  /- LastCommandResult (R445) -/ { idx := 0x5400, sub := 0x0E, ty := .u8, acc := .ro, dflt := leBytes 1 0, range := .any },
  /- HighestSubIndex (R447) -/ { idx := 0x5410, sub := 0x00, ty := .u8, acc := .ro, shared := true, dflt := leBytes 1 4, range := .any },
  /- Stage (R447) -/ { idx := 0x5410, sub := 0x01, ty := .u32, acc := .cmd, shared := true, dflt := leBytes 4 0, range := .nat 1 4294967295 },
  /- Verify (R447) -/ { idx := 0x5410, sub := 0x02, ty := .u32, acc := .cmd, shared := true, dflt := leBytes 4 0, range := .nat 1 4294967295 },
  /- Commit (R447) -/ { idx := 0x5410, sub := 0x03, ty := .u32, acc := .cmd, shared := true, dflt := leBytes 4 0, range := .nat 1 4294967295 },
  /- Revert (R447) -/ { idx := 0x5410, sub := 0x04, ty := .u32, acc := .cmd, shared := true, dflt := leBytes 4 0, range := .nat 1 4294967295 },
  /- HighestSubIndex (R448) -/ { idx := 0x5420, sub := 0x00, ty := .u8, acc := .ro, dflt := leBytes 1 12, range := .any },
  /- RunningSlot (R448) -/ { idx := 0x5420, sub := 0x01, ty := .u8, acc := .ro, dflt := leBytes 1 0, range := .any },
  /- VersionA, VersionB (R448) -/ { idx := 0x5420, sub := 0x02, ty := .u32, acc := .ro, dflt := leBytes 4 0, range := .any },
  /- VersionA, VersionB (R448) -/ { idx := 0x5420, sub := 0x03, ty := .u32, acc := .ro, dflt := leBytes 4 0, range := .any },
  /- StatusA, StatusB (R448) -/ { idx := 0x5420, sub := 0x04, ty := .u8, acc := .ro, dflt := leBytes 1 0, range := .any },
  /- StatusA, StatusB (R448) -/ { idx := 0x5420, sub := 0x05, ty := .u8, acc := .ro, dflt := leBytes 1 0, range := .any },
  /- SecurityCounter (R448) -/ { idx := 0x5420, sub := 0x06, ty := .u8, acc := .ro, dflt := leBytes 1 0, range := .any },
  /- LoadStatus (R448) -/ { idx := 0x5420, sub := 0x09, ty := .u8, acc := .ro, dflt := leBytes 1 0, range := .any },
  /- Activate (R448) -/ { idx := 0x5420, sub := 0x0A, ty := .u32, acc := .cmd, dflt := leBytes 4 0, range := .nat 1 4294967295 },
  /- TrialState (R448) -/ { idx := 0x5420, sub := 0x0B, ty := .u8, acc := .ro, dflt := leBytes 1 0, range := .any },
  /- Fallbacks (R448) -/ { idx := 0x5420, sub := 0x0C, ty := .u16, acc := .ro, dflt := leBytes 2 0, range := .any },
  /- HighestSubIndex (R449) -/ { idx := 0x5430, sub := 0x00, ty := .u8, acc := .ro, dflt := leBytes 1 32, range := .any }]

/-- Objects without a stored value (`RO` and `CMD`), part 9. -/
def objectsOther9 : List Obj := [
  /- SlotState (R449) -/ { idx := 0x5430, sub := 0x01, m := 12, ty := .u8, acc := .ro, dflt := leBytes 1 0, range := .any },
  /- Fingerprint (R449) -/ { idx := 0x5430, sub := 0x0D, m := 12, ty := .dom, acc := .ro, dflt := [], range := .any },
  /- KeyProgram (R449) -/ { idx := 0x5430, sub := 0x1A, ty := .u8, acc := .cmd, dflt := leBytes 1 0, range := .nat 4 11 },
  /- KeyRevoke (R449) -/ { idx := 0x5430, sub := 0x1B, ty := .u8, acc := .cmd, dflt := leBytes 1 0, range := .nat 4 11 },
  /- AttestState (R449) -/ { idx := 0x5430, sub := 0x1C, ty := .u8, acc := .ro, dflt := leBytes 1 0, range := .any },
  /- AttestPublic (R449) -/ { idx := 0x5430, sub := 0x1D, ty := .dom, acc := .ro, dflt := [], range := .any },
  /- AttestSignature (R449) -/ { idx := 0x5430, sub := 0x1F, ty := .dom, acc := .ro, dflt := [], range := .any },
  /- AttestRegenerate (R449) -/ { idx := 0x5430, sub := 0x20, ty := .u8, acc := .cmd, dflt := leBytes 1 0, range := .nat 0 0 },
  /- HighestSubIndex (R450) -/ { idx := 0x5440, sub := 0x00, ty := .u8, acc := .ro, dflt := leBytes 1 8, range := .any },
  /- Challenge (R450) -/ { idx := 0x5440, sub := 0x01, ty := .dom, acc := .ro, dflt := [], range := .any },
  /- SessionState (R450) -/ { idx := 0x5440, sub := 0x03, ty := .u8, acc := .ro, dflt := leBytes 1 0, range := .any },
  /- Remaining (R450) -/ { idx := 0x5440, sub := 0x04, ty := .u16, acc := .ro, dflt := leBytes 2 0, range := .any },
  /- SessionPath (R450) -/ { idx := 0x5440, sub := 0x05, ty := .u8, acc := .ro, dflt := leBytes 1 255, range := .any },
  /- Close (R450) -/ { idx := 0x5440, sub := 0x06, ty := .u8, acc := .cmd, dflt := leBytes 1 0, range := .nat 0 0 },
  /- AuthFailures (R450) -/ { idx := 0x5440, sub := 0x07, ty := .u16, acc := .ro, dflt := leBytes 2 0, range := .any },
  /- FlowRefusals (R475) -/ { idx := 0x5850, sub := 0x01, ty := .u32, acc := .ro, dflt := leBytes 4 0, range := .any },
  /- LaneRefusals (R475) -/ { idx := 0x5850, sub := 0x02, ty := .u32, acc := .ro, dflt := leBytes 4 0, range := .any },
  /- HardwareDrops (R475) -/ { idx := 0x5850, sub := 0x03, ty := .u32, acc := .ro, dflt := leBytes 4 0, range := .any },
  /- ThreadFaults (R475) -/ { idx := 0x5850, sub := 0x04, ty := .u32, acc := .ro, dflt := leBytes 4 0, range := .any },
  /- ClearCounters (R475) -/ { idx := 0x5850, sub := 0x05, ty := .u8, acc := .cmd, dflt := leBytes 1 0, range := .nat 0 0 }]

/-- Every object without a stored value. -/
def objectsOther : List Obj :=
  objectsOther1 ++ objectsOther2 ++ objectsOther3 ++ objectsOther4 ++ objectsOther5 ++ objectsOther6 ++ objectsOther7 ++ objectsOther8 ++ objectsOther9

/-- The whole dictionary. -/
def objects : List Obj := objectsStored ++ objectsOther

/-- Whether an entry covers an index and sub-index. -/
def Obj.covers (o : Obj) (idx sub : Nat) : Bool :=
  decide (o.idx ≤ idx ∧ idx < o.idx + o.n ∧ o.sub ≤ sub ∧ sub < o.sub + o.m)

/-- The object at an index and sub-index. -/
def findObj (idx sub : Nat) : Option Obj := objects.find? (fun o => o.covers idx sub)

/-- Whether an index exists at all (R396). -/
def indexExists (idx : Nat) : Bool := objects.any (fun o => decide (o.idx ≤ idx ∧ idx < o.idx + o.n))

/-- The default of one member of a family (R82, R217, R346, R409): the table's default, but for `LaneAtRank`,
`CarrierEighth`, the two-hand instances 16 to 19 and `CAN0`. -/
def Obj.dfltAt (o : Obj) (i k : Nat) : List Byte :=
  if o.idx = 0x2400 then leBytes 1 k
  else if o.idx = 0x3C10 ∧ o.sub = 1 then leBytes 1 i
  else if o.idx = 0x1F00 ∧ o.sub = 1 then leBytes 1 (if i = 0 then 1 else 0)
  else if o.idx = 0x4800 ∧ o.sub = 7 ∧ (16 ≤ i ∧ i ≤ 19) then leBytes 1 2
  else if o.idx = 0x4800 ∧ o.sub = 9 ∧ (16 ≤ i ∧ i ≤ 19) then leBytes 2 500
  else o.dflt

end Sys2Proof.Machine
end

