-- ==== Sys2Proof/Machine/Ops.lean ====
section
/-!
DEFINITION. The named operations every command is built from: reaching a lane, reading the configuration, the
store and the volatile objects, lane time, drive-group bindings and bits.
-/

namespace Sys2Proof.Machine

/-! ### Reaching a lane -/

/-- The lane of a letter. -/
def State.lane (s : State) : LaneId → Lane
  | .a => s.a | .b => s.b | .c => s.c

/-- The state with one lane replaced. -/
def State.setLane (s : State) (l : LaneId) (n : Lane) : State :=
  match l with
  | .a => { s with a := n }
  | .b => { s with b := n }
  | .c => { s with c := n }

/-- A change of one lane. -/
def onLane (l : LaneId) (f : Lane → Lane) (s : State) : State := s.setLane l (f (s.lane l))

/-- A change of one lane's live state; its storage and fuses stand. -/
def onLive (l : LaneId) (f : Live → Live) (s : State) : State :=
  onLane l (fun n => { n with live := f n.live }) s

/-- A change of one lane's live state that reads its storage and fuses. -/
def onLiveR (l : LaneId) (f : NvStore → Otp → Live → Live) (s : State) : State :=
  onLane l (fun n => { n with live := f n.store n.otp n.live }) s

/-- A change of one lane's live state and managed storage; its fuses stand. -/
def onStore (l : LaneId) (f : Otp → Live × NvStore → Live × NvStore) (s : State) : State :=
  onLane l (fun n =>
    let r := f n.otp (n.live, n.store)
    { n with live := r.1, store := r.2 }) s

/-- A change of one lane that draws the free value numbered `s.free`; the counter advances. -/
def onFree (l : LaneId) (f : Nat → Otp → Live × NvStore → Live × NvStore) (s : State) : State :=
  let t := onStore l (f s.free) s
  { t with free := t.free + 1 }

/-- A command that has its effect answers the next state. -/
def done (s : State) : Host.Outcome State Fault Refusal := .next s

/-! ### Reading objects -/

/-- The bytes of an `IMG` object in effect (R394). -/
def Live.bytes (lv : Live) (o : Obj) (i : Nat := 0) (k : Nat := 0) : List Byte :=
  lv.cfg.read (o.dfltAt i k) (o.key i k)

/-- The value of an unsigned `IMG` object in effect. -/
def Live.num (lv : Live) (o : Obj) (i : Nat := 0) (k : Nat := 0) : Nat := leNat (lv.bytes o i k)

/-- The value of a signed `IMG` object in effect. -/
def Live.int (lv : Live) (o : Obj) (i : Nat := 0) (k : Nat := 0) : Int := leInt (lv.bytes o i k)

/-- The value of a `REAL32` `IMG` object in effect. -/
def Live.real (lv : Live) (o : Obj) (i : Nat := 0) (k : Nat := 0) : F32 := BitVec.ofNat 32 (lv.num o i k)

/-- The value of an unsigned `RC` object in effect (R394, R395). -/
def Live.rcNum (lv : Live) (o : Obj) (i : Nat := 0) (k : Nat := 0) : Nat :=
  leNat (lv.rc.read (o.dfltAt i k) (o.key i k))

/-- The bytes of an `RC` object in effect. -/
def Live.rcBytes (lv : Live) (o : Obj) (i : Nat := 0) (k : Nat := 0) : List Byte :=
  lv.rc.read (o.dfltAt i k) (o.key i k)

/-- The bytes of an `RW` object. -/
def Live.rwBytes (lv : Live) (o : Obj) (i : Nat := 0) (k : Nat := 0) : List Byte :=
  lv.di.rw.read (o.dfltAt i k) (o.key i k)

/-- The value of an unsigned `RW` object. -/
def Live.rwNum (lv : Live) (o : Obj) (i : Nat := 0) (k : Nat := 0) : Nat := leNat (lv.rwBytes o i k)

/-- An `RW` object written. -/
def Live.setRw (lv : Live) (o : Obj) (i k : Nat) (bs : List Byte) : Live :=
  { lv with di := { lv.di with rw := lv.di.rw.write (o.dfltAt i k) (o.key i k) bs } }

/-! ### Lane time -/

/-- Counts of 2.5 ns in a second (R15). -/
def perSec : Nat := 400000000

/-- Milliseconds in 2.5 ns counts. -/
def ms (n : Nat) : Nat := n * 400000

/-- Microseconds in 2.5 ns counts. -/
def us (n : Nat) : Nat := n * 400

/-- The tick period in 2.5 ns counts (R15). -/
def Live.tick (lv : Live) : Nat := perSec / lv.num Obj.tickRate

/-- The tick rate as a real. -/
def Live.rate (lv : Live) : F32 := F32.ofNat (lv.num Obj.tickRate)

/-- The tick period in seconds, rounded once (R97). -/
def Live.period (lv : Live) : F32 := F32.ofRatio 1 (lv.num Obj.tickRate)

/-- The end of the present tick, the latest instant an event of this tick can fall on. -/
def Live.horizon (lv : Live) : Nat := lv.start + lv.tick

/-- Whether a deadline falls before the end of the present tick, so that the event it times may occur. -/
def Live.due (lv : Live) (deadline : Nat) : Bool := decide (deadline ≤ max lv.clk lv.horizon)

/-- The extended tick count as a natural (R18). -/
def Live.ticks (lv : Live) : Nat := lv.tk.count.toNat

/-- The low 32 bits of the extended tick count, `TickCount` (R16). -/
def Live.tickLow (lv : Live) : Word := lv.tk.count.setWidth 32

/-- The global time at a lane time, ns, with the rate correction in ppb (R359, R372). -/
def Live.globalAt (lv : Live) (t : Nat) : Int :=
  lv.jn.gbase + ((t : Int) - lv.jn.cbase) * 5 * (1000000000 + lv.jn.rho) / 2000000000

/-- `TIME` of an event record (R297). -/
def Live.timeStamp (lv : Live) : Long :=
  if lv.jn.everSync then BitVec.ofInt 64 (lv.globalAt lv.clk)
  else BitVec.ofNat 64 (2 ^ 63 + (lv.clk - lv.su.porAt) * 5 / 2 % 2 ^ 63)

/-! ### Phases -/

/-- The lane's firmware runs and the lane takes part in the tick (R41, R83). -/
def Live.joined (lv : Live) : Bool := decide (lv.phase = .joined)

/-- The lane's firmware runs. -/
def Live.awake (lv : Live) : Bool :=
  match lv.phase with
  | .loaded | .joined | .withdrawn | .haltedState => true
  | _ => false

/-- The lane runs the tick program: joined and not in IDLE (R85, R513). -/
def Live.running (lv : Live) : Bool := lv.joined && lv.en.running

/-- The lane is live: joined and not in SLEEP or DEEP (R516). -/
def Live.live (lv : Live) : Bool := lv.joined

/-! ### Small structure -/

/-- A bit of a vector set or cleared. -/
def setBit {w : Nat} (v : BitVec w) (i : Nat) (b : Bool) : BitVec w :=
  if b then v ||| BitVec.ofNat w (2 ^ i) else v &&& ~~~(BitVec.ofNat w (2 ^ i))

/-- The number of bits set. -/
def popCount {w : Nat} (v : BitVec w) : Nat := (List.range w).countP (fun i => v.getLsbD i)

/-- A member of a vector changed. -/
def vmod {α : Type} {n : Nat} (v : Vector α n) (i : Fin n) (f : α → α) : Vector α n := v.set i (f v[i])

/-- Fold a change over the indices of a vector. -/
def forAll {α : Type} (n : Nat) (f : Fin n → α → α) (x : α) : α :=
  (List.finRange n).foldl (fun y i => f i y) x

/-! ### Drive groups and windings -/

/-- The motor port that a lane binds to a group (R156). -/
def Live.portOfLane (lv : Live) (l : LaneId) (g : Fin 24) : Option (Fin 8) :=
  let v := lv.num (match l with | .a => Obj.groupPortA | .b => Obj.groupPortB | .c => Obj.groupPortC) g.val
  if h : v < 8 then some ⟨v, h⟩ else none

/-- This lane's motor port of a group. -/
def Live.portOf (lv : Live) (g : Fin 24) : Option (Fin 8) := lv.portOfLane lv.me g

/-- The group to which a lane binds a port: the lowest, as the commit allows only one. -/
def Live.groupOfLane (lv : Live) (l : LaneId) (p : Fin 8) : Option (Fin 24) :=
  (List.finRange 24).find? (fun g => lv.portOfLane l g == some p)

/-- The group of this lane's port. -/
def Live.groupOf (lv : Live) (p : Fin 8) : Option (Fin 24) := lv.groupOfLane lv.me p

/-- A group is configured when at least one lane binds a port to it (R156). -/
def Live.groupBound (lv : Live) (g : Fin 24) : Bool :=
  (lv.portOfLane .a g).isSome || (lv.portOfLane .b g).isSome || (lv.portOfLane .c g).isSome

/-- The number of windings bound to a group (R127). -/
def Live.groupWindings (lv : Live) (g : Fin 24) : Nat :=
  bit1 (lv.portOfLane .a g).isSome + bit1 (lv.portOfLane .b g).isSome + bit1 (lv.portOfLane .c g).isSome

/-- The port of a leg (R14). -/
def legPort (leg : Fin 24) : Fin 8 := ⟨leg.val / 3, by omega⟩

/-- The phase of a leg: 0 U, 1 V, 2 W (R14). -/
def legPhase (leg : Fin 24) : Fin 3 := ⟨leg.val % 3, by omega⟩

/-- The leg of a port's phase (R14). -/
def portLeg (p : Fin 8) (ph : Fin 3) : Fin 24 := ⟨3 * p.val + ph.val, by omega⟩

/-- A winding changed. -/
def Live.modWind (lv : Live) (p : Fin 8) (f : WindingSt → WindingSt) : Live :=
  { lv with fc := { lv.fc with wind := vmod lv.fc.wind p f } }

/-- A port's protection changed. -/
def Live.modPort (lv : Live) (p : Fin 8) (f : PortSt → PortSt) : Live :=
  { lv with gd := { lv.gd with ports := vmod lv.gd.ports p f } }

/-- A leg changed. -/
def Live.modLeg (lv : Live) (leg : Fin 24) (f : LegSt → LegSt) : Live :=
  lv.modPort (legPort leg) (fun q => { q with legs := vmod q.legs (legPhase leg) f })

/-- A group changed. -/
def Live.modGroup (lv : Live) (g : Fin 24) (f : GroupSt → GroupSt) : Live :=
  { lv with fc := { lv.fc with groups := vmod lv.fc.groups g f } }

/-- A link's receive side. -/
def Live.rx (lv : Live) : LinkDir → LinkRx
  | .fwd => lv.tk.fwd | .back => lv.tk.back

/-- A link's receive side changed. -/
def Live.modRx (lv : Live) (d : LinkDir) (f : LinkRx → LinkRx) : Live :=
  match d with
  | .fwd => { lv with tk := { lv.tk with fwd := f lv.tk.fwd } }
  | .back => { lv with tk := { lv.tk with back := f lv.tk.back } }

/-- The receive side of the link to a lane; none for the lane itself. -/
def Live.rxOf (lv : Live) (o : LaneId) : Option LinkRx := (lv.me.linkTo o).map lv.rx

/-- A lane's view changed. -/
def Live.modView (lv : Live) (o : LaneId) (f : LaneView → LaneView) : Live :=
  { lv with au := { lv.au with views := vmod lv.au.views o.fin f } }

/-- Entry `e` of the signal bus (R118). -/
def Live.bus (lv : Live) (e : Nat) : F32 := lv.en.bus.read 0 e

/-- A bus entry written with a valid value. -/
def Live.setBus (lv : Live) (e : Nat) (x : F32) : Live :=
  { lv with en := { lv.en with bus := lv.en.bus.write 0 e x,
                               busBad := lv.en.busBad.drop e, busStale := lv.en.busStale.drop e } }

/-- A bus entry's invalid and stale flags set. -/
def Live.flagBus (lv : Live) (e : Nat) (bad stale : Bool) : Live :=
  { lv with en := { lv.en with busBad := lv.en.busBad.write false e bad,
                               busStale := lv.en.busStale.write false e stale } }

/-- A comparator crossing of a channel recorded in its latched flag (R171). -/
def Live.crossed (lv : Live) (c : Nat) (high : Bool) : Live :=
  if high then { lv with aq := { lv.aq with cmpHigh := setBit lv.aq.cmpHigh c true } }
  else { lv with aq := { lv.aq with cmpLow := setBit lv.aq.cmpLow c true } }

/-- Rank 0 to 2 of a lane in `LaneRank` (R82). -/
def Live.rankOf (lv : Live) (o : LaneId) : Nat :=
  if lv.num Obj.laneAtRank 0 0 = o.num then 0
  else if lv.num Obj.laneAtRank 0 1 = o.num then 1
  else 2

end Sys2Proof.Machine
end

