-- ==== Sys2Proof/Machine/Gates.lean ====
section
/-!
DEFINITION. What the gate outputs do: the gate supply's set value, the ASC speed (R148, R201), the gate states of
R215 and R216, the stop of a current loop, and the regeneration limit (R213).
-/

namespace Sys2Proof.Machine

/-- 2 π, rounded to binary32. -/
def twoPi : F32 := 0x40C90FDB

/-- √3, rounded to binary32. -/
def root3 : F32 := 0x3FDDB3D7

/-- The set value of the gate rail VGD (R185). -/
def Live.vgd (lv : Live) : F32 :=
  match lv.num Obj.gateVoltage with
  | 0 => F32.ofNat 10 | 1 => F32.ofNat 12 | _ => F32.ofNat 15

/-- The electrical speed of a group in rad/s, from its filtered speed (R143). -/
def Live.groupWe (lv : Live) (g : Fin 24) : F32 :=
  F32.mul (F32.mul twoPi (F32.ofNat (lv.num Obj.groupPolePairs g.val))) (lv.fc.groups[g]).speed

/-- √3 × psi × |ωe| of a winding, from the group speed (R148). -/
def Live.ascProduct (lv : Live) (p : Fin 8) : F32 :=
  match lv.groupOf p with
  | none => 0
  | some g => F32.mul (F32.mul root3 (lv.real Obj.fieldFluxLinkage g.val)) (F32.abs (lv.groupWe g))

/-- `CatchLimit` × Vdc of a winding's group (R148). -/
def Live.catchVolts (lv : Live) (p : Fin 8) : F32 :=
  match lv.groupOf p with
  | none => 0
  | some g => F32.mul (lv.real Obj.groupCatchLimit g.val) lv.aq.vdc

/-- Whether a winding lies above the ASC speed, with the hysteresis of R148: `was` is the answer before. -/
def Live.aboveAsc (lv : Live) (p : Fin 8) (was : Bool) : Bool :=
  (lv.groupOf p).isSome &&
    (if was then F32.ge (lv.ascProduct p) (F32.mul (F32.dec 8 1) (lv.catchVolts p))
     else F32.ge (lv.ascProduct p) (lv.catchVolts p))

/-- Torque-free (R148): active short circuit on the low sides above the ASC speed, else gates off. -/
def torqueFree (asc : Bool) : GateMode := if asc then .asc .low else .off

/-- The gate state of a winding outside the faults of R205: by its winding state, the device mode and its group
(R149, R215). -/
def Live.calmMode (lv : Live) (p : Fin 8) : GateMode :=
  let w := lv.fc.wind[p]
  match w.ws with
  | .torqueFree | .lost | .kennelled => torqueFree w.asc
  | .measuring | .refused => .off
  | .running | .stopping => if lv.phase = .joined then .pwm else torqueFree w.asc
  | .disabled =>
    match lv.groupOf p with
    | none => .off
    | some g =>
      if lv.au.mode = .safe ∨ lv.phase = .withdrawn ∨ (lv.fc.groups[g]).enabled = true then torqueFree w.asc else .off

/-- The gate state of a winding (R215, in the order of its rows; R205, R211, R212, R216). -/
def Live.gateMode (lv : Live) (p : Fin 8) : GateMode :=
  let w := lv.fc.wind[p]
  let q := lv.gd.ports[p]
  let side : Side := if q.fault = some .short ∧ q.scSide = .high then .high else .low
  if lv.gd.forcedLow ∨ lv.ck.forced then .off
  else if lv.gd.railUv ∨ lv.wi.gndShift then .off
  else if q.fault = some .doubleShort ∨ q.bootOff then .off
  else if lv.gd.vabs then (if q.ladder ∧ w.asc then .asc side else .off)
  else if lv.phase = .halted ∧ lv.num Obj.haltWindings = 1 then .off
  else if lv.gd.ladderAsc ∧ q.ladder then .asc side
  else match q.fault with
    | some .short => if w.asc then .asc side else .off
    | some .overcurrent => .off
    | some .gate | some .bootstrap => torqueFree w.asc
    | _ => if lv.phase = .halted then torqueFree w.asc else lv.calmMode p

/-- The gate of a leg in a gate state; a switching leg stays as its last event left it. -/
def legUnder (m : GateMode) (old : LegGate) : LegGate :=
  match m with
  | .off => .off
  | .asc .low => .low
  | .asc .high => .high
  | .pwm => old

/-- The gates of one port brought to the state that its conditions ask for. -/
def Live.settlePort (lv : Live) (p : Fin 8) : Live :=
  let above := lv.aboveAsc p (lv.fc.wind[p]).asc
  let lv := lv.modWind p (fun w => { w with asc := if lv.gd.vabs then w.asc && above else above })
  let m := lv.gateMode p
  lv.modPort p (fun q =>
    { q with
      mode := m,
      legs := q.legs.map (fun g => { g with
        gate := legUnder m g.gate,
        conductions := if m = .pwm ∧ q.mode = .pwm then g.conductions else 0,
        refresh := if m = .pwm then g.refresh else none,
        refreshNow := if m = .pwm then g.refreshNow else false }) })

/-- Every gate of the lane brought to the state that its conditions ask for. -/
def Live.settle (lv : Live) : Live := forAll 8 (fun p x => x.settlePort p) lv

/-- A winding's current loop stopped and its integrators cleared (R148). -/
def stopLoop (w : WindingSt) : WindingSt :=
  { w with xd := 0, xq := 0, idfw := 0, id := 0, iq := 0, duty := (0, 0, 0), cmp := (0, 0, 0), newDuty := none, ticksOn := 0, rampFrom := none,
           hfiOn := false, hfiSince := none, isumRuns := 0, openNet := none, openPrev := none, openMax := (0, 0, 0) }

/-- A winding given a state other than running or stopping: its loop stops. -/
def Live.park (lv : Live) (p : Fin 8) (ws : WState) : Live :=
  lv.modWind p (fun w => { stopLoop w with ws := ws })

/-- A group whose reaction has left it torque-free stays so until it is next enabled (R151, R156). -/
def Live.heldBack (lv : Live) (p : Fin 8) : Bool :=
  match lv.groupOf p with
  | some g => (lv.fc.groups[g]).reacted && ((lv.fc.groups[g]).stop.isNone || (lv.fc.groups[g]).stopped)
  | none => false

/-- The test of the lowest queued port starts when none is in progress; a queued port whose winding is no longer
being enabled drops out (R223, R236). -/
def Live.sniffNext (lv : Live) : Live :=
  let q := lv.wi.queue.filter (fun p => decide ((lv.fc.wind[p]).ws = .measuring))
  match lv.wi.sniff with
  | some _ => { lv with wi := { lv.wi with queue := q } }
  | none => match (List.finRange 8).find? (fun p => q.contains p) with
    | some p => { lv with wi := { lv.wi with
        queue := q.filter (fun x => x != p), sniff := some { port := p, start := lv.clk } } }
    | none => { lv with wi := { lv.wi with queue := q } }

/-- The sniff test of a winding, queued, postponed or in progress, dropped (R236). -/
def Live.sniffForget (lv : Live) (p : Fin 8) : Live :=
  let mine := match lv.wi.sniff with
    | some r => decide (r.port = p)
    | none => false
  let lv := { lv with wi := { lv.wi with
    queue := lv.wi.queue.filter (fun x => x != p), postponed := setBit lv.wi.postponed p.val false,
    sniff := if mine then none else lv.wi.sniff } }
  if mine then lv.sniffNext else lv

/-- A winding whose enable begins: the back-EMF measurement of R149. -/
def Live.startCatch (lv : Live) (p : Fin 8) : Live :=
  if lv.heldBack p then (lv.park p .torqueFree).settlePort p
  else (((lv.sniffForget p).park p .measuring).modWind p (fun w =>
    { w with again := none, measAt := lv.clk })).settlePort p

/-- Whether the chopper is fitted (R207). -/
def Live.chFitted (lv : Live) : Bool := !F32.isZero (lv.real Obj.chopperResistance)

/-- Whether the chopper is available (R208); `chEnergy` holds the budget's hysteresis. -/
def Live.chAvailable (lv : Live) : Bool := lv.chFitted && !lv.gd.chFault && !lv.gd.chEnergy

/-- The regeneration limit of R213. -/
def Live.regenNow (lv : Live) : F32 :=
  if lv.chFitted && lv.gd.chFault then 0
  else
    let power := F32.add (lv.real Obj.supplyAcceptance) (if lv.chAvailable then lv.real Obj.chopperPower else 0)
    let cut := lv.real Obj.vRegenCut
    let g := F32.clamp (F32.div (F32.sub cut lv.aq.vdc) (F32.sub cut (lv.real Obj.vChOn))) 0 (F32.ofNat 1)
    F32.mul (F32.div power (F32.max lv.aq.vdc (F32.ofNat 1))) g

/-- The regeneration limit written to bus entry 322 and `RegenLimit` (R213). -/
def Live.writeRegen (lv : Live) (x : F32) : Live :=
  let lv := lv.setBus 322 x
  { lv with gd := { lv.gd with regen := x } }

end Sys2Proof.Machine
end

