-- ==== Sys2Proof/Machine/Logbook.lean ====
section
/-!
DEFINITION. The logbook's triggers and markers (R438 to R441), as every block that makes a trigger uses them.
-/

namespace Sys2Proof.Machine

/-- Milliseconds in log samples (R438). -/
def Live.logSamples (lv : Live) (t : Nat) : Nat := t * lv.num Obj.tickRate / 1000 / lv.num Obj.logDivider

/-- The pre-trigger length in samples (R438). -/
def Live.preSamples (lv : Live) : Nat := min (lv.logSamples (lv.num Obj.preTrigger)) 32768

/-- The post-trigger length in samples (R439). -/
def Live.postSamples (lv : Live) : Nat := lv.logSamples (lv.num Obj.postTrigger)

/-- The signal list of the logbook (R438). -/
def Live.logList (lv : Live) : List Half :=
  (List.range 64).map (fun i => BitVec.ofNat 16 (natAt (lv.bytes Obj.logSignals) (2 * i) 2))

/-- A marker's list entry added; the last 64 are kept (R440). -/
def Live.addMarker (lv : Live) (m : Marker) : Live :=
  let all := lv.im.markers ++ [m]
  { lv with im := { lv.im with markers := all.drop (all.length - 64), markerN := satInc lv.im.markerN } }

/-- A trigger recorded as a marker only (R440). -/
def Live.markOnly (lv : Live) (src : Half) : Live :=
  lv.addMarker { time := lv.timeStamp, tick := lv.tickLow, source := src }

/-- The capture that a trigger of now begins (R439). -/
def Live.newCapture (lv : Live) (src : Half) : Capture :=
  let pre := (lv.im.ring.take lv.preSamples).reverse
  { time := lv.timeStamp, tick := lv.tickLow, source := src, trunc := false, pre := pre.length,
    post := lv.postSamples, left := lv.postSamples, age := 0,
    divider := BitVec.ofNat 8 (lv.num Obj.logDivider), signals := lv.logList, samples := pre, fatal := false }

/-- A capture that ends before its post-trigger part is complete (R441). -/
def endCapture (c : Capture) : Capture :=
  { c with trunc := true, post := c.post - c.left, left := 0 }

/-- A trigger (R439 to R441, R444), and whether the bound of 8 pending triggers made it a marker only. A FATAL
trigger is captured whatever is pending: it goes before the pending captures, which end at once. -/
def Live.trigger (lv : Live) (src : Half) (fatal : Bool := false) : Bool × Live :=
  if (lv.num Obj.preTrigger = 0 ∧ lv.num Obj.postTrigger = 0) ∨ lv.fl.unusable.getLsbD 3 = true
      ∨ lv.im.erasing = true then
    (false, lv.markOnly src)
  else if fatal then
    (false, { lv with im := { lv.im with
      pending := { lv.newCapture src with fatal := true } :: lv.im.pending.map endCapture,
      truncated := lv.im.truncated || !lv.im.pending.isEmpty } })
  else if 8 ≤ lv.im.pending.length then (true, lv.markOnly src)
  else (false, { lv with im := { lv.im with pending := lv.im.pending ++ [lv.newCapture src] } })

/-- Whether a class is selected by `TriggerClass` (R439, R451). -/
def Live.triggers (lv : Live) (c : FaultClass) : Bool :=
  match lv.num Obj.triggerClass, c with
  | 0, _ => false
  | 1, .corrected => false
  | 1, _ => true
  | 2, .fatal => true
  | 2, _ => false
  | _, _ => true

end Sys2Proof.Machine
end

