-- ==== Sys2Proof/Machine/Threads.lean ====
section
/-!
DEFINITION. The operations of the hardware scheduler and of the atomic flows that other blocks use: readiness and
dispatch (R453, R454), posts and service (R459 to R464), stops (R462). Raising source 368 or 369 is left to the
fault collector's file.
-/

namespace Sys2Proof.Machine

/-! ### Threads -/

/-- Whether `AppThreads` has an entry for a thread (R452). -/
def Live.hasThread (lv : Live) (t : Fin 128) : Bool :=
  decide (16 * (t.val + 1) ≤ (lv.bytes Obj.appThreads).length)

/-- A field of a thread's `AppThreads` entry (R476). -/
def Live.threadField (lv : Live) (t : Fin 128) (off len : Nat) : Nat :=
  natAt (lv.bytes Obj.appThreads) (16 * t.val + off) len

/-- A thread's context. -/
def Live.thread (lv : Live) (t : Fin 128) : ThreadSt := lv.sc.threads.read {} t.val

/-- A thread's context changed. -/
def Live.modThread (lv : Live) (t : Fin 128) (f : ThreadSt → ThreadSt) : Live :=
  { lv with sc := { lv.sc with threads := lv.sc.threads.write {} t.val (f (lv.thread t)) } }

/-- The priority a thread runs at (R453, R466). -/
def Live.threadPrio (lv : Live) (t : Fin 128) : Nat :=
  match (lv.thread t).prio with
  | some p => p.val
  | none => lv.threadField t 8 1 % 16

/-- The partner that names the thread back (R457, R476). -/
def Live.partner (lv : Live) (t : Fin 128) : Option (Fin 128) :=
  if h : lv.threadField t 11 1 < 128 then some ⟨lv.threadField t 11 1, h⟩ else none

/-- Whether a thread is the tail of its pair (R457). -/
def Live.isTail (lv : Live) (t : Fin 128) : Bool := tbit (lv.threadField t 10 1) 1

/-- Whether the logic BIST of self-test 12 holds an application core; its threads run on the other one (R306). -/
def Live.coreTested (lv : Live) (core3 : Bool) : Bool :=
  (lv.fl.tests[12]).startedAt.isSome && (decide ((lv.fl.tests[12]).unit % 2 = 1) == core3)

/-- Whether an application core runs threads: neither kennelled nor marked unusable nor under test (R293, R305,
R306). -/
def Live.coreUsable (lv : Live) (core3 : Bool) : Bool :=
  !(lv.fl.kCores.getLsbD (bit1 core3)) && !(lv.fl.unusable.getLsbD 0) && !lv.sc.stopped && !lv.coreTested core3

/-- Whether a thread may run on a core: its affinity, or the other core where its own is out (R453). -/
def Live.mayRun (lv : Live) (t : Fin 128) (core3 : Bool) : Bool :=
  let aff := lv.threadField t 9 1
  lv.coreUsable core3 &&
    (aff == 0 || aff == (if core3 then 3 else 2) || !lv.coreUsable (!core3))

/-- The thread on a core. -/
def Live.onCore (lv : Live) (core3 : Bool) : Option (Fin 128) := if core3 then lv.sc.core3 else lv.sc.core2

/-- A core given a thread, or none. -/
def Live.setCore (lv : Live) (core3 : Bool) (t : Option (Fin 128)) : Live :=
  if core3 then { lv with sc := { lv.sc with core3 := t } } else { lv with sc := { lv.sc with core2 := t } }

/-- How a core stands to a thread of priority `p`: the priority that it would give up plus one, 0 when idle;
none where it runs a thread of equal or higher priority, or the thread may not run there (R454). -/
def Live.coreOffer (lv : Live) (t : Fin 128) (core3 : Bool) : Option Nat :=
  if !lv.mayRun t core3 then none
  else match lv.onCore core3 with
    | none => some 0
    | some r => if lv.threadPrio r < lv.threadPrio t then some (lv.threadPrio r + 1) else none

/-- The core that a ready thread takes: the one giving up less; on a tie the core its pair role prefers, else
core 2 (R454, R457). -/
def Live.pickCore (lv : Live) (t : Fin 128) : Option Bool :=
  match lv.coreOffer t false, lv.coreOffer t true with
  | none, none => none
  | some _, none => some false
  | none, some _ => some true
  | some x, some y =>
    if x < y then some false else if y < x then some true
    else some (decide ((lv.partner t).isSome ∧ lv.isTail t = true))

/-- Dispatch a ready thread on a core; a thread it pre-empts goes to the head of its list (R454). -/
def Live.dispatch (lv : Live) (t : Fin 128) (core3 : Bool) : Live :=
  let lv := match lv.onCore core3 with
    | none => lv
    | some r =>
      let l1 := lv.modThread r (fun q => { q with run := .ready, preempts := q.preempts + 1 })
      { l1 with sc := { l1.sc with ready := r :: l1.sc.ready } }
  let lv := { lv with sc := { lv.sc with ready := lv.sc.ready.filter (fun x => x != t) } }
  (lv.modThread t (fun q =>
    { q with run := .running core3, core3 := some core3, dispatches := q.dispatches + 1 })).setCore core3 (some t)

/-- The ready thread to be served first: the highest priority, then the order of its list, among those that a
core can take. -/
def Live.nextReady (lv : Live) : Option (Fin 128 × Bool) :=
  lv.sc.ready.foldl (fun best t =>
    match lv.pickCore t with
    | none => best
    | some c => match best with
      | none => some (t, c)
      | some (b, bc) => if lv.threadPrio b < lv.threadPrio t then some (t, c) else some (b, bc)) none

/-- Dispatch until no ready thread can be placed. Every placement raises the priorities on the two cores, so 40
rounds are enough (R454). -/
def Live.reschedule : Nat → Live → Live
  | 0, lv => lv
  | k + 1, lv => match lv.nextReady with
    | none => lv
    | some (t, c) => Live.reschedule k (lv.dispatch t c)

/-- The scheduler's answer to a change of readiness (R454). -/
def Live.schedule (lv : Live) : Live := Live.reschedule 40 lv

/-- A thread taken off its core, its ready list and every waiting list. -/
def Live.unplace (lv : Live) (t : Fin 128) : Live :=
  let lv := if lv.sc.core2 = some t then lv.setCore false none else lv
  let lv := if lv.sc.core3 = some t then lv.setCore true none else lv
  { lv with sc := { lv.sc with
      ready := lv.sc.ready.filter (fun x => x != t),
      flows := lv.sc.flows.mapDflt {} (fun q => { q with waiters := q.waiters.filter (fun x => x != t) }) } }

/-- A thread made READY at the tail of its list (R455). -/
def Live.makeReady (lv : Live) (t : Fin 128) : Live :=
  let lv := (lv.unplace t).modThread t (fun q => { q with run := .ready })
  ({ lv with sc := { lv.sc with ready := lv.sc.ready ++ [t] } }).schedule

/-- A thread made WAITING (R455). -/
def Live.makeWait (lv : Live) (t : Fin 128) (w : WaitFor) : Live :=
  ((lv.unplace t).modThread t (fun q => { q with run := .waiting w })).schedule

/-- Wake every thread whose wait satisfies `c`, in ascending thread number, to the tail of its list (R455). -/
def Live.wakeWhere (lv : Live) (c : WaitFor → Bool) : Live :=
  (List.finRange 128).foldl (fun (x : Live) t => match (x.thread t).run with
    | .waiting w => if c w then x.makeReady t else x
    | _ => x) lv

/-- Wake the threads that wait for the tick, or for the cycle; no longer from the apply tick of a power entry on (R455,
R514). -/
def Live.wakeTimed (lv : Live) (w : WaitFor) : Live :=
  if lv.su.entry.isSome then lv else lv.wakeWhere (fun x => decide (x = w))

/-! ### Flows -/

/-- A flow. -/
def Live.flow (lv : Live) (f : Fin 64) : FlowSt := lv.sc.flows.read {} f.val

/-- A flow changed. -/
def Live.modFlow (lv : Live) (f : Fin 64) (g : FlowSt → FlowSt) : Live :=
  { lv with sc := { lv.sc with flows := lv.sc.flows.write {} f.val (g (lv.flow f)) } }

/-- The configured depth of a flow; 0 for the resident flows, whose depth no rule gives (R458). -/
def Live.flowDepth (lv : Live) (f : Fin 64) : Nat :=
  if f.val < 16 then 0 else natAt (lv.bytes Obj.flowDepth) f.val 1

/-- Pending items of the lane: queued and in service, over all flows (R460). -/
def Live.pendingItems (lv : Live) : Nat :=
  (lv.sc.flows.map (fun p => p.2.queue.length + bit1 p.2.serving.isSome)).sum

/-- The port that serves a flow (R464). -/
def Live.flowPort (lv : Live) (f : Fin 64) : Option (Fin 4) :=
  (List.finRange 4).find? (fun n => lv.num Obj.canTxFlow 0 n.val == f.val)

/-- Whether a CAN port takes posts: not off, not kennelled or unusable, not stopped as ballast (R464). -/
def Live.portSends (lv : Live) (n : Fin 4) : Bool :=
  lv.rcNum Obj.canMode n.val != 0 && !(lv.fl.kCans.getLsbD n.val)
    && !(lv.fl.unusable.getLsbD 1 && decide (2 ≤ n.val))
    && (lv.di.can[n]).errState != 3
    && !(lv.au.ballast && tbit (lv.num Obj.ballastCan) n.val)

/-- `INFO` of an item posted now (R459). -/
def Live.itemInfo (lv : Live) (len : Nat) (trunc : Bool) (kind port : Nat) : Word :=
  BitVec.ofNat 32 (len + bitAt trunc 7 + kind * 2 ^ 8 + port * 2 ^ 12 + (lv.ticks % 65536) * 2 ^ 16)

/-- The first waiting thread of a flow: highest priority, then order of arrival (R461). -/
def Live.firstWaiter (lv : Live) (f : Fin 64) : Option (Fin 128) :=
  (lv.flow f).waiters.foldl (fun best t => match best with
    | none => some t
    | some b => if lv.threadPrio b < lv.threadPrio t then some t else some b) none

/-- The data lengths of a CAN FD frame; a length is padded up to the next one (R464). -/
def canPad (n : Nat) : Nat :=
  (([0, 1, 2, 3, 4, 5, 6, 7, 8, 12, 16, 20, 24, 32, 48, 64] : List Nat).find? (fun x => decide (n ≤ x))).getD 64

/-- The frame an item of a `CanTxFlow` asks for (R463, R464). -/
def itemFrame (it : Item) : CanFrame :=
  let tag := it.tag.toNat
  { ident := BitVec.ofNat 29 tag, ext := tbit tag 31, fd := tbit tag 30, brs := tbit tag 29,
    data := slice it.data 0 (canPad it.data.length) }

/-- An item given into service with a thread that waited for it. -/
def Live.giveTo (lv : Live) (f : Fin 64) (t : Fin 128) (it : Item) : Live :=
  let lv := lv.modFlow f (fun q => { q with serving := some (.thread t, it), waiters := q.waiters.filter (fun x => x != t) })
  (lv.modThread t (fun q => { q with held := some (f, it), tresult := 0 })).makeReady t

/-- An item given into service with a CAN port: its frame is handed to the port (R464). -/
def Live.giveToPort (lv : Live) (f : Fin 64) (n : Fin 4) (it : Item) : Live :=
  let lv := lv.modFlow f (fun q => { q with serving := some (.port n, it) })
  { lv with di := { lv.di with can := vmod lv.di.can n (fun c => { c with tx := c.tx ++ [itemFrame it] }) } }

/-- An idle flow hands its next queued item on: to its port, or to the first waiting thread (R461, R464). -/
def Live.serveNext (lv : Live) (f : Fin 64) : Live :=
  match (lv.flow f).serving, (lv.flow f).queue with
  | none, it :: rest => match lv.flowPort f with
    | some n => (lv.modFlow f (fun q => { q with queue := rest })).giveToPort f n it
    | none => match lv.firstWaiter f with
      | some t => (lv.modFlow f (fun q => { q with queue := rest })).giveTo f t it
      | none => lv
  | _, _ => lv

/-- A post, and its result: 0 posted, 1 flow bound, 2 lane bound, 3 invalid flow (R458, R460, R464); a refusal
counts in `REFUSED` of the flow (R467). -/
def Live.post (lv : Live) (f : Fin 64) (it : Item) : Nat × Live :=
  let q := lv.flow f
  let direct := q.serving.isNone && q.queue.isEmpty &&
    ((lv.flowPort f).isSome || !q.waiters.isEmpty)
  let closed := match lv.flowPort f with
    | some n => !lv.portSends n
    | none => false
  let no := lv.modFlow f (fun x => { x with refused := x.refused + 1 })
  if lv.flowDepth f = 0 ∨ closed = true then (3, no)
  else if direct = false ∧ lv.flowDepth f ≤ q.queue.length then (1, no)
  else if 1024 ≤ lv.pendingItems then (2, no)
  else (0, (lv.modFlow f (fun q => { q with queue := q.queue ++ [it] })).serveNext f)

/-- The end of service of a flow's item (R461, R462). -/
def Live.endService (lv : Live) (f : Fin 64) : Live :=
  (lv.modFlow f (fun q => { q with serving := none })).serveNext f

/-- The item a thread holds is discarded and its flow becomes idle (R462). -/
def Live.discardHeld (lv : Live) (t : Fin 128) : Live :=
  match (lv.thread t).held with
  | none => lv
  | some (f, _) => (lv.modThread t (fun q => { q with held := none })).endService f

/-- A thread leaves the cores for a state in which it does not run (R452, R462). -/
def Live.haltThread (lv : Live) (t : Fin 128) (r : RunState) : Live :=
  ((lv.unplace t).modThread t (fun q => { q with run := r })).discardHeld t |>.schedule

/-- The partner of a thread, started or stopped with it (R457). -/
def Live.stopPartner (lv : Live) (t : Fin 128) : Live :=
  match lv.partner t with
  | none => lv
  | some p => match (lv.thread p).run with
    | .dormant | .faulted => lv
    | _ => lv.haltThread p .dormant

/-- A thread that faults (R456, R457): FAULTED, its held item discarded, its partner stopped. -/
def Live.faultThread (lv : Live) (t : Fin 128) : Live :=
  ({ lv with sc := { lv.sc with faults := satInc lv.sc.faults } }.haltThread t .faulted).stopPartner t

/-- A thread starts at its entry address with cleared registers: its staging registers are at reset (R465, R466). -/
def Live.startThread (lv : Live) (t : Fin 128) : Live :=
  (lv.modThread t (fun q =>
    { prio := q.prio, core3 := q.core3, dispatches := q.dispatches, preempts := q.preempts,
      schRes := q.schRes, cleared := true })).makeReady t

/-- Every application thread is stopped by a halt (R294, R452). -/
def Live.stopAllThreads (lv : Live) : Live :=
  let lv := { lv with sc := { lv.sc with stopped := true } }
  (List.finRange 128).foldl (fun (x : Live) t => match (x.thread t).run with
    | .dormant => x
    | _ => x.haltThread t .dormant) lv

/-- An intrusive self-test is in progress (R301, R306). -/
def Live.intrusiveRuns (lv : Live) : Bool :=
  (lv.fl.tests[10]).startedAt.isSome || (lv.fl.tests[11]).startedAt.isSome || (lv.fl.tests[12]).startedAt.isSome

/-- Every intrusive self-test aborted, its unit back in service (R309). -/
def Live.abortIntrusive (lv : Live) : Live :=
  let off (t : TestSt) : TestSt := { t with startedAt := none }
  ({ lv with fl := { lv.fl with tests := vmod (vmod (vmod lv.fl.tests 10 off) 11 off) 12 off } }).schedule

/-- The thread on a core gives it up, to the head of its list, and the threads are placed anew (R306, R454). -/
def Live.clearCore (lv : Live) (core3 : Bool) : Live :=
  match lv.onCore core3 with
  | none => lv.schedule
  | some r =>
    let l1 := lv.modThread r (fun q => { q with run := .ready, preempts := q.preempts + 1 })
    (({ l1 with sc := { l1.sc with ready := r :: l1.sc.ready } }).setCore core3 none).schedule

/-- The threads that start at the end of STARTUP: those with `AUTOSTART`, ascending (R452). -/
def Live.autostart (lv : Live) : Live :=
  (List.finRange 128).foldl (fun (x : Live) t =>
    if x.hasThread t && tbit (x.threadField t 10 1) 0 && decide ((x.thread t).run = .dormant) then x.startThread t
    else x) lv

end Sys2Proof.Machine
end

