-- ==== Sys2Proof/Machine/Collector.lean ====
section
/-!
DEFINITION. The fault collector (R289 to R301): the record of an event, its reaction, kennels, withdrawal and halt.
-/

namespace Sys2Proof.Machine

/-! ### The map -/

/-- `UNIT` of an event that names none (R297). -/
def noUnit : Nat := 0xFFFF

/-- The map entry of a source (R311). -/
def Live.mapEntry (lv : Live) (src : Nat) : Nat := natAt (lv.bytes Obj.faultSourceMap) (2 * src) 2

/-- The class of a map entry (R311). -/
def entryClass (e : Nat) : FaultClass :=
  match bits e 4 3 with
  | 0 => .corrected | 1 => .contained | _ => .fatal

/-- The reaction of a map entry (R311). -/
def entryReaction (e : Nat) : Reaction :=
  match bits e 2 0 with
  | 0 => .log | 1 => .notify | 2 => .kennel | 3 => .degrade | 4 => .surrender | _ => .halt

/-! ### Records -/

/-- The 24 bytes of an event record (R297). -/
def EventRec.bytes (e : EventRec) : List Byte :=
  leBytes 8 e.time.toNat ++ wordBytes e.tick ++ halfBytes e.src ++ [e.mode, e.role] ++ wordBytes e.syn
    ++ halfBytes e.unit ++ halfBytes e.seq

/-- The source of a record (R297). -/
def EventRec.source (e : EventRec) : Nat := e.src.toNat % 512

/-- The record of an event detected now (R297). -/
def Live.eventRec (lv : Live) (src unit : Nat) (syn : Word) (cls : FaultClass) (rea : Reaction) (inj : Bool) : EventRec :=
  { time := lv.timeStamp, tick := lv.tickLow,
    src := BitVec.ofNat 16 (src + cls.code * 2 ^ 9 + rea.code * 2 ^ 11 + bitAt inj 14),
    mode := BitVec.ofNat 8 lv.au.mode.code, role := BitVec.ofNat 8 lv.au.role.code,
    syn := syn, unit := BitVec.ofNat 16 unit, seq := lv.fl.seq, at' := lv.clk }

/-- Whether a CORRECTED event is coalesced: its source has a record in the queue younger than `CoalesceTime` (R298). -/
def Live.coalesced (lv : Live) (src : Nat) : Bool :=
  decide (lv.num Obj.coalesceTime ≠ 0) &&
    lv.fl.history.any (fun e => decide (e.source = src ∧ lv.clk < e.at' + ms (lv.num Obj.coalesceTime)))

/-- A record entered into the history queue (R298). -/
def enterHistory (f : FaultSt) (e : EventRec) : FaultSt :=
  if 32 ≤ f.history.length then
    { f with history := f.history.drop (f.history.length - 31) ++ [e], overwritten := satInc f.overwritten }
  else { f with history := f.history ++ [e] }

/-- `FirstEvent` and its count of later events (R299). -/
def enterFirst (f : FaultSt) (e : EventRec) : FaultSt :=
  match f.first with
  | none => { f with first := some e }
  | some _ => { f with later := satInc f.later }

/-- The counters of `HealthReport` (R84). -/
def countClass (f : FaultSt) : FaultClass → FaultSt
  | .corrected => { f with corrected := satInc f.corrected }
  | .contained => { f with contained := satInc f.contained }
  | .fatal => { f with fatal := satInc f.fatal }

/-- Whether an event comes from a slot, from its group or from a winding of its group (R114). -/
def Live.eventNear (lv : Live) (src unit s : Nat) : Bool :=
  let g := lv.num Obj.slotGroup s
  let ofPort (p : Nat) : Bool :=
    if h : p < 8 then (match lv.groupOf ⟨p, h⟩ with | some x => decide (x.val = g) | none => false) else false
  if 96 ≤ src ∧ src ≤ 99 then decide (unit = s)
  else if src = 100 then decide (unit = g)
  else if 64 ≤ src ∧ src ≤ 71 then ofPort (src - 64)
  else if 128 ≤ src ∧ src ≤ 191 then ofPort ((src - 128) / 8)
  else if 197 ≤ src ∧ src ≤ 199 then ofPort unit
  else false

/-- The event marked in the epochs of the adaptive slots that it freezes (R114). -/
def Live.markEpochs (lv : Live) (src unit : Nat) (cls : FaultClass) : Live :=
  { lv with en := { lv.en with slots := lv.en.slots.mapWith {} (fun s q =>
    if (lv.num Obj.slotNotch1Mode s = 2 ∨ lv.num Obj.slotNotch2Mode s = 2) ∧
        (cls ≠ .corrected ∨ lv.eventNear src unit s = true) then { q with epEvent := true } else q) } }

/-- An event recorded (R297 to R299): counted, entered or suppressed, kept as the first. -/
def Live.record (lv : Live) (src : Nat) (cls : FaultClass) (e : EventRec) : Live :=
  let f := { countClass lv.fl cls with seq := lv.fl.seq + 1 }
  let f := match cls with
    | .corrected =>
      if lv.coalesced src then { f with suppressed := satInc f.suppressed } else enterHistory f e
    | _ => enterFirst (enterHistory f e) e
  { lv.markEpochs src e.unit.toNat cls with fl := f }

/-! ### Kennels -/

/-- A motor port kennelled (R293). -/
def Live.kennelPort (lv : Live) (p : Fin 8) : Live :=
  let lv := { lv with fl := { lv.fl with kPorts := setBit lv.fl.kPorts p.val true } }
  (lv.park p .kennelled).settlePort p

/-- The leg whose winding depends on a shunt, VDS, VGS or bootstrap channel (R159, R293). -/
def channelLeg (c : Nat) : Option (Fin 24) :=
  if c < 24 ∨ (48 ≤ c ∧ c < 168) then some ⟨c % 24, by omega⟩ else none

/-- A sense channel kennelled; the winding of a bound port's own channel is kennelled too (R293). -/
def Live.kennelChannel (lv : Live) (c : Nat) : Live :=
  let lv := { lv with fl := { lv.fl with kChans := setBit lv.fl.kChans c true } }
  match channelLeg c with
  | some leg => if (lv.groupOf (legPort leg)).isSome then lv.kennelPort (legPort leg) else lv
  | none => lv

/-- The background converters: those without a role that are healthy (R162, R168). -/
def Live.spareAdcs (lv : Live) : List (Fin 16) :=
  (List.finRange 16).filter (fun a => !lv.fl.kAdcs.getLsbD a.val && !lv.aq.roles.contains a)

/-- A converter kennelled (R170). The answer says whether every role can be filled and the last background converter
has not failed. The role goes over at the next tick start (`Live.fillRoles`). -/
def Live.kennelAdc (lv : Live) (n : Fin 16) : Bool × Live :=
  let lv := { lv with fl := { lv.fl with kAdcs := setBit lv.fl.kAdcs n.val true } }
  let failed : Nat := lv.aq.roles.countP (fun a => lv.fl.kAdcs.getLsbD a.val)
  ( decide (failed ≤ lv.spareAdcs.length) && (lv.aq.roles.contains n || !lv.spareAdcs.isEmpty), lv)

/-- The role of a kennelled converter goes to the highest-numbered healthy background converter (R170). -/
def Live.fillRoles (lv : Live) : Live :=
  lv.aq.roles.foldl (fun (x : Live) n =>
    match x.fl.kAdcs.getLsbD n.val, x.spareAdcs.getLast? with
    | true, some a => { x with aq := { x.aq with roles := x.aq.roles.map (fun y => if y = n then a else y) } }
    | _, _ => x) lv

/-- A core that leaves the two application cores (R293): the thread that runs on it becomes FAULTED (R456, R474),
the others continue on the other core. -/
def Live.kennelCore (lv : Live) (core3 : Bool) : Live :=
  let lv := { lv with fl := { lv.fl with kCores := setBit lv.fl.kCores (bit1 core3) true } }
  match lv.onCore core3 with
  | none => lv.schedule
  | some t => lv.faultThread t

/-- A CAN port kennelled: its controller is off the bus (R293), its open sessions are released (R403). -/
def Live.kennelCan (lv : Live) (n : Fin 4) : Live :=
  { lv with fl := { lv.fl with kCans := setBit lv.fl.kCans n.val true },
            di := { lv.di with can := vmod lv.di.can n (fun c => { c with errState := 3, nextBeat := none, tx := [] }),
                               sessions := lv.di.sessions.filter (fun q => decide (q.path ≠ .can n)) } }

/-- The unit that an event of a source fences off, if it names one (R551). -/
def Live.fence (lv : Live) (src unit : Nat) : Live :=
  if src = 96 ∨ src = 98 ∨ src = 99 then
    if unit < 192 then { lv with fl := { lv.fl with kSlots := setBit lv.fl.kSlots unit true } } else lv
  else if 128 ≤ src ∧ src ≤ 191 then
    lv.kennelPort ⟨(src - 128) / 8 % 8, by omega⟩
  else if 197 ≤ src ∧ src ≤ 199 then
    if h : unit < 8 then lv.kennelPort ⟨unit, h⟩ else lv
  else if src = 208 then
    if h : unit < 16 then (lv.kennelAdc ⟨unit, h⟩).2 else lv
  else if 209 ≤ src ∧ src ≤ 239 then
    if unit < 192 then lv.kennelChannel unit else lv
  else if 296 ≤ src ∧ src ≤ 311 then lv.kennelCan ⟨(src - 296) / 4 % 4, by omega⟩
  else if 344 ≤ src ∧ src ≤ 351 then
    if unit < 16 then { lv with fl := { lv.fl with kUnits := setBit lv.fl.kUnits unit true } } else lv
  else if src = 370 then
    if unit = 2 then lv.kennelCore false else if unit = 3 then lv.kennelCore true else lv
  else lv

/-! ### Withdrawal and halt -/

def Live.modSout (lv : Live) (n : Fin 4) (f : SoutSt → SoutSt) : Live :=
  { lv with sf := { lv.sf with sout := vmod lv.sf.sout n f } }

/-- An output switched off (R331, R333): a dark pulse in progress counts as incomplete; the readback follows. -/
def Live.soutOff (lv : Live) (n : Fin 4) : Live :=
  let q := lv.sf.sout[n]
  let lv := if q.dark then { lv with sf := { lv.sf with incomplete := satInc lv.sf.incomplete } } else lv
  lv.modSout n (fun q => { q with
    cmd := false, readback := false, dark := false, deferred := false, darkTick := none, openload := false,
    changedAt := some lv.clk, edmBadAt := some lv.clk })

/-- Every safety output off (R63, R294, R504). -/
def Live.outputsOff (lv : Live) : Live :=
  forAll 4 (fun n x => if (x.sf.sout[n]).cmd then x.soutOff n else x) lv

/-- Every winding parked torque-free, lost and kennelled windings excepted. -/
def Live.windingsFree (lv : Live) : Live :=
  forAll 8 (fun p x => match (x.fc.wind[p]).ws with
    | .lost | .kennelled => x.modWind p stopLoop
    | .disabled => x
    | _ => x.park p .torqueFree) lv

/-- A lane that withdraws (R63): windings to SAFE behaviour, outputs off, no role, no records, no frames. -/
def Live.withdraw (lv : Live) : Live :=
  if lv.phase = .joined ∨ lv.phase = .loaded then
    let lv := lv.windingsFree.outputsOff
    { lv with
      phase := .withdrawn,
      au := { lv.au with role := .none, follower := false, holding := false, noLease := false },
      jn := { lv.jn with portsOff := true } }.settle
  else lv

/-- A lane that halts (R294, R508): gates as `HaltWindings` says or as R212 keeps them, outputs off, links and
Jalsyn silent, threads stopped. -/
def Live.halt (lv : Live) : Live :=
  if lv.phase = .joined ∨ lv.phase = .loaded ∨ lv.phase = .withdrawn then
    let lv := lv.windingsFree.outputsOff.stopAllThreads
    { lv with
      phase := .halted,
      au := { lv.au with role := .none, follower := false, holding := false, noLease := false, noRejoin := true },
      jn := { lv.jn with portsOff := true },
      su := { lv.su with halt := true },
      fl := { lv.fl with haltedAt := some lv.clk } }.settle
  else lv

/-! ### Raising an event -/

/-- The reaction carried out, without recording and notification (R291). -/
def Live.react (lv : Live) (src unit entry : Nat) : Live :=
  let rea := entryReaction entry
  let lv := match rea with
    | .kennel | .surrender | .halt => lv.fence src unit
    | _ => lv
  let lv := match rea with
    | .degrade | .surrender | .halt =>
      let want : BitVec 2 := if tbit entry 5 then 1 else 2
      { lv with fl := { lv.fl with degreq := if lv.fl.degreq.toNat < want.toNat then want else lv.fl.degreq } }
    | _ => lv
  match rea with
  | .surrender => lv.withdraw
  | .halt => lv.halt
  | _ => lv

/-- The notification of an event (R291, R463, R471), and the flow of a dropped post. -/
def Live.notify (lv : Live) (src : Nat) (e : EventRec) : Option (Fin 64) × Live :=
  let lv := { lv with sc := { lv.sc with flaSeq := e.seq, flaCount := lv.sc.flaCount + 1 } }
  if h : lv.num Obj.appFaultFlow < 64 then
    let f : Fin 64 := ⟨lv.num Obj.appFaultFlow, h⟩
    let it : Item := { tag := BitVec.ofNat 32 src, info := lv.itemInfo 24 false 4 0, data := e.bytes }
    match lv.post f it with
    | (0, l2) => (none, l2)
    | (_, l2) => (some f, { l2 with sc := { l2.sc with drops := satInc l2.sc.drops } })
  else (none, lv)

/-- The thread that runs on the application core named by an event of source 370 (R309, R456). -/
def Live.coreThread (lv : Live) (src unit : Nat) : Option (Fin 128) :=
  if src ≠ 370 then none else if unit = 2 then lv.sc.core2 else if unit = 3 then lv.sc.core3 else none

/-- An event of a source under a map entry (R289 to R301). `inj` is the `InjectReact` of the injection that caused
it, if any (R303). A trigger that the logbook bound refuses raises source 360, a notification that a flow drops
raises source 368, a thread whose core is kennelled raises source 369 (R456, whose syndrome gives no address, log
entry 26); two levels of such consequences are followed (log entry 21). -/
def Live.raiseN : Nat → Live → Nat → Nat → Word → Option Bool → Nat → Live
  | 0, lv, _, _, _, _, _ => lv
  | k + 1, lv, src, unit, syn, inj, entry =>
    let cls := entryClass entry
    let rea := entryReaction entry
    let e := lv.eventRec src unit syn cls rea inj.isSome
    let lv := lv.record src cls e
    let r := if lv.triggers cls then lv.trigger (BitVec.ofNat 16 src) (decide (cls = .fatal)) else (false, lv)
    let lv := if r.1 then Live.raiseN k r.2 360 noUnit 0 none (r.2.mapEntry 360) else r.2
    let n := if rea = .log then (none, lv) else lv.notify src e
    let lv := match n.1 with
      | some f => Live.raiseN k n.2 368 f.val 4 none (n.2.mapEntry 368)
      | none => n.2
    if inj = some false then lv
    else
      let l2 := lv.react src unit entry
      match lv.coreThread src unit with
      | none => l2
      | some t =>
        if (l2.thread t).run = .faulted then
          Live.raiseN k l2 369 (128 + t.val) (0xFF000000 ||| (Config.openSyndrome 1 &&& 0xFFFFFF)) none
            (l2.mapEntry 369)
        else l2

/-- An event of a source with its unit and syndrome (R289 to R301). -/
def Live.raise (lv : Live) (src unit : Nat) (syn : Word := 0) : Live := Live.raiseN 3 lv src unit syn none (lv.mapEntry src)

/-- An event whose source number the manual does not give (log entry 22): its class is the rule's, its reaction the
default of that class, its source a free value. -/
def Live.raiseOpen (lv : Live) (tag : Nat) (cls : FaultClass) (unit : Nat) (syn : Word := 0) : Live :=
  Live.raiseN 3 lv (Config.openSource tag).toNat unit syn none (match cls with
    | .corrected => 0x00 | .contained => 0x09 | .fatal => 0x15)

/-- A hardware post; a drop is counted and raises source 368 (R460). -/
def Live.hwPost (lv : Live) (f : Fin 64) (it : Item) (kind : Nat) : Live :=
  match lv.post f it with
  | (0, l2) => l2
  | (_, l2) => ({ l2 with sc := { l2.sc with drops := satInc l2.sc.drops } }).raise 368 f.val (BitVec.ofNat 32 kind)

/-- A logbook trigger of another kind (R439), with source 360 where the bound makes it a marker only. -/
def Live.logTriggerNow (lv : Live) (src : Half) : Live :=
  match lv.trigger src with
  | (true, l2) => l2.raise 360 noUnit
  | (false, l2) => l2

/-- An injection armed on a checker acts on its next check (R303): the checker's event is injected, the
injection is spent. The answer says whether the check fails by injection. -/
def Live.injected (lv : Live) (checker : Nat) : Option Bool × Live :=
  match lv.fl.armed with
  | some a => if a.checker = checker then
      (some a.react, { lv with fl := { lv.fl with armed := none, injStatus := 2 } })
    else (none, lv)
  | none => (none, lv)

/-- An event raised by a checker, injected or not (R303). -/
def Live.raiseBy (lv : Live) (src unit : Nat) (syn : Word) (inj : Option Bool) : Live :=
  Live.raiseN 3 lv src unit syn inj (lv.mapEntry src)

/-- A converter failed (R170): source 208, and source 209 where a role cannot be filled. -/
def Live.failAdc (lv : Live) (n : Fin 16) : Live :=
  let filled := (lv.kennelAdc n).1
  let lv := lv.raise 208 n.val
  if filled then lv else lv.raise 209 noUnit

/-- A fault counted since the last entry into OPERATIONAL with three lanes (R77). -/
def Live.countFault (lv : Live) (k : FaultKind) (lane : LaneId) (part : Nat) : Live :=
  let f : CountedFault := { kind := k, lane := lane, part := part }
  if lv.au.faultsOn && !lv.au.faults.contains f then
    { lv with au := { lv.au with faults := lv.au.faults ++ [f] } }
  else lv

/-- A winding lost, fault W (R141, R146, R206, R227 to R229, R552). -/
def Live.loseWinding (lv : Live) (p : Fin 8) (syn : Word) : Live :=
  let lv := if (lv.fc.wind[p]).ws = .kennelled then lv else lv.park p .lost
  ((lv.settlePort p).countFault .winding lv.me p.val).raise 197 p.val syn

/-- A winding set torque-free for a fault. -/
def Live.freeWinding (lv : Live) (p : Fin 8) : Live :=
  match (lv.fc.wind[p]).ws with
  | .lost | .kennelled | .disabled => lv
  | _ => (lv.park p .torqueFree).settlePort p

/-- The angle source that a winding's group names: `FallbackSource` once the group has changed to it (R136, R141). -/
def Live.sourceOf (lv : Live) (p : Fin 8) : Option Nat :=
  (lv.groupOf p).map (fun g =>
    if (lv.fc.groups[g]).fallback then lv.num Obj.groupFallbackSource g.val else lv.num Obj.groupPositionSource g.val)

/-- The position source of a winding lost, fault P (R137, R141, R245, R258, R552): 1 feedback port, 2 `SENT` input,
3 sine/cosine amplitude. -/
def Live.losePosition (lv : Live) (p : Fin 8) (syn : Word) : Live :=
  if (lv.fc.wind[p]).srcLost then lv
  else ((lv.modWind p (fun w => { w with srcLost := true })).countFault .positionSource lv.me p.val).raise 198 p.val syn

/-- A feedback port that became suspect or failed: fault P for the winding that uses it (R245). -/
def Live.portLost (lv : Live) (p : Fin 8) : Live :=
  match lv.sourceOf p with
  | some 0 | some 1 => lv.losePosition p 1
  | _ => lv

end Sys2Proof.Machine
end

