-- ==== Sys2Proof/Machine/Image.lean ====
section
/-!
DEFINITION. The signed envelope and its checks (R413 to R417), the stored keys (R429), the records of a Lendoene
image (R416) and the values that they put in effect (R420).
-/

namespace Sys2Proof.Machine

/-! ### Bytes of storage -/

/-- A region's content without its trailing zeros: the one form in which regions are held (R419). -/
def trimZeros (bs : List Byte) : List Byte := (bs.reverse.dropWhile (fun b => b == 0)).reverse

/-- Bytes written into a region at an offset. -/
def putBytes (bs : List Byte) (off : Nat) (data : List Byte) : List Byte :=
  trimZeros (slice bs 0 off ++ data ++ bs.drop (off + data.length))

/-! ### Header -/

/-- The fields of a header (R413). -/
structure Header where
  kind    : Nat
  edSlot  : Nat
  mlSlot  : Nat
  version : Nat
  bodyLen : Nat
  records : Nat
  epoch   : Nat
  revoke  : Nat
  deriving DecidableEq, Repr

/-- The header of an image (R413). -/
def header (bs : List Byte) : Header :=
  { kind := natAt bs 6 1, edSlot := natAt bs 0x11 1, mlSlot := natAt bs 0x12 1, version := natAt bs 0x14 4,
    bodyLen := natAt bs 0x18 4, records := natAt bs 0x1C 4, epoch := natAt bs 0x20 1, revoke := natAt bs 0x21 1 }

/-- The length of an image (R414). -/
def imageLen (bs : List Byte) : Nat := 3504 + (header bs).bodyLen

/-- The largest image of a kind (R414). -/
def slotSize (kind : Nat) : Nat := if kind = 1 then 4194304 else 67108864

/-- Check 4 for a slot of a kind: magic, format, reserved bytes, body length; the fields that a kind fixes at 0
count as reserved (R413, R417; log entry 25). -/
def headerOk (slotKind : Nat) (bs : List Byte) : Bool :=
  let h := header bs
  decide (slice bs 0 4 = [0x4C, 0x44, 0x4E, 0x45]) && decide (natAt bs 4 2 = 1)
    && decide (natAt bs 7 1 = 0) && decide (natAt bs 0x13 1 = 0) && (slice bs 0x22 30).all (fun b => b == 0)
    && decide (h.bodyLen % 8 = 0) && decide (3504 + h.bodyLen ≤ slotSize slotKind)
    && (if h.kind = 1 then decide (h.epoch = 0 ∧ h.revoke = 0)
        else if h.kind = 2 then decide (h.records = 0 ∧ h.revoke < 16) else true)

/-- Check 5: `PRODUCT` and `REVISION` (R413). -/
def productOk (bs : List Byte) : Bool :=
  decide (slice bs 8 9 = [0x53, 0x4B, 0x56, 0x2D, 0x33, 0x32, 0x34, 0x00, 0x43])

/-! ### Keys -/

/-- The fingerprint of a key pair (R429). -/
def fingerprint (keys : List Byte) : BitVec 256 := BitVec.ofNat 256 (leNat ((sha512 keys).take 32))

/-- The key pair that a slot gives to a use: the copy whose fingerprint matches (R429). -/
def usableKeys (st : NvStore) (o : Otp) (slot : Fin 12) : Option (List Byte) :=
  if o.burnt.getLsbD slot.val then
    let k := st.keys[slot]
    if fingerprint k.first = o.prints[slot] then some k.first
    else if fingerprint k.second = o.prints[slot] then some k.second
    else none
  else none

/-- A slot is programmed and neither copy of its keys matches (R429). -/
def keyDamaged (st : NvStore) (o : Otp) (slot : Fin 12) : Bool :=
  o.burnt.getLsbD slot.val && (usableKeys st o slot).isNone

/-- The slot numbered `n` of the purpose that starts at slot `base`. -/
def keySlot (base n : Nat) : Option (Fin 12) :=
  if h : n < 4 ∧ base + n < 12 then some ⟨base + n, h.2⟩ else none

/-- A programmed, unrevoked slot with an intact copy. -/
def goodKeys (st : NvStore) (o : Otp) (slot : Option (Fin 12)) : Option (List Byte) :=
  match slot with
  | some n => if o.revoked.getLsbD n.val then none else usableKeys st o n
  | none => none

/-- The first slot of the purpose of an image kind (R415, R429). -/
def purposeBase (kind : Nat) : Nat := if kind = 1 then 4 else 0

/-- The Ed25519 half of a key pair. -/
def edKey (k : List Byte) : List Byte := slice k 0 32

/-- The ML-DSA-65 half of a key pair. -/
def mlKey (k : List Byte) : List Byte := slice k 32 1952

/-! ### Records -/

/-- A record of a Lendoene image (R416). -/
structure ImageRec where
  idx   : Nat
  sub   : Nat
  lanes : Nat
  value : List Byte
  deriving DecidableEq, Repr

/-- Up to `n` records from a body; none where the body does not hold them whole or a pad byte is not 0. -/
def parseRecords : Nat → List Byte → Option (List ImageRec)
  | 0, bs => if bs = [] then some [] else none
  | n + 1, bs =>
    if bs.length < 8 then none
    else
      let len := natAt bs 4 4
      let whole := (len + 7) / 8 * 8
      if bs.length < 8 + whole then none
      else if !(slice bs (8 + len) (whole - len)).all (fun b => b == 0) then none
      else match parseRecords n (bs.drop (8 + whole)) with
        | none => none
        | some rs => some ({ idx := natAt bs 0 2, sub := natAt bs 2 1, lanes := natAt bs 3 1, value := slice bs 8 len } :: rs)

/-- The body of an image. -/
def bodyOf (bs : List Byte) : List Byte := slice bs 64 (header bs).bodyLen

/-- The records of an image. -/
def imageRecords (bs : List Byte) : Option (List ImageRec) := parseRecords (header bs).records (bodyOf bs)

/-- The lowest lane of a mask. -/
def lowLane (m : Nat) : Nat := if tbit m 0 then 0 else if tbit m 1 then 1 else 2

/-- What the range column says of the content of a `DOMAIN`: the signal lists of the logbook hold entries 0 to 1023
or `0xFFFF` (R451). -/
def contentOk (o : Obj) (v : List Byte) : Bool :=
  if o.idx = 0x4C60 ∧ (o.sub = 1 ∨ o.sub = 6) then
    (List.range (v.length / 2)).all (fun i =>
      let e := natAt v (2 * i) 2
      decide (e < 1024 ∨ e = 0xFFFF))
  else true

/-- A value fits an object: its type's size and its range (R393, R395, R416). -/
def Obj.fits (o : Obj) (v : List Byte) : Bool :=
  (decide (o.ty.size = 0) || decide (v.length = o.ty.size)) && o.range.holds v && contentOk o v

/-- A record is well formed on its own (R416). -/
def ImageRec.ok (r : ImageRec) : Bool :=
  match findObj r.idx r.sub with
  | none => false
  | some o => decide (o.acc = .img) && decide (r.lanes < 8 ∧ r.lanes ≠ 0) && o.fits r.value
      && (!o.shared || decide (r.lanes = 7))

/-- The order of two neighbouring records, and the disjoint masks of one sub-index (R416). -/
def recordsFollow (x y : ImageRec) : Bool :=
  decide (x.idx < y.idx) || (decide (x.idx = y.idx) &&
    (decide (x.sub < y.sub) || (decide (x.sub = y.sub) && decide (lowLane x.lanes < lowLane y.lanes))))

/-- No two records of one sub-index share a lane. -/
def masksDisjoint : List ImageRec → Bool
  | [] => true
  | r :: rs => (rs.all (fun q => decide (q.idx ≠ r.idx ∨ q.sub ≠ r.sub ∨ q.lanes &&& r.lanes = 0))) && masksDisjoint rs

/-- Every neighbouring pair stands in order. -/
def recordsOrdered : List ImageRec → Bool
  | x :: y :: rs => recordsFollow x y && recordsOrdered (y :: rs)
  | _ => true

/-- Check 11 (R416, R417). -/
def recordsOk (bs : List Byte) : Bool :=
  match imageRecords bs with
  | none => false
  | some rs => rs.all ImageRec.ok && recordsOrdered rs && masksDisjoint rs

/-- The values that an image puts in effect on a lane (R416, R420). -/
def imageValues (me : LaneId) (bs : List Byte) : NMap (List Byte) :=
  match imageRecords bs with
  | none => []
  | some rs => rs.foldl (fun (m : NMap (List Byte)) (r : ImageRec) =>
      if tbit r.lanes me.num then
        match findObj r.idx r.sub with
        | some o => m.write (o.dfltAt (r.idx - o.idx) (r.sub - o.sub)) (r.idx * 256 + r.sub) r.value
        | none => m
      else m) []

/-! ### Checks -/

/-- Checks 5 to 10 of a whole image for a slot of a kind, after check 4 (R417): the status, 1 where all passed. -/
def checkEnvelope (kind : Nat) (st : NvStore) (o : Otp) (bs : List Byte) : Nat :=
  let h := header bs
  let trailer := 64 + h.bodyLen
  let digest := slice bs trailer 64
  if !headerOk kind bs then 4
  else if !productOk bs then 5
  else if h.kind ≠ kind then 6
  else match goodKeys st o (keySlot (purposeBase kind) h.edSlot), goodKeys st o (keySlot (purposeBase kind) h.mlSlot) with
    | some ek, some mk =>
      if sha512 (slice bs 0 trailer) ≠ digest then 8
      else if !Config.ed25519 (edKey ek) digest (slice bs (trailer + 64) 64) then 9
      else if !Config.mlDsa65 (mlKey mk) digest (slice bs (trailer + 128) 3309) then 10
      else 1
    | _, _ => 7

/-- The security counter as a number (R426). -/
def Otp.count (o : Otp) : Nat := popCount o.counter

/-- Checks 4 to 11 of a stored configuration image (R417, R419, R423): codes by number, so without check 13. -/
def checkStored (st : NvStore) (o : Otp) (bs : List Byte) : Nat :=
  match checkEnvelope 1 st o bs with
  | 1 => if recordsOk bs then 1 else 11
  | c => c

/-- Checks 3 to 11 of a received configuration image (R417, R422). -/
def checkReceived (st : NvStore) (o : Otp) (got : Nat) (bs : List Byte) : Nat :=
  if got < 3504 ∨ got < imageLen bs then 3
  else match checkEnvelope 1 st o bs with
    | 1 => if (header bs).version ≤ st.dir.vActive.toNat then 13 else if recordsOk bs then 1 else 11
    | c => c

/-- Checks 4 to 10 and 13 of a firmware image at boot (R417, R425, R426). -/
def checkBoot (st : NvStore) (o : Otp) (bs : List Byte) : Nat :=
  match checkEnvelope 2 st o bs with
  | 1 => if (header bs).epoch < o.count then 13 else 1
  | c => c

/-- Checks 3 to 10 and 13 of a firmware image at load (R426, R427): one that revokes its own keys fails with 7. -/
def checkLoad (st : NvStore) (o : Otp) (got : Nat) (bs : List Byte) : Nat :=
  if got < 3504 ∨ got < imageLen bs then 3
  else match checkEnvelope 2 st o bs with
    | 1 =>
      let h := header bs
      if tbit h.revoke h.edSlot || tbit h.revoke h.mlSlot then 7
      else if h.epoch < o.count then 13 else 1
    | 4 => 4 | 5 => 5 | 6 => 6 | 7 => 7
    | c =>
      let h := header bs
      if tbit h.revoke h.edSlot || tbit h.revoke h.mlSlot then 7 else c

/-- The damaged slots among those an envelope names (R429): each raises source 362. -/
def damagedKeys (kind : Nat) (st : NvStore) (o : Otp) (bs : List Byte) : List (Fin 12) :=
  let h := header bs
  ([keySlot (purposeBase kind) h.edSlot, keySlot (purposeBase kind) h.mlSlot].filterMap (fun x => x)).filter
    (fun n => keyDamaged st o n)

/-- Source 362 for damaged key copies (R429). -/
def Live.raiseKeys (lv : Live) (ns : List (Fin 12)) : Live :=
  ns.eraseDups.foldl (fun (x : Live) n => x.raise 362 n.val) lv

end Sys2Proof.Machine
end

