-- ==== Sys2Proof/Machine/Reset.lean ====
section
/-!
DEFINITION. What a reset leaves (R503, R504, R508 to R511) and the small steps that several commands of the supply
chapter share.
-/

namespace Sys2Proof.Machine

/-! ### CAN ports and the end of a session -/

/-- The heartbeat period of a port in 2.5 ns counts; none where the port sends no heartbeat (R408). -/
def Live.beatPeriod (lv : Live) (n : Fin 4) : Option Nat :=
  if lv.rcNum Obj.producerHeartbeat = 0 ∨ lv.rcNum Obj.canMode n.val = 0 ∨ lv.rcNum Obj.canHeartbeatEnable n.val = 0
  then none else some (ms (lv.rcNum Obj.producerHeartbeat))

/-- Whether a CAN port's controller may be on the bus (R293, R305, R409). -/
def Live.canOn (lv : Live) (n : Fin 4) : Bool :=
  lv.rcNum Obj.canMode n.val != 0 && !(lv.fl.kCans.getLsbD n.val) && !(lv.fl.unusable.getLsbD 1 && decide (2 ≤ n.val))

/-- A CAN port initialised under its `RC` objects (R395, R409). -/
def Live.canInit (lv : Live) (n : Fin 4) : Live :=
  { lv with di := { lv.di with can := vmod lv.di.can n (fun c =>
    { c with errState := if lv.canOn n then 0 else 3, txErr := 0, rxErr := 0,
             nextBeat := (lv.beatPeriod n).map (fun d => lv.clk + d) }) } }

/-- The default of the object that a key of the stores names. -/
def dfltOfKey (key : Nat) : List Byte :=
  match findObj (key / 256) (key % 256) with
  | some o => o.dfltAt (key / 256 - o.idx) (key % 256 - o.sub)
  | none => []

/-- A waiting tunnel response goes into the tunnel transmit buffer when that is free (R386). -/
def Live.tunnelPlace (lv : Live) : Live :=
  let b := lv.num Obj.tunnelTxBuffer
  match lv.di.tunnelQ with
  | p :: rest =>
    let q := lv.jn.bufs.read {} b
    if b < 512 ∧ q.fresh = false then
      { lv with jn := { lv.jn with bufs := lv.jn.bufs.write {} b { q with data := p, slen := p.length, fresh := true } },
                di := { lv.di with tunnelQ := rest } }
    else lv
  | [] => lv

/-- An answer of the server on its way to the client (R385, R386): the identifier 0x580 + node-ID on a CAN port that
transmits, the tunnel transmit buffer with `TNODE` and `CNODE` exchanged. -/
def Live.respond (lv : Live) (path : Path) (r : UsdoReply) : Live :=
  let m := Config.usdoMessage r.sid.toNat r.abort r.data
  match path with
  | .can n =>
    if lv.portSends n && decide ((lv.di.can[n]).errState ≠ 2) then
      let f : CanFrame := { ident := BitVec.ofNat 29 (0x580 + lv.di.nodeId), ext := false, fd := true, brs := true, data := m }
      { lv with di := { lv.di with reply := some r, can := vmod lv.di.can n (fun c => { c with tx := c.tx ++ [f] }) } }
    else { lv with di := { lv.di with reply := none } }
  | .tunnel c =>
    let p := leBytes 1 c.toNat ++ leBytes 1 lv.di.nodeId ++ leBytes 2 m.length ++ m
    ({ lv with di := { lv.di with reply := some r, tunnelQ := lv.di.tunnelQ ++ [p] } }).tunnelPlace

/-- A segmented download of an `RC` object that the end of the session aborts (R403): 0x0800_0022. -/
def Live.dropRc (lv : Live) (q : UsdoSession) : Live :=
  let rc := match findObj q.index.toNat q.sub.toNat with
    | some o => decide (o.acc = .rc)
    | none => false
  if q.upload || !rc then lv
  else
    ({ lv with di := { lv.di with aborts := satInc lv.di.aborts, sessions := lv.di.sessions.erase q } }).respond q.path
      { path := some q.path, sid := q.sid, abort := some 0x08000022, data := [], last := true }

/-- The end of a service session (R433): its `RC` writes take effect and the units whose objects changed are
initialised again (R395); an armed injection is cancelled (R303), on entry into DEEP not that of a retention bank
(R521). -/
def Live.closeSession (lv : Live) (deep : Bool := false) : Live :=
  match lv.im.session with
  | none => lv
  | some _ =>
    let lv := lv.di.sessions.foldl Live.dropRc lv
    let wr := lv.im.rcPending
    let lv := { lv with
      rc := wr.foldl (fun (m : NMap (List Byte)) (p : Nat × List Byte) => m.write (dfltOfKey p.1) p.1 p.2) lv.rc,
      im := { lv.im with session := none, rcPending := [] } }
    let lv := match lv.fl.armed with
      | none => lv
      | some a =>
        if deep ∧ 72 ≤ a.checker ∧ a.checker ≤ 75 then lv
        else { lv with fl := { lv.fl with armed := none, injStatus := 0 } }
    let wrote (idx : Nat) : Bool := wr.any (fun p => decide (p.1 / 256 = idx))
    forAll 4 (fun n x =>
      if wrote 0x1017 || wrote (0x1F00 + n.val) || wrote (0x1F08 + n.val) then x.canInit n else x) lv

/-- The pending triggers as the descriptors of retention bank 3 (R510, R511). -/
def Live.descriptors (lv : Live) : List Marker :=
  lv.im.descs ++ lv.im.pending.map (fun c => { time := c.time, tick := c.tick, source := c.source })

/-- The fault collector after a reset: the retention banks if they are kept, the BIST verdicts (R305, R510). -/
def FaultSt.afterReset (f : FaultSt) (keep : Bool) : FaultSt :=
  if keep then
    { history := f.history, overwritten := f.overwritten, suppressed := f.suppressed, first := f.first,
      later := f.later, seq := f.seq, corrected := f.corrected, contained := f.contained, fatal := f.fatal,
      bistResult := f.bistResult, bistTime := f.bistTime, unusable := f.unusable }
  else { bistResult := f.bistResult, bistTime := f.bistTime, unusable := f.unusable }

/-- Lane authority after a reset: the counters of `HealthReport` and bank 2 if they are kept (R84, R510). -/
def AuthSt.afterReset (a : AuthSt) (keep : Bool) : AuthSt :=
  if keep then
    { renewals := a.renewals, expiries := a.expiries, minMargin := a.minMargin, takeovers := a.takeovers,
      demSent := a.demSent, demRecv := a.demRecv, mirCorr := a.mirCorr, rejoins := a.rejoins,
      noRejoin := a.noRejoin, startedAt := a.startedAt, startupOver := a.startupOver }
  else {}

/-- Pass comparison after a reset: the counters of `PassStatus` if they are kept (R288, R510). -/
def PassSt.afterReset (p : PassSt) (keep : Bool) : PassSt :=
  if keep then
    { dutyMis := p.dutyMis, sigMis := p.sigMis, softMis := p.softMis, restores := p.restores, tagged := p.tagged,
      tagRep := p.tagRep, eccCorr := p.eccCorr, eccUnc := p.eccUnc, agreeInc := p.agreeInc, agreeDis := p.agreeDis }
  else {}

/-- The clocks after a reset: the sources run on, the counters restart (R509). -/
def ClockSt.afterReset (c : ClockSt) : ClockSt :=
  { xtal := c.xtal, rc40 := c.rc40, lprc := c.lprc, plla := c.plla, pllb := c.pllb, xtalWin := c.xtalWin,
    extOsc := c.extOsc, altsrc := c.altsrc, domrun := c.domrun, devNow := c.devNow, devPrev := c.devPrev }

/-- The supply block after a reset: what the `AON` section and bank 1 hold (R508 to R510, R526). -/
def SupplySt.afterReset (u : SupplySt) (keep : Bool) : SupplySt :=
  if keep then
    { last := u.last, counts := u.counts, vMin := u.vMin, vMax := u.vMax, ovprot := u.ovprot, aonHeld := u.aonHeld,
      halt := u.halt, swOpen := u.swOpen, aonUp := u.aonUp, kind := u.kind, rstn := u.rstn, brownout := u.brownout,
      t0 := u.t0, porAt := u.porAt, wake := u.wake, bankBad := u.bankBad, wakeDur := u.wakeDur }
  else
    { aonHeld := u.aonHeld, halt := u.halt, swOpen := u.swOpen, aonUp := u.aonUp, kind := u.kind, rstn := u.rstn,
      brownout := u.brownout, t0 := u.t0, porAt := u.porAt, ovprot := u.ovprot }

/-- The logbook and session state after a reset: the marker list and the trigger descriptors of bank 3 if they are
kept; every session, command and ring is lost (R509 to R511). An unlocked debug port stays so up to the next power-on
(R436). -/
def Live.imageAfterReset (lv : Live) (keep : Bool) : ImageSt :=
  if keep then { markers := lv.im.markers, descs := lv.descriptors, debug := lv.im.debug } else { debug := lv.im.debug }

/-- Jalsyn as a lane starts it: out of synchronisation, the lane's own time counter goes on from the global time
reached (R359). -/
def Live.ownTime (lv : Live) : NetSt := { gbase := lv.globalAt lv.clk, cbase := lv.clk }

/-- Everything a reset sets to default, reloads later or restarts (R509). What the outside world holds (line levels,
straps, the test port) stands, and so does the `RC` store. -/
def Live.restart (lv : Live) (keep : Bool) (phase : Phase) : Live :=
  { me := lv.me, phase := phase, clk := lv.clk, start := lv.clk, rc := lv.rc,
    tk := { levels := lv.tk.levels },
    jn := lv.ownTime,
    au := lv.au.afterReset keep,
    en := { pset := { lineA := lv.en.pset.lineA, lineB := lv.en.pset.lineB } },
    fb := { ports := lv.fb.ports.map (fun p => { lines := p.lines }) },
    wi := { revCell := lv.wi.revCell },
    ps := lv.ps.afterReset keep,
    fl := lv.fl.afterReset keep,
    im := lv.imageAfterReset keep,
    ck := lv.ck.afterReset,
    su := lv.su.afterReset keep,
    mo := lv.mo }

/-- The reset code that is recorded: while the halt latch is set, a reset of kind 2, 4, 6 or 7 brings the
HALT-restart with it, and of kinds asserted together the lowest code counts (R503, R508). -/
def Live.recordedKind (lv : Live) (k : ResetKind) : Nat :=
  let c := match k with
    | .brownOut | .watchdog | .software | .crossLane => if lv.su.halt then min k.code 5 else k.code
    | _ => k.code
  if lv.phase = .inReset then min c lv.su.kind.toNat else c

/-- A reset counted in `ResetCounts` (R526). -/
def countReset (u : SupplySt) (c : Nat) : SupplySt :=
  if h : 2 ≤ c ∧ c - 2 < 6 then { u with counts := vmod u.counts ⟨c - 2, h.2⟩ satInc } else u

/-- Whether a reset of a kind keeps the retention banks: a brown-out does while the `AON` rail is held (R503, R510). -/
def keepsBanks (k : ResetKind) (aonHeld : Bool) : Bool :=
  match k with
  | .powerOn => false
  | .brownOut => aonHeld
  | _ => true

/-- A reset of a kind (R433, R503, R504, R508, R509): an open session closes, outputs low and off, links and Jalsyn silent until the firmware
runs again. -/
def Live.reset (lv : Live) (k : ResetKind) : Live :=
  let keep := keepsBanks k lv.su.aonHeld
  let c := lv.recordedKind k
  let lv := lv.closeSession.restart keep .inReset
  let halt := match k with
    | .powerOn | .external => false
    | .haltRestart => true
    | _ => lv.su.halt
  let au := match k with
    | .powerOn | .external => { lv.au with noRejoin := false, rejoins := if k = .powerOn then 0 else lv.au.rejoins }
    | _ => lv.au
  { lv with au := au, im := { lv.im with debug := lv.im.debug && decide (k ≠ .powerOn) },
            su := countReset { lv.su with last := BitVec.ofNat 8 c, kind := BitVec.ofNat 8 c, halt := halt } c }

/-- Whether R44 lets a withdrawn lane try again. -/
def Live.mayRejoin (lv : Live) : Bool :=
  !lv.au.noRejoin && !lv.su.halt && decide (lv.au.rejoins.toNat < lv.num Obj.rejoinTries)

/-- The software reset by which a withdrawn lane tries to join again (R44): one more try is counted. -/
def Live.rejoin (lv : Live) : Live :=
  if lv.mayRejoin then
    ({ lv with au := { lv.au with rejoins := lv.au.rejoins + 1 } }).reset .software
  else lv

/-- The oscillator start delay by strap code, in 2.5 ns counts (R479). -/
def startDelay (code : BitVec 3) : Nat :=
  us (match code.toNat with
    | 0 => 500 | 1 => 1000 | 2 => 2000 | 3 => 4000 | 4 => 6000 | 5 => 8000 | 6 => 12000 | _ => 16000)

/-! ### Start and stop of the tick program -/

/-- The engine state that a checkpoint holds (R275). -/
def Live.snapshot (lv : Live) : Checkpoint :=
  { slots := lv.en.slots, traj := lv.en.traj, trajOn := lv.en.trajOn, wind := lv.fc.wind, inst := lv.sf.inst }

/-- The registers of the engine's channels at their initial value; a pair's registers are its own (R273, R285). -/
def engineInit (v : Vector Long 32) : Vector Long 32 :=
  Vector.ofFn (fun (c : Fin 32) => if c.val < 16 then 0xFFFFFFFFFFFFFFFF else v[c])

/-- A new checkpoint epoch with the signature registers at their initial value (R273, R275). -/
def Live.newEpoch (lv : Live) : Live :=
  { lv with ps := { lv.ps with ckpt := lv.snapshot, used := 0,
                               lead := engineInit lv.ps.lead, tail := engineInit lv.ps.tail } }

/-- A slot before its first run; adapted notch frequencies and counters keep their values (R100). -/
def SlotSt.fresh (q : SlotSt) : SlotSt :=
  { f1 := q.f1, f2 := q.f2, misses := q.misses, invalid := q.invalid }

/-- The applied states as at the end of STARTUP, without a reaction: an enabled instance is in TRIPPED, a disabled one
reports 1 (R323, R509). -/
def Live.statesAtStart (lv : Live) : Live :=
  forAll 24 (fun i (x : Live) =>
      x.setBus (352 + i.val) (if x.num Obj.instEnable i.val = 1 then 0 else F32.ofNat 1))
    { lv with sf := { lv.sf with appliedInst := 0 } }

/-- The tick program started: every slot at its start state, every instance in TRIPPED, a new epoch (R85, R100,
R275, R323, R509). -/
def Live.startProgram (lv : Live) : Live :=
  ({ lv with
      en := { lv.en with
        running := true,
        slots := lv.en.slots.mapDflt {} SlotSt.fresh,
        traj := Vector.replicate 32 (0, 0), trajOn := 0 },
      sf := { lv.sf with inst := Vector.replicate 24 {}, category := none } }).statesAtStart.newEpoch

/-- A return from IDLE to RUN (R509, R513). -/
def Live.leaveIdle (lv : Live) : Live :=
  if lv.su.idle then
    let lv := { lv with su := { lv.su with idle := false }, gd := { lv.gd with forcedLow := false },
                        ck := { lv.ck with domrun := setBit lv.ck.domrun 1 true } }
    lv.startProgram.settle
  else lv

end Sys2Proof.Machine
end

