-- ==== Sys2Proof/Machine/Server.lean ====
section
/-!
DEFINITION. What every write over the dictionary shares: who answers, the abort codes, the checks of session and
mode (R387, R394 to R396), and the cancellation of an armed injection (R303).
-/

namespace Sys2Proof.Machine

/-- Abort code: timeout of a segmented transfer (R396). -/
def abortTimeout : Word := 0x05040000
/-- Abort code: segment without a session (R396). -/
def abortNoSession : Word := 0x05040001
/-- Abort code: session limit (R396). -/
def abortSessions : Word := 0x05040005
/-- Abort code: read of a `CMD` object (R396). -/
def abortWriteOnly : Word := 0x06010001
/-- Abort code: write to an `RO` or `IMG` object (R396). -/
def abortReadOnly : Word := 0x06010002
/-- Abort code: no such object (R396). -/
def abortNoObject : Word := 0x06020000
/-- Abort code: data too long (R396). -/
def abortLong : Word := 0x06070012
/-- Abort code: data too short (R396). -/
def abortShort : Word := 0x06070013
/-- Abort code: no such sub-index (R396). -/
def abortNoSub : Word := 0x06090011
/-- The value-range abort (R396). -/
def abortRange : Word := 0x06090030
/-- Abort code: cannot be stored or carried out (R396). -/
def abortCheck : Word := 0x08000020
/-- Abort code: not allowed in the present state (R396). -/
def abortState : Word := 0x08000022

/-- The lane answers dictionary reads (R387). -/
def Live.answers (lv : Live) : Bool :=
  match lv.phase with
  | .loaded | .joined | .withdrawn | .halted | .haltedState => true
  | _ => false

/-- The lane carries out dictionary writes (R387). -/
def Live.writes (lv : Live) : Bool :=
  match lv.phase with
  | .loaded | .joined | .withdrawn => true
  | _ => false

/-- The device is in STANDBY as this lane knows it. -/
def Live.standby (lv : Live) : Bool := decide (lv.au.mode = .standby)

/-- A service session is open at the lane. -/
def Live.sessionOpen (lv : Live) : Bool := lv.im.session.isSome

/-- A service session is open at the lane on a path (R399). -/
def Live.sessionOn (lv : Live) (path : Path) : Bool :=
  match lv.im.session with
  | some (p, _) => decide (p = path)
  | none => false

/-- The server's answer to a transfer. -/
def Live.answer (lv : Live) (r : UsdoReply) : Live := { lv with di := { lv.di with reply := some r } }

/-- A write aborted with a code (R396, R412). -/
def Live.abortWith (lv : Live) (path : Option Path) (code : Word) (sid : Byte := 0) : Live :=
  { lv with di := { lv.di with reply := some { path := path, sid := sid, abort := some code, data := [], last := true },
                               aborts := satInc lv.di.aborts } }

/-- A write answered with success. -/
def Live.accept (lv : Live) (path : Option Path) (sid : Byte := 0) : Live :=
  lv.answer { path := path, sid := sid, abort := none, data := [], last := true }

/-- A write to a command object of one byte whose only value is 0, as the `Clear…` objects are (R395): out of
reach of a silent lane, aborted by a halted one, refused out of range, else carried out. -/
def Live.onZero (lv : Live) (v : Byte) (f : Live → Live) : Live :=
  if !lv.answers then lv
  else if !lv.writes then lv.abortWith none abortState
  else if v ≠ 0 then lv.abortWith none abortRange
  else (f lv).accept none

/-- A write that names its path and needs a state condition `ok` and a range condition `inRange`. -/
def Live.onGuard (lv : Live) (path : Path) (inRange ok : Bool) (f : Live → Live) : Live :=
  if !lv.answers then lv
  else if !lv.writes then lv.abortWith (some path) abortState
  else if !inRange then lv.abortWith (some path) abortRange
  else if !ok then lv.abortWith (some path) abortState
  else f lv

end Sys2Proof.Machine
end

