-- ==== Sys2Proof/Machine/Feedback.lean ====
section
/-!
DEFINITION. Position and speed feedback (08_position_feedback.md): counting, index, Hall sectors, speed, the encoder
outputs and the SENT inputs.
-/

namespace Sys2Proof.Machine

/-! ### Ports -/

/-- A feedback port. -/
def Live.fbPort (lv : Live) (p : Fin 8) : FbPortSt := lv.fb.ports[p]

/-- A feedback port changed. -/
def Live.modFb (lv : Live) (p : Fin 8) (f : FbPortSt → FbPortSt) : Live :=
  { lv with fb := { lv.fb with ports := vmod lv.fb.ports p f } }

/-- `Mode` of a port (R242). -/
def Live.fbModeOf (lv : Live) (p : Fin 8) : Nat := lv.num Obj.fbMode p.val

/-- The pole pairs that a port counts with: of its group, 1 where unbound (R246). -/
def Live.fbPoles (lv : Live) (p : Fin 8) : Nat :=
  match lv.groupOf p with
  | some g => lv.num Obj.groupPolePairs g.val
  | none => 1

/-- C, the counts per mechanical revolution (R246). -/
def Live.fbCounts (lv : Live) (p : Fin 8) : Nat :=
  if lv.fbModeOf p = 3 then 6 * lv.fbPoles p
  else match lv.groupOf p with
    | some g => 4 * lv.num Obj.groupLineCount g.val
    | none => 4 * lv.num Obj.fbPortLineCount p.val

/-- The source of a port's fault: 0 level fault, 1 suspect, 2 soft limit (R289). -/
def fbSource (p : Fin 8) (k : Nat) : Nat := 240 + 3 * p.val + k

/-- A port marked suspect (R249, R251, R253): a CONTAINED event and fault P for the winding that uses it. -/
def Live.suspect (lv : Live) (p : Fin 8) : Live :=
  ((lv.modFb p (fun q => { q with suspect := true })).raise (fbSource p 1) noUnit).portLost p

/-- A port marked failed (R245, R253, R255, R256). -/
def Live.failPort (lv : Live) (p : Fin 8) : Live :=
  let lv := lv.modFb p (fun q => { q with failed := true })
  let lv := if lv.num Obj.tetherSource = p.val ∧ lv.num Obj.tetherCutOnFail = 1 then
      { lv with fb := { lv.fb with tetherCut := true } } else lv
  let lv := if lv.num Obj.reelSource = p.val then { lv with fb := { lv.fb with reelHeld := true } } else lv
  lv.portLost p

/-! ### The position counter -/

/-- The position counter moved by `s` under its limits (R248), and whether a limit flag was newly set. -/
def Live.moveCounter (lv : Live) (p : Fin 8) (s : Int) : Bool × Live :=
  let q := lv.fbPort p
  if lv.num Obj.fbSoftLimitEnable p.val = 0 then
    (false, lv.modFb p (fun q => { q with counter := BitVec.ofInt 32 (q.counter.toInt + s) }))
  else
    let hi := lv.int Obj.fbSoftMax p.val
    let lo := lv.int Obj.fbSoftMin p.val
    let v := q.counter.toInt + s
    let up := decide (hi < v)
    let dn := decide (v < lo)
    let c := if up then hi else if dn then lo else v
    let atHi := up || (q.satHi && decide (c = hi))
    let atLo := dn || (q.satLo && decide (c = lo))
    ((up && !q.satHi) || (dn && !q.satLo),
     lv.modFb p (fun q => { q with counter := BitVec.ofInt 32 c, satHi := atHi, satLo := atLo }))

/-- The position counter moved, its soft-limit source raised when a flag is set (R248). -/
def Live.shiftCounter (lv : Live) (p : Fin 8) (s : Int) : Live :=
  match lv.moveCounter p s with
  | (true, l2) => l2.raise (fbSource p 2) noUnit
  | (false, l2) => l2

/-! ### REEL -/

/-- The output quadrature state one step on (R256): bits B·A; +1 goes 00, 01, 11, 10 in A, B. -/
def reelStep (st : BitVec 2) (up : Bool) : BitVec 2 :=
  if up then (match st.toNat with | 0 => 2 | 2 => 3 | 3 => 1 | _ => 0)
  else (match st.toNat with | 0 => 1 | 1 => 3 | 3 => 2 | _ => 0)

/-- One input count of `REEL` (R256). -/
def FeedbackSt.reelCountIn (f : FeedbackSt) (m n : Nat) (inv up : Bool) : FeedbackSt :=
  let acc := if up then f.reelAcc + m else f.reelAcc - m
  if (n : Int) ≤ acc then
    { f with reelAcc := acc - n, reelState := reelStep f.reelState (!inv), reelCount := f.reelCount + 1 }
  else if acc ≤ -(n : Int) then
    { f with reelAcc := acc + n, reelState := reelStep f.reelState inv, reelCount := f.reelCount - 1 }
  else { f with reelAcc := acc }

/-- `k` input counts of one direction. -/
def FeedbackSt.reelCounts : Nat → FeedbackSt → Nat → Nat → Bool → Bool → FeedbackSt
  | 0, f, _, _, _, _ => f
  | k + 1, f, m, n, inv, up => FeedbackSt.reelCounts k (f.reelCountIn m n inv up) m n inv up

/-- `REEL` fed with a port's accepted counts (R256). -/
def Live.feedReel (lv : Live) (p : Fin 8) (s : Int) : Live :=
  if lv.num Obj.reelSource = p.val ∧ lv.fb.reelOn = true ∧ lv.fb.reelHeld = false then
    let inv := decide (lv.num Obj.reelInvert = 1)
    { lv with fb := lv.fb.reelCounts s.natAbs (lv.num Obj.reelM) (lv.num Obj.reelN) inv (decide (0 < s)) }
  else lv

/-! ### Counting -/

/-- An accepted count of `s`, at lane time `t` (R246 to R249, R254, R256). -/
def Live.count (lv : Live) (p : Fin 8) (s : Int) (t : Nat) : Live :=
  let c := lv.fbCounts p
  let lv := lv.modFb p (fun q =>
    { q with
      angle := (((q.angle : Int) + s) % c).toNat,
      down := decide (s < 0), still := false,
      illAt := q.illAt.map (fun x => x + s.natAbs), skips := q.skips.map (fun x => x + s.natAbs),
      edges := ({ time := t, step := s } :: q.edges).take 5, net := q.net + s })
  (lv.shiftCounter p s).feedReel p s

/-- Whether an event's third-last occurrence lies within one electrical revolution (R249, R253). -/
def Live.thrice (lv : Live) (p : Fin 8) (since : List Nat) : Bool :=
  match since with
  | _ :: _ :: x :: _ => decide (x * lv.fbPoles p < lv.fbCounts p)
  | _ => false

/-- An illegal transition (R249). -/
def Live.illegalStep (lv : Live) (p : Fin 8) : Live :=
  let lv := lv.modFb p (fun q =>
    let at' := (0 :: q.illAt).take 3
    { q with illegal := satInc q.illegal, illAt := at',
             illRun := (at'.filter (fun x => decide (x * lv.fbPoles p < lv.fbCounts p))).length })
  let lv := lv.raiseOpen 1 .corrected p.val
  if lv.thrice p (lv.fbPort p).illAt then lv.suspect p else lv

/-- Whether a change of A or B is one step up: A leads B (R246). -/
def quadUp (o n : FbLines) : Bool := if o.a != n.a then n.a != n.b else n.b == n.a

/-- The change of A and B of an `ENC` port (R246, R249). -/
def Live.quadStep (lv : Live) (p : Fin 8) (o n : FbLines) (t : Nat) : Live :=
  if o.a != n.a && o.b != n.b then lv.illegalStep p
  else if o.a != n.a || o.b != n.b then
    let up := quadUp o n != decide (lv.num Obj.fbInvert p.val = 1)
    lv.count p (if up then 1 else -1) t
  else lv

/-! ### Index -/

/-- d of R251: `AngleCount` − `IndexPosition`, taken into [−C/2, C/2). -/
def indexDev (angle pos c : Nat) : Int :=
  let d := (((angle : Int) - pos) % c + c) % c
  if (c : Int) ≤ 2 * d then d - c else d

/-- An index event (R250, R251, R252). -/
def Live.indexEvent (lv : Live) (p : Fin 8) : Live :=
  let q := lv.fbPort p
  let pos := lv.num Obj.fbIndexPosition p.val
  let d := indexDev q.angle pos (lv.fbCounts p)
  let lv := lv.modFb p (fun q => { q with lastIndex := q.angle, indexSeen := true })
  if !q.indexSeen then lv.modFb p (fun q => { q with angle := pos, aligned := true })
  else if d = 0 then lv.modFb p (fun q => { q with idxRun := 0 })
  else if d.natAbs ≤ lv.num Obj.fbIndexTolerance p.val then
    let lv := lv.modFb p (fun q => { q with angle := pos, corrections := satInc q.corrections, idxRun := 0 })
    (lv.shiftCounter p (-d)).raiseOpen 2 .corrected p.val
  else
    let lv := lv.modFb p (fun q => { q with rejects := satInc q.rejects, idxRun := min 3 (q.idxRun + 1) })
    let lv := lv.raiseOpen 3 .contained p.val
    if 3 ≤ (lv.fbPort p).idxRun then lv.suspect p else lv

/-- The index line of an `ENC` port (R250): a rising edge while counting up, a falling edge while counting down. -/
def Live.indexStep (lv : Live) (p : Fin 8) (o n : FbLines) : Live :=
  let lv := if lv.num Obj.reelSource = p.val ∧ lv.fb.reelOn = true ∧ lv.fb.reelHeld = false then
      { lv with fb := { lv.fb with reelIndex := n.i && decide (lv.num Obj.reelIndex = 1) } } else lv
  if lv.num Obj.fbIndexMode p.val = 1 ∧ o.i ≠ n.i ∧ n.i = !(lv.fbPort p).down then lv.indexEvent p else lv

/-! ### Hall -/

/-- The sector of a Hall state; none for the illegal states (R253). -/
def hallSector (h : BitVec 3) : Option Nat :=
  match h.toNat with
  | 1 => some 0 | 3 => some 1 | 2 => some 2 | 6 => some 3 | 4 => some 4 | 5 => some 5 | _ => none

/-- The net signed step between two sectors (R253; log entry 40). -/
def hallStep (from' to' : Nat) : Int :=
  match (to' + 6 - from') % 6 with
  | 0 => 0 | 1 => 1 | 2 => 2 | 3 => if Config.hallOpposite from' to' then -3 else 3 | 4 => -2 | _ => -1

/-- A Hall error counted and recorded (R253). -/
def Live.hallError (lv : Live) (p : Fin 8) : Live :=
  (lv.modFb p (fun q => { q with hallErrs := satInc q.hallErrs })).raiseOpen 4 .corrected p.val

/-- The alignment of an unaligned mode-4 port by a Hall change into sector n (R252). -/
def hallAlign (n c poles : Nat) : Nat := ((2 * n * c + 6 * poles) / (12 * poles)) % c

/-- A change of the Hall state (R246, R252, R253). -/
def Live.hallChange (lv : Live) (p : Fin 8) (n : FbLines) (t : Nat) : Live :=
  match hallSector n.h with
  | none => lv.hallError p
  | some s =>
    let q := lv.fbPort p
    let old := q.sector.toNat
    let d := if old < 6 then hallStep old s else 0
    let lv := lv.modFb p (fun q => { q with
      sector := BitVec.ofNat 3 s,
      hallEdges := if d = 0 then q.hallEdges else ({ time := t, step := d } :: q.hallEdges).take 2 })
    let lv := if lv.fbModeOf p = 3 ∧ d ≠ 0 then lv.count p d t
      else if lv.fbModeOf p = 4 ∧ q.aligned = false ∧ old < 6 then
        lv.modFb p (fun q => { q with angle := hallAlign s (lv.fbCounts p) (lv.fbPoles p), aligned := true })
      else lv
    if 2 ≤ d.natAbs then
      let lv := (lv.modFb p (fun q => { q with skips := (0 :: q.skips).take 3 })).hallError p
      if lv.thrice p (lv.fbPort p).skips then lv.suspect p else lv
    else lv

/-- FEEDBACK_TRANSITION: accepted levels of a port's lines (R243, R246, R249 to R253, R260): the Hall change first, so
that an index alignment governs, then the count, then the index. -/
def Live.transition (lv : Live) (p : Fin 8) (n : FbLines) (ph : Nat) : Live :=
  let o := (lv.fbPort p).lines
  let t := lv.start + ph
  let lv := lv.modFb p (fun q => { q with lines := n })
  if !lv.awake then lv
  else match lv.fbModeOf p with
    | 1 | 2 => (lv.quadStep p o n t).indexStep p o n
    | 3 => if o.h ≠ n.h then lv.hallChange p n t else lv
    | 4 => ((if o.h ≠ n.h then lv.hallChange p n t else lv).quadStep p o n t).indexStep p o n
    | _ => lv

def execFeedbackTransition (l : LaneId) (p : Fin 8) (lines : FbLines) (ph : Nat) (s : State) :
    Host.Outcome State Fault Refusal :=
  done (onLive l (fun lv => lv.transition p lines ph) s)

/-- HALL_ILLEGAL_TIMEOUT: an illegal Hall state held for 1 ms makes the port failed (R253). -/
def Live.hallTimeout (lv : Live) (p : Fin 8) : Live :=
  if lv.awake && (decide (lv.fbModeOf p = 3) || decide (lv.fbModeOf p = 4)) &&
      (hallSector (lv.fbPort p).lines.h).isNone then lv.failPort p
  else lv

def execHallIllegalTimeout (l : LaneId) (p : Fin 8) (s : State) : Host.Outcome State Fault Refusal :=
  done (onLive l (fun lv => lv.hallTimeout p) s)

/-- FEEDBACK_LEVEL_FAULT: a level fault that persists for 2 µs (R245). -/
def Live.levelFault (lv : Live) (p : Fin 8) : Live :=
  if lv.awake && decide (lv.fbModeOf p ≠ 0) then
    ((lv.modFb p (fun q => { q with levelF := true })).raise (fbSource p 0) noUnit).failPort p
  else lv

def execFeedbackLevelFault (l : LaneId) (p : Fin 8) (s : State) : Host.Outcome State Fault Refusal :=
  done (onLive l (fun lv => lv.levelFault p) s)

/-- LEVELF_CLEAR: the level condition has been absent for 100 ms (R245). -/
def execLevelfClear (l : LaneId) (p : Fin 8) (s : State) : Host.Outcome State Fault Refusal :=
  done (onLive l (fun lv => lv.modFb p (fun q => { q with levelF := false })) s)

/-- A port's flags cleared when its group is enabled from STANDBY (R245). -/
def Live.clearPort (lv : Live) (p : Fin 8) : Live :=
  let lv := lv.modFb p (fun q => { q with suspect := false, failed := false, illAt := [], illRun := 0, idxRun := 0, skips := [] })
  let lv := if lv.num Obj.tetherSource = p.val then { lv with fb := { lv.fb with tetherCut := false } } else lv
  if lv.num Obj.reelSource = p.val then { lv with fb := { lv.fb with reelHeld := false } } else lv

/-- COUNTER_PRESET: a write to `CounterPreset` (R248). -/
def Live.preset (lv : Live) (p : Fin 8) (v : Word) : Live :=
  if !lv.answers then lv
  else if !lv.writes then lv.abortWith none abortState
  else if lv.num Obj.fbSoftLimitEnable p.val = 1 ∧
      (v.toInt < lv.int Obj.fbSoftMin p.val ∨ lv.int Obj.fbSoftMax p.val < v.toInt) then lv.abortWith none abortRange
  else (lv.modFb p (fun q => { q with
      counter := v, satHi := q.satHi && decide (v.toInt = lv.int Obj.fbSoftMax p.val),
      satLo := q.satLo && decide (v.toInt = lv.int Obj.fbSoftMin p.val) })).accept none

def execCounterPreset (l : LaneId) (p : Fin 8) (v : Word) (s : State) : Host.Outcome State Fault Refusal :=
  done (onLive l (fun lv => lv.preset p v) s)

/-- The counters that `ClearCounters` of a feedback port clears (R261). -/
def FbPortSt.clearCounts (q : FbPortSt) : FbPortSt :=
  { q with illegal := 0, corrections := 0, rejects := 0, hallErrs := 0 }

def execClearFeedbackCounters (l : LaneId) (p : Fin 8) (v : Byte) (s : State) : Host.Outcome State Fault Refusal :=
  done (onLive l (fun lv => lv.onZero v (fun x => x.modFb p FbPortSt.clearCounts)) s)

/-! ### Speed -/

/-- N / (C × Δt) in rev/s, Δt in 2.5 ns counts, rounded once (R254). -/
def revPerSec (n : Int) (c dt : Nat) : F32 := F32.ofRatio (n * perSec) (c * dt)

/-- The period of R254 in 2.5 ns counts: over the last four transitions of one direction (as the manual's example
computes it, the span of four counts; log entry 41), else over the last two; none where neither holds. -/
def countPeriod (hall : Bool) (es : List FbEdge) : Option (Nat × Nat) :=
  match es with
  | a :: b :: c :: d :: e :: _ =>
    if !hall && decide (0 < a.step * b.step ∧ 0 < a.step * c.step ∧ 0 < a.step * d.step) then some (a.time - e.time, 4)
    else if 0 < a.step * b.step then some (a.time - b.time, 1) else none
  | a :: b :: _ => if 0 < a.step * b.step then some (a.time - b.time, 1) else none
  | _ => none

/-- The freeze of a port at lane time `t` (R254): counters and speed. -/
def Live.freezePort (lv : Live) (p : Fin 8) (t : Nat) : Live :=
  let q := lv.fbPort p
  let c := lv.fbCounts p
  let ts := match q.edges with
    | e :: _ => some (t - e.time)
    | [] => none
  let stopped := match ts with
    | some d => decide (ms (lv.num Obj.fbSpeedTimeout p.val) < d)
    | none => true
  let byCount := match q.prevEdge, q.edges with
    | some a, e :: _ => decide (lv.num Obj.fbSpeedCountMin p.val ≤ q.net.natAbs) && decide (a < e.time)
    | _, _ => false
  let v : F32 :=
    if stopped then 0
    else if byCount then
      match q.prevEdge, q.edges with
      | some a, e :: _ => revPerSec q.net c (e.time - a)
      | _, _ => 0
    else match q.edges, countPeriod (decide (lv.fbModeOf p = 3)) q.edges, ts with
      | e :: _, some (span, k), some d =>
        let num : Int := if e.step < 0 then -(k : Int) else k
        revPerSec num c (max span (k * d))
      | _, _, _ => 0
  lv.modFb p (fun q => { q with
    frozenAngle := q.angle, frozenCounter := q.counter, speed := v, spdMeth := !byCount, still := stopped,
    prevEdge := match q.edges with | e :: _ => some e.time | [] => none, net := 0 })

/-! ### SENT -/

/-- A SENT input changed. -/
def Live.modSent (lv : Live) (n : Fin 4) (f : SentSt → SentSt) : Live :=
  { lv with fb := { lv.fb with sent := vmod lv.fb.sent n f } }

/-- A bit of `SentStatus` (R265). -/
def SentSt.flag (q : SentSt) (i : Nat) (b : Bool) : SentSt := { q with flags := setBit q.flags i b }

/-- The windings of this lane that take their angle from a SENT input (R136). -/
def Live.sentUsers (lv : Live) (n : Fin 4) : List (Fin 8) :=
  (List.finRange 8).filter (fun p => match lv.groupOf p with
    | some g => decide (lv.sourceOf p = some 2) && decide (lv.num Obj.groupSentInput g.val = n.val)
    | none => false)

/-- The data nibbles as a number, first received most significant (R259). -/
def nibbleValue (ns : List (Nat × BitVec 4)) : Nat := ns.foldl (fun v x => 16 * v + x.2.toNat) 0

/-- The checks of a SENT frame (R258): tick, nibble widths, CRC, status. -/
def Live.sentChecks (lv : Live) (n : Fin 4) (f : SentFrame) : Bool × Bool × Bool × Bool :=
  let set := 100 * lv.num Obj.sentTick 0 n.val
  let dev (a b : Nat) : Nat := (a - b) + (b - a)
  let sync := decide (set < 5 * dev f.tick set) ||
    (match (lv.fb.sent[n]).tick with
     | some t => decide (t < 64 * dev f.tick t)
     | none => false)
  (sync, f.nibbles.any (fun x => decide (x.1 < 12 * 64 ∨ 27 * 64 < x.1)), !f.crcOk,
    decide (f.status.toNat &&& lv.num Obj.statusMask 0 n.val ≠ 0))

/-- SENT_FRAME_RECEIVED (R257 to R259, R265). -/
def Live.sentFrame (lv : Live) (n : Fin 4) (f : SentFrame) : Live :=
  if !lv.awake || decide (lv.num Obj.sentTick 0 n.val = 0) then lv
  else
    let (sync, nib, crc, stat) := lv.sentChecks n f
    let lv := lv.modSent n (fun q =>
      let q := (((q.flag 3 sync).flag 4 crc).flag 5 nib).flag 6 stat
      { q with tick := some f.tick })
    if sync || nib || crc || stat then
      (lv.modSent n (fun q => { q with errors := satInc q.errors })).raise (264 + 2 * n.val) noUnit
    else
      lv.modSent n (fun q =>
        let q := { q with
          fastPrev := q.fast, startPrev := q.startAt,
          fast := BitVec.ofNat 32 (nibbleValue (f.nibbles.take (lv.num Obj.dataNibbles 0 n.val))),
          startAt := some (lv.start + f.startPh), stopAt := some (lv.start + f.stopPh) }
        let q := ((q.flag 0 true).flag 1 false).flag 2 false
        let q := { q with flags := (q.flags &&& 0xF0FF) ||| BitVec.ofNat 16 (f.status.toNat * 256) }
        match f.slow with
        | some (fmt, ident, data) =>
          { q.flag 7 true with slow := BitVec.ofNat 32 (data.toNat + ident.toNat * 2 ^ 16 + fmt.toNat * 2 ^ 24) }
        | none => q)

def execSentFrameReceived (l : LaneId) (n : Fin 4) (f : SentFrame) (s : State) : Host.Outcome State Fault Refusal :=
  done (onLive l (fun lv => lv.sentFrame n f) s)

/-- SENT_BUS_LOW: the line low for 1 ms (R258). -/
def Live.sentLow (lv : Live) (n : Fin 4) : Live :=
  if lv.awake && decide (lv.num Obj.sentTick 0 n.val ≠ 0) then lv.modSent n (fun q => q.flag 2 true) else lv

def execSentBusLow (l : LaneId) (n : Fin 4) (s : State) : Host.Outcome State Fault Refusal :=
  done (onLive l (fun lv => lv.sentLow n) s)

/-- SENT_TIMEOUT: no accepted frame within `SentTimeout` (R258, R265); fault P for a winding that uses the input. -/
def Live.sentExpiry (lv : Live) (n : Fin 4) : Live :=
  let q := lv.fb.sent[n]
  match q.stopAt with
  | some t =>
    if lv.awake && q.flags.getLsbD 0 && lv.due (t + ms (lv.num Obj.sentTimeout 0 n.val)) then
      let lv := (lv.modSent n (fun q => (q.flag 0 false).flag 1 true)).raise (265 + 2 * n.val) noUnit
      (lv.sentUsers n).foldl (fun (x : Live) p => x.losePosition p 2) lv
    else lv
  | none => lv

def execSentTimeout (l : LaneId) (n : Fin 4) (s : State) : Host.Outcome State Fault Refusal :=
  done (onLive l (fun lv => lv.sentExpiry n) s)

/-- `ClearCounters` of `SentInputs` (R264). -/
def Live.clearSent (lv : Live) : Live :=
  { lv with fb := { lv.fb with sent := lv.fb.sent.map (fun q => { q with errors := 0 }) } }

def execClearSentCounters (l : LaneId) (v : Byte) (s : State) : Host.Outcome State Fault Refusal :=
  done (onLive l (fun lv => lv.onZero v Live.clearSent) s)

/-! ### Encoder outputs -/

/-- ENCODER_OUTPUT_FAULT: the readback differs from the driven level for 1 µs (R222): the output is off for 100 ms. -/
def Live.outputFault (lv : Live) (reel : Bool) : Live :=
  if !lv.awake then lv
  else if reel then
    if lv.fb.reelOn then
      { lv with wi := { lv.wi with reelF := true, reelOff := some (lv.clk + ms 100) },
                fb := { lv.fb with reelOn := false } }
    else lv
  else if lv.fb.tetherOn then
    { lv with wi := { lv.wi with tetherF := true, tetherOff := some (lv.clk + ms 100) },
              fb := { lv.fb with tetherOn := false } }
  else lv

def execEncoderOutputFault (l : LaneId) (reel : Bool) (s : State) : Host.Outcome State Fault Refusal :=
  done (onLive l (fun lv => lv.outputFault reel) s)

/-- `REEL` enabled: its accumulator and output state start at 0 (R256). -/
def FeedbackSt.startReel (f : FeedbackSt) : FeedbackSt :=
  { f with reelOn := true, reelAcc := 0, reelState := 0, reelIndex := false, reelCount := 0 }

/-- ENCODER_OUTPUT_RESTORE: on again after 100 ms (R222). -/
def Live.outputRestore (lv : Live) (reel : Bool) : Live :=
  if reel then
    match lv.wi.reelOff with
    | some t => if lv.due t then
        { lv with wi := { lv.wi with reelF := false, reelOff := none }, fb := lv.fb.startReel } else lv
    | none => lv
  else
    match lv.wi.tetherOff with
    | some t => if lv.due t then
        { lv with wi := { lv.wi with tetherF := false, tetherOff := none }, fb := { lv.fb with tetherOn := true } } else lv
    | none => lv

def execEncoderOutputRestore (l : LaneId) (reel : Bool) (s : State) : Host.Outcome State Fault Refusal :=
  done (onLive l (fun lv => lv.outputRestore reel) s)

/-- The encoder outputs at the start of a configuration (R255, R256, R305). -/
def Live.startOutputs (lv : Live) : Live :=
  let usable := !(lv.fl.unusable.getLsbD 2)
  let failed (n : Nat) : Bool := if h : n < 8 then (lv.fbPort ⟨n, h⟩).failed else false
  let lv := { lv with fb := { lv.fb with
    tetherOn := usable && decide (lv.num Obj.tetherSource < 8),
    tetherCut := failed (lv.num Obj.tetherSource) && decide (lv.num Obj.tetherCutOnFail = 1),
    reelHeld := failed (lv.num Obj.reelSource), reelOn := false } }
  if usable && decide (lv.num Obj.reelSource < 8) then { lv with fb := lv.fb.startReel } else lv

end Sys2Proof.Machine
end

