-- ==== Sys2Proof/Machine/GateDrive.lean ====
section
/-!
DEFINITION. Gate drive and power-stage protection (06_gate_drive.md): leg events, gate checks, shorts, the automatic
retry, the brake chopper and the DC-link ladder, with the link-voltage rule of R230.
-/

namespace Sys2Proof.Machine

/-! ### Common -/

/-- The acquisition block and the protection logic run: firmware runs, or the lane is halted (R163, R212, R294). -/
def Live.sensing (lv : Live) : Bool := lv.awake || decide (lv.phase = .halted)

/-- The source 128 + 8p + k of a winding (R289). -/
def windSource (p : Fin 8) (k : Nat) : Nat := 128 + 8 * p.val + k

/-- A winding takes part in its enabled group: neither lost nor kennelled nor disabled. -/
def WindingSt.inUse (w : WindingSt) : Bool :=
  match w.ws with
  | .lost | .kennelled | .disabled => false
  | _ => true

/-- A winding's current loop runs: state running, or stopping under R151 (R127, R151). -/
def WindingSt.loopOn (w : WindingSt) : Bool :=
  match w.ws with
  | .running | .stopping => true
  | _ => false

/-- A winding is in its catch procedure, its gates off (R149). -/
def WindingSt.inCatch (w : WindingSt) : Bool :=
  match w.ws with
  | .measuring | .refused => true
  | _ => false

/-- Whether a lane-wide cause keeps windings from being enabled (R186, R211, R216, R230). -/
def Live.blocked (lv : Live) : Bool := lv.gd.railUv || lv.gd.ladderAsc || lv.wi.linkLow || lv.gd.vabs

/-- Every enabled winding set torque-free for a lane-wide cause, to re-enable when it clears (R186, R211, R230). A
winding that is still measured or refused is not enabled yet (R149, R236); one that waits for its retry is left to the
retry (R216). -/
def Live.suspend (lv : Live) : Live :=
  forAll 8 (fun p x =>
    if (x.fc.wind[p]).loopOn && (x.gd.ports[p]).fault.isNone then
      (x.park p .torqueFree).modPort p (fun q => { q with reenable := true })
    else x) lv

/-- A winding whose catch ends while a lane-wide cause stands: held until the cause clears (R186, R211, R230). -/
def Live.holdWinding (lv : Live) (p : Fin 8) : Live :=
  ((lv.park p .torqueFree).modPort p (fun q =>
    { q with reenable := true, ladder := q.ladder || lv.gd.ladderAsc })).settlePort p

/-- The windings of a cleared cause re-enable through the catch procedure once no other cause stands. -/
def Live.resume (lv : Live) : Live :=
  if lv.blocked then lv.settle
  else
    (forAll 8 (fun p x =>
      if (x.gd.ports[p]).reenable then
        let y := x.modPort p (fun q => { q with reenable := false })
        if (y.fc.wind[p]).ws = .torqueFree then y.startCatch p else y
      else x) lv).settle

/-! ### Leg events -/

/-- The dead time of a port, s (R188). -/
def Live.deadTime (lv : Live) (p : Fin 8) : F32 := F32.ofRatio (lv.num Obj.portDeadTime p.val + 1) 100000000

/-- The compare value of a leg in effect: its duty with dead-time compensation (R117). -/
def Live.dutyOf (lv : Live) (leg : Fin 24) : F32 :=
  let d := (lv.fc.wind[legPort leg]).cmp
  match (legPhase leg).val with
  | 0 => d.1 | 1 => d.2.1 | _ => d.2.2

/-- The conduction interval that the duty gives a side of a leg, s: its share of the period less the dead time (R188,
R133; log entry 50). -/
def Live.conduction (lv : Live) (leg : Fin 24) (side : Side) : F32 :=
  let d := lv.dutyOf leg
  let share := match side with
    | .high => d
    | .low => F32.sub (F32.ofNat 1) d
  F32.sub (F32.mul share lv.period) (lv.deadTime (legPort leg))

/-- Whether a leg produces a conduction interval of a side (R188, R193): not at a duty that holds the other side on,
nor shorter than `MinPulse`; a forced refresh is always produced. -/
def Live.produced (lv : Live) (leg : Fin 24) (side : Side) : Bool :=
  let q := (lv.gd.ports[legPort leg]).legs[legPhase leg]
  let d := lv.dutyOf leg
  let mp := lv.num Obj.portMinPulse (legPort leg).val
  if side = .low && q.refreshNow then true
  else if side = .low && F32.ge d (F32.ofNat 1) then false
  else if side = .high && F32.le d 0 then false
  else decide (mp = 0) || F32.ge (lv.conduction leg side) (F32.ofRatio mp 100000000)

/-- LEG_EVENT (R188, R95, R195): the side `side` of a switching leg takes over at `ph`. -/
def Live.legEvent (lv : Live) (leg : Fin 24) (side : Side) (ph : Nat) : Live :=
  if (lv.gd.ports[legPort leg]).mode ≠ .pwm ∨ lv.produced leg side = false then lv
  else
    let t := lv.start + ph
    lv.modLeg leg (fun q =>
      { q with
        gate := match side with | .low => .low | .high => .high,
        conductions := if q.gate = .low ∧ side = .high then min 2 (q.conductions + 1) else q.conductions,
        riseCmd := if side = .high then some t else q.riseCmd,
        fallCmd := if side = .low then some t else q.fallCmd })

def execLegEvent (l : LaneId) (leg : Fin 24) (side : Side) (ph : Nat) (s : State) : Host.Outcome State Fault Refusal :=
  done (onLive l (fun lv => lv.legEvent leg side ph) s)

/-! ### Faults of a winding and their retry -/

/-- The entries of a list of times that are not older than 10 s (R206). -/
def recentTries (now : Nat) (ts : List Nat) : List Nat := ts.filter (fun t => decide (now ≤ t + 10 * perSec))

/-- The head of the retry loop (R206): latch, or wait `RetryWait`. -/
def Live.retryHead (lv : Live) (p : Fin 8) (now : Nat) : Live :=
  let ts := recentTries now (lv.gd.ports[p]).tries
  if lv.num Obj.portRetryCount p.val ≤ ts.length then
    (lv.modPort p (fun q => { q with tries := ts, latched := true, waitEnd := none })).loseWinding p 2
  else lv.modPort p (fun q => { q with tries := ts, waitEnd := some (now + ms (lv.num Obj.portRetryWait p.val)) })

/-- A recoverable fault of a winding (R205, R206): the gates take the fault's state, the retry begins. -/
def Live.enterFault (lv : Live) (p : Fin 8) (f : PortFault) : Live :=
  let lv := lv.modPort p (fun q => { q with fault := some f, reenable := false })
  let lv := if (lv.fc.wind[p]).inUse then lv.park p .torqueFree else lv
  (lv.settlePort p).retryHead p lv.clk

/-- A double short (R202): all six gates off, the port kennelled, the winding lost. -/
def Live.doubleShort (lv : Live) (p : Fin 8) (leg : Fin 24) : Live :=
  let lv := lv.modPort p (fun q => { q with fault := some .doubleShort, double := true, waitEnd := none })
  ((lv.settlePort p).raise (windSource p 1) leg.val).loseWinding p (Config.openSyndrome 0)

/-- A trip that turns a port's gates off, with what its legs conducted (R202, R216). -/
def PortSt.marked (q : PortSt) (now : Nat) : PortSt :=
  if q.mode = .off then q else { q with tripAt := some now, tripGates := q.legs.map (fun g => g.gate) }

/-- A trip has turned a port's gates off within the last 1 µs (R202, R216). -/
def Live.tripped (lv : Live) (p : Fin 8) : Bool :=
  match (lv.gd.ports[p]).tripAt with
  | some t => decide (lv.clk ≤ t + us 1)
  | none => false

/-- The gate state in which a side of a leg conducts. -/
def sideGate : Side → LegGate
  | .low => .low
  | .high => .high

/-- The side that contains a short (R201). -/
def otherSide : Side → Side
  | .low => .high
  | .high => .low

/-- A short trip of a bridge switch (R200 to R204, R216). A trip that follows an over-current within the turn-off is
one short fault with one retry. -/
def Live.shortTrip (lv : Live) (leg : Fin 24) (side : Side) (hard : Bool) : Live :=
  let p := legPort leg
  let q := lv.gd.ports[p]
  let lv := lv.modPort p (fun x => { (x.marked lv.clk) with
    trips := satInc x.trips, hardTrips := if hard then satInc x.hardTrips else x.hardTrips,
    hard := hard,
    legs := vmod x.legs (legPhase leg) (fun g => { g with shorted := true }) })
  let inAsc := match q.mode with | .asc _ => true | _ => false
  if q.fault = some .doubleShort then lv
  else if decide (q.fault = some .short) || inAsc then lv.doubleShort p leg
  else
    let lv := lv.modPort p (fun x => { x with scSide := otherSide side })
    if q.fault = some .overcurrent then
      ((lv.modPort p (fun x => { x with fault := some .short })).settlePort p).raise (windSource p 0) leg.val
    else (lv.enterFault p .short).raise (windSource p 0) leg.val

/-- Whether a bridge switch conducts (R197). -/
def Live.conducts (lv : Live) (leg : Fin 24) (side : Side) : Bool :=
  let g := ((lv.gd.ports[legPort leg]).legs[legPhase leg]).gate
  match side with
  | .low => decide (g = .low)
  | .high => decide (g = .high)

/-- Whether a port is held in active short circuit. -/
def Live.inAsc (lv : Live) (p : Fin 8) : Bool :=
  match (lv.gd.ports[p]).mode with
  | .asc _ => true
  | _ => false

/-! ### Chopper faults -/

/-- The cause of a code 1 to 4 (R220). -/
def chopCause : Nat → ChopCause
  | 0 => .none | 1 => .openPath | 2 => .shortResistor | 3 => .shortSwitch | _ => .gate

/-- The code of a chopper cause (R220). -/
def ChopCause.code : ChopCause → Nat
  | .none => 0 | .openPath => 1 | .shortResistor => 2 | .shortSwitch => 3 | .gate => 4

/-- A chopper fault (R209): off, the regeneration limit 0 at once, fault C; it stays until a reset or a release. -/
def Live.chopFault (lv : Live) (code : Nat) : Live :=
  let fits := match code with
    | 1 => lv.gd.chOn
    | 3 => !lv.gd.chOn
    | _ => true
  if lv.sensing && lv.chFitted && !lv.gd.chFault && fits then
    let lv := { lv with gd := { lv.gd with chFault := true, chCause := chopCause code, chOn := false, chForced := false } }
    ((lv.writeRegen 0).countFault .chopper lv.me 0).raise 194 noUnit (BitVec.ofNat 32 code)
  else lv

def execChopperFault (l : LaneId) (cause : Fin 4) (s : State) : Host.Outcome State Fault Refusal :=
  done (onLive l (fun lv => lv.chopFault (cause.val + 1)) s)

/-! ### Short-circuit detection -/

/-- VDS_TRIP (R197, R202, R204): the monitor counts while its switch conducts, and not in active short circuit; a
switch that conducted at a trip of its bridge less than 1 µs ago counts too. -/
def Live.vdsTrip (lv : Live) (sw : Switch) : Live :=
  if !lv.sensing then lv
  else match sw with
    | .chopper => if lv.gd.chOn then (lv.crossed 171 true).chopFault 2 else lv
    | .bridge leg side =>
      let p := legPort leg
      let second := lv.tripped p && decide ((lv.gd.ports[p]).tripGates[legPhase leg] = sideGate side)
      let lv := lv.crossed ((match side with | .high => 48 | .low => 72) + leg.val) true
      if (lv.conducts leg side && !lv.inAsc p) || second then lv.shortTrip leg side false else lv

def execVdsTrip (l : LaneId) (sw : Switch) (s : State) : Host.Outcome State Fault Refusal :=
  done (onLive l (fun lv => lv.vdsTrip sw) s)

/-- HARD_SHORT_TRIP (R198, R202, R204): armed by the gate voltage of its switch, so also on a switch that the other
one of its leg has pulled on; not while the gates of its winding have been off for more than 1 µs. -/
def Live.hardTrip (lv : Live) (sw : Switch) : Live :=
  if !lv.sensing then lv
  else match sw with
    | .chopper => if lv.gd.chOn then lv.chopFault 2 else lv
    | .bridge leg side =>
      if lv.conducts leg side || decide ((lv.gd.ports[legPort leg]).mode ≠ .off) || lv.tripped (legPort leg) then
        lv.shortTrip leg side true
      else lv

def execHardShortTrip (l : LaneId) (sw : Switch) (s : State) : Host.Outcome State Fault Refusal :=
  done (onLive l (fun lv => lv.hardTrip sw) s)

/-- OVERCURRENT_TRIP (R173, R216): acts while the low side conducts in a winding that switches under its loop. -/
def Live.overcurrent (lv : Live) (leg : Fin 24) (high : Bool) : Live :=
  if !lv.sensing then lv
  else
    let p := legPort leg
    let lv := lv.crossed leg.val high
    if lv.conducts leg .low && decide ((lv.gd.ports[p]).mode = .pwm) then
      ((lv.modPort p (fun q => q.marked lv.clk)).enterFault p .overcurrent).raise (windSource p 2) leg.val
    else lv

def execOvercurrentTrip (l : LaneId) (leg : Fin 24) (high : Bool) (s : State) : Host.Outcome State Fault Refusal :=
  done (onLive l (fun lv => lv.overcurrent leg high) s)

/-! ### Gate and bootstrap checks -/

/-- Whether a gate passes its check (R190): 0.75 × VGD after a turn-on, 1.5 V after a turn-off. -/
def Live.gateOk (lv : Live) (vgs : F32) (atTurnOn : Bool) : Bool :=
  if atTurnOn then F32.ge vgs (F32.mul (F32.dec 75 2) lv.vgd) else F32.le vgs (F32.dec 15 1)

/-- GATE_CHECK (R190): a gate that fails turns its winding off and raises the leg's gate fault source. -/
def Live.gateCheck (lv : Live) (leg : Fin 24) (vgs : F32) (atTurnOn : Bool) : Live :=
  let p := legPort leg
  if !lv.sensing || lv.gateOk vgs atTurnOn || lv.gd.railUv then lv
  else
    let lv := lv.modPort p (fun x => { x with
      gateFaults := satInc x.gateFaults,
      legs := vmod x.legs (legPhase leg) (fun g => { g with fault := true }) })
    match (lv.gd.ports[p]).fault with
    | none => (lv.enterFault p .gate).raise (windSource p 3) leg.val
    | some _ => lv.raise (windSource p 3) leg.val

def execGateCheck (l : LaneId) (leg : Fin 24) (_side : Side) (vgs : F32) (atTurnOn : Bool) (s : State) :
    Host.Outcome State Fault Refusal :=
  done (onLive l (fun lv => lv.gateCheck leg vgs atTurnOn) s)

/-- Whether the bootstrap check of a leg is armed (R195). -/
def Live.bootArmed (lv : Live) (leg : Fin 24) : Bool :=
  let q := lv.gd.ports[legPort leg]
  match q.mode with
  | .pwm => decide ((q.legs[legPhase leg]).conductions = 2)
  | .asc .high => true
  | _ => false

/-- BOOTSTRAP_UNDERVOLTAGE (R195, R216). -/
def Live.bootUnder (lv : Live) (leg : Fin 24) : Live :=
  if !lv.sensing then lv
  else
    let p := legPort leg
    let armed := lv.bootArmed leg
    let lv := lv.crossed (144 + leg.val) false
    if !armed then lv
    else if lv.inAsc p then
      ((lv.modPort p (fun q => { q with bootOff := true })).settlePort p).raise (windSource p 4) leg.val
    else (lv.enterFault p .bootstrap).raise (windSource p 4) leg.val

def execBootstrapUndervoltage (l : LaneId) (leg : Fin 24) (s : State) : Host.Outcome State Fault Refusal :=
  done (onLive l (fun lv => lv.bootUnder leg) s)

/-- BOOTSTRAP_HIGH_CROSSING: the flag, and nothing else (R195). -/
def execBootstrapHighCrossing (l : LaneId) (leg : Fin 24) (s : State) : Host.Outcome State Fault Refusal :=
  done (onLive l (fun lv => if lv.sensing then lv.crossed (144 + leg.val) true else lv) s)

/-! ### The gate rail -/

/-- GATE_RAIL_UNDERVOLTAGE (R186). -/
def Live.railUnder (lv : Live) : Live :=
  if !lv.sensing || lv.gd.railUv then lv
  else
    let lv := lv.suspend
    ({ lv with gd := { lv.gd with railUv := true, chOn := false } }.settle).raise 192 noUnit

def execGateRailUndervoltage (l : LaneId) (s : State) : Host.Outcome State Fault Refusal :=
  done (onLive l Live.railUnder s)

/-- GATE_RAIL_RECOVERY (R186): VGD above 0.9 × its set value for 10 ms. -/
def Live.railRecovery (lv : Live) : Live :=
  if lv.sensing && lv.gd.railUv then
    ({ lv with gd := { lv.gd with railUv := false } }).resume
  else lv

def execGateRailRecovery (l : LaneId) (s : State) : Host.Outcome State Fault Refusal :=
  done (onLive l Live.railRecovery s)

/-! ### Retry -/

/-- The fault state of a port cleared for a retry (R206). -/
def PortSt.cleared (q : PortSt) : PortSt :=
  { q with fault := none, bootOff := false, waitEnd := none,
           legs := q.legs.map (fun g => { g with shorted := false, fault := false }) }

/-- RETRY_WAIT_END (R206, R216): abandoned in SAFE and STANDBY; waits on while a lane-wide cause stands; a gate that
still reads above 1.5 V goes round again; else the winding enables through the catch procedure. -/
def Live.retryEnd (lv : Live) (p : Fin 8) (offVgsBad : Bool) : Live :=
  match (lv.gd.ports[p]).waitEnd with
  | none => lv
  | some t =>
    if !lv.due t then lv
    else if lv.au.mode = .safe ∨ lv.au.mode = .standby then lv.modPort p (fun q => { q with waitEnd := none })
    else if lv.blocked then lv
    else
      let now := max lv.clk t
      let lv := lv.modPort p (fun q => { q with tries := q.tries ++ [now] })
      if (lv.gd.ports[p]).fault = some .gate ∧ offVgsBad = true then lv.retryHead p now
      else
        let lv := lv.modPort p (fun q => { q.cleared with retries := satInc q.retries, retrying := true })
        if (lv.fc.wind[p]).ws = .torqueFree then lv.startCatch p else lv.settlePort p

def execRetryWaitEnd (l : LaneId) (p : Fin 8) (offVgsBad : Bool) (s : State) : Host.Outcome State Fault Refusal :=
  done (onLive l (fun lv => lv.retryEnd p offVgsBad) s)

/-! ### The DC-link ladder -/

/-- Active short circuit of every enabled winding (R211, R236); a lost or kennelled winding of an enabled group is
among them, one that is still measured or refused is not. -/
def Live.ladderFire (lv : Live) : Live :=
  if lv.gd.ladderAsc then lv
  else
    let held := lv
    let lv := lv.suspend
    let lv := { lv with gd := { lv.gd with
      ladderAsc := true, ascEvents := satInc lv.gd.ascEvents, belowAsc := none } }
    let lv := forAll 8 (fun p x => x.modPort p (fun q =>
      { q with ladder := match held.groupOf p with
          | some g => (held.fc.groups[g]).enabled && !(held.fc.wind[p]).inCatch
          | none => false })) lv
    (lv.settle).raise 195 noUnit

/-- LADDER_ASC: the `S168` comparator crosses `V_ASC` (R210, R211). -/
def Live.ladderCross (lv : Live) : Live := if lv.sensing then (lv.crossed 168 true).ladderFire else lv

def execLadderAsc (l : LaneId) (s : State) : Host.Outcome State Fault Refusal := done (onLive l Live.ladderCross s)

/-- `V_ABS` reached (R211, R212): active short circuit kept until the ASC speed releases it, the chopper forced on, a FATAL event with `HALT`. -/
def Live.absFire (lv : Live) : Live :=
  if lv.gd.vabs then lv
  else
    let lv := lv.ladderFire
    let lv := forAll 8 (fun p x => x.modWind p (fun w => { w with asc := x.aboveAsc p true })) lv
    let force := lv.chFitted && !lv.gd.chFault
    let lv := { lv with gd := { lv.gd with
      vabs := true, chForced := force, chOn := force || lv.gd.chOn,
      chSince := (if force && !lv.gd.chOn then lv.gd.linkAt.getD lv.clk else lv.gd.chSince) } }
    (lv.raise 196 noUnit).settle

/-- The energy estimate of R208 over an interval of `dt` counts. -/
def Live.energyNow (lv : Live) (v : F32) (dt : Nat) : F32 :=
  let t := F32.ofRatio dt perSec
  let heat := if lv.gd.chOn then F32.div (F32.mul v v) (lv.real Obj.chopperResistance) else 0
  F32.max 0 (F32.sub (F32.add lv.gd.energy (F32.mul heat t)) (F32.mul (lv.real Obj.chopperPower) t))

/-- `CHENERGY` with its hysteresis (R208). -/
def Live.budgetSpent (lv : Live) : Bool :=
  let b := lv.real Obj.chopperEnergy
  if F32.isZero b then false
  else if F32.ge lv.gd.energy b then true
  else if F32.lt lv.gd.energy (F32.mul (F32.dec 5 1) b) then false
  else lv.gd.chEnergy

/-- The chopper's switching at a conversion (R207, R211, R212, R215). -/
def Live.chopSwitch (lv : Live) (v : F32) (t : Nat) : Live :=
  let low := F32.lt v (F32.sub (lv.real Obj.vChOn) (lv.real Obj.chHyst))
  let may := lv.chFitted && !lv.gd.chFault && !lv.gd.railUv && !lv.gd.forcedLow && !lv.ck.forced
  let lv := if low then { lv with gd := { lv.gd with chForced := false } } else lv
  let want := may && (if lv.gd.chOn || lv.gd.chForced then !low else F32.ge v (lv.real Obj.vChOn))
  if want = lv.gd.chOn then lv
  else if may && decide (t < lv.gd.chSince + us 5) then lv
  else { lv with gd := { lv.gd with chOn := want, chSince := t } }

/-- The link-voltage rule of R230: below 8 V the windings go torque-free; above 9 V the recovery time runs. -/
def Live.linkRule (lv : Live) (v : F32) (t : Nat) : Live :=
  if F32.lt v (F32.ofNat 8) then
    if lv.wi.linkLow then { lv with wi := { lv.wi with linkBack := none } }
    else
      let lv := lv.suspend
      ({ lv with wi := { lv.wi with linkLow := true, linkBack := none } }).settle
  else if F32.gt v (F32.ofNat 9) then
    { lv with wi := { lv.wi with linkBack := match lv.wi.linkBack with
        | some b => some b
        | none => some t } }
  else { lv with wi := { lv.wi with linkBack := none } }

/-- A conversion of `S168` by the link converter, at lane time `t`, `dt` counts after the one before (R166, R207 to
R212, R230). -/
def Live.linkConverted (lv : Live) (code : Code) (t dt : Nat) : Live :=
  let v := if code = 0x3FFF then F32.ofNat 90 else F32.ofRatio (code.toNat * 90) 16384
  let lv := { lv with
    aq := { lv.aq with vdc := v, codes := lv.aq.codes.write 0 168 (code.setWidth 16) },
    gd := { lv.gd with energy := lv.energyNow v dt, linkAt := some t } }
  let lv := (lv.setBus 320 v).flagBus 320 (lv.fl.kChans.getLsbD 168) false
  let lv := { lv with gd := { lv.gd with chEnergy := lv.budgetSpent, regenCut := F32.ge v (lv.real Obj.vRegenCut) } }
  let lv := lv.chopSwitch v t
  let lv := if F32.ge v (lv.real Obj.vAsc) then lv.ladderFire else lv
  let below := F32.lt v (F32.sub (lv.real Obj.vAsc) (lv.real Obj.ladderHyst))
  let lv := { lv with gd := { lv.gd with belowAsc :=
    if below then (match lv.gd.belowAsc with | some b => some b | none => some t) else none } }
  let lv := if F32.ge v (lv.real Obj.vAbs) then lv.absFire else lv
  lv.linkRule v t

/-- A conversion of the link converter with its self-checks (R165): a value that fails twice leaves the previous one. -/
def Live.linkRead (lv : Live) (c : Conv) (t dt : Nat) : Live :=
  let lv := if c.first then lv else { lv with aq := { lv.aq with retries := satInc lv.aq.retries } }
  if c.first || c.second then lv.linkConverted c.code t dt
  else
    ({ lv with
      aq := { lv.aq with invalids := satInc lv.aq.invalids },
      gd := { lv.gd with energy := lv.energyNow lv.aq.vdc dt, linkAt := some t } }).flagBus 320 false true

/-- LINK_CONVERSION (R210): a conversion on the 1 µs grid, `dt` counts after the one before. -/
def Live.linkConversion (lv : Live) (c : Conv) (dt : Nat) : Live :=
  if lv.sensing then
    lv.linkRead c (match lv.gd.linkAt with | some t => t + dt | none => lv.start) dt
  else lv

def execLinkConversion (l : LaneId) (c : Conv) (dt : Nat) (s : State) : Host.Outcome State Fault Refusal :=
  done (onLive l (fun lv => lv.linkConversion c dt) s)

/-- LINK_LOW_RECOVERY: 10 ms above 9 V (R230). -/
def Live.linkRecovery (lv : Live) : Live :=
  match lv.wi.linkBack with
  | some t =>
    if lv.wi.linkLow && lv.due (t + ms 10) then
      ({ lv with wi := { lv.wi with linkLow := false } }).resume
    else lv
  | none => lv

def execLinkLowRecovery (l : LaneId) (s : State) : Host.Outcome State Fault Refusal :=
  done (onLive l Live.linkRecovery s)

/-- LADDER_ASC_RELEASE: 10 ms below `V_ASC` − `LadderHyst`; never after `V_ABS` (R211). -/
def Live.ladderRelease (lv : Live) : Live :=
  match lv.gd.belowAsc with
  | some t =>
    if lv.gd.ladderAsc && !lv.gd.vabs && lv.due (t + ms 10) then
      let free := lv.gd.ports.map (fun (q : PortSt) => { q with ladder := false })
      ({ lv with gd := { lv.gd with ladderAsc := false, ports := free } }).resume
    else lv
  | none => lv

def execLadderAscRelease (l : LaneId) (s : State) : Host.Outcome State Fault Refusal :=
  done (onLive l Live.ladderRelease s)

/-! ### Counters -/

/-- The counters that `ClearCounters` of `MotorPort` clears (R217). -/
def PortSt.clearCounts (q : PortSt) : PortSt :=
  { q with trips := 0, hardTrips := 0, gateFaults := 0, refreshes := 0, retries := 0 }

def execClearPortCounters (l : LaneId) (p : Fin 8) (v : Byte) (s : State) : Host.Outcome State Fault Refusal :=
  done (onLive l (fun lv => lv.onZero v (fun x => x.modPort p PortSt.clearCounts)) s)

/-- `ClearCounters` of `GateDriveLane` (R219). -/
def Live.clearLadder (lv : Live) : Live := { lv with gd := { lv.gd with ascEvents := 0 } }

def execClearGateDriveCounters (l : LaneId) (v : Byte) (s : State) : Host.Outcome State Fault Refusal :=
  done (onLive l (fun lv => lv.onZero v Live.clearLadder) s)

end Sys2Proof.Machine
end

