-- ==== Sys2Proof/Machine/Sensing.lean ====
section
/-!
DEFINITION. Sensing the power stage (05_power_stage_sensing.md): the sample instant, offset trim, the background
rotation and the reference check.
-/

namespace Sys2Proof.Machine

/-! ### Shunts -/

/-- A shunt gain of a code (R182). -/
def gainOf (code : Nat) : F32 := F32.ofNat (match code with | 0 => 5 | 1 => 10 | 2 => 20 | _ => 40)

/-- k of R176: amperes per count of a port's shunts. -/
def Live.ampsPerCount (lv : Live) (p : Fin 8) : F32 :=
  F32.div (F32.ofRatio 3 16384) (F32.mul (gainOf (lv.num Obj.shuntGain 0 p.val)) (lv.real Obj.shuntResistance 0 p.val))

/-- The full-scale current of a port's shunts (R176). -/
def Live.fullScale (lv : Live) (p : Fin 8) : F32 :=
  F32.div (F32.dec 15 1) (F32.mul (gainOf (lv.num Obj.shuntGain 0 p.val)) (lv.real Obj.shuntResistance 0 p.val))

/-- Counts of full scale: 1.5 V of a 3.0 V range (R176). -/
def fullCounts : F32 := F32.ofNat 8192

/-- A code without its mid-scale bias, in counts (R175, R176; the factory trims of R177 are taken as applied, log
entry 51). -/
def countsOf (c : Code) : F32 := F32.ofInt ((c.toNat : Int) - 8192)

/-- The current of a shunt conversion (R176). -/
def Live.shuntAmps (lv : Live) (leg : Fin 24) (c : Code) : F32 :=
  F32.mul (F32.sub (countsOf c) lv.aq.offs[leg]) (lv.ampsPerCount (legPort leg))

/-- A saturated conversion (R166). -/
def saturated (c : Code) : Bool := decide (c = 0) || decide (c = 0x3FFF)

/-- A retried conversion counted (R165). -/
def AcqSt.retried (a : AcqSt) (c : Conv) (p : Fin 8) : AcqSt :=
  if c.first then a else { a with retries := satInc a.retries, lateConv := setBit a.lateConv p.val true }

/-- A shunt conversion at a sample instant (R165, R166, R176). -/
def Live.shuntRead (lv : Live) (leg : Fin 24) (c : Conv) : Live :=
  let lv := { lv with aq := { (lv.aq.retried c (legPort leg)) with codes := lv.aq.codes.write 0 leg.val (c.code.setWidth 16) } }
  if !c.first && !c.second then
    { lv with aq := { lv.aq with invalids := satInc lv.aq.invalids, shuntOk := setBit lv.aq.shuntOk leg.val false } }
  else if saturated c.code then
    { lv with aq := { lv.aq with sats := satInc lv.aq.sats, shuntOk := setBit lv.aq.shuntOk leg.val false } }
  else
    let i := lv.shuntAmps leg c.code
    { lv with aq := { lv.aq with shuntA := vmod lv.aq.shuntA leg (fun _ => i), shuntOk := setBit lv.aq.shuntOk leg.val true } }

/-! ### Offset trim -/

/-- The bound of an offset (R116): from the start-up value `s`, `OffsetTrimLimit` of full scale either way. -/
def Live.trimBound (lv : Live) : F32 := F32.mul (lv.real Obj.offsetTrimLimit) fullCounts

/-- One offset sample of a leg (R116, R179): o + (x − o) / 256, held at the bound; a saturated sample is discarded. -/
def Live.trim (lv : Live) (leg : Fin 24) (c : Code) : Live :=
  if saturated c then lv
  else
    let o := lv.aq.offs[leg]
    let n := F32.add o (F32.mul (F32.sub (countsOf c) o) (F32.ofRatio 1 256))
    let held := match lv.aq.start[leg] with
      | none => none
      | some s =>
        let b := lv.trimBound
        if F32.gt n (F32.add s b) then some (F32.add s b)
        else if F32.lt n (F32.sub s b) then some (F32.sub s b)
        else none
    let was := lv.aq.trimHeld.getLsbD leg.val
    let lv := { lv with aq := { lv.aq with
      offs := vmod lv.aq.offs leg (fun _ => held.getD n), trimHeld := setBit lv.aq.trimHeld leg.val held.isSome } }
    if held.isSome && !was then lv.raiseOpen 5 .contained leg.val else lv

/-- The offset sample of a leg whose gates are off (R116, R178): a value that is invalid under R165 is not used. -/
def Live.trimOff (lv : Live) (leg : Fin 24) (c : Conv) : Live := if c.first || c.second then lv.trim leg c.code else lv

/-- The start-up offsets at the first enable of a winding (R178), and whether the winding may be enabled. -/
def Live.startOffsets (lv : Live) (p : Fin 8) : Bool × Live :=
  if lv.aq.startBad.getLsbD p.val then (false, lv)
  else
    let lim := F32.mul (F32.dec 5 2) fullCounts
    let fresh := (List.finRange 3).filter (fun ph => (lv.aq.start[portLeg p ph]).isNone)
    let bad := fresh.filter (fun ph => F32.gt (F32.abs lv.aq.offs[portLeg p ph]) lim)
    let start := fresh.foldl (fun v ph => vmod v (portLeg p ph) (fun _ => some lv.aq.offs[portLeg p ph])) lv.aq.start
    let lv := { lv with aq := { lv.aq with
      start := start, startBad := setBit lv.aq.startBad p.val (!bad.isEmpty) } }
    (bad.isEmpty, bad.foldl (fun (x : Live) ph => x.raiseOpen 6 .contained (portLeg p ph).val) lv)

/-- Whether the legs of a winding conduct on their high sides from 600 ns before the carrier peak until 100 ns after
it (R116, R179), from the duties in effect. -/
def Live.peakHigh (lv : Live) (p : Fin 8) : Bool :=
  decide ((lv.gd.ports[p]).mode = .pwm) && (List.finRange 3).all (fun ph =>
    F32.ge (F32.sub (F32.mul (F32.mul (F32.dec 5 1) (lv.dutyOf (portLeg p ph))) lv.period) (lv.deadTime p)) (F32.dec 6 7))

/-- CARRIER_PEAK_SAMPLE (R116, R179, R181): once every `OffsetTrimDiv` ticks. -/
def Live.peakSample (lv : Live) (p : Fin 8) (cs : Vector Code 3) : Live :=
  if lv.running && decide (lv.ticks % lv.num Obj.offsetTrimDiv = 0) && lv.peakHigh p then
    forAll 3 (fun ph x => x.trim (portLeg p ph) cs[ph]) lv
  else lv

def execCarrierPeakSample (l : LaneId) (p : Fin 8) (codes : Vector Code 3) (s : State) : Host.Outcome State Fault Refusal :=
  done (onLive l (fun lv => lv.peakSample p codes) s)

/-! ### The sample instant -/

/-- The lane time of a port's sample instant in this tick (R19). -/
def Live.sampleTime (lv : Live) (p : Fin 8) : Nat := lv.start + lv.num Obj.portCarrierEighth p.val * lv.tick / 8

/-- The lane's winding takes its angle from the sine/cosine pair (R137, R162). -/
def Live.usesPair (lv : Live) (p : Fin 8) : Bool := decide (lv.sourceOf p = some 4)

/-- The angle pair at a sample instant (R162, R165, R169). -/
def Live.pairRead (lv : Live) (p : Fin 8) (smp : Sample) : Live :=
  if !lv.usesPair p then lv
  else
    let a := (lv.aq.retried smp.sin p).retried smp.cos p
    let bad := (!smp.sin.first && !smp.sin.second) || (!smp.cos.first && !smp.cos.second)
    if bad then { lv with aq := { a with sinStale := true, invalids := satInc a.invalids } }
    else { lv with aq := { a with
      sinStale := false,
      codes := (a.codes.write 0 185 (smp.sin.code.setWidth 16)).write 0 186 (smp.cos.code.setWidth 16) } }

/-- The three phase voltages of a winding whose gates are off (R162). -/
def Live.phasesRead (lv : Live) (p : Fin 8) (ph : Code × Code × Code) : Live :=
  let c := ((lv.aq.codes.write 0 (24 + 3 * p.val) (ph.1.setWidth 16)).write 0 (25 + 3 * p.val) (ph.2.1.setWidth 16)).write
    0 (26 + 3 * p.val) (ph.2.2.setWidth 16)
  { lv with aq := { lv.aq with codes := c } }

/-- SAMPLE_INSTANT (R163, R165 to R167, R169, R178, R254): a bound winding's shunts, the link, the angle pair, its phase
voltages and an offset sample while its gates are off, and the freeze of its feedback port. -/
def Live.sampleInstant (lv : Live) (p : Fin 8) (smp : Sample) : Live :=
  if lv.sensing && (lv.groupOf p).isSome then
    let t := lv.sampleTime p
    let off := decide ((lv.gd.ports[p]).mode = .off)
    let lv := { lv with aq := { lv.aq with lateConv := setBit lv.aq.lateConv p.val false } }
    let lv := ((lv.shuntRead (portLeg p 0) smp.iu).shuntRead (portLeg p 1) smp.iv).shuntRead (portLeg p 2) smp.iw
    let lv := lv.linkRead smp.link t (match lv.gd.linkAt with | some x => t - x | none => 0)
    let lv := lv.pairRead p smp
    let lv := if off then
        (((lv.phasesRead p smp.phases).trimOff (portLeg p 0) smp.iu).trimOff (portLeg p 1) smp.iv).trimOff
          (portLeg p 2) smp.iw
      else lv
    lv.freezePort p t
  else lv

def execSampleInstant (l : LaneId) (p : Fin 8) (smp : Sample) (s : State) : Host.Outcome State Fault Refusal :=
  done (onLive l (fun lv => lv.sampleInstant p smp) s)

/-! ### Background rotation -/

/-- The channels of the rotation (R168). -/
def scanned (c : Nat) : Bool := decide (24 ≤ c ∧ c ≤ 167) || decide (169 ≤ c ∧ c ≤ 184) || decide (187 ≤ c ∧ c ≤ 191)

/-- The temperature of an NTC code (R180). -/
def Live.ntcTemp (lv : Live) (n : Fin 8) (code : Nat) : F32 :=
  let r := F32.div (F32.ofNat (10000 * code)) (F32.ofNat (16384 - code))
  let x := F32.div (Config.ln (F32.div r (lv.real Obj.ntcR25 0 n.val))) (lv.real Obj.ntcBeta 0 n.val)
  F32.sub (F32.div (F32.ofNat 1) (F32.add (F32.div (F32.ofNat 1) (F32.dec 29815 2)) x)) (F32.dec 27315 2)

/-- An NTC conversion (R180): outside 0.02 to 0.98 of 16384 the temperature is held and the fault source raised. -/
def Live.ntcRead (lv : Live) (n : Fin 8) (code : Nat) : Live :=
  if F32.isZero (lv.real Obj.ntcR25 0 n.val) then
    { lv with aq := { lv.aq with ntcIn := vmod lv.aq.ntcIn n (fun _ => F32.ofNat 25), ntcBad := setBit lv.aq.ntcBad n.val false } }
  else if 98 * 16384 < 100 * code ∨ 100 * code < 2 * 16384 then
    if lv.aq.ntcBad.getLsbD n.val then lv
    else ({ lv with aq := { lv.aq with ntcBad := setBit lv.aq.ntcBad n.val true } }).raiseOpen 7 .contained (173 + n.val)
  else
    let x := lv.ntcTemp n code
    { lv with aq := { lv.aq with ntcIn := vmod lv.aq.ntcIn n (fun _ => x), ntcBad := setBit lv.aq.ntcBad n.val false } }

/-- A bootstrap conversion (R193): forced refresh from the next tick for a leg that held its high side on. -/
def Live.bootRead (lv : Live) (leg : Fin 24) (code : Nat) : Live :=
  let p := legPort leg
  let q := (lv.gd.ports[p]).legs[legPhase leg]
  let low := F32.lt (F32.ofRatio (20 * code) 16384) (F32.mul (lv.real Obj.portBootRefresh p.val) lv.vgd)
  if low && decide ((lv.gd.ports[p]).mode = .pwm) && F32.ge (lv.dutyOf leg) (F32.ofNat 1) && !q.refreshNow && q.refresh.isNone then
    lv.modLeg leg (fun g => { g with refresh := some (lv.ticks + 1) })
  else lv

/-- The trickle pumps switched off until the next reset (R196). -/
def Live.pumpOff (lv : Live) (syn : Word) : Live :=
  if lv.gd.pumpF then lv
  else ({ lv with gd := { lv.gd with pumpF := true } }).raise 193 noUnit syn

/-- The supply input (R501). -/
def Live.vbatRead (lv : Live) (code : Nat) : Live :=
  let v := F32.ofRatio (90 * code) 16384
  { lv with aq := { lv.aq with vbat := v },
            su := { lv.su with vMin := F32.min lv.su.vMin v, vMax := F32.max lv.su.vMax v } }

/-- The angle pair's channels, converted once per 10 µs while no winding of the lane samples them (R169). -/
def Live.pairIdle (lv : Live) (c : Nat) : Bool :=
  decide (c = 185 ∨ c = 186) && (List.finRange 8).all (fun p => !lv.usesPair p)

/-- BACKGROUND_CONVERSION (R168, R169): the code, and what its channel's rule makes of it; the value of a kennelled
channel goes to no consumer (R293). -/
def Live.backConversion (lv : Live) (ch : Fin 192) (c : Code) : Live :=
  if lv.sensing && (scanned ch.val || lv.pairIdle ch.val) then
    let n := c.toNat
    let lv := { lv with aq := { lv.aq with codes := lv.aq.codes.write 0 ch.val (c.setWidth 16) } }
    if lv.fl.kChans.getLsbD ch.val then lv
    else if h : 144 ≤ ch.val ∧ ch.val < 168 then lv.bootRead ⟨ch.val - 144, by omega⟩ n
    else if h : 173 ≤ ch.val ∧ ch.val < 181 then lv.ntcRead ⟨ch.val - 173, by omega⟩ n
    else if ch.val = 169 then lv.vbatRead n
    else if ch.val = 187 then
      if F32.lt (F32.ofRatio (20 * n) 16384) (F32.mul (F32.dec 8 1) lv.vgd) then lv.pumpOff 1 else lv
    else if ch.val = 188 then
      if 9 * 16384 < 10 * n then lv.pumpOff 2 else lv
    else lv
  else lv

def execBackgroundConversion (l : LaneId) (ch : Fin 192) (code : Code) (s : State) : Host.Outcome State Fault Refusal :=
  done (onLive l (fun lv => lv.backConversion ch code) s)

/-! ### Reference check -/

/-- Whether three reference conversions deviate by more than 0.5 % of 3.0 V from 0.300, 1.500 and 2.700 V (R170). -/
def refBad (cs : Vector Code 3) : Bool :=
  let off (c : Code) (tenths : Nat) : Bool := decide (81920 < (1000 * (c.toNat : Int) - (tenths * 1638400 : Nat)).natAbs)
  off cs[0] 1 || off cs[1] 5 || off cs[2] 9

/-- REFERENCE_CHECK (R170): two bad checks in a row fail the converter. -/
def Live.refCheck (lv : Live) (adc : Fin 16) (cs : Vector Code 3) : Live :=
  if !lv.sensing || lv.fl.kAdcs.getLsbD adc.val then lv
  else
    let bad := refBad cs
    let twice := bad && lv.aq.badRef.getLsbD adc.val
    let lv := { lv with aq := { lv.aq with
      badRef := setBit lv.aq.badRef adc.val (bad && !twice),
      codes := ((lv.aq.codes.write 0 189 (cs[0].setWidth 16)).write 0 190 (cs[1].setWidth 16)).write 0 191 (cs[2].setWidth 16) } }
    if twice then
      ({ lv with aq := { lv.aq with health := setBit lv.aq.health adc.val false } }).failAdc adc
    else lv

def execReferenceCheck (l : LaneId) (adc : Fin 16) (codes : Vector Code 3) (s : State) : Host.Outcome State Fault Refusal :=
  done (onLive l (fun lv => lv.refCheck adc codes) s)

/-! ### Flags and crossings -/

/-- `ClearFlags` of `AcqStatus` (R183). -/
def Live.clearAcq (lv : Live) : Live :=
  { lv with aq := { lv.aq with cmpHigh := 0, cmpLow := 0, retries := 0, invalids := 0, sats := 0 } }

def execClearAcqFlags (l : LaneId) (v : Byte) (s : State) : Host.Outcome State Fault Refusal :=
  done (onLive l (fun lv => lv.onZero v Live.clearAcq) s)

/-- PHASE_VOLTAGE_CROSSING (R117, R174): the timestamp, and the delay behind the ideal edge. -/
def Live.phaseCross (lv : Live) (leg : Fin 24) (rising : Bool) (ph : Nat) : Live :=
  if !lv.sensing then lv
  else
    let t := lv.start + ph
    let lv := lv.crossed (24 + leg.val) rising
    let q := (lv.gd.ports[legPort leg]).legs[legPhase leg]
    if rising then
      let lv := { lv with aq := { lv.aq with crossUp := vmod lv.aq.crossUp leg (fun _ => some t) } }
      match q.riseCmd with
      | some r => if r ≤ t then lv.modWind (legPort leg) (fun w => { w with dfr := vmod w.dfr (legPhase leg) (fun d => (some (t - r), d.2)) }) else lv
      | none => lv
    else
      let lv := { lv with aq := { lv.aq with crossLow := vmod lv.aq.crossLow leg (fun _ => some t) } }
      match q.fallCmd with
      | some r => if r ≤ t then lv.modWind (legPort leg) (fun w => { w with dfr := vmod w.dfr (legPhase leg) (fun d => (d.1, some (t - r))) }) else lv
      | none => lv

def execPhaseVoltageCrossing (l : LaneId) (leg : Fin 24) (rising : Bool) (ph : Nat) (s : State) :
    Host.Outcome State Fault Refusal :=
  done (onLive l (fun lv => lv.phaseCross leg rising ph) s)

end Sys2Proof.Machine
end

