-- ==== Sys2Proof/Machine/Catch.lean ====
section
/-!
DEFINITION. How windings and groups start, re-synchronise and stop (R141, R145 to R151, R156) and the sniff test that
an enable at rest runs (R223 to R227).
-/

namespace Sys2Proof.Machine

/-! ### The sniff test -/

/-- `SniffResult` (R238): the code, the open lead or 7, the port or 15. -/
def sniffWord (code phase port : Nat) : Half := BitVec.ofNat 16 (code + phase * 2 ^ 4 + port * 2 ^ 7)

/-- A result reported for a port. -/
def Live.sniffReport (lv : Live) (p : Fin 8) (w : Half) : Live :=
  { lv with wi := { lv.wi with results := vmod lv.wi.results p (fun _ => w) } }

/-- A test abandoned because its winding is no longer being enabled: the result stands as it was (R236). -/
def Live.sniffDrop (lv : Live) : Live :=
  match lv.wi.sniff with
  | some r => if (lv.fc.wind[r.port]).ws = .measuring then lv
      else ({ lv with wi := { lv.wi with sniff := none } }).sniffNext
  | none => lv

/-- A test that is due (R223, R227, R230): code 7 while the link is below 8 V, else queued. -/
def Live.sniffDue (lv : Live) (p : Fin 8) : Live :=
  if lv.wi.linkLow then
    ({ lv with wi := { lv.wi with postponed := setBit lv.wi.postponed p.val true } }.sniffReport p (sniffWord 7 7 15)).modWind p
      (fun w => { w with again := some (lv.clk + ms 20) })
  else
    let lv := lv.sniffDrop
    ({ lv with wi := { lv.wi with
      postponed := setBit lv.wi.postponed p.val false,
      queue := if lv.wi.queue.contains p then lv.wi.queue else lv.wi.queue ++ [p] } }).sniffNext

/-- SNIFF_STEP_1_END (R224). -/
def Live.sniffStep1 (lv : Live) (p : Fin 8) (r : SniffReading) : Live :=
  let lv := lv.sniffDrop
  match lv.wi.sniff with
  | some t => if t.port = p ∧ lv.due (t.start + us 800) = true then
      { lv with wi := { lv.wi with sniff := some { t with step1 := some r } } } else lv
  | none => lv

def execSniffStep1End (l : LaneId) (p : Fin 8) (r : SniffReading) (s : State) : Host.Outcome State Fault Refusal :=
  done (onLive l (fun lv => lv.sniffStep1 p r) s)

/-- SNIFF_STEP_2_END (R224). -/
def Live.sniffStep2 (lv : Live) (p : Fin 8) (r : SniffReading) : Live :=
  let lv := lv.sniffDrop
  match lv.wi.sniff with
  | some t => if t.port = p ∧ t.step1.isSome ∧ lv.due (t.start + us 1200) = true then
      { lv with wi := { lv.wi with sniff := some { t with step2 := some r } } } else lv
  | none => lv

def execSniffStep2End (l : LaneId) (p : Fin 8) (r : SniffReading) (s : State) : Host.Outcome State Fault Refusal :=
  done (onLive l (fun lv => lv.sniffStep2 p r) s)

/-- The lowest other port, gates off, one of whose phases rose by 2.0 V or more between the steps (R225). -/
def sniffOther (a b : SniffReading) : Option Nat :=
  (List.range 8).find? (fun q =>
    let xs := (a.others.filter (fun x => decide (x.1.val = q))).map (fun x => x.2)
    let ys := (b.others.filter (fun x => decide (x.1.val = q))).map (fun x => x.2)
    (xs.zip ys).any (fun z => F32.ge (F32.sub z.2 z.1) (F32.ofNat 2)))

/-- The evaluation of R225: code, phase field, port field. -/
def sniffEval (a b : SniffReading) : Nat × Nat × Nat :=
  let hi1 := F32.max (F32.max a.u a.v) a.w
  let lo1 := F32.min (F32.min a.u a.v) a.w
  let hi2 := F32.max (F32.max b.u b.v) b.w
  let lo2 := F32.min (F32.min b.u b.v) b.w
  let four := F32.ofNat 4
  let one := F32.ofNat 1
  if F32.ge hi1 (F32.ofNat 2) then (if F32.gt (F32.sub hi1 lo1) one then (8, 7, 15) else (2, 7, 15))
  else if F32.lt b.u four && F32.le (F32.sub hi2 lo2) one then (3, 7, 15)
  else if F32.ge b.u four && F32.lt b.v one && F32.lt b.w one then (4, 0, 15)
  else if F32.ge b.u four && F32.lt b.v one then (4, 1, 15)
  else if F32.ge b.u four && F32.lt b.w one then (4, 2, 15)
  else if F32.lt b.u four || F32.lt b.v four || F32.lt b.w four then (9, 7, 15)
  else match sniffOther a b with
    | some q => (5, 7, q)
    | none => (1, 7, 15)

/-! ### A winding starts -/

/-- The current loop starts from rest (R129, R138, R149). -/
def WindingSt.startRest (w : WindingSt) (sensorless : Bool) (now : Nat) : WindingSt :=
  { stopLoop w with ws := .running, again := none, fromLos := false, hfiOn := sensorless,
                    hfiFound := false, hfiSince := if sensorless then some now else none }

/-- The current loop starts on a turning motor, observer and tracking loop seeded (R149). -/
def WindingSt.startTurning (w : WindingSt) (psi : F32) (m : CatchMeas) (stopping : Bool) (now : Nat) : WindingSt :=
  { stopLoop w with
      ws := if stopping then .stopping else .running, again := none, fromLos := false, rampFrom := some now,
      xq := F32.mul psi m.we, obsTheta := m.theta, obsW := m.we, hfiTheta := m.theta, hfiW := m.we, hfiFound := true,
      theta := if w.src = 3 then m.theta else w.theta, we := if w.src = 3 then m.we else w.we,
      flags := w.flags ||| 0x4000 }

/-- The start at rest of a winding whose sniff test passed (R149, R227); a lane-wide cause holds it. -/
def Live.runFromRest (lv : Live) (p : Fin 8) : Live :=
  if lv.blocked then lv.holdWinding p
  else
  let sl := decide (lv.sourceOf p = some 3)
  ((lv.modWind p (fun w => { (w.startRest sl lv.clk) with flags := w.flags &&& 0xFFFFBFFF })).modPort p
    (fun q => { q with retrying := false })).settlePort p

/-- A winding that failed its sniff test (R227): lost; on a retry path it latches without counting a try. -/
def Live.sniffFail (lv : Live) (p : Fin 8) : Live :=
  (lv.modPort p (fun q => { q with latched := q.latched || q.retrying, retrying := false })).loseWinding p 3

/-- The counters of a sniff test that ran to a result (R237). -/
def WiringSt.countSniff (w : WiringSt) (code : Nat) : WiringSt :=
  { w with sniff := none, runs := satInc w.runs,
           failures := if code = 1 ∨ code = 8 then w.failures else satInc w.failures }

/-- SNIFF_TEST_RESULT (R225, R227, R237, R238). -/
def Live.sniffResult (lv : Live) (p : Fin 8) : Live :=
  let lv := lv.sniffDrop
  match lv.wi.sniff with
  | none => lv
  | some t =>
    match t.step1, t.step2 with
    | some a, some b =>
      if t.port ≠ p ∨ lv.due (t.start + us 1300) = false then lv
      else
        let r := sniffEval a b
        let lv := ({ lv with wi := lv.wi.countSniff r.1 }).sniffReport p (sniffWord r.1 r.2.1 r.2.2)
        let lv := match r.1 with
          | 1 => lv.runFromRest p
          | 8 => lv.modWind p (fun w => { w with again := some (lv.clk + ms 20) })
          | 5 =>
            let lv := lv.sniffFail p
            if h : r.2.2 < 8 then
              let q : Fin 8 := ⟨r.2.2, h⟩
              if (lv.groupOf q).isSome && decide ((lv.fc.wind[q]).ws ≠ WState.lost ∧ (lv.fc.wind[q]).ws ≠ WState.kennelled) then
                lv.sniffFail q
              else lv
            else lv
          | _ => lv.sniffFail p
        lv.sniffNext
    | _, _ => lv

def execSniffTestResult (l : LaneId) (p : Fin 8) (s : State) : Host.Outcome State Fault Refusal :=
  done (onLive l (fun lv => lv.sniffResult p) s)

/-- SNIFF_POSTPONE_REPEAT (R227, R230): 20 ms after a postponed test. -/
def Live.sniffRepeat (lv : Live) (p : Fin 8) : Live :=
  match (lv.fc.wind[p]).again with
  | some t =>
    if lv.wi.postponed.getLsbD p.val && decide ((lv.fc.wind[p]).ws = .measuring) && lv.due t then
      (lv.modWind p (fun w => { w with again := none })).sniffDue p
    else lv
  | none => lv

def execSniffPostponeRepeat (l : LaneId) (p : Fin 8) (s : State) : Host.Outcome State Fault Refusal :=
  done (onLive l (fun lv => lv.sniffRepeat p) s)

/-! ### Loss of synchronism -/

/-- A loss of synchronism (R146): torque-free at once, counted and recorded; the catch follows from the next tick. -/
def Live.loseSync (lv : Live) (p : Fin 8) : Live :=
  let lv := lv.park p .torqueFree
  let lv := lv.modWind p (fun w => { w with
    losEvents := satInc w.losEvents, losAt := recentTries lv.clk w.losAt ++ [lv.clk], fromLos := true, again := none })
  (lv.settlePort p).raise (windSource p 6) noUnit

/-- LOS_LIMIT_REACHED: `LosLimit` losses of synchronism within 10 s (R146). -/
def Live.losLimit (lv : Live) (p : Fin 8) : Live :=
  match lv.groupOf p with
  | some g =>
    if (lv.fc.wind[p]).inUse ∧ lv.num Obj.groupLosLimit g.val ≤ (recentTries lv.clk (lv.fc.wind[p]).losAt).length then
      lv.loseWinding p 1
    else lv
  | none => lv

def execLosLimitReached (l : LaneId) (p : Fin 8) (s : State) : Host.Outcome State Fault Refusal :=
  done (onLive l (fun lv => lv.losLimit p) s)

/-- At a tick start, a winding that lost synchronism starts its catch (R146), or is lost at its limit. -/
def Live.resync (lv : Live) : Live :=
  forAll 8 (fun p x =>
    let w := x.fc.wind[p]
    if w.fromLos && decide (w.ws = .torqueFree) && (x.gd.ports[p]).fault.isNone && !x.blocked then
      let y := x.losLimit p
      if (y.fc.wind[p]).ws = .torqueFree then y.startCatch p else y
    else x) lv

/-! ### Stops and group reactions -/

/-- A controlled stop of a group begins (R151); a stop of category 1 replaces any other. -/
def Live.startStop (lv : Live) (g : Fin 24) (u : StopUse) : Live :=
  lv.modGroup g (fun x => match x.stop with
    | none => { x with stop := some u, stopped := false }
    | some o => if u = .category1 ∧ o ≠ .category1 then { x with stop := some u, stopped := false } else x)

/-- The configured reaction of a group (R156): nothing more, controlled stop, torque-free at once, a request of SAFE. -/
def Live.groupReact (lv : Live) (g : Fin 24) : Live :=
  match lv.num Obj.groupGroupReaction g.val with
  | 0 => lv
  | 1 => (lv.startStop g .groupReaction).modGroup g (fun x => { x with reacted := true })
  | 2 =>
    let lv := lv.modGroup g (fun x => { x with reacted := true })
    match lv.portOf g with
    | some p => lv.freeWinding p
    | none => lv
  | _ => { lv with fl := { lv.fl with degreq := 2 } }

/-- CONTROLLED_STOP_STANDSTILL: |speed| below 0.005 × `MaxSpeed` (R151, R329); after a catch against the command the
winding goes on as one at rest (R149). -/
def Live.stopReached (lv : Live) (g : Fin 24) : Live :=
  let q := lv.fc.groups[g]
  let slow := F32.lt (F32.abs q.speed) (F32.mul (F32.dec 5 3) (lv.real Obj.groupMaxSpeed g.val))
  match q.stop with
  | none => lv
  | some u =>
    if q.stopped || !slow then lv
    else match u with
      | .category1 => lv.modGroup g (fun x => { x with stopped := true })
      | .category2 => lv.modGroup g (fun x => { x with stopped := true })
      | .groupReaction =>
        let lv := lv.modGroup g (fun x => { x with stopped := true })
        match lv.portOf g with
        | some p => lv.freeWinding p
        | none => lv
      | .catchAgainst =>
        let lv := lv.modGroup g (fun x => { x with stop := none, stopped := false })
        match lv.portOf g with
        | some p => if (lv.fc.wind[p]).ws = .stopping then lv.startCatch p else lv
        | none => lv

/-! ### The catch -/

/-- Ep ≥ `CatchRestLevel` and the three line voltages are not a balanced set (R149). -/
def unbalanced (m : CatchMeas) : Bool :=
  let mean := F32.div (F32.add (F32.add m.peaks.1 m.peaks.2.1) m.peaks.2.2) (F32.ofNat 3)
  let far (x : F32) : Bool := F32.gt (F32.abs (F32.sub x mean)) (F32.mul (F32.dec 2 1) mean)
  let skew (x : F32) : Bool := F32.gt (F32.abs (F32.sub x (F32.ofNat 120))) (F32.ofNat 24)
  far m.peaks.1 || far m.peaks.2.1 || far m.peaks.2.2 || skew m.angles.1 || skew m.angles.2.1 || skew m.angles.2.2

/-- A refused catch (R149): gates stay off, the measurement repeats after 20 ms. -/
def Live.catchRefused (lv : Live) (p : Fin 8) (code : Byte) : Live :=
  (lv.modWind p (fun w => { w with
    ws := .refused, catchCode := code, again := some (lv.clk + ms 20),
    refusals := if code = 1 then satInc w.refusals else w.refusals })).settlePort p

/-- The sniff test skipped for back-EMF (R150, R227, R237). -/
def Live.sniffSkip (lv : Live) (p : Fin 8) : Live :=
  (({ lv with wi := { lv.wi with skips := satInc lv.wi.skips } }).sniffReport p (sniffWord 6 7 15)).raise 199 p.val

/-- Whether two turn angles lie more than 30° apart (R149). -/
def apart30 (a b : Turn) : Bool := decide (2 ^ 32 < 12 * (a - b).toInt.natAbs)

/-- CATCH_MEASUREMENT_END (R149, R150). -/
def Live.catchEnd (lv : Live) (p : Fin 8) (m : CatchMeas) : Live :=
  let w := lv.fc.wind[p]
  match lv.groupOf p with
  | none => lv
  | some g =>
    if w.ws ≠ .measuring ∨ w.again.isSome = true ∨ lv.due (w.measAt + us 200) = false then lv
    else
      let rest := lv.real Obj.groupCatchRestLevel g.val
      if F32.lt m.ep rest then lv.sniffDue p
      else if unbalanced m then lv.catchRefused p 2
      else if F32.ge m.ep (F32.mul (lv.real Obj.groupCatchLimit g.val) lv.aq.vdc) then lv.catchRefused p 1
      else if lv.blocked then lv.holdWinding p
      else
        let lv := lv.sniffSkip p
        if (lv.fc.wind[p]).ws ≠ .measuring then lv
        else
        let sensor := decide (lv.sourceOf p ≠ some 3) && !w.srcLost
        if sensor && apart30 m.sensor m.theta then lv.loseSync p
        else
          let cmd := lv.bus (192 + g.val)
          let against := !F32.isZero cmd && decide (F32.sign cmd ≠ F32.sign m.we)
          let lv := (lv.modWind p (fun x => x.startTurning (lv.real Obj.fieldFluxLinkage g.val) m against lv.clk)).settlePort p
          let lv := lv.modPort p (fun q => { q with retrying := false })
          if against then lv.startStop g .catchAgainst else lv

def execCatchMeasurementEnd (l : LaneId) (p : Fin 8) (m : CatchMeas) (s : State) : Host.Outcome State Fault Refusal :=
  done (onLive l (fun lv => lv.catchEnd p m) s)

/-- CATCH_REPEAT: 20 ms after a refusal or a sniff test that saw motion (R149, R227). -/
def Live.catchRepeat (lv : Live) (p : Fin 8) : Live :=
  let w := lv.fc.wind[p]
  match w.again with
  | some t =>
    if (decide (w.ws = .refused) || (decide (w.ws = .measuring) && !lv.wi.postponed.getLsbD p.val)) && lv.due t then
      lv.startCatch p
    else lv
  | none => lv

def execCatchRepeat (l : LaneId) (p : Fin 8) (s : State) : Host.Outcome State Fault Refusal :=
  done (onLive l (fun lv => lv.catchRepeat p) s)

/-- HFI_POLARITY_DETECT: the pulse with the larger peak marks the north pole, once the loop has settled (R138). -/
def Live.hfiPolarity (lv : Live) (p : Fin 8) (pos neg : F32) : Live :=
  let w := lv.fc.wind[p]
  match w.hfiSince with
  | some t =>
    if w.hfiOn && !w.hfiFound && decide (w.ws = .running) && lv.due (t + ms 20) then
      lv.modWind p (fun x => { x with
        hfiFound := true,
        hfiTheta := if F32.gt (F32.abs neg) (F32.abs pos) then x.hfiTheta + 0x80000000 else x.hfiTheta })
    else lv
  | none => lv

def execHfiPolarityDetect (l : LaneId) (p : Fin 8) (pos neg : F32) (s : State) : Host.Outcome State Fault Refusal :=
  done (onLive l (fun lv => lv.hfiPolarity p pos neg) s)

/-! ### Sources and votes -/

/-- The group changes to its `FallbackSource` (R141, R147); the windings re-synchronise. -/
def Live.toFallback (lv : Live) (g : Fin 24) : Live :=
  let lv := lv.modGroup g (fun x => { x with fallback := true, disagree := 0 })
  match lv.portOf g with
  | some p => if (lv.fc.wind[p]).loopOn then
      (lv.modWind p (fun w => { w with srcLost := false })).startCatch p
    else lv.modWind p (fun w => { w with srcLost := false })
  | none => lv

/-- ANGLE_VOTE_DISAGREE: two valid lanes disagree in `AngleVoteTicks` consecutive ticks (R147). -/
def Live.voteDisagree (lv : Live) (g : Fin 24) : Live :=
  let q := lv.fc.groups[g]
  if q.disagree < lv.num Obj.groupAngleVoteTicks g.val then lv
  else
    let fb := lv.num Obj.groupFallbackSource g.val
    if (fb = 0 ∨ fb = 1) ∧ q.fallback = false ∧ fb ≠ lv.num Obj.groupPositionSource g.val then lv.toFallback g
    else
      let lv := lv.modGroup g (fun x => { x with disagree := 0 })
      let lv := match lv.portOf g with
        | some p => lv.freeWinding p
        | none => lv
      (lv.raiseOpen 8 .contained g.val).groupReact g

def execAngleVoteDisagree (l : LaneId) (g : Fin 24) (s : State) : Host.Outcome State Fault Refusal :=
  done (onLive l (fun lv => lv.voteDisagree g) s)

/-! ### Enabling and disabling -/

/-- A winding's flags cleared when its group is enabled from STANDBY (R141, R146, R206, R227 to R229, R245). -/
def Live.renewWinding (lv : Live) (p : Fin 8) : Live :=
  let lv := (lv.clearPort p).modWind p (fun w =>
    { (stopLoop w) with ws := if w.ws = .kennelled then .kennelled else .disabled, srcLost := false, losAt := [],
                        fromLos := false, again := none, overTemp := false, overSpd := 0, voteDev := 0, catchCode := 0 })
  let lv := lv.modPort p (fun q => if q.fault = some .doubleShort then q else
    { q.cleared with latched := false, tries := [], reenable := false, retrying := false })
  { lv with wi := { lv.wi with openPh := setBit lv.wi.openPh p.val false, isum := setBit lv.wi.isum p.val false } }

/-- A winding enabled (R149, R178): start-up offsets checked, then the catch procedure. -/
def Live.enableWinding (lv : Live) (p : Fin 8) : Live :=
  if (lv.fc.wind[p]).ws = .kennelled then lv
  else
    let r := lv.startOffsets p
    if !r.1 then r.2.settlePort p else r.2.startCatch p

/-- The awaited windings of a group (R74): one bit for each lane that binds a port. -/
def Live.awaitGroup (lv : Live) (g : Fin 24) : BitVec 72 :=
  allLanes.foldl (fun v o => setBit v (3 * g.val + o.num) (lv.portOfLane o g).isSome) lv.au.awaited

/-- The slots of a group at their start state (R100). -/
def Live.freshSlots (lv : Live) (g : Fin 24) : Live :=
  { lv with en := { lv.en with slots := lv.en.slots.mapWith {} (fun n q =>
      if 8 ≤ n ∧ lv.num Obj.slotGroup n = g.val then q.fresh else q) } }

/-- A group enabled on the way from STANDBY (R70, R74, R100). -/
def Live.enableGroup (lv : Live) (g : Fin 24) : Live :=
  if !lv.groupBound g then lv
  else
    let lv := lv.modGroup g (fun x => { x with
      enabled := true, stop := none, stopped := false, fallback := false, disagree := 0, reacted := false })
    let lv := { lv with au := { lv.au with
      awaited := lv.awaitGroup g, mGranted := vmod lv.au.mGranted g (fun _ => 9), mGroup := vmod lv.au.mGroup g (fun _ => 0) } }
    let lv := lv.freshSlots g
    match lv.portOf g with
    | some p => (lv.renewWinding p).enableWinding p
    | none => lv

/-- A group disabled (R70): its windings off, its stops and holds over. -/
def Live.disableGroup (lv : Live) (g : Fin 24) : Live :=
  let lv := lv.modGroup g (fun x => { x with
    enabled := false, stop := none, stopped := false, reacted := false })
  match lv.portOf g with
  | some p =>
    match (lv.fc.wind[p]).ws with
    | .kennelled | .lost => lv.settlePort p
    | _ => (lv.park p .disabled).settlePort p
  | none => lv

end Sys2Proof.Machine
end

