-- ==== Sys2Proof/Machine/Operands.lean ====
section
/-!
DEFINITION. Operands that a command carries in coded form: the unit of a kennel release (R312), the source of a safety
channel (R314).
-/

namespace Sys2Proof.Machine

/-- A unit that `KennelRelease` names (R312). -/
inductive KennelUnit where
  | port (p : Fin 8)
  | slot (s : Fin 192)
  | channel (c : Fin 192)
  | adc (n : Fin 16)
  | can (n : Fin 4)
  | core (three : Bool)
  | cvu (u : Fin 16)
  deriving DecidableEq, Repr

/-- The unit of a release code, none outside R312. -/
def kennelUnit (code : Half) : Option KennelUnit :=
  let i := code.toNat % 256
  match code.toNat / 256 with
  | 1 => if h : i < 8 then some (.port ⟨i, h⟩) else none
  | 2 => if h : 8 ≤ i ∧ i < 192 then some (.slot ⟨i, h.2⟩) else none
  | 3 => if h : i < 192 then some (.channel ⟨i, h⟩) else none
  | 4 => if h : i < 16 then some (.adc ⟨i, h⟩) else none
  | 5 => if h : i < 4 then some (.can ⟨i, h⟩) else none
  | 6 => if i = 2 then some (.core false) else if i = 3 then some (.core true) else none
  | 7 => if h : i < 16 then some (.cvu ⟨i, h⟩) else none
  | _ => none

/-- The source code of a terminal of a lane (R314). -/
def terminalCode (o : LaneId) (k : Nat) : Nat := 0x1000 + o.num * 0x400 + k

end Sys2Proof.Machine
end

