-- ==== Sys2Proof/Machine/Outputs.lean ====
section
/-!
DEFINITION. The safety terminals in their own lane (11_machine_safety.md): `SIN` channels, `TPO` and dark pulses,
`SOUT` outputs and their contactor feedback (R317 to R320, R331 to R336).
-/

namespace Sys2Proof.Machine

/-! ### Members -/

def Live.modSin (lv : Live) (k : Fin 12) (f : SinSt → SinSt) : Live :=
  { lv with sf := { lv.sf with sin := vmod lv.sf.sin k f } }

def Live.modTpo (lv : Live) (n : Fin 6) (f : TpoSt → TpoSt) : Live :=
  { lv with sf := { lv.sf with tpo := vmod lv.sf.tpo n f } }

/-! ### Safety-function states as applied -/

/-- An instance is enabled (R346). -/
def Live.sfOn (lv : Live) (i : Fin 24) : Bool := decide (lv.num Obj.instEnable i.val = 1)

/-- The applied state of an instance; a disabled one reports 1 (R323). -/
def Live.sfApplied (lv : Live) (i : Fin 24) : Nat :=
  if lv.sfOn i then (lv.sf.appliedInst.toNat / 4 ^ i.val) % 4 else 1

/-- State 0 or 3 (R323). -/
def isTrip (n : Nat) : Bool := n == 0 || n == 3

/-- A safety function is tripped: an enabled `ESTOP`, `GUARD` or `CURTAIN` instance in state 0 or 3 (R323). -/
def Live.sfTripped (lv : Live) : Bool :=
  (List.finRange 24).any (fun i => lv.sfOn i && !(decide (16 ≤ i.val ∧ i.val ≤ 19)) && isTrip (lv.sfApplied i))

/-! ### The pulse plan -/

/-- The pulses of a train in a hyperperiod (R336). -/
def PulseTrain.pulses (t : PulseTrain) (rate : Nat) : List Nat :=
  (List.range (1000 / t.period)).map (fun m => t.offset + m * t.period * rate / 1000)

/-- The tick of the hyperperiod that an extended tick count falls on (R18, R336). -/
def Live.planTick (lv : Live) (ticks : Nat) : Nat := ticks % lv.num Obj.tickRate

/-- A train of this lane starts a pulse in this tick (R336). -/
def Live.planned (lv : Live) (isTpo : Bool) (n : Nat) : Bool :=
  lv.sf.plan.any (fun t => decide (t.lane = lv.me ∧ t.isTpo = isTpo ∧ t.num = n) &&
    (t.pulses (lv.num Obj.tickRate)).contains (lv.planTick lv.ticks))

/-- Whether two pulses, given by their starts in a hyperperiod and their widths, come within 100 µs of each other:
`d` ticks lie from the first start to the second and `tau` 2.5 ns counts in a tick (R336). -/
def pulsesNear (d tau width : Nat) : Bool := decide (d * tau < us (width + 100))

/-- Whether a pulse of a width at hyperperiod tick `h` comes within 100 µs of a pulse of a train (R333, R336). -/
def PulseTrain.near (t : PulseTrain) (rate tau h width : Nat) : Bool :=
  (t.pulses rate).any (fun x =>
    let x := x % rate
    pulsesNear ((x + rate - h) % rate) tau width || pulsesNear ((h + rate - x) % rate) tau t.width)

/-- The first tick from `k` on at which a pulse of a width keeps 100 µs from every planned pulse (R333); one
hyperperiod is searched. -/
def Live.clearTick (lv : Live) (width : Nat) : Nat → Nat → Nat
  | 0, k => k
  | fuel + 1, k =>
    if lv.sf.plan.any (fun t => t.near (lv.num Obj.tickRate) lv.tick (lv.planTick k) width) then
      Live.clearTick lv width fuel (k + 1)
    else k

/-! ### Channels -/

/-- A terminal of this lane is named by an instance (R320). -/
def Live.sinNamed (lv : Live) (k : Fin 12) : Bool :=
  let c := terminalCode lv.me k.val
  (List.range 24).any (fun i => lv.num Obj.instChannel1 i == c || lv.num Obj.instChannel2 i == c
    || lv.num Obj.instLockSource i == c || lv.num Obj.instResetSource i == c)

/-- The verdict of a channel (R320). -/
def Live.verdict (lv : Live) (k : Fin 12) : Nat :=
  let q := lv.sf.sin[k]
  if !lv.sinNamed k then 3 else if q.faulted then 2 else bit1 q.closed

/-- `SINV` as it stands (R321, R348). -/
def Live.verdicts (lv : Live) : Word :=
  BitVec.ofNat 32 ((List.finRange 12).map (fun k => lv.verdict k * 4 ^ k.val)).sum

/-- SAFETY_CHANNEL_OPEN: the terminal has read low for `OffFilter` (R317). -/
def Live.channelOpen (lv : Live) (k : Fin 12) : Live :=
  lv.modSin k (fun q => { q with closed := false, misses := 0, crosses := Vector.replicate 6 0 })

def execSafetyChannelOpen (l : LaneId) (n : Fin 12) (s : State) : Host.Outcome State Fault Refusal :=
  done (onLive l (fun lv => lv.channelOpen n) s)

/-- SAFETY_CHANNEL_CLOSED: the terminal has read high for `OnFilter` (R317). -/
def Live.channelClosed (lv : Live) (k : Fin 12) : Live := lv.modSin k (fun q => { q with closed := true })

def execSafetyChannelClosed (l : LaneId) (n : Fin 12) (s : State) : Host.Outcome State Fault Refusal :=
  done (onLive l (fun lv => lv.channelClosed n) s)

/-- A channel faulted (R319, R344): 1 pulse missing, 2 cross-circuit. -/
def Live.channelFault (lv : Live) (k : Fin 12) (syn : Word) : Live :=
  let lv := lv.modSin k (fun q => { q with faulted := true, passes := 0, misses := 0, crosses := Vector.replicate 6 0 })
  (lv.countFault .safetyChannel lv.me k.val).raise 336 k.val syn

/-! ### Test pulses -/

/-- The lane's `TPO` outputs follow the pulse plan (R318, R522). -/
def Live.tpoFollows (lv : Live) : Bool := lv.joined

/-- TPO_PULSE_START: at its planned instant the output goes low (R318, R336). -/
def Live.tpoStart (lv : Live) (n : Fin 6) : Live :=
  if lv.tpoFollows && lv.planned true n.val then lv.modTpo n (fun q => { q with pulsing := true }) else lv

def execTpoPulseStart (l : LaneId) (n : Fin 6) (s : State) : Host.Outcome State Fault Refusal :=
  done (onLive l (fun lv => lv.tpoStart n) s)

/-- A `TPO` faulted, and every channel that it feeds (R318, R344): 1 short to supply, 2 overload. -/
def Live.tpoFault (lv : Live) (n : Fin 6) (syn : Word) : Live :=
  let lv := forAll 12 (fun k x =>
    if x.num Obj.pulseSource 0 k.val = n.val ∧ (x.sf.sin[k]).faulted = false then
      (x.modSin k (fun q => { q with faulted := true, passes := 0 })).countFault .safetyChannel x.me k.val
    else x) lv
  if (lv.sf.tpo[n]).faulted then lv
  else (lv.modTpo n (fun q => { q with faulted := true })).raise 337 n.val syn

/-- The check of one channel at the end of a pulse of `TPO` n (R319, R320). `low`: the terminal read low from 100 µs
after the start of the pulse until its end; `cross`: it read low for at least 100 µs in the window and was high again
within 100 µs of the window's end. -/
def Live.pulseCheck (lv : Live) (n : Fin 6) (k : Fin 12) (low cross : Bool) : Live :=
  let q := lv.sf.sin[k]
  let src := lv.num Obj.pulseSource 0 k.val
  if src = 255 then lv
  else if src = n.val then
    if q.faulted then
      let passes := if low then q.passes + 1 else 0
      if 3 ≤ passes ∧ (lv.sf.tpo[n]).faulted = false then
        lv.modSin k (fun q => { q with faulted := false, passes := 0, misses := 0 })
      else lv.modSin k (fun q => { q with passes := passes })
    else if !q.closed then lv
    else if low then lv.modSin k (fun q => { q with misses := 0 })
    else if 1 ≤ q.misses then lv.channelFault k 1
    else lv.modSin k (fun q => { q with misses := 1 })
  else if q.faulted || !q.closed then lv
  else if !cross then lv.modSin k (fun q => { q with crosses := vmod q.crosses n (fun _ => 0) })
  else if 1 ≤ q.crosses[n] then lv.channelFault k 2
  else lv.modSin k (fun q => { q with crosses := vmod q.crosses n (fun _ => 1) })

/-- TPO_PULSE_END (R318 to R320). -/
def Live.tpoEnd (lv : Live) (n : Fin 6) (readHigh : Bool) (low cross : BitVec 12) : Live :=
  if (lv.sf.tpo[n]).pulsing then
    let lv := lv.modTpo n (fun q => { q with pulsing := false })
    let lv := if readHigh then lv.tpoFault n 1 else lv.modTpo n (fun q => { q with faulted := false })
    forAll 12 (fun k x => x.pulseCheck n k (low.getLsbD k.val) (cross.getLsbD k.val)) lv
  else lv

def execTpoPulseEnd (l : LaneId) (n : Fin 6) (readHigh : Bool) (low : BitVec 12) (pulsing : BitVec 12) (s : State) :
    Host.Outcome State Fault Refusal :=
  done (onLive l (fun lv => lv.tpoEnd n readHigh low pulsing) s)

/-- TPO_OVERLOAD: read low for 100 µs outside a pulse while the output follows the plan (R318). -/
def Live.tpoOverload (lv : Live) (n : Fin 6) : Live :=
  if lv.tpoFollows && !(lv.sf.tpo[n]).pulsing then lv.tpoFault n 2 else lv

def execTpoOverload (l : LaneId) (n : Fin 6) (s : State) : Host.Outcome State Fault Refusal :=
  done (onLive l (fun lv => lv.tpoOverload n) s)

/-! ### Safety outputs -/

/-- The contactor feedback of an output, if one is named (R335). -/
def Live.edmOf (lv : Live) (n : Fin 4) : Option (Fin 4) :=
  let v := lv.num Obj.edmInput 0 n.val
  if h : v < 4 then some ⟨v, h⟩ else none

/-- Whether an output may be energised by R331. -/
def Live.soutWanted (lv : Live) (n : Fin 4) : Bool :=
  let mask := lv.num Obj.tripMask 0 n.val
  let e := lv.num Obj.enableEntry 0 n.val
  let mode := match lv.au.mode with
    | .operational | .reduced | .descent => true
    | .standby => decide (lv.num Obj.standbyOn 0 n.val = 1)
    | _ => false
  lv.joined && !lv.su.idle && mode
    && (List.finRange 24).all (fun i => !(tbit mask i.val && isTrip (lv.sfApplied i)))
    && (decide (e = 65535) || !F32.isZero (lv.bus e))
    && !(lv.sf.sout[n]).locked

/-- The demand on an output brought up to date (R331, R333, R335): an open feedback of an output that is off refuses
to energise. -/
def Live.soutUpdate (lv : Live) (n : Fin 4) : Live :=
  let q := lv.sf.sout[n]
  let want := lv.soutWanted n
  if q.cmd && !want then lv.soutOff n
  else if !q.cmd && want && ((lv.edmOf n).isNone || q.edm) then
    lv.modSout n (fun q => { q with
      cmd := true, readback := true, changedAt := some lv.clk, edmBadAt := some lv.clk })
  else lv

/-- Every output's demand brought up to date. -/
def Live.soutUpdates (lv : Live) : Live := forAll 4 (fun n x => x.soutUpdate n) lv

/-- An output locked off with a cause (R332, R335). -/
def Live.soutLock (lv : Live) (n : Fin 4) (cause : BitVec 2) : Live :=
  let lv := if (lv.sf.sout[n]).cmd then lv.soutOff n else lv
  lv.modSout n (fun q => { q with locked := true, cause := cause })

/-- The window of `EdmTime` after a change (R333). -/
def Live.inEdmTime (lv : Live) (n : Fin 4) : Bool :=
  match (lv.sf.sout[n]).changedAt with
  | some t => decide (lv.start ≤ t ∨ lv.clk ≤ t + ms (lv.num Obj.edmTime 0 n.val))
  | none => false

/-- The first tick start after the window of `EdmTime` (R333). -/
def Live.afterEdm (lv : Live) (n : Fin 4) : Nat :=
  match (lv.sf.sout[n]).changedAt with
  | some t => lv.ticks + (t + ms (lv.num Obj.edmTime 0 n.val) - lv.start) / lv.tick + 1
  | none => lv.ticks

/-- DARK_PULSE_START: at a planned instant, or at the tick of a deferred pulse (R332, R333). -/
def Live.darkStart (lv : Live) (n : Fin 4) : Live :=
  let q := lv.sf.sout[n]
  let dueNow := lv.planned false n.val || (q.deferred && decide (q.darkTick = some lv.ticks))
  if !(q.cmd && !q.dark && dueNow) then lv
  else if lv.inEdmTime n then
    let k := lv.clearTick (lv.num Obj.soutPulseWidth 0 n.val) (lv.num Obj.tickRate) (lv.afterEdm n)
    lv.modSout n (fun q => { q with deferred := true, darkTick := some k })
  else lv.modSout n (fun q => { q with dark := true, deferred := false, darkTick := none, readback := false })

def execDarkPulseStart (l : LaneId) (n : Fin 4) (s : State) : Host.Outcome State Fault Refusal :=
  done (onLive l (fun lv => lv.darkStart n) s)

/-- DARK_PULSE_END: the readback, mV, must lie below 2 V (R332). -/
def Live.darkEnd (lv : Live) (n : Fin 4) (mv : Nat) : Live :=
  if (lv.sf.sout[n]).dark then
    let lv := lv.modSout n (fun q => { q with dark := false })
    if mv < 2000 then lv.modSout n (fun q => { q with readback := true, onFor := 0, overrun := false })
    else ((lv.soutLock n 1).modSout n (fun q => { q with readback := true })).raise 338 n.val 1
  else lv

def execDarkPulseEnd (l : LaneId) (n : Fin 4) (mv : Nat) (s : State) : Host.Outcome State Fault Refusal :=
  done (onLive l (fun lv => lv.darkEnd n mv) s)

/-- SOUT_OFF_READBACK_FAULT: above 4 V for 1 ms while the output is off (R332). -/
def Live.soutOffHigh (lv : Live) (n : Fin 4) : Live :=
  if (lv.sf.sout[n]).cmd then lv
  else ((lv.soutLock n 1).modSout n (fun q => { q with readback := true })).raise 338 n.val 1

def execSoutOffReadbackFault (l : LaneId) (n : Fin 4) (s : State) : Host.Outcome State Fault Refusal :=
  done (onLive l (fun lv => lv.soutOffHigh n) s)

/-- SOUT_OVERCURRENT: 4 A or more (R332). -/
def Live.soutOver (lv : Live) (n : Fin 4) : Live :=
  if (lv.sf.sout[n]).cmd then (lv.soutLock n 2).raise 338 n.val 2 else lv

def execSoutOvercurrent (l : LaneId) (n : Fin 4) (s : State) : Host.Outcome State Fault Refusal :=
  done (onLive l (fun lv => lv.soutOver n) s)

/-- SOUT_OPEN_LOAD: below 20 mA for 10 ms while on; the output stays on (R332). -/
def Live.soutOpen (lv : Live) (n : Fin 4) : Live :=
  if (lv.sf.sout[n]).cmd then lv.modSout n (fun q => { q with openload := true }) else lv

def execSoutOpenLoad (l : LaneId) (n : Fin 4) (s : State) : Host.Outcome State Fault Refusal :=
  done (onLive l (fun lv => lv.soutOpen n) s)

/-- DIAG_INTERVAL_OVERRUN: no pulse completed within `DiagInterval` of energised time (R333). -/
def Live.diagOverrun (lv : Live) (n : Fin 4) : Live :=
  let q := lv.sf.sout[n]
  if q.cmd && !q.overrun && decide (ms (lv.num Obj.diagInterval 0 n.val) ≤ q.onFor + lv.tick) then
    (lv.modSout n (fun q => { q with overrun := true })).raise 343 n.val
  else lv

def execDiagIntervalOverrun (l : LaneId) (n : Fin 4) (s : State) : Host.Outcome State Fault Refusal :=
  done (onLive l (fun lv => lv.diagOverrun n) s)

/-! ### Contactor feedback -/

/-- The level of the feedback contact taken up (R335): the time since which it is away from its expected state. -/
def SoutSt.sawEdm (q : SoutSt) (closed : Bool) (now : Nat) : SoutSt :=
  { q with edm := closed,
           edmBadAt := if closed = !q.cmd then none else some (q.edmBadAt.getD now) }

/-- The latest time at which the feedback may still be away: `EdmTime` after a change, and otherwise `EdmTime` after
it left its state outside that window (R335). -/
def Live.edmLimit (lv : Live) (n : Fin 4) (t : Nat) : Nat :=
  let w := ms (lv.num Obj.edmTime 0 n.val)
  match (lv.sf.sout[n]).changedAt with
  | some c => if c = t then t + w else max t (c + w) + w
  | none => t + w

/-- EDM_CHECK (R335, R344): 1 no change, 2 unexpected change, 3 welded. -/
def Live.edmCheck (lv : Live) (n : Fin 4) (closed : Bool) : Live :=
  if (lv.edmOf n).isNone then lv
  else
    let lv := lv.modSout n (fun q => q.sawEdm closed lv.clk)
    let q := lv.sf.sout[n]
    match q.edmBadAt with
    | some t =>
      if lv.due (lv.edmLimit n t) && !(q.locked && decide (q.cause = 3)) then
        let syn : Word := if !q.cmd then 3 else if q.changedAt = some t then 1 else 2
        (lv.soutLock n 3).raise 339 n.val syn
      else lv
    | none => lv

def execEdmCheck (l : LaneId) (n : Fin 4) (closed : Bool) (s : State) : Host.Outcome State Fault Refusal :=
  done (onLive l (fun lv => lv.edmCheck n closed) s)

/-- SOUT_UNLOCK: output `v` released in STANDBY, its readback `mv` below 2 V and its feedback closed; the demand then
follows R331 (R334, R345). -/
def Live.soutUnlock (lv : Live) (path : Path) (v : Byte) (mv : Nat) : Live :=
  if h : v.toNat < 4 then
    let n : Fin 4 := ⟨v.toNat, h⟩
    lv.onGuard path true lv.standby (fun x =>
      if mv < 2000 ∧ ((x.edmOf n).isNone ∨ (x.sf.sout[n]).edm = true) then
        ((x.modSout n (fun q => { q with locked := false, cause := 0, readback := false })).soutUpdate n).accept (some path)
      else x.abortWith (some path) abortCheck)
  else lv.onGuard path false false id

def execSoutUnlock (l : LaneId) (path : Path) (v : Byte) (mv : Nat) (s : State) : Host.Outcome State Fault Refusal :=
  done (onLive l (fun lv => lv.soutUnlock path v mv) s)

end Sys2Proof.Machine
end

