-- ==== Sys2Proof/Machine/Modes.lean ====
section
/-!
DEFINITION. Roles, the leash's hand-over and the device modes (R40 to R44, R46, R60, R69 to R72, R77), as the commands
of several chapters use them.
-/

namespace Sys2Proof.Machine

/-! ### Lanes as this lane sees them -/

/-- This lane is synchronised and has a channel that is not lost (R374). -/
def Live.integrated (lv : Live) : Bool :=
  decide (lv.jn.sync = .sync ∨ lv.jn.sync = .silent) && !(lv.jn.chA.lost && lv.jn.chB.lost)

/-- Both Jalsyn channels of this lane are lost; ports that are off have lost nothing (R40, R41). -/
def Live.netBlind (lv : Live) : Bool := !lv.jn.portsOff && lv.jn.chA.lost && lv.jn.chB.lost

/-- A lane is joined, as this lane sees it (R83). -/
def Live.sees (lv : Live) (o : LaneId) : Bool :=
  if o = lv.me then lv.joined else (lv.au.views[o.fin]).joined && !(lv.au.views[o.fin]).lost

/-- The role of a lane, as this lane sees it. -/
def Live.laneRole (lv : Live) (o : LaneId) : Role := if o = lv.me then lv.au.role else (lv.au.views[o.fin]).role

/-- A lane is a follower, as this lane sees it. -/
def Live.laneFollower (lv : Live) (o : LaneId) : Bool :=
  if o = lv.me then lv.au.follower else (lv.au.views[o.fin]).follower

/-- A lane's role changed in this lane's view. -/
def Live.setRole (lv : Live) (o : LaneId) (r : Role) : Live :=
  if o = lv.me then { lv with au := { lv.au with role := r } } else lv.modView o (fun v => { v with role := r })

/-- A lane is role-capable: joined and not a follower (R41). -/
def Live.capable (lv : Live) (o : LaneId) : Bool := lv.sees o && !lv.laneFollower o

/-- A lane is run-capable: role-capable and integrated on a Jalsyn channel (R41). -/
def Live.runCapable (lv : Live) (o : LaneId) : Bool :=
  lv.capable o && (if o = lv.me then lv.integrated else (lv.au.views[o.fin]).netOk)

/-- The number of role-capable lanes (R41). -/
def Live.capables (lv : Live) : Nat := allLanes.countP lv.capable

/-- The number of run-capable lanes (R41). -/
def Live.runCapables (lv : Live) : Nat := allLanes.countP lv.runCapable

/-- Whether a lane holds the role. -/
def Live.holderOf (lv : Live) (r : Role) : Option LaneId :=
  allLanes.find? (fun o => lv.sees o && decide (lv.laneRole o = r))

/-! ### The leash changes hands -/

/-- Votes and counts that end when the leash changes hands (R49, R52). -/
def AuthSt.handsChanged (a : AuthSt) : AuthSt :=
  { a with demoting := false, demoteFor := none, demoteTicks := 0, voteStands := false, silent := 0,
           devGroup := Vector.replicate 24 0, devSf := Vector.replicate 24 0, devMode := 0 }

/-- This lane takes the leash with the next epoch (R42, R46); its lease runs as if an acknowledgement had come at the
first tick start after this one (R48). -/
def Live.takeLeash (lv : Live) : Live :=
  if lv.au.holding then lv
  else { lv with au := { lv.au.handsChanged with
    role := .lead, epoch := lv.au.epoch + 1, accepted := true, holder := some lv.me, holding := true,
    lastAck := lv.ticks + 1, releasing := false } }

/-- A link is up: in service and not lost (R29). -/
def LinkRx.up (r : LinkRx) : Bool := r.inService && !r.lost

/-- At least one of this lane's links is up (R42, R49). -/
def Live.linkUp (lv : Live) : Bool := lv.tk.fwd.up || lv.tk.back.up

/-- The number of lanes whose role stands before that of a lane (R42). -/
def Live.ahead (lv : Live) (o : LaneId) : Nat :=
  allLanes.countP (fun x => decide ((lv.laneRole x).code < (lv.laneRole o).code ∧ lv.laneRole x ≠ .none))

/-- The roles that are held, counted from Lead (R42). -/
def Live.closeRanks (lv : Live) : Live :=
  allLanes.foldl (fun (x : Live) o =>
    if lv.laneRole o = .none then x else x.setRole o (Role.ofCode (lv.ahead o))) lv

/-- The remaining roles move up in order (R42); a lane that becomes Lead takes the leash. -/
def Live.moveUp (lv : Live) : Live :=
  let x := lv.closeRanks
  if x.au.role = .lead && lv.au.role != .lead && x.linkUp then
    let y := x.takeLeash
    { y with au := { y.au with takeovers := satInc y.au.takeovers } }
  else x

/-- A lane becomes a follower (R40, R77): its role is free, the remaining roles move up; a holder gives up the leash with
`RELEASE` (R45). -/
def Live.makeFollower (lv : Live) (o : LaneId) (counts : Bool) : Live :=
  if lv.laneFollower o then lv
  else
    let lv := lv.setRole o .none
    let lv := if o = lv.me then
        { lv with au := { lv.au with follower := true, releasing := lv.au.releasing || lv.au.holding, holding := false } }
      else lv.modView o (fun v => { v with follower := true })
    let lv := if counts then lv.countFault .laneLoss o o.num else lv
    lv.moveUp

/-- A peer is lost (R42, R60, R77): its role is free, the remaining roles move up. -/
def Live.loseLane (lv : Live) (o : LaneId) : Live :=
  if o = lv.me ∨ (lv.au.views[o.fin]).joined = false ∨ (lv.au.views[o.fin]).lost = true then lv
  else
    let was := lv.laneFollower o
    let lv := lv.modView o (fun v => { v with
      lost := true, role := .none, follower := false, netblind := false, netOk := false })
    let lv := if was then lv else lv.countFault .laneLoss o o.num
    lv.moveUp

/-- Roles by rank among the role-capable lanes (R41, R42). -/
def Live.assignByRank (lv : Live) : Live :=
  let rank (o : LaneId) : Nat := allLanes.countP (fun x => lv.capable x && decide (lv.rankOf x < lv.rankOf o))
  let lv := allLanes.foldl (fun (x : Live) o =>
    x.setRole o (if lv.capable o then Role.ofCode (rank o) else .none)) lv
  if lv.au.role = .lead then lv.takeLeash
  else { lv with au := { lv.au with holding := false } }

/-! ### Device modes -/

/-- This lane's ACTIVE image is valid (R417, R420). -/
def Live.activeValid (lv : Live) : Bool := decide (lv.im.stActive = 1 ∨ lv.im.stActive = 2)

/-- The configuration counts as committed (R421), as last compared among the live lanes. -/
def Live.committed (lv : Live) : Bool := lv.activeValid && lv.im.level && !lv.im.mismatch && !lv.im.fwMismatch

/-- The version of the firmware that a lane runs (R425). -/
def runningVersion (st : NvStore) : Nat := (header (if st.boot.runningB then st.fwB else st.fwA)).version

/-- The ACTIVE images of two lanes agree in `VERSION` and `DIGEST` (R421). -/
def sameImage (a b : Lane) : Bool :=
  decide (a.store.dir.vActive = b.store.dir.vActive ∧ a.store.dir.dActive = b.store.dir.dActive)

/-- Two lanes run the same firmware version (R421). -/
def sameFirmware (a b : Lane) : Bool := decide (runningVersion a.store = runningVersion b.store)

/-- The live lanes (R398). -/
def State.liveLanes (s : State) : List LaneId := allLanes.filter (fun o => (s.lane o).live.joined)

/-- The comparison of R421 among the live lanes, taken up by lane `l`'s `SlotFlags`; a live lane with its debug port
unlocked holds the device in STANDBY (R436). -/
def State.compareLanes (s : State) (l : LaneId) (lv : Live) : Live :=
  let o := s.liveLanes.map s.lane
  { lv with im := { lv.im with
      level := o.all (fun n => n.live.activeValid && !n.live.im.debug),
      mismatch := !o.all (fun n => sameImage (s.lane l) n),
      fwMismatch := !o.all (fun n => sameFirmware (s.lane l) n) } }

/-- Winding retries given up on entering SAFE or STANDBY (R216). -/
def Live.dropRetries (lv : Live) : Live :=
  forAll 8 (fun p x => x.modPort p (fun q => { q with waitEnd := none, reenable := false })) lv

/-- Entry into DESCENT (R70, R72). -/
def Live.shed (lv : Live) : Live :=
  { lv with
    au := { lv.au with ballast := true, descentEnd := some (lv.clk + perSec * lv.num Obj.descentLimit) },
    en := { lv.en with frozen := true } }

/-- DESCENT left (R72). -/
def Live.unshed (lv : Live) : Live :=
  { lv with au := { lv.au with ballast := false, descentEnd := none }, en := { lv.en with frozen := false } }

/-- The start of a run (R42, R70, R77): ranks apply, in REDUCED a lane that is not run-capable becomes a follower,
groups enable, faults are counted anew. -/
def Live.enterRun (lv : Live) (m : Mode) : Live :=
  let seen := lv
  let lv := if m = .reduced then
      allLanes.foldl (fun (x : Live) o =>
        if seen.capable o && !seen.runCapable o then x.makeFollower o true else x) lv
    else lv
  forAll 24 (fun g x => x.enableGroup g) lv.assignByRank

/-- Standby entered (R70, R40, R77): groups disabled, followers role-capable and no longer counted, stops and demands
over. -/
def Live.enterStandby (lv : Live) : Live :=
  let lv := forAll 24 (fun g x => x.disableGroup g) lv.dropRetries
  { lv with
    au := { lv.au with
      follower := false, views := lv.au.views.map (fun v => { v with follower := false }),
      faults := lv.au.faults.filter (fun f => !(decide (f.kind = .laneLoss) && lv.sees f.lane)) },
    sf := { lv.sf with category := none }, fl := { lv.fl with degreq := 0 } }

/-- SAFE entered (R215, R216, R296): windings torque-free, stops over. -/
def Live.enterSafe (lv : Live) : Live :=
  let lv := forAll 24 (fun g x => x.modGroup g (fun q => { q with stop := none, stopped := false }))
    lv.windingsFree.dropRetries
  { lv with sf := { lv.sf with category := none }, fl := { lv.fl with degreq := 0 } }

/-- An armed injection cancelled on leaving STANDBY (R303). -/
def Live.disarm (lv : Live) : Live :=
  match lv.fl.armed with
  | some _ => { lv with fl := { lv.fl with armed := none, injStatus := 0 } }
  | none => lv

/-- The applied mode changes (R70): the actions of the row, bus entry 376 and the safety outputs; a service session closes
when the device leaves STANDBY (R433). -/
def Live.enterMode (lv : Live) (m : Mode) : Live :=
  let old : Mode := lv.au.mode
  if m = old then lv
  else
    let lv := { lv with au := { lv.au with mode := m } }.setBus 376 (F32.ofNat m.code)
    let lv := if old = .descent then lv.unshed else if old = .standby then lv.disarm.closeSession else lv
    let lv := match m with
      | .operational | .reduced => if old = Mode.standby then lv.enterRun m else lv
      | .descent => lv.shed.abortIntrusive
      | .standby => if old = Mode.startup then lv else lv.enterStandby
      | .safe => lv.enterSafe
      | .startup => lv
    let lv := if m = .operational ∧ lv.capables = 3 then
        { lv with au := { lv.au with faultsOn := true, faults := [] } } else lv
    lv.settle.soutUpdates

/-- The mode of Lead's record applied (R51): SAFE taken at once stands until a record of SAFE or STANDBY comes. -/
def Live.applyMode (lv : Live) (m : Mode) : Live :=
  match lv.au.mode, m with
  | .safe, .safe | .safe, .standby => lv.enterMode m
  | .safe, _ => lv
  | _, _ => lv.enterMode m

/-- SAFE taken at once by this lane (R58, R329). -/
def Live.safeNow (lv : Live) : Live :=
  { lv.enterMode .safe with au := { (lv.enterMode .safe).au with ownMode := .safe } }

/-- This lane computes another device mode; it goes out in its record (R51, R52). -/
def Live.wantMode (lv : Live) (m : Mode) : Live := { lv with au := { lv.au with ownMode := m } }

/-- This lane computes a mode in which the device drives (R70). -/
def Live.drives (lv : Live) : Bool :=
  match lv.au.ownMode with
  | .operational | .reduced | .descent => true
  | _ => false

/-- A stop demand of category 1 (R70, R329): the controlled stop of every enabled group. -/
def Live.stopAll (lv : Live) : Live :=
  let lv := { lv with sf := { lv.sf with category := some 1 } }
  forAll 24 (fun g x => if (x.fc.groups[g]).enabled then x.startStop g .category1 else x) lv

/-- SAFE as this lane computes it: in a gap at once, otherwise through Lead's record (R58). -/
def Live.toSafe (lv : Live) : Live := if lv.au.gap then lv.safeNow else lv.wantMode .safe

/-- A stop demand (R70, R296, R329); `atOnce` is false where Lead takes it from the records. -/
def Live.stopDemand (lv : Live) (cat : Nat) (atOnce : Bool) : Live :=
  if !lv.drives then lv
  else if cat = 0 then (if atOnce then lv.safeNow else lv.toSafe)
  else if lv.sf.category = some 1 then lv else lv.stopAll

/-- Every enabled group has ended its category 1 stop (R151). -/
def Live.allStopped (lv : Live) : Bool :=
  (List.finRange 24).all (fun g =>
    let q := lv.fc.groups[g]
    !q.enabled || !lv.groupBound g || (decide (q.stop = some .category1) && q.stopped))

/-- SAFE after the controlled stop of category 1 (R70). -/
def Live.stopDone (lv : Live) : Live :=
  if lv.sf.category = some 1 ∧ lv.allStopped ∧ lv.drives then lv.toSafe else lv

/-- CONTROLLED_STOP_STANDSTILL: |speed| below 0.005 × `MaxSpeed` (R151); the last group's stop of category 1 leads to
SAFE (R70). -/
def execControlledStopStandstill (l : LaneId) (g : Fin 24) (s : State) : Host.Outcome State Fault Refusal :=
  done (onLive l (fun lv => (lv.stopReached g).stopDone) s)

/-! ### Standstill and the descent limit -/

/-- The standstill condition of this tick, and the time for which it must hold (R71). -/
def Live.stillCond (lv : Live) : Bool × Nat :=
  let e := lv.num Obj.standstillSignal
  if e ≠ 65535 then (!F32.isZero (lv.bus e), ms 100)
  else ((List.finRange 24).all (fun g =>
    let q := lv.fc.groups[g]
    !(lv.groupBound g && q.enabled) ||
      F32.lt (F32.abs q.speed) (F32.mul (F32.dec 5 3) (lv.real Obj.groupMaxSpeed g.val))), ms 200)

/-- The standstill condition followed at a tick start (R71, bus entry 377). -/
def Live.stillTick (lv : Live) : Live :=
  if lv.stillCond.1 then
    { lv with au := { lv.au with stillSince := some (lv.au.stillSince.getD lv.start) } }
  else ({ lv with au := { lv.au with stillSince := none, standstill := false } }).setBus 377 0

/-- STANDSTILL_DETECTED: the condition has held for its time (R71); DESCENT ends in SAFE (R70). -/
def Live.stillFound (lv : Live) : Live :=
  match lv.au.stillSince with
  | none => lv
  | some t =>
    if lv.joined && lv.due (t + lv.stillCond.2) then
      let lv := ({ lv with au := { lv.au with standstill := true } }).setBus 377 (F32.ofNat 1)
      if lv.au.ownMode = .descent then lv.toSafe else lv
    else lv

def execStandstillDetected (l : LaneId) (s : State) : Host.Outcome State Fault Refusal :=
  done (onLive l Live.stillFound s)

/-- DESCENT_LIMIT_ELAPSED (R70). -/
def Live.descentOver (lv : Live) : Live :=
  match lv.au.descentEnd with
  | some t => if lv.au.ownMode = .descent ∧ lv.due t = true then lv.toSafe else lv
  | none => lv

def execDescentLimitElapsed (l : LaneId) (s : State) : Host.Outcome State Fault Refusal :=
  done (onLive l Live.descentOver s)

/-! ### Mode requests -/

/-- A refused request (R70, R83). -/
def Live.refuseMode (lv : Live) : Live := { lv with au := { lv.au with refused := satInc lv.au.refused } }

/-- The row that a request takes (R70): the mode, or none. -/
def Live.requestRow (lv : Live) (v : Nat) : Option Mode :=
  match v, lv.au.ownMode with
  | 1, .operational | 1, .reduced => if lv.au.standstill then some .standby else none
  | 1, .safe => if lv.au.standstill && !lv.sfTripped then some .standby else none
  | 2, .standby =>
    if lv.committed && !lv.sfTripped then
      (if lv.runCapables = 3 then some .operational else if lv.runCapables = 2 then some .reduced else none)
    else none
  | 3, .operational | 3, .reduced | 3, .descent => some .safe
  | _, _ => none

/-- A mode request taken (R70). -/
def Live.takeRequest (lv : Live) (v : Nat) : Live :=
  match lv.requestRow v with
  | some m => lv.wantMode m
  | none => lv.refuseMode

/-- A mode request at its apply tick (R58, R69, R81): in a gap only SAFE is taken, at once; the others wait. -/
def Live.modeRequest (lv : Live) (v : Nat) : Live :=
  if !lv.joined then lv
  else if lv.au.gap then
    if v = 3 then (match lv.requestRow 3 with
      | some _ => lv.safeNow
      | none => lv.refuseMode)
    else { lv with au := { lv.au with modePending := some v } }
  else lv.takeRequest v

/-- MODE_REQUEST_STANDBY (R70). -/
def execModeRequestStandby (l : LaneId) (s : State) : Host.Outcome State Fault Refusal :=
  done (onLive l (fun lv => lv.modeRequest 1) s)

/-- MODE_REQUEST_RUN (R70, R421). -/
def execModeRequestRun (l : LaneId) (s : State) : Host.Outcome State Fault Refusal :=
  done (onLive l (fun lv => (s.compareLanes l lv).modeRequest 2) s)

/-- MODE_REQUEST_SAFE (R70). -/
def execModeRequestSafe (l : LaneId) (s : State) : Host.Outcome State Fault Refusal :=
  done (onLive l (fun lv => lv.modeRequest 3) s)

end Sys2Proof.Machine
end

