-- ==== Sys2Proof/Machine/Functions.lean ====
section
/-!
DEFINITION. The safety functions (11_machine_safety.md): channel status, the instances of R325 and R326, their timers,
stop reactions, and safe data over both networks (R322 to R329, R337 to R340).
-/

namespace Sys2Proof.Machine

/-! ### Channel status -/

/-- A two-bit field of a word. -/
def field2 (w n : Nat) : Nat := w / 4 ^ n % 4

/-- The block that stands for a lane at this tick start under the presence rules of R283: the one of the last tick, or
once the one before; the second part says that the copy was replaced. -/
def Live.presentBlock (lv : Live) (o : LaneId) : Option ChannelBlock × Bool :=
  match lv.rxOf o with
  | none => (none, false)
  | some r =>
    if !lv.sees o || r.lost then (none, false)
    else match r.chan with
      | some b => (some b, false)
      | none => (r.chanPrev, r.chanPrev.isSome)

/-- `SINV` of a lane as present (R322). -/
def Live.presentSinv (lv : Live) (o : LaneId) : Option Nat :=
  if o = lv.me then some lv.sf.sinvPrev.toNat else (lv.presentBlock o).1.map (fun b => b.sinv.toNat)

/-- `SDV` of a lane as present (R322). -/
def Live.presentSdv (lv : Live) (o : LaneId) : Option Nat :=
  if o = lv.me then some lv.sf.sdvPrev.toNat else (lv.presentBlock o).1.map (fun b => b.sdv.toNat)

/-- The status of a terminal from its verdict (R322). -/
def termStat (v : Option Nat) (k : Nat) : ChStat :=
  match v with
  | none => .lost
  | some w => match field2 w k with
    | 0 => .opened | 1 => .closed | _ => .lost

/-- The status of a safe-data copy: the smallest value that a present block reports (R322). -/
def copyStat (vs : List Nat) (k : Nat) : ChStat :=
  let xs := vs.map (fun w => field2 w k)
  if xs.contains 0 then .opened else if xs.contains 1 then .closed else .lost

/-- FORM_CHANNEL_STATUS (R322): at a tick start, from the blocks of the tick before. -/
def Live.formStatus (lv : Live) : Live :=
  let sinvs := [lv.presentSinv .a, lv.presentSinv .b, lv.presentSinv .c]
  let sdvs := (allLanes.filterMap lv.presentSdv)
  { lv with sf := { lv.sf with
      term := Vector.ofFn (fun (i : Fin 36) => termStat ((sinvs[i.val / 12]?).getD none) (i.val % 12)),
      sdStat := Vector.ofFn (fun (i : Fin 48) => copyStat sdvs i.val) } }

/-- The status that a source code names, as channel 1 or 2 (R314): 0 open, 1 closed, 2 lost, 3 none. -/
def Live.codeStat (lv : Live) (code : Nat) (second : Bool) : Nat :=
  let num (c : ChStat) : Nat := match c with
    | .opened => 0 | .closed => 1 | .lost => 2
  match code / 4096 with
  | 1 => match lv.sf.term[12 * (code / 1024 % 4) + code % 16]? with
    | some c => if code % 16 < 12 then num c else 2
    | none => 2
  | 2 => match lv.sf.sdStat[2 * (code % 32) + bit1 second]? with
    | some c => num c
    | none => 2
  | _ => 3

/-- The status of the two channels of an instance (R314, R347). -/
def Live.instChans (lv : Live) (i : Nat) : Nat × Nat :=
  let c1 := lv.num Obj.instChannel1 i
  (lv.codeStat c1 false, if c1 / 4096 = 2 then lv.codeStat c1 true else lv.codeStat (lv.num Obj.instChannel2 i) true)

/-- The lock's status; none but a `GUARD` instance has one (R325). -/
def Live.instLock (lv : Live) (i : Nat) : Nat :=
  if 8 ≤ i ∧ i < 16 then lv.codeStat (lv.num Obj.instLockSource i) false else 3

/-- The reset source is active (R324). -/
def Live.resetActive (lv : Live) (i : Nat) : Bool :=
  let c := lv.num Obj.instResetSource i
  match c / 4096 with
  | 1 => lv.codeStat c false == 1
  | 3 => !F32.isZero (lv.bus (c % 1024))
  | _ => false

/-! ### Instances -/

/-- What an evaluation of an instance raises. -/
inductive SfEvent where
  | none
  | locked (cause : Nat)
  | degraded
  deriving DecidableEq, Repr

/-- The inputs of one evaluation. -/
structure SfInput where
  c1     : Nat
  c2     : Nat
  lock   : Nat
  active : Bool     -- the reset source
  auto   : Bool     -- `ResetMode` 1
  rate   : Nat
  disc   : Nat      -- `DiscrepancyTime`, ms
  deg    : Nat      -- `SafetyDegradedTime`, s
  deriving DecidableEq, Repr

/-- The inputs of instance `i` in this tick (R328). -/
def Live.sfInput (lv : Live) (i : Nat) : SfInput :=
  let c := lv.instChans i
  { c1 := c.1, c2 := c.2, lock := lv.instLock i, active := lv.resetActive i,
    auto := decide (lv.num Obj.instResetMode i = 1), rate := lv.num Obj.tickRate,
    disc := lv.num Obj.instDiscrepancyTime i, deg := lv.num Obj.safetyDegradedTime }

/-- `n` ticks last at least `t` ms. -/
def SfInput.lasts (x : SfInput) (n t : Nat) : Bool := decide (t * x.rate ≤ n * 1000)

/-- The reset source has just become inactive after 50 ms to 3 s (R324). -/
def SfInput.released (x : SfInput) (q : InstSt) : Bool :=
  !x.active && x.lasts q.resetFor.toNat 50 && decide (q.resetFor.toNat ≤ 3 * x.rate)

/-- The timers of an `ESTOP`, `GUARD` or `CURTAIN` instance advanced by one tick (R324, R325, R327). The discrepancy
timer counts the ticks of the discrepancy, its first included. -/
def SfInput.timers (x : SfInput) (q : InstSt) : InstSt :=
  let oneLost := decide ((x.c1 = 2 ∧ x.c2 ≠ 2) ∨ (x.c1 ≠ 2 ∧ x.c2 = 2))
  let disc := decide ((x.c1 = 0 ∧ x.c2 = 1) ∨ (x.c1 = 1 ∧ x.c2 = 0))
  { q with
    degRun := q.degRun || oneLost,
    degTimer := if q.degRun then satInc q.degTimer else 0,
    disc := if disc then satInc q.disc else 0,
    resetOn := x.active,
    resetFor := if x.active then satInc q.resetFor else 0,
    bothOpen := q.bothOpen || (decide (q.state = 3) && decide (x.c1 = 0 ∧ x.c2 = 0)) }

/-- Entry into LOCKED (R325, R327). -/
def InstSt.lockWith (q : InstSt) (cause : Nat) : InstSt × SfEvent :=
  ({ q with state := 3, cause := BitVec.ofNat 2 cause, bothOpen := false }, .locked cause)

/-- Entry into CLEAR (R325, R327). -/
def InstSt.clear (q : InstSt) : InstSt × SfEvent :=
  ({ q with state := 1, cause := 0, degRun := false, degTimer := 0 }, .none)

/-- One evaluation of an `ESTOP`, `GUARD` or `CURTAIN` instance: the first row of R325 that matches. -/
def SfInput.step (x : SfInput) (q0 : InstSt) : InstSt × SfEvent :=
  let rel := x.released q0
  let reset := rel || x.auto
  let q := x.timers q0
  let st := q.state.toNat
  let both := decide (x.c1 = 1 ∧ x.c2 = 1)
  let lockOk := decide (x.lock = 1 ∨ x.lock = 3)
  let oneLost := decide ((x.c1 = 2 ∧ x.c2 ≠ 2) ∨ (x.c1 ≠ 2 ∧ x.c2 = 2))
  if st ≠ 3 ∧ x.c1 = 2 ∧ x.c2 = 2 then q.lockWith 2
  else if (st = 2 ∨ st = 0) ∧ q.degRun = true ∧ x.deg * x.rate ≤ q.degTimer.toNat then q.lockWith 3
  else if (st = 1 ∨ st = 2) ∧ (x.c1 = 0 ∨ x.c2 = 0 ∨ lockOk = false) then ({ q with state := 0 }, .none)
  else if st = 1 ∧ oneLost = true then ({ q with state := 2 }, .degraded)
  else if st = 0 ∧ q.disc ≠ 0 ∧ x.lasts (q.disc.toNat - 1) x.disc = true then q.lockWith 1
  else if st = 0 ∧ reset = true ∧ both = true ∧ lockOk = true then q.clear
  else if st = 0 ∧ reset = true ∧ ((x.c1 = 1 ∧ x.c2 = 2) ∨ (x.c1 = 2 ∧ x.c2 = 1)) then ({ q with state := 2 }, .degraded)
  else if st = 2 ∧ reset = true ∧ both = true then q.clear
  else if st = 3 ∧ rel = true ∧ both = true ∧ lockOk = true ∧ q.bothOpen = true then q.clear
  else (q, .none)

/-- The timer and the first channel of a `TWOHAND` instance (R326, R327). -/
def SfInput.handTimers (x : SfInput) (q : InstSt) : InstSt :=
  let n := bit1 (x.c1 == 1) + bit1 (x.c2 == 1)
  if n = 0 then { q with disc := 0, first := 0 }
  else if q.first = 0 then { q with disc := 1, first := if x.c1 = 1 then 1 else 2 }
  else { q with disc := satInc q.disc }

/-- One evaluation of a `TWOHAND` instance (R326). -/
def SfInput.handStep (x : SfInput) (q0 : InstSt) : InstSt × SfEvent :=
  let q := x.handTimers q0
  let st := q.state.toNat
  let bothOpen := decide (x.c1 = 0 ∧ x.c2 = 0)
  let past := q.disc.toNat - 1
  let r : InstSt × SfEvent :=
    if st ≠ 3 ∧ (x.c1 = 2 ∨ x.c2 = 2) then q.lockWith 2
    else if st = 3 ∧ bothOpen = true then ({ q with state := 0, cause := 0 }, .none)
    else if st = 0 ∧ x.c1 = 1 ∧ x.c2 = 1 ∧ q.armed = true ∧ past * 1000 ≤ x.disc * x.rate then
      ({ q with state := 1, armed := false }, .none)
    else if st = 0 ∧ ((x.c1 = 1 ∧ x.c2 = 0) ∨ (x.c1 = 0 ∧ x.c2 = 1)) ∧ x.lasts past x.disc = true then
      ({ q with armed := false }, .none)
    else if st = 1 ∧ (x.c1 = 0 ∨ x.c2 = 0) then ({ q with state := 0 }, .none)
    else (q, .none)
  ({ r.1 with armed := r.1.armed || bothOpen }, r.2)

/-- Type of an instance: `TWOHAND` (R313). -/
def isTwoHand (i : Nat) : Bool := decide (16 ≤ i ∧ i < 20)

/-- A `TWOHAND` instance acts only while its active entry is non-zero (R329). -/
def Live.sfActs (lv : Live) (i : Nat) : Bool :=
  if isTwoHand i then
    let e := lv.num Obj.instActiveEntry i
    decide (e ≠ 65535) && !F32.isZero (lv.bus e)
  else true

/-- The applied state of an instance changed (R323): bus entry 352 + i shows it. -/
def Live.setApplied (lv : Live) (i : Fin 24) (v : Nat) : Live :=
  let old := (lv.sf.appliedInst.toNat / 4 ^ i.val) % 4
  ({ lv with sf := { lv.sf with
    appliedInst := lv.sf.appliedInst + BitVec.ofNat 48 (v * 4 ^ i.val) - BitVec.ofNat 48 (old * 4 ^ i.val) } }).setBus
      (352 + i.val) (F32.ofNat v)

/-- The reaction of an instance that enters TRIPPED or LOCKED as applied (R329). -/
def Live.stopReaction (lv : Live) (i : Fin 24) : Live :=
  if lv.sfActs i.val then
    match lv.num Obj.instStopCategory i.val with
    | 0 => lv.stopDemand 0 true
    | 1 => lv.stopDemand 1 true
    | _ => lv
  else lv

/-- An applied state taken up (R51, R328): the reaction and the outputs follow a trip. -/
def Live.adoptState (lv : Live) (i : Fin 24) (v : Nat) : Live :=
  if lv.sfOn i && decide (lv.sfApplied i ≠ v) then
    let was := lv.sfApplied i
    let lv := lv.setApplied i v
    if isTrip v && !isTrip was then (lv.stopReaction i).soutUpdates else lv
  else lv

/-- The groups that an instance holds under category 2 (R329). -/
def Live.heldBy (lv : Live) (i : Fin 24) : Nat :=
  if lv.sfOn i && isTrip (lv.sfApplied i) && decide (lv.num Obj.instStopCategory i.val = 2) && lv.sfActs i.val then
    lv.num Obj.instHoldGroups i.val
  else 0

/-- A group is held by an instance of category 2 (R329). -/
def Live.groupHeld (lv : Live) (g : Fin 24) : Bool := (List.finRange 24).any (fun i => tbit (lv.heldBy i) g.val)

/-- Category 2 holds begun and ended (R329): a held group runs the controlled stop, a released one goes on. -/
def Live.holds (lv : Live) : Live :=
  let marked := { lv with sf := { lv.sf with
    inst := Vector.ofFn (fun (i : Fin 24) => { lv.sf.inst[i] with hold := decide (lv.heldBy i ≠ 0) }) } }
  forAll 24 (fun g x =>
    let q := x.fc.groups[g]
    if lv.groupHeld g then (if q.stop.isNone && q.enabled then x.startStop g .category2 else x)
    else if q.stop = some .category2 then
      let y := x.modGroup g (fun z => { z with stop := none, stopped := false })
      { y with en := { y.en with slots := y.en.slots.mapWith {} (fun n q =>
          if y.num Obj.slotGroup n = g.val then { q with hold := none } else q) } }
    else x) marked

/-- One instance evaluated (R328): its new state, its events; a trip is applied at once. -/
def Live.evalInst (lv : Live) (i : Fin 24) : Live :=
  if !lv.sfOn i then lv
  else
    let q := lv.sf.inst[i]
    let x := lv.sfInput i.val
    let r := if isTwoHand i.val then x.handStep q else x.step q
    let lv := { lv with sf := { lv.sf with inst := vmod lv.sf.inst i (fun _ => r.1) } }
    let lv := match r.2 with
      | .none => lv
      | .locked c => lv.raise (312 + i.val) noUnit (BitVec.ofNat 32 c)
      | .degraded => lv.raise 342 i.val
    if r.1.state ≠ q.state ∧ isTrip r.1.state.toNat = true then lv.adoptState i r.1.state.toNat else lv

/-- The safety evaluation of slot 191 (R328, R331, R345). -/
def Live.safetyEval (lv : Live) : Live := (forAll 24 (fun i x => x.evalInst i) lv).holds.soutUpdates

/-- The states as computed, for `SFSTATE` (R25, R323). -/
def Live.sfComputed (lv : Live) : BitVec 48 :=
  BitVec.ofNat 48 ((List.finRange 24).map (fun i =>
    (if lv.sfOn i then (lv.sf.inst[i]).state.toNat else 1) * 4 ^ i.val)).sum

/-- The states of Lead's record applied (R51, R328). -/
def Live.applyStates (lv : Live) (w : BitVec 48) : Live :=
  (forAll 24 (fun i x => x.adoptState i (field2 w.toNat i.val)) lv).holds

/-- DEGRADED_TIMER_ELAPSED: a degraded timer at `SafetyDegradedTime` locks the instance (R325, R327). -/
def Live.degElapsed (lv : Live) (i : Fin 24) : Live :=
  let q := lv.sf.inst[i]
  if lv.running && lv.sfOn i && !isTwoHand i.val && q.degRun && decide (q.state = 0 ∨ q.state = 2)
      && decide (lv.num Obj.safetyDegradedTime * lv.num Obj.tickRate ≤ q.degTimer.toNat) then
    let r := q.lockWith 3
    let lv := { lv with sf := { lv.sf with inst := vmod lv.sf.inst i (fun _ => r.1) } }
    ((lv.raise (312 + i.val) noUnit 3).adoptState i 3).holds.soutUpdates
  else lv

def execDegradedTimerElapsed (l : LaneId) (i : Fin 24) (s : State) : Host.Outcome State Fault Refusal :=
  done (onLive l (fun lv => lv.degElapsed i) s)

/-- DISCREPANCY_TIMEOUT: a discrepancy that has lasted `DiscrepancyTime` locks a tripped instance (R325); a `TWOHAND`
instance whose second channel stayed open is disarmed (R326). -/
def Live.discElapsed (lv : Live) (i : Fin 24) : Live :=
  let q := lv.sf.inst[i]
  let x := lv.sfInput i.val
  if lv.running && lv.sfOn i && decide (q.state = 0) && decide (q.disc ≠ 0) && x.lasts (q.disc.toNat - 1) x.disc then
    if isTwoHand i.val then
      if x.c1 = 1 ∧ x.c2 = 1 then lv
      else { lv with sf := { lv.sf with inst := vmod lv.sf.inst i (fun z => { z with armed := false }) } }
    else
      let r := q.lockWith 1
      let lv := { lv with sf := { lv.sf with inst := vmod lv.sf.inst i (fun _ => r.1) } }
      ((lv.raise (312 + i.val) noUnit 1).adoptState i 3).holds.soutUpdates
  else lv

def execDiscrepancyTimeout (l : LaneId) (i : Fin 24) (s : State) : Host.Outcome State Fault Refusal :=
  done (onLive l (fun lv => lv.discElapsed i) s)

/-! ### State words -/

/-- State word `w` of an instance (R327). -/
def InstSt.word (q : InstSt) : Nat → Word
  | 0 => BitVec.ofNat 32 (q.state.toNat + bitAt q.armed 2 + bitAt q.bothOpen 3 + q.cause.toNat * 2 ^ 4
      + q.first.toNat * 2 ^ 6 + bitAt q.degRun 8 + bitAt q.resetOn 9 + bitAt q.hold 10)
  | 1 => q.degTimer
  | 2 => q.disc
  | _ => q.resetFor

/-- A state word loaded (R67, R327). -/
def InstSt.load (q : InstSt) (w : Nat) (v : Word) : InstSt :=
  match w with
  | 0 => { q with
      state := v.setWidth 2, armed := v.getLsbD 2, bothOpen := v.getLsbD 3, cause := (v >>> 4).setWidth 2,
      first := (v >>> 6).setWidth 2, degRun := v.getLsbD 8, resetOn := v.getLsbD 9, hold := v.getLsbD 10 }
  | 1 => { q with degTimer := v }
  | 2 => { q with disc := v }
  | _ => { q with resetFor := v }

/-! ### Safe data -/

/-- A field of a `SafeDataInputs` entry (R352). -/
def Live.sdIn (lv : Live) (i off len : Nat) : Nat := natAt (lv.bytes Obj.safeDataInputs) (12 * i + off) len

/-- An input is used (R352). -/
def Live.sdUsed (lv : Live) (i : Nat) : Bool := decide (lv.sdIn i 0 2 ≠ 0xFFFF)

/-- `SDV` as it stands (R321). -/
def Live.sdv (lv : Live) : BitVec 96 :=
  let code (i : Nat) (c : SdCopy) : Nat := if !lv.sdUsed i then 3 else if c.lost then 2 else
    match c.value with
    | some b => bit1 b
    | none => 2
  BitVec.ofNat 96 ((List.finRange 24).map (fun i =>
    let p := lv.sf.sd[i]
    (code i.val p.1 + 4 * code i.val p.2) * 16 ^ i.val)).sum

/-- A copy of a safe-data input. -/
def pickCopy (p : SdCopy × SdCopy) (b : Bool) : SdCopy := if b then p.2 else p.1

/-- A copy changed. -/
def Live.modCopy (lv : Live) (i : Fin 24) (b : Bool) (f : SdCopy → SdCopy) : Live :=
  { lv with sf := { lv.sf with sd := vmod lv.sf.sd i (fun p => if b then (p.1, f p.2) else (f p.1, p.2)) } }

/-- The data ID and the block as the check-value unit sees them (R337). -/
def sdCrcOk (id : Nat) (blk : List Byte) : Bool :=
  decide (crc32c (leBytes 2 id ++ slice blk 0 12) = BitVec.ofNat 32 (natAt blk 12 4))

/-- The alive check of R342: accepted, given the last accepted value. -/
def aliveOk (last : Option Byte) (v : Byte) (skip : Nat) : Bool :=
  match last with
  | none => true
  | some x => let d := (v - x).toNat
    decide (d = 1 ∨ (2 ≤ d ∧ d ≤ 1 + skip))

/-- The lane's check-value unit of an input: unit `i` of the resident units, where there is one (R343). -/
def Live.sdUnit (lv : Live) (i : Fin 24) : Option (Fin 16) :=
  let used := (List.range i.val).countP lv.sdUsed
  if h : used < 16 then (if used < lv.num Obj.residentUnits then some ⟨used, h⟩ else none) else none

/-- A copy of a safe-data block from a source entry on one channel, as delivered (R339): checks in order, an alive
rejection counts in `AliveRejects` (R342); valid copies of different entries must be equal. The alive value is judged
against the last one accepted in an earlier cycle, so that the entries of one cycle carry the same value (R338). -/
def Live.sdArrive (lv : Live) (i : Fin 24) (chB : Bool) (payload : List Byte) : Live :=
  let blk := slice payload (lv.sdIn i.val 6 2) 16
  let c := pickCopy lv.sf.sd[i] chB
  let inj := match lv.sdUnit i with
    | some u => lv.injected (85 + u.val)
    | none => (none, lv)
  let lv := inj.2
  if !sdCrcOk (lv.sdIn i.val 8 2) blk || inj.1.isSome then { lv with sf := { lv.sf with expMis := satInc lv.sf.expMis } }
  else if natAt blk 1 1 ≠ 1 then lv
  else if !aliveOk c.alive (BitVec.ofNat 8 (natAt blk 0 1)) (lv.sdIn i.val 11 1) then
    { lv with sf := { lv.sf with aliveRej := satInc lv.sf.aliveRej } }
  else if c.valid || c.clash then
    (if c.block = blk then lv else lv.modCopy i chB (fun x => { x with valid := false, clash := true }))
  else lv.modCopy i chB (fun x => { x with valid := true, block := blk })

/-- A copy at the end of its cycle: the alive value that was accepted in it becomes the last (R342). -/
def SdCopy.ended (c : SdCopy) : SdCopy :=
  { c with valid := false, clash := false, block := [],
           alive := if c.block = [] then c.alive else some (BitVec.ofNat 8 (natAt c.block 0 1)) }

/-- SAFE_DATA_JUDGE (R340): the two copies of an input compared at the end of their acceptance windows. -/
def Live.sdJudge (lv : Live) (i : Fin 24) : Live :=
  let p := lv.sf.sd[i]
  let bit := lv.sdIn i.val 10 1
  let take (blk : List Byte) : Option Bool := some (tbit (natAt blk 2 8) bit)
  match p.1.valid, p.2.valid with
  | true, true =>
    if p.1.block = p.2.block then
      let ok (c : SdCopy) : SdCopy := { c.ended with value := take c.block, age := 0, lost := false }
      (lv.modCopy i false ok).modCopy i true ok
    else
      let lv := (lv.modCopy i false SdCopy.ended).modCopy i true SdCopy.ended
      ({ lv with sf := { lv.sf with safeMis := satInc lv.sf.safeMis } }).raise 340 i.val
  | a, b =>
    let one (v : Bool) (c : SdCopy) : SdCopy :=
      if v then { c.ended with value := take c.block, age := 0, lost := false } else c.ended
    (lv.modCopy i false (one a)).modCopy i true (one b)

/-- SAFE_DATA_TIMEOUT: no accepted value for `SafeTimeout` cycles, counted by cycle starts (R340, R344). -/
def Live.sdTimeout (lv : Live) (i : Fin 24) (copyB : Bool) : Live :=
  let c := pickCopy lv.sf.sd[i] copyB
  if lv.sdUsed i.val && !c.lost && decide (lv.num Obj.safeTimeout < c.age) then
    let lv := lv.modCopy i copyB (fun x => { x with lost := true })
    (lv.countFault .safeDataCopy lv.me (2 * i.val + bit1 copyB)).raise 341 i.val (BitVec.ofNat 32 (bit1 copyB))
  else lv

def execSafeDataTimeout (l : LaneId) (input : Fin 24) (copyB : Bool) (s : State) : Host.Outcome State Fault Refusal :=
  done (onLive l (fun lv => lv.sdTimeout input copyB) s)

/-- A field of a `SafeDataOutputs` entry (R352). -/
def Live.sdOut (lv : Live) (j off len : Nat) : Nat := natAt (lv.bytes Obj.safeDataOutputs) (24 * j + off) len

/-- `DATA` of a safe-data output, from applied, agreed values (R337, R338). -/
def Live.sdData (lv : Live) (j : Nat) : Nat :=
  let clear := ((List.finRange 24).map (fun i =>
    bitAt (decide (lv.sfApplied i = 1 ∨ lv.sfApplied i = 2) && lv.sfOn i) i.val)).sum
  let ents := ((List.range 8).map (fun k =>
    let e := lv.sdOut j (8 + 2 * k) 2
    bitAt (decide (e ≠ 0xFFFF) && !F32.isZero (lv.bus e)) (32 + k))).sum
  clear + lv.au.mode.code * 2 ^ 24 + ents

/-- The 16 bytes of a safe-data output for an alive value (R337). -/
def Live.sdBlock (lv : Live) (j alive : Nat) : List Byte :=
  let body := leBytes 1 alive ++ [1] ++ leBytes 8 (lv.sdData j) ++ [0, 0]
  body ++ wordBytes (crc32c (leBytes 2 (lv.sdOut j 4 2) ++ body))

/-- CLEAR_CVU_COUNTERS (R351). -/
def Live.clearCvu (lv : Live) (v : Byte) : Live :=
  lv.onZero v (fun x => { x with sf := { x.sf with expMis := 0, aliveRej := 0 } })

def execClearCvuCounters (l : LaneId) (v : Byte) (s : State) : Host.Outcome State Fault Refusal :=
  done (onLive l (fun lv => lv.clearCvu v) s)

/-- CLEAR_SAFE_DATA_COUNTERS (R351). -/
def Live.clearSafeData (lv : Live) (v : Byte) : Live :=
  lv.onZero v (fun x => { x with sf := { x.sf with safeMis := 0 } })

def execClearSafeDataCounters (l : LaneId) (v : Byte) (s : State) : Host.Outcome State Fault Refusal :=
  done (onLive l (fun lv => lv.clearSafeData v) s)

end Sys2Proof.Machine
end

