-- ==== Sys2Proof/Machine/Jalsyn.lean ====
section
/-!
DEFINITION. Jalsyn (12_jalsyn_network.md): the schedule table, reception and delivery, transmission, references and
the clock servo, launch and integration, channel loss, cycle-point events.
-/

namespace Sys2Proof.Machine

/-! ### Channels and time -/

/-- A channel. -/
def Live.chan (lv : Live) : Chan → ChanSt
  | .a => lv.jn.chA | .b => lv.jn.chB

/-- A channel changed. -/
def Live.modChan (lv : Live) (c : Chan) (f : ChanSt → ChanSt) : Live :=
  match c with
  | .a => { lv with jn := { lv.jn with chA := f lv.jn.chA } }
  | .b => { lv with jn := { lv.jn with chB := f lv.jn.chB } }

/-- The other channel. -/
def otherChan : Chan → Chan
  | .a => .b | .b => .a

/-- A counter of a channel (R382). -/
def Live.countOn (lv : Live) (c : Chan) (f : ChanCount → ChanCount) : Live :=
  lv.modChan c (fun x => { x with cnt := f x.cnt })

/-- Jalsyn changed. -/
def Live.modNet (lv : Live) (f : NetSt → NetSt) : Live := { lv with jn := f lv.jn }

/-- The lane's Jalsyn ports are on (R63, R420). -/
def Live.netOn (lv : Live) : Bool := !lv.jn.portsOff && decide (lv.phase = .loaded ∨ lv.phase = .joined)

/-- Synchronised: `SYNC` or `SILENT` (R374, R375). -/
def Live.synced (lv : Live) : Bool := decide (lv.jn.sync = .sync ∨ lv.jn.sync = .silent)

/-- The lane transmits: synchronised and not silent (R364). -/
def Live.transmits (lv : Live) : Bool := lv.netOn && decide (lv.jn.sync = .sync)

/-- The Jalsyn cycle Tc, ns (R359). -/
def Live.cycleNs (lv : Live) : Nat := lv.num Obj.cycleTicks * 1000000000 / lv.num Obj.tickRate

/-- A byte time of a channel, ns (R357). -/
def Live.byteNs (lv : Live) (c : Chan) : Nat :=
  if lv.num (match c with | .a => Obj.phyRateA | .b => Obj.phyRateB) = 0 then 8 else 80

/-- The wire time of a payload length, ns (R357). -/
def Live.wireNs (lv : Live) (c : Chan) (len : Nat) : Nat := (48 + max len 38) * lv.byteNs c

/-- The frame's time from its start delimiter to its end, in 10 ns units: header, payload, pad and FCS (R356). -/
def Live.frameUnits (lv : Live) (c : Chan) (len : Nat) : Nat := (28 + max len 38) * lv.byteNs c / 10

/-! ### The schedule table -/

/-- A field of a schedule entry (R360). -/
def Live.ent (lv : Live) (e off len : Nat) : Nat := natAt (lv.bytes Obj.scheduleTable) (16 * e + off) len

def Live.entOffset (lv : Live) (e : Nat) : Nat := lv.ent e 0 4 % 2 ^ 20
def Live.entLength (lv : Live) (e : Nat) : Nat := lv.ent e 4 2
def Live.entFrame (lv : Live) (e : Nat) : Nat := lv.ent e 6 2
def Live.entBuf (lv : Live) (e : Nat) : Nat := lv.ent e 8 2 % 1024
def Live.entGuard (lv : Live) (e : Nat) : Nat := lv.ent e 10 1
def Live.entBoth (lv : Live) (e : Nat) : Bool := tbit (lv.ent e 11 1) 2
def Live.entDir (lv : Live) (e : Nat) : Nat := bits (lv.ent e 11 1) 4 3
def Live.entBase (lv : Live) (e : Nat) : Nat := lv.ent e 12 1
def Live.entRep (lv : Live) (e : Nat) : Nat := lv.ent e 13 1
def Live.entMax (lv : Live) (e : Nat) : Nat := lv.ent e 14 2

/-- A channel is in an entry's mask (R360). -/
def Live.entOn (lv : Live) (e : Nat) (c : Chan) : Bool := tbit (lv.ent e 11 1) c.num

/-- An entry receives: direction 1 or 3 (R360). -/
def Live.entRx (lv : Live) (e : Nat) : Bool := decide (lv.entDir e % 2 = 1)

/-- An entry is an event entry (R365). -/
def Live.entEvent (lv : Live) (e : Nat) : Bool := decide (2 ≤ lv.entDir e)

/-- An entry is enabled: `LENGTH` is not 0 and no parity error disables it (R360, R378). -/
def Live.entEnabled (lv : Live) (e : Nat) : Bool := decide (lv.entLength e ≠ 0) && !(lv.jn.parityBad.read false e)

/-- An entry is enabled and active in the present cycle (R360). -/
def Live.entActive (lv : Live) (e : Nat) : Bool :=
  lv.entEnabled e && decide (lv.jn.cycle.toNat % lv.entRep e = lv.entBase e)

/-- The end of an entry's acceptance window, cycle time in 10 ns units (R363). -/
def Live.entEnd (lv : Live) (e : Nat) : Nat := lv.entOffset e + lv.entLength e + lv.entGuard e

/-- A frame lies within the windows of an entry (R363). -/
def Live.inWindows (lv : Live) (e : Nat) (f : JalsynFrame) : Bool :=
  decide ((lv.entOffset e : Int) - lv.entGuard e ≤ f.start ∧ f.start ≤ lv.entOffset e + lv.entGuard e
    ∧ f.stop < lv.entEnd e)

/-- The entries of a table. -/
def Live.entCount (lv : Live) : Nat := (lv.bytes Obj.scheduleTable).length / 16

/-- What an entry has seen in this cycle. -/
def Live.entCyc (lv : Live) (e : Nat) : EntryCyc := lv.jn.entries.read {} e

/-- What an entry has seen, changed. -/
def Live.modEnt (lv : Live) (e : Nat) (f : EntryCyc → EntryCyc) : Live :=
  { lv with jn := { lv.jn with entries := lv.jn.entries.write {} e (f (lv.entCyc e)) } }

/-- One byte of an entry's counter counted, saturating (R380): 0 empty A, 1 empty B, 2 window violations, 3 unequal. -/
def Live.countEnt (lv : Live) (e k : Nat) : Live :=
  let v := lv.jn.slotCnt.read 0 e
  if (v.toNat / 256 ^ k) % 256 = 255 then lv
  else { lv with jn := { lv.jn with slotCnt := lv.jn.slotCnt.write 0 e (v + BitVec.ofNat 32 (256 ^ k)) } }

/-- The parity check of an entry that is used (checker 101, R378): an injected error disables the entry for this
cycle. -/
def Live.parityCheck (lv : Live) (e : Nat) : Live :=
  match lv.injected 101 with
  | (some r, l2) =>
    ({ l2 with jn := { l2.jn with parityBad := l2.jn.parityBad.write false e true } }).raiseBy 279 e 0 (some r)
  | (none, l2) => l2

/-! ### Buffers -/

/-- A buffer. -/
def Live.buf (lv : Live) (b : Nat) : BufSt := lv.jn.bufs.read {} b

/-- A buffer changed. -/
def Live.modBuf (lv : Live) (b : Nat) (f : BufSt → BufSt) : Live :=
  { lv with jn := { lv.jn with bufs := lv.jn.bufs.write {} b (f (lv.buf b)) } }

/-- A payload delivered to a buffer: the page not in use is written and becomes the page in use (R366, R369, R469). -/
def Live.deliver (lv : Live) (b : Nat) (payload : List Byte) (c : Chan) : Live :=
  let lv := lv.modBuf b (fun q => { q with
    page := q.data, data := payload, slen := payload.length, fresh := true, chanB := decide (c = .b),
    cycle := lv.jn.cycle })
  { lv with sc := { lv.sc with threads := lv.sc.threads.mapDflt {} (fun t =>
    if t.jsnSel.toNat = b then { t with jsnSince := min 2 (t.jsnSince + 1) } else t) } }

/-- A delivery in the same cycle replaced by the copy of channel A that counts as first (R366, R379). -/
def Live.redeliver (lv : Live) (b : Nat) (payload : List Byte) : Live :=
  lv.modBuf b (fun q => { q with data := payload, slen := payload.length, fresh := true, chanB := false })

/-! ### Silence and the servo -/

/-- The smallest `GUARD` of an enabled transmit entry, 10 ns units (R373). -/
def Live.txGuard (lv : Live) : Option Nat :=
  (List.range lv.entCount).foldl (fun m e =>
    if lv.entEnabled e && !lv.entRx e then some (min (m.getD (lv.entGuard e)) (lv.entGuard e)) else m) none

/-- |o| beyond a fraction 1/k of the smallest transmit guard (R373). -/
def Live.beyond (lv : Live) (o : Int) (k : Nat) : Bool :=
  match lv.txGuard with
  | none => false
  | some g => decide (g * 10 < o.natAbs * k)

/-- LANE_SILENT (R373). -/
def Live.fallSilent (lv : Live) (syn : Nat) : Live :=
  ({ lv with jn := { lv.jn with sync := .silent, goodRefs := 0, resume := false, reint := satInc lv.jn.reint } }).raise
    274 noUnit (BitVec.ofNat 32 syn)

/-- The silent condition and the recovery after a reference with offset `o` (R373). -/
def Live.judgeOffset (lv : Live) (o : Int) : Live :=
  match lv.jn.sync with
  | .sync =>
    if lv.beyond o 2 then lv.fallSilent 1 else if lv.jn.rateFault then lv.fallSilent 2 else lv
  | .silent =>
    let good := !lv.beyond o 4 && !lv.jn.rateFault
    let n := if good then lv.jn.goodRefs + 1 else 0
    { lv with jn := { lv.jn with goodRefs := n, resume := lv.jn.resume || decide (2 ≤ n) } }
  | _ => lv

/-- A rate correction held to ±500 ppm, and whether it met the limit (R372). -/
def clampRho (r : Int) : Int × Bool :=
  if 500000 < r then (500000, true) else if r < -500000 then (-500000, true) else (r, false)

/-- CLOCK_SERVO_UPDATE (R372): the offset `o` of the cycle's references steers the local time; in STANDBY it is
removed at once, otherwise at most 10 ns per tick. -/
def Live.servo (lv : Live) (o : Int) : Live :=
  let d := o - lv.jn.rPrev
  let r := clampRho (lv.jn.rho - d * 1000000000 / (2 * lv.cycleNs))
  let base := lv.globalAt lv.clk
  let lv := { lv with jn := { lv.jn with gbase := base, cbase := lv.clk, offset := o, rho := r.1, rateFault := r.2,
                                         servoed := true } }
  let lv := if lv.standby then
      { lv with jn := { lv.jn with gbase := lv.jn.gbase - o, rPrev := 0 }, tk := { lv.tk with offset := 0 } }
    else { lv with jn := { lv.jn with rPrev := o }, tk := { lv.tk with offset := o } }
  lv.judgeOffset o

/-- The offset of a reference: positive when the lane runs ahead (R372). -/
def RefFrame.offsetNs (r : RefFrame) : Int := r.start - r.txOffset.toNat * 10 - r.cycleStart.toNat

/-- The references taken in this cycle used by the servo (R372). -/
def Live.useRefs (lv : Live) : Live :=
  if lv.jn.servoed then lv
  else match lv.jn.chA.taken, lv.jn.chB.taken with
    | some a, some b =>
      let x := a.offsetNs
      let y := b.offsetNs
      if (x - y).natAbs ≤ 100 then ({ lv with jn := { lv.jn with disagree := 0 } }).servo ((x + y) / 2)
      else if a.rank < b.rank then ({ lv with jn := { lv.jn with disagree := 0 } }).servo x
      else if b.rank < a.rank then ({ lv with jn := { lv.jn with disagree := 0 } }).servo y
      else { lv with jn := { lv.jn with servoed := true, disagree := lv.jn.disagree + 1, refDis := satInc lv.jn.refDis } }
    | some a, none => ({ lv with jn := { lv.jn with disagree := 0 } }).servo a.offsetNs
    | none, some b => ({ lv with jn := { lv.jn with disagree := 0 } }).servo b.offsetNs
    | none, none => lv

/-- REFERENCE_DISAGREEMENT: three consecutive cycles of disagreement (R372). -/
def Live.refDisagree (lv : Live) : Live :=
  if lv.netOn && decide (3 ≤ lv.jn.disagree) then
    let diff := match lv.jn.chA.taken, lv.jn.chB.taken with
      | some a, some b => (a.offsetNs - b.offsetNs).natAbs
      | _, _ => 0
    ({ lv with jn := { lv.jn with disagree := 0 } }).raise 276 noUnit (BitVec.ofNat 32 (min diff 0xFFFFFFFF))
  else lv

def execReferenceDisagreement (l : LaneId) (s : State) : Host.Outcome State Fault Refusal :=
  done (onLive l Live.refDisagree s)

/-! ### Launch and integration -/

/-- The lane is master-capable (R371). -/
def Live.masterCapable (lv : Live) : Bool := decide (lv.num Obj.masterRank < 4)

/-- The launch delay D, 10 ns units (R375). -/
def Live.launchDelay (lv : Live) : Nat :=
  lv.num Obj.masterRank * lv.num Obj.launchStep * 100 + lv.num Obj.nodeId * 20

/-- LISTEN entered within a cycle: the period of `n` cycles begins at the next cycle start (R375). -/
def Live.toListen (lv : Live) (n : Nat) : Live :=
  { lv with jn := { lv.jn with sync := .listen, listenLeft := n + 1, launches := 0, firstRef := none, resume := false,
                               goodRefs := 0 },
            tk := { lv.tk with onJalsyn := false } }

/-- LAUNCH_COLLISION (R375): the other node's ID, or none for an FCS error. -/
def Live.collide (lv : Live) (c : Chan) (node : Option Nat) : Live :=
  let b := match node with
    | some n => bit1 (decide (n < lv.num Obj.nodeId))
    | none => 0
  let lv := (lv.toListen (2 + 2 * lv.num Obj.masterRank + b)).countOn c (fun x => { x with collide := satInc x.collide })
  lv.raise 277 c.num (BitVec.ofNat 32 (node.getD 255))

/-- A reference frame as the receiver reads it (R370); none where the frame is not laid out as one. -/
def asRef (f : JalsynFrame) : Option RefFrame :=
  if f.ref = true ∧ f.payload.length = 24 then
    some { cycleStart := BitVec.ofNat 64 (natAt f.payload 0 8), txOffset := BitVec.ofNat 32 (natAt f.payload 8 4),
           cycleLen := BitVec.ofNat 32 (natAt f.payload 12 4), schedId := BitVec.ofNat 32 (natAt f.payload 16 4),
           rank := natAt f.payload 20 1 % 4, node := f.node.toNat, cycle := f.cycle, launch := f.launch,
           start := f.gstart }
  else none

/-- Why a reference's network does not fit: 0 it fits, 1 cycle length, 2 schedule ID (R38, R375). -/
def Live.refMisfit (lv : Live) (r : RefFrame) : Nat :=
  if r.cycleLen.toNat * 10 ≠ lv.cycleNs then 1
  else if r.schedId.toNat ≠ lv.num Obj.scheduleId then 2 else 0

/-- Two references are consistent (R376). -/
def Live.consistent (lv : Live) (x y : RefFrame) : Bool :=
  decide (y.cycle = x.cycle + 1) &&
    decide (((y.cycleStart.toNat : Int) - x.cycleStart.toNat - y.cycleLen.toNat * 10).natAbs ≤ 1000) &&
    decide (lv.refMisfit x = 0) && decide (lv.refMisfit y = 0)

/-- INTEGRATION completed by a second reference (R375, R376, R36): global time, cycle counter and rho are taken. -/
def Live.integrate (lv : Live) (x y : RefFrame) : Live :=
  let o := y.offsetNs
  let r := clampRho (lv.jn.rho - (o - x.offsetNs) * 1000000000 / lv.cycleNs)
  let now := lv.globalAt lv.clk
  let lv := { lv with jn := { lv.jn with
    sync := .sync, everSync := true, cycle := y.cycle, grid := y.cycleStart.toNat, cbase := lv.clk, gbase := now - o,
    rho := r.1, rateFault := r.2, rPrev := 0, offset := 0, firstRef := none, refuse := 0, servoed := true } }
  let t : Int := 1000000000 / lv.num Obj.tickRate
  let ph := (lv.globalAt lv.start - lv.jn.grid) % t
  let off := if ph * 2 ≤ t then ph else ph - t
  { lv with tk := { lv.tk with onJalsyn := true, offset := if lv.standby then 0 else off } }

/-- A valid reference while integrating (R375, R376). -/
def Live.integrating (lv : Live) (c : Chan) (r : RefFrame) : Live :=
  let m := lv.refMisfit r
  if m ≠ 0 then
    ({ lv with jn := { lv.jn with sync := .refused, refuse := BitVec.ofNat 2 m, firstRef := none } }).raise 278 c.num
      (BitVec.ofNat 32 m)
  else match lv.jn.firstRef with
    | some x => if lv.consistent x r then lv.integrate x r else { lv with jn := { lv.jn with firstRef := some r } }
    | none => { lv with jn := { lv.jn with firstRef := some r } }

/-- A synchronised lane takes the first valid reference of a channel in its guard (R371). -/
def Live.takeRef (lv : Live) (c : Chan) (f : JalsynFrame) (r : RefFrame) : Live :=
  if (lv.chan c).taken = none ∧ (f.start - r.txOffset.toNat).natAbs * 10 ≤ lv.num Obj.refGuard then
    let lv := lv.modChan c (fun x => { x with taken := some r })
    let lv := { lv with jn := { lv.jn with mRank := BitVec.ofNat 2 r.rank, mNode := BitVec.ofNat 6 r.node } }
    if (lv.chan (otherChan c)).taken.isSome || (lv.chan (otherChan c)).lost then lv.useRefs else lv
  else lv

/-- REFERENCE_FRAME_RECEIVED (R371, R375, R379). -/
def Live.refReceived (lv : Live) (c : Chan) (f : JalsynFrame) (r : RefFrame) : Live :=
  let lv := lv.modChan c (fun x => { x with refHere := true })
  match lv.jn.sync with
  | .listen | .wait => { lv with jn := { lv.jn with sync := .integrating, firstRef := some r } }
  | .integrating => lv.integrating c r
  | .launch => if r.node = lv.num Obj.nodeId then lv else lv.collide c (some r.node)
  | .sync | .silent => lv.takeRef c f r
  | .refused => lv

/-! ### Reception -/

/-- The receive entry that a frame belongs to (R358): enabled, active, of its channel, `FRAMEID` = `SLOT`; where
several are, one whose windows hold it. -/
def Live.entryFor (lv : Live) (c : Chan) (f : JalsynFrame) : Option Nat :=
  let cand := (List.range lv.entCount).filter (fun e =>
    lv.entActive e && lv.entRx e && lv.entOn e c && decide (lv.entFrame e = f.slot.toNat))
  match cand.find? (fun e => lv.inWindows e f) with
  | some e => some e
  | none => cand.head?

/-- The entries of a safe-data input that are used (R352). -/
def Live.sdSources (lv : Live) (i : Nat) : List Nat :=
  ([0, 2, 4].map (fun k => lv.sdIn i k 2)).filter (fun e => decide (e < 2048))

/-- Every safe-data input that names an entry takes the copy (R339). -/
def Live.sdArrivals (lv : Live) (e : Nat) (c : Chan) (payload : List Byte) : Live :=
  forAll 24 (fun i x =>
    if x.sdUsed i.val && (x.sdSources i.val).contains e then x.sdArrive i (decide (c = .b)) payload else x) lv

/-- A valid copy for a `FIRST` entry (R366, R379). -/
def Live.firstCopy (lv : Live) (e : Nat) (c : Chan) (f : JalsynFrame) : Live :=
  let q := lv.entCyc e
  let b := lv.entBuf e
  let note (x : Live) : Live := x.modEnt e (fun z => match c with
    | .a => { z with gotA := true, dataA := f.payload }
    | .b => { z with gotB := true, endB := some f.stop, dataB := f.payload })
  let second (on : Chan) (x : Live) (differ : Bool) : Live := x.countOn on (fun n => { n with
    second := satInc n.second, differ := if differ then satInc n.differ else n.differ })
  match c, q.gotA, q.gotB with
  | _, false, false => (note lv).deliver b f.payload c
  | .a, false, true =>
    if (f.stop - q.endB.getD 0).natAbs ≤ 1 then
      second .b ((note lv).redeliver b f.payload) (decide (f.payload ≠ q.dataB))
    else second .a (note lv) (decide (f.payload ≠ q.dataB))
  | .b, true, false => second .b (note lv) (decide (f.payload ≠ q.dataA))
  | _, _, _ => second c lv (decide (f.payload ≠ (lv.buf b).data))

/-- A valid copy for a `BOTH` entry (R367): copy A to buffer b, copy B to buffer b + 1. -/
def Live.bothCopy (lv : Live) (e : Nat) (c : Chan) (f : JalsynFrame) : Live :=
  let lv := lv.modEnt e (fun z => match c with
    | .a => { z with gotA := true, dataA := f.payload }
    | .b => { z with gotB := true, endB := some f.stop, dataB := f.payload })
  (lv.deliver (lv.entBuf e + c.num) f.payload c).sdArrivals e c f.payload

/-- A health frame of another lane of this device, recognised by its serial number (R61, R84). -/
def ownDevice (serial payload : List Byte) (me : LaneId) : Bool :=
  decide (49 ≤ payload.length) && decide (slice payload 1 12 = slice serial 0 12)
    && decide (natAt payload 0 1 < 3 ∧ natAt payload 0 1 ≠ me.num)

/-- A health frame heard while the lane is lone: the lane is the isolated one and withdraws (R61). -/
def Live.heardHealth (lv : Live) (e : Nat) (serial payload : List Byte) : Live :=
  if lv.au.loneSince.isSome && decide (lv.entBuf e = 513 ∨ lv.entBuf e = 514) && ownDevice serial payload lv.me then
    ({ lv with au := { lv.au with loneHeard := true } }).withdraw
  else lv

/-- A valid frame of any kind (R354, R374, R382). -/
def Live.validFrame (lv : Live) (c : Chan) (f : JalsynFrame) : Live :=
  let lv := (lv.modChan c (fun x => { x with heard := true })).countOn c (fun n => { n with
    framesRx := satInc n.framesRx })
  if f.node.toNat = lv.num Obj.nodeId then
    (lv.countOn c (fun n => { n with dup := satInc n.dup })).raise 281 c.num
  else lv

/-- JALSYN_FRAME_RECEIVED: the checks of R358 in order, then delivery. An injection on checker 79 or 80 inverts the
received FCS (R302). -/
def Live.frameRx (lv : Live) (c : Chan) (f : JalsynFrame) (serial : List Byte) : Live :=
  let unknown (x : Live) : Live := x.countOn c (fun n => { n with unknown := satInc n.unknown })
  let inj := lv.injected (79 + c.num)
  if !lv.netOn then lv
  else if !f.fcsOk || inj.1.isSome then
    let lv := inj.2.countOn c (fun n => { n with fcs := satInc n.fcs })
    if lv.jn.sync = .launch ∧ f.stop ≤ 400 * lv.num Obj.backupDelay then lv.collide c none else lv
  else if !f.headerOk || decide (1400 < f.payload.length) then unknown lv
  else if f.slot = 0 then
    match asRef f with
    | some r => (lv.validFrame c f).refReceived c f r
    | none => unknown lv
  else match lv.entryFor c f with
    | none => unknown lv
    | some e =>
      let lv := lv.parityCheck e
      if !lv.entEnabled e then unknown lv
      else if f.cycle ≠ lv.jn.cycle then lv.countOn c (fun n => { n with cycMis := satInc n.cycMis })
      else if !lv.inWindows e f then
        (lv.countOn c (fun n => { n with window := satInc n.window })).countEnt e 2
      else if lv.entMax e < f.payload.length then unknown lv
      else
        let lv := lv.validFrame c f
        let lv := if lv.entBoth e then lv.bothCopy e c f else lv.firstCopy e c f
        lv.heardHealth e serial f.payload

def execJalsynFrameReceived (l : LaneId) (ch : Chan) (f : JalsynFrame) (s : State) :
    Host.Outcome State Fault Refusal :=
  done (onLive l (fun lv => lv.frameRx ch f s.serial) s)

/-! ### The end of an acceptance window -/

/-- An empty slot counted on a channel and in the entry (R366, R367). -/
def Live.countEmpty (lv : Live) (e : Nat) (c : Chan) : Live :=
  (lv.countOn c (fun n => { n with emptyRx := satInc n.emptyRx })).countEnt e c.num

/-- The pair status of a `BOTH` entry, with what it counts (R367, R379). -/
def Live.pairEnd (lv : Live) (e : Nat) : Nat × Live :=
  let q := lv.entCyc e
  let ev := lv.entEvent e
  let miss (x : Live) (c : Chan) : Live := if ev then x else x.countEmpty e c
  let one (c : Chan) : Nat × Live :=
    if (lv.chan (otherChan c)).lost then (3, lv)
    else (4, miss (lv.countOn (otherChan c) (fun n => { n with incompl := satInc n.incompl })) (otherChan c))
  match q.gotA, q.gotB with
  | true, true =>
    if q.dataA = q.dataB then (1, lv)
    else
      let lv := { lv with jn := { lv.jn with unequal := satInc lv.jn.unequal } }
      (2, (lv.countEnt e 3).raise 280 e)
  | true, false => one .a
  | false, true => one .b
  | false, false => (0, miss (miss lv .a) .b)

/-- A field of a `CommandMap` entry (R380). -/
def Live.cmdMap (lv : Live) (g off : Nat) : Nat := natAt (lv.bytes Obj.commandMap) (4 * g + off) 2

/-- The payload that a command may be taken from at the end of an entry's window (R368, R369). -/
def Live.cmdPayload (lv : Live) (e pair : Nat) : Option (List Byte) :=
  let q := lv.entCyc e
  if lv.entBoth e then
    (if pair = 1 then some q.dataA else if pair = 3 then some (if q.gotA then q.dataA else q.dataB) else none)
  else if q.gotA || q.gotB then some (lv.buf (lv.entBuf e)).data else none

/-- The commands bound to an entry's buffer at the end of its window (R104, R368, R369): a value is due 1 µs later;
without one the group's entry is flagged stale. -/
def Live.commandsDue (lv : Live) (e pair : Nat) : Live :=
  let b := lv.entBuf e
  let t := lv.jn.cbase + 4 * lv.entEnd e + us 1
  forAll 24 (fun g x =>
    let m := x.cmdMap g.val 0
    if m = 0xFFFF ∨ (m ≠ b ∧ (lv.entBoth e = false ∨ m ≠ b + 1)) then x
    else
      let v := match lv.cmdPayload e pair with
        | some p => if x.cmdMap g.val 2 + 4 ≤ p.length then some (BitVec.ofNat 32 (natAt p (x.cmdMap g.val 2) 4)) else none
        | none => none
      match v with
      | some v => { x with en := { x.en with cmd := vmod x.en.cmd g (fun q => { q with due := some (v, t) }) } }
      | none =>
        ({ x with en := { x.en with cmd := vmod x.en.cmd g (fun q => { q with stale := true }) } }).flagBus
          (216 + g.val) (x.en.busBad.read false (216 + g.val)) true) lv

/-- The source entry of an input whose window ends last among those active in this cycle (R340). -/
def Live.sdLast (lv : Live) (i : Nat) : Option Nat :=
  ((lv.sdSources i).filter lv.entActive).foldl (fun m e => match m with
    | none => some e
    | some x => if lv.entEnd x < lv.entEnd e ∨ (lv.entEnd x = lv.entEnd e ∧ x < e) then some e else some x) none

/-- ACCEPTANCE_WINDOW_END (R366, R367, R104, R340). -/
def Live.windowEnd (lv : Live) (e : Nat) : Live :=
  if !(lv.netOn && lv.entActive e && lv.entRx e) || (lv.entCyc e).ended then lv
  else
    let q := lv.entCyc e
    let r := if lv.entBoth e then lv.pairEnd e
      else if q.gotA || q.gotB || lv.entEvent e then (0, lv)
      else
        let x := if lv.entOn e .a then lv.countEmpty e .a else lv
        (0, if lv.entOn e .b then x.countEmpty e .b else x)
    let lv := r.2.modEnt e (fun z => { z with ended := true })
    let lv := if lv.entBoth e then
        let set (x : Live) (b : Nat) : Live := x.modBuf b (fun z => { z with pair := BitVec.ofNat 3 r.1 })
        set (set lv (lv.entBuf e)) (lv.entBuf e + 1)
      else lv
    let lv := lv.commandsDue e r.1
    forAll 24 (fun i x => if x.sdUsed i.val && decide (x.sdLast i.val = some e) then x.sdJudge i else x) lv

def execAcceptanceWindowEnd (l : LaneId) (entry : Fin 2048) (s : State) : Host.Outcome State Fault Refusal :=
  done (onLive l (fun lv => lv.windowEnd entry.val) s)

/-! ### Transmission -/

/-- The safe-data outputs that name a transmit entry (R338, R352). -/
def Live.sdOutsOf (lv : Live) (e : Nat) : List Nat := (List.range 8).filter (fun j => decide (lv.sdOut j 0 2 = e))

/-- A payload with a block laid over it. -/
def overlay (p : List Byte) (off : Nat) (blk : List Byte) : List Byte :=
  slice p 0 off ++ blk ++ p.drop (off + blk.length)

/-- The content of an entry's buffer at the read instant: the send page, with the safe-data blocks of the outputs that
the entry carries (R337, R338, R364). -/
def Live.sendContent (lv : Live) (e : Nat) : List Byte :=
  let q := lv.buf (lv.entBuf e)
  (lv.sdOutsOf e).foldl (fun p j =>
    overlay p (lv.sdOut j 2 2) (lv.sdBlock j (lv.jn.cycle.toNat / lv.entRep e % 256))) (slice q.data 0 q.slen)

/-- A channel of the mask counts an empty transmit slot (R364, R469). -/
def Live.emptyTx (lv : Live) (e : Nat) : Live :=
  let one (x : Live) (c : Chan) : Live :=
    if x.entOn e c then x.countOn c (fun n => { n with emptyTx := satInc n.emptyTx }) else x
  one (one lv .a) .b

/-- TRANSMIT_READ: at `OFFSET` − `PrepTime` a fresh buffer is captured and its mark cleared (R364, R365, R469). -/
def Live.transmitRead (lv : Live) (e : Nat) : Live :=
  let lv := if lv.transmits && lv.entActive e && !lv.entRx e then lv.parityCheck e else lv
  if !(lv.transmits && lv.entActive e && !lv.entRx e) || (lv.entCyc e).read then lv
  else
    let b := lv.entBuf e
    let lv := lv.modEnt e (fun z => { z with read := true })
    if (lv.buf b).fresh then
      let p := lv.sendContent e
      let lv := lv.modBuf b (fun q => { q with fresh := false })
      if lv.entMax e < p.length then lv.emptyTx e else lv.modEnt e (fun z => { z with captured := some p })
    else if lv.entEvent e then lv else lv.emptyTx e

def execTransmitRead (l : LaneId) (entry : Fin 2048) (s : State) : Host.Outcome State Fault Refusal :=
  done (onLive l (fun lv => lv.transmitRead entry.val) s)

/-- A frame handed to a channel's PHY (R356, R382). -/
def Live.sendOn (lv : Live) (c : Chan) (f : JalsynFrame) : Live :=
  let lv := lv.countOn c (fun n => { n with framesTx := satInc n.framesTx })
  { lv with jn := { lv.jn with sent := (c, f) :: lv.jn.sent } }

/-- The frame of a transmit entry (R356). -/
def Live.entryFrame (lv : Live) (c : Chan) (e : Nat) (p : List Byte) : JalsynFrame :=
  { fcsOk := true, headerOk := true, cycle := lv.jn.cycle, slot := BitVec.ofNat 16 (lv.entFrame e),
    node := BitVec.ofNat 6 (lv.num Obj.nodeId), ref := false, launch := false, event := lv.entEvent e, payload := p,
    start := lv.entOffset e, stop := lv.entOffset e + lv.frameUnits c p.length,
    gstart := lv.jn.grid + lv.entOffset e * 10 }

/-- TRANSMIT_FRAME: at `OFFSET` the captured content goes out on every channel of the mask (R364). -/
def Live.transmitFrame (lv : Live) (e : Nat) : Live :=
  match (lv.entCyc e).captured with
  | none => lv
  | some p =>
    if lv.transmits && lv.entActive e then
      let lv := lv.modEnt e (fun z => { z with captured := none })
      let one (x : Live) (c : Chan) : Live := if x.entOn e c then x.sendOn c (x.entryFrame c e p) else x
      one (one lv .a) .b
    else lv

def execTransmitFrame (l : LaneId) (entry : Fin 2048) (s : State) : Host.Outcome State Fault Refusal :=
  done (onLive l (fun lv => lv.transmitFrame entry.val) s)

/-- A reference frame of this lane (R370). -/
def Live.refFrame (lv : Live) (c : Chan) (tx : Nat) (launch : Bool) : JalsynFrame :=
  let p := leBytes 8 (lv.jn.grid % 2 ^ 64).toNat ++ leBytes 4 tx ++ leBytes 4 (lv.cycleNs / 10)
    ++ leBytes 4 (lv.num Obj.scheduleId) ++ leBytes 1 (lv.num Obj.masterRank) ++ [0, 0, 0]
  { fcsOk := true, headerOk := true, cycle := lv.jn.cycle, slot := 0, node := BitVec.ofNat 6 (lv.num Obj.nodeId),
    ref := true, launch := launch, event := false, payload := p, start := tx, stop := tx + lv.frameUnits c 24,
    gstart := lv.jn.grid + tx * 10 }

/-- Whether the lane has sent a reference on a channel in this cycle. -/
def Live.refSent (lv : Live) (c : Chan) : Bool := lv.jn.sent.any (fun p => decide (p.1 = c) && p.2.ref)

/-- LAUNCH_COMPLETE: two launch references sent in consecutive cycles (R375). -/
def Live.launchDone (lv : Live) : Live :=
  if lv.jn.sync = .launch ∧ 1 ≤ lv.jn.launches ∧ lv.refSent .a = true ∧ lv.refSent .b = true then
    { lv with jn := { lv.jn with sync := .sync, everSync := true, refuse := 0 }, tk := { lv.tk with onJalsyn := true } }
  else lv

/-- SEND_REFERENCE (R371, R375): at r × `BackupDelay` while synchronised, at D while launching. -/
def Live.sendRef (lv : Live) (c : Chan) : Live :=
  if !lv.netOn || !lv.masterCapable || lv.refSent c then lv
  else match lv.jn.sync with
    | .launch => (lv.sendOn c (lv.refFrame c lv.launchDelay true)).launchDone
    | .sync =>
      if lv.num Obj.masterRank = 0 ∨ (lv.chan c).refHere = false then
        lv.sendOn c (lv.refFrame c (lv.num Obj.masterRank * lv.num Obj.backupDelay * 100) false)
      else lv
    | _ => lv

def execSendReference (l : LaneId) (ch : Chan) (s : State) : Host.Outcome State Fault Refusal :=
  done (onLive l (fun lv => lv.sendRef ch) s)

/-- LISTEN_PERIOD_END: a listen period without a reference is over (R375). -/
def Live.listenEnd (lv : Live) : Live :=
  if lv.netOn && decide (lv.jn.sync = .listen ∧ lv.jn.listenLeft = 0) then
    { lv with jn := { lv.jn with sync := if lv.masterCapable then .wait else .listen,
                                 listenLeft := if lv.masterCapable then 0 else 2 } }
  else lv

def execListenPeriodEnd (l : LaneId) (s : State) : Host.Outcome State Fault Refusal :=
  done (onLive l Live.listenEnd s)

/-- LAUNCH_DELAY_ELAPSED: LAUNCH is entered and the first launch reference goes out on both channels (R375). -/
def Live.launchStart (lv : Live) : Live :=
  if lv.netOn && decide (lv.jn.sync = .wait) then
    let lv := { lv with jn := { lv.jn with sync := .launch, launches := 0 } }
    (lv.sendRef .a).sendRef .b
  else lv

def execLaunchDelayElapsed (l : LaneId) (s : State) : Host.Outcome State Fault Refusal :=
  done (onLive l Live.launchStart s)

/-! ### Cycle start -/

/-- What the cycle that ends leaves on a channel (R371, R374). -/
def Live.endChan (lv : Live) (c : Chan) : Live :=
  let q := lv.chan c
  let lv := if lv.synced && q.taken.isNone then lv.countOn c (fun n => { n with refMiss := satInc n.refMiss }) else lv
  let on := lv.synced
  lv.modChan c (fun x => { x with
    quiet := if x.lost || x.heard || !on then 0 else x.quiet + 1,
    refRun := if x.refHere then x.refRun + 1 else 0,
    heard := false, refHere := false, taken := none })

/-- The lanes whose health frames arrived in the cycle that ends report themselves integrated (R41, R62). -/
def Live.healthHeard (lv : Live) : Live :=
  let got (b : Nat) : Bool := lv.jn.entries.any (fun p => decide (lv.entBuf p.1 = b) && (p.2.gotA || p.2.gotB))
  let one (x : Live) (d : LinkDir) (b : Nat) : Live := x.modView (lv.me.peer d) (fun v => { v with netOk := got b })
  one (one lv .fwd 513) .back 514

/-- The schedule entries with a parity error rewritten from the ACTIVE slot (R378). -/
def Live.rewriteEntries (lv : Live) (storeBad : Bool) : Live :=
  if !storeBad then { lv with jn := { lv.jn with parityBad := [] } }
  else lv.jn.parityBad.foldl (fun (x : Live) p =>
    Live.raiseN 3 x 279 p.1 0 none (0x10 ||| (x.mapEntry 279 % 16))) lv

/-- The buffers that the resident firmware marks fresh in every cycle: the health frame and the safe-data outputs
(R338, R364); a waiting tunnel response goes into a free buffer (R386). -/
def Live.markResident (lv : Live) : Live :=
  let lv := lv.modBuf 512 (fun q => { q with data := lv.au.health, slen := lv.au.health.length, fresh := true })
  let lv := (List.range 8).foldl (fun (x : Live) j =>
    if x.sdOut j 0 2 < 2048 then x.modBuf (x.entBuf (x.sdOut j 0 2)) (fun q => { q with fresh := true }) else x) lv
  lv.tunnelPlace

/-- The counters that run in cycles: command values and safe-data copies (R104, R340). -/
def Live.ageCycle (lv : Live) : Live :=
  let lv := forAll 24 (fun g x =>
    if x.cmdMap g.val 0 = 0xFFFF then x
    else { x with en := { x.en with cmd := vmod x.en.cmd g (fun q => { q with fresh := q.fresh + 1 }) } }) lv
  forAll 24 (fun i x =>
    if x.sdUsed i.val then
      (x.modCopy i false (fun c => { c with age := c.age + 1 })).modCopy i true (fun c => { c with age := c.age + 1 })
    else x) lv

/-- CYCLE_START (R359, R371 to R375, R378, R455). -/
def Live.cycleStart (lv : Live) (storeBad : Bool) : Live :=
  if !lv.netOn || (!lv.synced && decide (lv.ticks % lv.num Obj.cycleTicks ≠ 0)) then lv
  else
    let lv := if lv.synced then lv.useRefs else lv
    let launches := if lv.jn.sync = .launch ∧ (lv.refSent .a = true ∨ lv.refSent .b = true) then lv.jn.launches + 1 else 0
    let lv := ((lv.endChan .a).endChan .b).healthHeard
    let now := lv.globalAt lv.clk
    let lv := { lv with jn := { lv.jn with
      gbase := now, cbase := lv.clk, cycle := lv.jn.cycle + 1,
      grid := if lv.synced then lv.jn.grid + lv.cycleNs else now,
      sync := if lv.jn.sync = SyncState.silent ∧ lv.jn.resume = true then .sync else lv.jn.sync,
      resume := false, servoed := false, launches := launches, listenLeft := lv.jn.listenLeft - 1,
      entries := [], sent := [], cpeSeen := 0 } }
    ((lv.rewriteEntries storeBad).ageCycle.markResident).wakeTimed .cycle

def execCycleStart (l : LaneId) (s : State) : Host.Outcome State Fault Refusal :=
  done (onLiveR l (fun n _ lv => lv.cycleStart n.bad) s)

/-! ### Channels lost and found, links -/

/-- JALSYN_CHANNEL_LOST (R374, R375, R40): 1 link down for 10 ms, 2 no frames for `LossCycles` cycles. -/
def Live.channelLost (lv : Live) (c : Chan) : Live :=
  let q := lv.chan c
  let down := match q.downAt with
    | some t => lv.due (t + ms 10)
    | none => false
  let quiet := decide (lv.num Obj.lossCycles ≤ q.quiet)
  if !lv.netOn || q.lost || !(down || quiet) then lv
  else
    let lv := lv.modChan c (fun x => { x with lost := true, quiet := 0, refRun := 0 })
    let lv := (lv.countFault .jalsynChannel lv.me c.num).raise (272 + c.num) c.num (if down then 1 else 2)
    if lv.jn.chA.lost && lv.jn.chB.lost then
      (if lv.jn.sync = .refused then lv else lv.toListen 2).makeFollower lv.me false
    else lv

def execJalsynChannelLost (l : LaneId) (ch : Chan) (s : State) : Host.Outcome State Fault Refusal :=
  done (onLive l (fun lv => lv.channelLost ch) s)

/-- JALSYN_CHANNEL_RETURN (R374). -/
def Live.channelBack (lv : Live) (c : Chan) : Live :=
  let q := lv.chan c
  if lv.netOn && q.lost && decide (lv.num Obj.lossCycles ≤ q.refRun) then
    lv.modChan c (fun x => { x with lost := false, quiet := 0 })
  else lv

def execJalsynChannelReturn (l : LaneId) (ch : Chan) (s : State) : Host.Outcome State Fault Refusal :=
  done (onLive l (fun lv => lv.channelBack ch) s)

/-- The cable diagnostics of a channel run (R232). -/
def Live.cableRun (lv : Live) (c : Chan) : Live :=
  match c with
  | .a => { lv with wi := { lv.wi with cableRunA := true } }
  | .b => { lv with wi := { lv.wi with cableRunB := true } }

/-- PHY_LINK_DOWN (R232, R374, R381): the cable diagnostics run. -/
def Live.linkDown (lv : Live) (c : Chan) : Live :=
  if lv.netOn && (lv.chan c).linkUp then
    ((lv.modChan c (fun x => { x with linkUp := false, downAt := some lv.clk })).countOn c
      (fun n => { n with downs := satInc n.downs })).cableRun c
  else lv

def execPhyLinkDown (l : LaneId) (ch : Chan) (s : State) : Host.Outcome State Fault Refusal :=
  done (onLive l (fun lv => lv.linkDown ch) s)

/-- PHY_LINK_UP (R374, R381). -/
def Live.linkBack (lv : Live) (c : Chan) : Live :=
  if lv.netOn then lv.modChan c (fun x => { x with linkUp := true, downAt := none }) else lv

def execPhyLinkUp (l : LaneId) (ch : Chan) (s : State) : Host.Outcome State Fault Refusal :=
  done (onLive l (fun lv => lv.linkBack ch) s)

/-! ### Cycle-point events -/

/-- CYCLE_POINT_EVENT (R377, R383, R463): once in each cycle in which it is active. The interrupt that it may raise
reaches only the resident firmware, whose work is not part of the state. -/
def Live.cyclePoint (lv : Live) (n : Fin 16) : Live :=
  let w := lv.num Obj.cyclePoint 0 n.val
  let t := lv.num Obj.cycleTarget 0 n.val
  if !lv.netOn || decide (t = 255) || lv.jn.cpeSeen.getLsbD n.val
      || decide (lv.jn.cycle.toNat % (bits w 31 26 + 1) ≠ bits w 25 20) then lv
  else
    let lv := { lv with jn := { lv.jn with cpeSeen := setBit lv.jn.cpeSeen n.val true },
                        sc := { lv.sc with cpe := setBit lv.sc.cpe n.val true } }
    if tbit t 6 then
      let g : Int := lv.jn.grid + bits w 19 0 * 10
      lv.hwPost ⟨t % 64, Nat.mod_lt _ (by decide)⟩
        { tag := BitVec.ofNat 32 n.val, info := lv.itemInfo 8 false 1 0,
          data := leBytes 4 lv.jn.cycle.toNat ++ leBytes 4 (g % 2 ^ 32).toNat } 1
    else lv

def execCyclePointEvent (l : LaneId) (n : Fin 16) (s : State) : Host.Outcome State Fault Refusal :=
  done (onLive l (fun lv => lv.cyclePoint n) s)

/-- CLEAR_JALSYN_COUNTERS (R382). -/
def Live.clearJalsyn (lv : Live) (v : Byte) : Live :=
  lv.onZero v (fun x => ((x.countOn .a (fun _ => {})).countOn .b (fun _ => {})).modNet (fun n => { n with
    unequal := 0, refDis := 0, reint := 0 }))

def execClearJalsynCounters (l : LaneId) (v : Byte) (s : State) : Host.Outcome State Fault Refusal :=
  done (onLive l (fun lv => lv.clearJalsyn v) s)

end Sys2Proof.Machine
end

