-- ==== Sys2Proof/Machine/Slots.lean ====
section
/-!
DEFINITION. Loop slots (03_control_engine.md): one run of a slot of kinds 2 to 7 with its setpoint sources, trajectory
generator, notches and detectors (R97 to R114).
-/

namespace Sys2Proof.Machine

/-! ### Operations of the engine -/

/-- `wrap(x)` of R97 under the modulus `m`. -/
def wrapF (m x : F32) : F32 :=
  if F32.isZero m then x
  else F32.sub x (F32.mul m (F32.floor (F32.div (F32.add x (F32.mul (F32.dec 5 1) m)) m)))

/-- sign(a): −1, 0 or 1. -/
def signF (x : F32) : F32 :=
  if F32.isZero x || F32.isNaN x then 0 else if F32.sign x then F32.neg (F32.ofNat 1) else F32.ofNat 1

/-- The engine's sine of a turn angle, half-turn antisymmetric (R270). -/
def sinT (t : Turn) : F32 :=
  let y := Config.sinHalf (t.setWidth 31)
  if t.getLsbD 31 then F32.neg y else y

/-- The engine's cosine of a turn angle, half-turn antisymmetric (R270). -/
def cosT (t : Turn) : F32 :=
  let y := Config.cosHalf (t.setWidth 31)
  if t.getLsbD 31 then F32.neg y else y

/-- The engine's angle unit, atan2(y, x) as a turn angle (R270). -/
def atan2T (y x : F32) : Turn :=
  if F32.sign x then Config.atanRight (F32.neg y) (F32.neg x) + 0x80000000 else Config.atanRight y x

/-- Turns to an angle difference: round(a × 2^32) (R269). -/
def turnOf (x : F32) : Turn := BitVec.ofInt 32 (F32.toScaled x 32)

/-- An angle as a fraction of a turn in [0, 1). -/
def turnFrac (t : Turn) : F32 := F32.ofScaled (t.toNat : Int) (-32)

/-- A signed angle difference in turns (R269). -/
def turnDiff (t : Turn) : F32 := F32.ofScaled t.toInt (-32)

/-! ### Slots -/

/-- A slot's state. -/
def Live.slot (lv : Live) (s : Nat) : SlotSt := lv.en.slots.read {} s

/-- A slot's state changed. -/
def Live.modSlot (lv : Live) (s : Nat) (f : SlotSt → SlotSt) : Live :=
  { lv with en := { lv.en with slots := lv.en.slots.write {} s (f (lv.slot s)) } }

/-- The slot's run period Ts = `Divider` × T (R97). -/
def Live.slotTs (lv : Live) (s : Nat) : F32 := F32.ofRatio (lv.num Obj.slotDivider s) (lv.num Obj.tickRate)

/-- The bus entries that a slot writes: its output, and an `OBS` slot's second one (R96). -/
def Live.slotOuts (lv : Live) (s : Nat) : List Nat := if lv.num Obj.slotKind s = 7 then [s, s + 1] else [s]

/-- A kennelled slot's outputs keep their value and are flagged invalid (R110). -/
def Live.flagOuts (lv : Live) (s : Nat) : Live := (lv.slotOuts s).foldl (fun (x : Live) e => x.flagBus e true false) lv

/-! ### Setpoint sources -/

/-- A bus operand that may name no entry. -/
def entryOpt (e : Nat) : Option Nat := if e < 1024 then some e else none

/-- Whether the alternate source is used in this run (R103). -/
def Live.useAlt (lv : Live) (s : Nat) : Bool :=
  decide (lv.num Obj.slotAltSource s ≠ 255) &&
    (match entryOpt (lv.num Obj.slotSelectEntry s) with
     | some e => !F32.isZero (lv.bus e)
     | none => false)

/-- Source code and index of this run (R103). -/
def Live.sourceNow (lv : Live) (s : Nat) : Nat × Nat :=
  if lv.useAlt s then (lv.num Obj.slotAltSource s, lv.num Obj.slotAltIndex s)
  else (lv.num Obj.slotSetpointSource s, lv.num Obj.slotSetpointIndex s)

/-- The bus entry behind a source of code 1 or 2, or behind the target of code 3 (R103). -/
def sourceEntry (code idx : Nat) : Option Nat :=
  let one (c i : Nat) : Option Nat := if c = 1 then some (i % 1024) else if c = 2 then some (216 + i % 24) else none
  if code = 3 then one (idx / 4096) (idx % 4096) else one code idx

/-- The bus entries that a run of a slot reads (R97). -/
def Live.slotReads (lv : Live) (s : Nat) : List Nat :=
  let two := [entryOpt (lv.num Obj.slotFeedbackEntry s), entryOpt (lv.num Obj.slotFeedforwardEntry s)]
  if lv.num Obj.slotKind s = 7 then two.filterMap id
  else
    let src := lv.sourceNow s
    (two ++ [entryOpt (lv.num Obj.slotMinEntry s), entryOpt (lv.num Obj.slotMaxEntry s),
      entryOpt (lv.num Obj.slotSelectEntry s), sourceEntry src.1 src.2]).filterMap id

/-- Whether an entry that a slot reads stands in the way of a run (R97); a stale Jalsyn command value is used on
(R104). -/
def Live.entryBad (lv : Live) (e : Nat) : Bool :=
  !F32.finite (lv.bus e) || lv.en.busBad.read false e ||
    (lv.en.busStale.read false e && !decide (216 ≤ e ∧ e < 240))

/-- The setpoint of an auxiliary input, none where it does not let a run take place (R97, R106). -/
def Live.ainSetpoint (lv : Live) (n : Nat) : Option F32 :=
  if h : n < 4 then
    let q := lv.en.ain[n]
    if q.invalid || lv.ps.ainMark.getLsbD n then none else q.value
  else none

/-- The setpoint of the pulse input, none where it does not let a run take place (R97, R107). -/
def Live.psetSetpoint (lv : Live) : Option F32 :=
  if lv.en.pset.invalid || lv.ps.psetMark then none else lv.en.pset.value

/-- Whether a source of codes 4 and 5 lets the run take place. -/
def Live.sourceGood (lv : Live) (code idx : Nat) : Bool :=
  if code = 4 then (match lv.ainSetpoint idx with | some x => F32.finite x | none => false)
  else if code = 5 then (match lv.psetSetpoint with | some x => F32.finite x | none => false)
  else true

/-- Whether a run of the slot is held under the first line of R97. -/
def Live.runHeld (lv : Live) (s : Nat) : Bool :=
  (lv.slotReads s).any lv.entryBad ||
    (decide (lv.num Obj.slotKind s ≠ 7) && !(lv.sourceGood (lv.sourceNow s).1 (lv.sourceNow s).2))

/-- The measured position or quantity of a slot. -/
def Live.slotY (lv : Live) (s : Nat) : F32 :=
  match entryOpt (lv.num Obj.slotFeedbackEntry s) with
  | some e => lv.bus e
  | none => Config.noFeedback s

/-! ### Trajectory generators -/

/-- One run of a trajectory generator (R105): p, v and whether it snapped to its target. -/
def Live.trajStep (lv : Live) (s : Nat) (pv : F32 × F32) (tgt : F32) : (F32 × F32) × Bool :=
  let m := lv.real Obj.slotWrapModulus s
  let ts := lv.slotTs s
  let vmax := lv.real Obj.slotTrajVmax s
  let amax := lv.real Obj.slotTrajAmax s
  let pos := decide (lv.num Obj.slotTrajMode s = 0)
  let p := pv.1
  let v := pv.2
  let at' := F32.mul amax ts
  let d := wrapF m (F32.sub tgt p)
  let vd := if pos then
      F32.mul (signF d) (F32.min (F32.sqrt (F32.mul (F32.mul (F32.ofNat 2) amax) (F32.abs d))) vmax)
    else F32.clamp tgt (F32.neg vmax) vmax
  let vn := F32.add v (F32.clamp (F32.sub vd v) (F32.neg at') at')
  let p := F32.add p (F32.mul (F32.mul (F32.dec 5 1) (F32.add v vn)) ts)
  let near := F32.le (F32.abs (wrapF m (F32.sub tgt p))) (F32.mul (F32.mul (F32.dec 5 1) amax) (F32.mul ts ts))
  let snap := pos && near && F32.le (F32.abs vn) at'
  let p := if snap then tgt else p
  let v := if snap then 0 else vn
  let p := if F32.gt m 0 then F32.sub p (F32.mul m (F32.floor (F32.div p m))) else p
  ((p, v), snap)

/-! ### Notches -/

/-- Coefficients b0, b1, b2, a2 of a notch (R111); a1 = b1. -/
structure Biquad where
  b0 : F32
  b1 : F32
  b2 : F32
  a2 : F32
  deriving DecidableEq, Repr

/-- The coefficients of centre frequency, quality and depth (R111), each operation rounded in the order written. -/
def notchOf (f0 q d ts : F32) : Biquad :=
  let turn := BitVec.ofInt 32 (F32.toScaled (F32.mul f0 ts) 31)
  let t := F32.div (sinT turn) (cosT turn)
  let one := F32.ofNat 1
  let two := F32.ofNat 2
  let zp := F32.div one (F32.mul two q)
  let zz := F32.mul d zp
  let tt := F32.mul t t
  let n := F32.add (F32.add one (F32.mul (F32.mul two zp) t)) tt
  { b0 := F32.div (F32.add (F32.add one (F32.mul (F32.mul two zz) t)) tt) n,
    b1 := F32.div (F32.mul two (F32.sub tt one)) n,
    b2 := F32.div (F32.add (F32.sub one (F32.mul (F32.mul two zz) t)) tt) n,
    a2 := F32.div (F32.add (F32.sub one (F32.mul (F32.mul two zp) t)) tt) n }

/-- One run of a notch (R111): output and the two states. -/
def Biquad.run (c : Biquad) (x s1 s2 : F32) : F32 × F32 × F32 :=
  let out := F32.add (F32.mul c.b0 x) s1
  (out, F32.add (F32.sub (F32.mul c.b1 x) (F32.mul c.b1 out)) s2, F32.sub (F32.mul c.b2 x) (F32.mul c.a2 out))

/-- The frequency of notch 1 in effect (R113, R121). -/
def Live.notchF1 (lv : Live) (s : Nat) : F32 := (lv.slot s).f1.getD (lv.real Obj.slotNotch1Freq s)

/-- The frequency of notch 2 in effect (R113, R121). -/
def Live.notchF2 (lv : Live) (s : Nat) : F32 := (lv.slot s).f2.getD (lv.real Obj.slotNotch2Freq s)

/-- notch2(notch1(e)) and the states of both (R97, R111); a notch that is off passes its input. -/
def Live.notches (lv : Live) (s : Nat) (q : SlotSt) (e : F32) : F32 × SlotSt :=
  let ts := lv.slotTs s
  let a := if lv.num Obj.slotNotch1Mode s = 0 then (e, q.n1s1, q.n1s2)
    else (notchOf (lv.notchF1 s) (lv.real Obj.slotNotch1Q s) (lv.real Obj.slotNotch1Depth s) ts).run e q.n1s1 q.n1s2
  let b := if lv.num Obj.slotNotch2Mode s = 0 then (a.1, q.n2s1, q.n2s2)
    else (notchOf (lv.notchF2 s) (lv.real Obj.slotNotch2Q s) (lv.real Obj.slotNotch2Depth s) ts).run a.1 q.n2s1 q.n2s2
  (b.1, { q with n1s1 := a.2.1, n1s2 := a.2.2, n2s1 := b.2.1, n2s2 := b.2.2 })

/-- The slot has an adaptive notch (R112). -/
def Live.adaptive (lv : Live) (s : Nat) : Bool :=
  decide (lv.num Obj.slotNotch1Mode s = 2) || decide (lv.num Obj.slotNotch2Mode s = 2)

/-- The spacing Δ of the detectors (R112). -/
def Live.adaptDelta (lv : Live) (s : Nat) : F32 :=
  F32.div (F32.sub (lv.real Obj.slotAdaptMax s) (lv.real Obj.slotAdaptMin s)) (F32.ofNat 7)

/-- The centre frequency of detector `j` (R112). -/
def Live.adaptF (lv : Live) (s j : Nat) : F32 :=
  F32.add (lv.real Obj.slotAdaptMin s) (F32.mul (F32.ofNat j) (lv.adaptDelta s))

/-- The detectors after one run on the error `e` (R112); the angle of each is formed as R111 forms its own. -/
def Live.detect (lv : Live) (s : Nat) (bank : List (F32 × F32)) (e : F32) : List (F32 × F32) :=
  let l := F32.sub (F32.ofNat 1) (F32.div (F32.ofNat 1) (F32.ofNat (lv.num Obj.slotDetectorLength s)))
  (List.range 8).map (fun j =>
    let x := bank.getD j (0, 0)
    let turn := turnOf (F32.mul (lv.adaptF s j) (lv.slotTs s))
    let cr := F32.mul l (cosT turn)
    let ci := F32.mul l (sinT turn)
    (F32.add (F32.sub (F32.mul cr x.1) (F32.mul ci x.2)) e, F32.add (F32.mul cr x.2) (F32.mul ci x.1)))

/-! ### One run -/

/-- What a run of an item produces: the words it writes in program order, and how words are written. -/
structure ItemRun where
  words : List Word
  put   : List Word → Live → Live

/-- The state words of a slot that carry numbers (R267). -/
def SlotSt.words (q : SlotSt) : List Word :=
  [q.i, q.ud, q.vPrev, q.uPrev, q.n1s1, q.n1s2, q.n2s1, q.n2s2, q.th, q.w, q.dist, q.ferr]

/-- A slot with its number-carrying state words replaced. -/
def SlotSt.withWords (q : SlotSt) (ws : List Word) : SlotSt :=
  { q with i := ws.getD 0 0, ud := ws.getD 1 0, vPrev := ws.getD 2 0, uPrev := ws.getD 3 0, n1s1 := ws.getD 4 0,
           n1s2 := ws.getD 5 0, n2s1 := ws.getD 6 0, n2s2 := ws.getD 7 0, th := ws.getD 8 0, w := ws.getD 9 0,
           dist := ws.getD 10 0, ferr := ws.getD 11 0 }

/-- `SlotStatus` bits of a run (R122). -/
def slotStatus (limit rate conf inv ferr stale : Bool) (src : Nat) : Half :=
  BitVec.ofNat 16 (1 + bitAt limit 1 + bitAt rate 2 + bitAt conf 3 + bitAt inv 4 + bitAt ferr 5 + bitAt stale 9 + src * 1024)

/-- An input that the slot reads is stale (R122). -/
def Live.slotStale (lv : Live) (s : Nat) : Bool := (lv.slotReads s).any (fun e => lv.en.busStale.read false e)

/-- A run held under R97: output and state hold, the run counts (R99, R110). -/
def Live.heldRun (lv : Live) (s : Nat) : Live :=
  lv.modSlot s (fun q => { q with
    invalid := satInc q.invalid, consec := q.consec + 1, epLimit := true,
    epoch := if lv.adaptive s then q.epoch + 1 else q.epoch,
    status := slotStatus false false false true (q.status.getLsbD 5) (lv.slotStale s) (bit1 (lv.useAlt s)) })

/-- The setpoint of a run and the trajectory generator's new state, if it ran (R103, R105). -/
def Live.setpoint (lv : Live) (s : Nat) (q : SlotSt) (y : F32) : F32 × Option ((F32 × F32) × Bool) :=
  let src := lv.sourceNow s
  match q.hold with
  | some h => (h, none)
  | none =>
    match src.1 with
    | 0 => (lv.real Obj.slotSetpointValue s, none)
    | 1 | 2 => ((sourceEntry src.1 src.2).elim 0 lv.bus, none)
    | 3 =>
      if h : lv.num Obj.slotTrajNumber s < 32 then
        let n : Fin 32 := ⟨lv.num Obj.slotTrajNumber s, h⟩
        let pv := if q.started && lv.en.trajOn.getLsbD n.val then lv.en.traj[n] else (y, 0)
        let r := lv.trajStep s pv ((sourceEntry 3 src.2).elim 0 lv.bus)
        (if lv.num Obj.slotKind s = 3 then r.1.1 else r.1.2, some r)
      else (Config.noFeedback (384 + s), none)
    | 4 => ((lv.ainSetpoint src.2).getD 0, none)
    | _ => (lv.psetSetpoint.getD 0, none)

/-- The generator's state and bus entries after its run (R105, R118). -/
def Live.trajWrite (lv : Live) (s : Nat) (r : Option ((F32 × F32) × Bool)) : Live :=
  match r with
  | none => lv
  | some (pv, _) =>
    if h : lv.num Obj.slotTrajNumber s < 32 then
      let n : Fin 32 := ⟨lv.num Obj.slotTrajNumber s, h⟩
      let lv := { lv with en := { lv.en with traj := vmod lv.en.traj n (fun _ => pv), trajOn := setBit lv.en.trajOn n.val true } }
      (lv.setBus (386 + 2 * n.val) pv.1).setBus (387 + 2 * n.val) pv.2
    else lv

/-- The integrator after a run (R98). -/
def Live.antiwindup (lv : Live) (s : Nat) (i in' uu u ef : F32) : F32 :=
  match lv.num Obj.slotAntiWindup s with
  | 0 => if !F32.eq u uu && F32.gt (F32.mul ef (F32.sub uu u)) 0 then i else in'
  | 1 => F32.add in' (F32.mul (F32.mul (lv.real Obj.slotKaw s) (lv.slotTs s)) (F32.sub u uu))
  | _ => in'

/-- A run of a slot of kinds 2 to 6 (R97): output words first, then state words. -/
def Live.pidRun (lv : Live) (s : Nat) : ItemRun :=
  let q0 := lv.slot s
  let first := !q0.started
  let ts := lv.slotTs s
  let m := lv.real Obj.slotWrapModulus s
  let y := lv.slotY s
  let sp := lv.setpoint s q0 y
  let e := wrapF m (F32.sub sp.1 y)
  let lim := lv.real Obj.slotFollowErrLimit s
  let checks := decide (lv.num Obj.slotKind s = 2 ∨ lv.num Obj.slotKind s = 3)
  let past := checks && F32.gt (F32.abs e) lim
  let q := { q0 with ferr := if past then F32.add q0.ferr ts else 0, fault := q0.fault && past }
  let q := if first then { q with n1s1 := 0, n1s2 := 0, n2s1 := 0, n2s2 := 0 } else q
  let q := if lv.adaptive s then { q with bank := lv.detect s q.bank e, epoch := q.epoch + 1 } else q
  let nf := lv.notches s q e
  let ef := nf.1
  let q := nf.2
  let up := F32.mul (lv.real Obj.slotKp s) ef
  let v := if lv.num Obj.slotDerivSource s = 0 then ef else F32.neg y
  let tau := lv.real Obj.slotDerivTau s
  let ad := F32.div tau (F32.add tau ts)
  let vPrev := if first then v else q.vPrev
  let ud := F32.add (F32.mul ad (if first then 0 else q.ud))
    (F32.mul (F32.sub (F32.ofNat 1) ad) (F32.mul (lv.real Obj.slotKd s) (F32.div (wrapF m (F32.sub v vPrev)) ts)))
  let uf := match entryOpt (lv.num Obj.slotFeedforwardEntry s) with
    | some x => F32.mul (lv.real Obj.slotKff s) (lv.bus x)
    | none => 0
  let lo := match entryOpt (lv.num Obj.slotMinEntry s) with
    | some x => F32.max (lv.real Obj.slotOutMin s) (lv.bus x)
    | none => lv.real Obj.slotOutMin s
  let hi := match entryOpt (lv.num Obj.slotMaxEntry s) with
    | some x => F32.min (lv.real Obj.slotOutMax s) (lv.bus x)
    | none => lv.real Obj.slotOutMax s
  let conf := F32.gt lo hi
  let mid := F32.mul (F32.dec 5 1) (F32.add lo hi)
  let lo := if conf then mid else lo
  let hi := if conf then mid else hi
  let uPrev := if first then lv.bus s else q.uPrev
  let i := if first then
      (if lv.num Obj.slotBumpless s = 1 then F32.clamp (F32.sub (F32.sub uPrev up) uf) lo hi else 0)
    else q.i
  let in' := F32.add i (F32.mul (F32.mul (lv.real Obj.slotKi s) ts) ef)
  let uu := F32.add (F32.add (F32.add up in') ud) uf
  let ul := F32.clamp uu lo hi
  let rl := lv.real Obj.slotRateLimit s
  let step := F32.mul rl ts
  let u := if F32.gt rl 0 then F32.clamp ul (F32.sub uPrev step) (F32.add uPrev step) else ul
  let i := F32.clamp (lv.antiwindup s i in' uu u ef) lo hi
  let limit := !F32.eq ul uu
  let rate := !F32.eq u ul
  let snap := match sp.2 with | some (_, true) => true | _ => false
  let src := if lv.useAlt s then 1 else if snap then 2 else 0
  let q := { q with
    started := true, i := i, ud := ud, vPrev := v, uPrev := u, consec := 0, epLimit := q.epLimit || limit || rate,
    status := slotStatus limit rate conf false past (lv.slotStale s) src }
  { words := u :: (match sp.2 with | some (pv, _) => [pv.1, pv.2] | none => []) ++ q.words,
    put := fun ws x =>
      let k := match sp.2 with | some _ => 3 | none => 1
      let r := match sp.2 with
        | some (_, b) => some ((ws.getD 1 0, ws.getD 2 0), b)
        | none => none
      let x := (x.modSlot s (fun _ => q.withWords (ws.drop k))).trajWrite s r
      let x := x.setBus s (ws.getD 0 0)
      if conf then x.raise 98 s else x }

/-- A run of an `OBS` slot (R101). -/
def Live.obsRun (lv : Live) (s : Nat) : ItemRun :=
  let q0 := lv.slot s
  let y := lv.slotY s
  let ts := lv.slotTs s
  let q := if q0.started then q0 else { q0 with th := y, w := 0, dist := 0 }
  let u := match entryOpt (lv.num Obj.slotFeedforwardEntry s) with
    | some x => lv.bus x
    | none => Config.noFeedback (192 + s)
  let e := wrapF (lv.real Obj.slotWrapModulus s) (F32.sub y q.th)
  let th := F32.add (F32.add q.th (F32.mul ts q.w)) (F32.mul (lv.real Obj.slotKp s) e)
  let w := F32.add (F32.add q.w (F32.mul ts (F32.div (F32.add u q.dist) (lv.real Obj.slotKff s))))
    (F32.mul (lv.real Obj.slotKi s) e)
  let dist := F32.add q.dist (F32.mul (lv.real Obj.slotKd s) e)
  let q := { q with started := true, th := th, w := w, dist := dist, consec := 0,
                    status := slotStatus false false false false false (lv.slotStale s) 0 }
  { words := w :: dist :: q.words,
    put := fun ws x =>
      ((x.modSlot s (fun _ => q.withWords (ws.drop 2))).setBus s (ws.getD 0 0)).setBus (s + 1) (ws.getD 1 0) }

/-! ### Which slots run -/

/-- The group of a slot, if it has one. -/
def Live.slotGroupOf (lv : Live) (s : Nat) : Option (Fin 24) :=
  if h : lv.num Obj.slotGroup s < 24 then some ⟨lv.num Obj.slotGroup s, h⟩ else none

/-- A slot of the ballast list in DESCENT (R72). -/
def Live.shedSlot (lv : Live) (s : Nat) : Bool := lv.au.ballast && tbit (leNat (lv.bytes Obj.ballastSlots)) s

/-- A slot of a disabled group (R100). -/
def Live.idleSlot (lv : Live) (s : Nat) : Bool :=
  match lv.slotGroupOf s with
  | some g => !(lv.fc.groups[g]).enabled
  | none => false

/-- A slot that has started (R100): its group is enabled, or it has none and STARTUP is over. -/
def Live.slotStarted (lv : Live) (s : Nat) : Bool :=
  match lv.slotGroupOf s with
  | some g => (lv.fc.groups[g]).enabled
  | none => decide (lv.au.mode ≠ .startup)

/-- The tick is one of the slot's (R37, R102). -/
def Live.slotTick (lv : Live) (s : Nat) : Bool :=
  decide (lv.ticks % (max 1 (lv.num Obj.slotDivider s)) = lv.num Obj.slotPhase s)

/-- A slot is due in this tick: not kennelled, not shed, started, in its phase. -/
def Live.slotDue (lv : Live) (s : Nat) : Bool :=
  !lv.fl.kSlots.getLsbD s && !lv.shedSlot s && lv.slotStarted s && lv.slotTick s

/-- The setpoint of a category 2 hold taken up by the slots of a group whose stop has ended (R329): the feedback of a
`POS` slot, 0 of an `SPD` slot. -/
def Live.takeHold (lv : Live) (s : Nat) : Live :=
  match lv.slotGroupOf s with
  | some g =>
    let q := lv.fc.groups[g]
    if q.stop = some .category2 ∧ q.stopped = true ∧ (lv.slot s).hold = none then
      (match lv.num Obj.slotKind s with
       | 3 => lv.modSlot s (fun x => { x with hold := some (lv.slotY s) })
       | 2 => lv.modSlot s (fun x => { x with hold := some 0 })
       | _ => lv)
    else lv
  | none => lv

/-- What slot `s` does in its place of the program outside a run: a disabled group's slot writes 0.0 (R100), a
kennelled slot's outputs are invalid (R110). -/
def Live.slotRest (lv : Live) (s : Nat) : Live :=
  if lv.fl.kSlots.getLsbD s then lv.flagOuts s
  else if lv.shedSlot s then lv
  else if lv.idleSlot s then (lv.slotOuts s).foldl (fun (x : Live) e => x.setBus e 0) (lv.modSlot s (fun q => { q with status := 0, consec := 0 }))
  else lv

/-! ### Events of slots -/

/-- A slot's commit point passed with its run incomplete (R109): the miss is counted; nothing else changes. -/
def Live.missItem (lv : Live) (s : Fin 192) : Live :=
  if lv.en.late.getLsbD s.val then
    ({ lv with en := { lv.en with late := setBit lv.en.late s.val false } }).modSlot s.val
      (fun q => { q with misses := satInc q.misses, consec := q.consec + 1, epLimit := true })
  else lv

def execItemDeadline (l : LaneId) (slot : Fin 192) (s : State) : Host.Outcome State Fault Refusal :=
  done (onLive l (fun lv => lv.missItem slot) s)

/-- A `DQCUR` item fenced off: its winding torque-free (R110). -/
def Live.kennelItem (lv : Live) (s : Fin 192) : Live :=
  if h : s.val < 8 then
    if lv.fl.kSlots.getLsbD s.val then (lv.park ⟨s.val, h⟩ .kennelled).settlePort ⟨s.val, h⟩ else lv
  else if lv.fl.kSlots.getLsbD s.val then lv.flagOuts s.val
  else lv

/-- The safety evaluation occupies slot 191 (R86). -/
def Live.safetySlot (lv : Live) : Bool := (List.finRange 24).any lv.sfOn

/-- SLOT_ESCALATION: `MissLimit` consecutive missed or held runs (R110). -/
def Live.escalate (lv : Live) (s : Fin 192) : Live :=
  if (lv.slot s.val).consec < lv.num Obj.missLimit ∨ lv.fl.kSlots.getLsbD s.val = true then lv
  else
    let lv := lv.modSlot s.val (fun q => { q with consec := 0 })
    if s.val = 191 ∧ lv.safetySlot = true then lv.raise 97 191
    else (lv.raise 96 s.val).kennelItem s

def execSlotEscalation (l : LaneId) (slot : Fin 192) (s : State) : Host.Outcome State Fault Refusal :=
  done (onLive l (fun lv => lv.escalate slot) s)

/-- APP_ENTRY_STALE: an application entry not written for more than `AppStaleTicks` ticks (R99). -/
def Live.appStale (lv : Live) (e : Fin 256) : Live :=
  let n := lv.num Obj.appStaleTicks
  if n ≠ 0 ∧ lv.running = true ∧ lv.en.appWritten.read 0 (768 + e.val) + n < lv.ticks then
    lv.flagBus (768 + e.val) (lv.en.busBad.read false (768 + e.val)) true
  else lv

def execAppEntryStale (l : LaneId) (e : Fin 256) (s : State) : Host.Outcome State Fault Refusal :=
  done (onLive l (fun lv => lv.appStale e) s)

/-- FOLLOWING_ERROR: the timer exceeds `FollowErrTime` (R108). -/
def Live.followError (lv : Live) (s : Fin 192) : Live :=
  let q := lv.slot s.val
  let k := lv.num Obj.slotKind s.val
  if (k = 2 ∨ k = 3) ∧ q.fault = false ∧
      F32.gt q.ferr (F32.ofRatio (lv.num Obj.slotFollowErrTime s.val) 1000) = true then
    let lv := (lv.modSlot s.val (fun x => { x with fault := true })).raise 99 s.val
    match lv.slotGroupOf s.val with
    | some g => lv.groupReact g
    | none => lv
  else lv

def execFollowingError (l : LaneId) (slot : Fin 192) (s : State) : Host.Outcome State Fault Refusal :=
  done (onLive l (fun lv => lv.followError slot) s)

/-! ### Retuning -/

/-- The amplitude estimates of the detectors (R112). -/
def Live.amplitudes (lv : Live) (s : Nat) : List F32 :=
  let l := F32.ofNat (lv.num Obj.slotDetectorLength s)
  (List.range 8).map (fun j =>
    let x := (lv.slot s).bank.getD j (0, 0)
    F32.div (F32.mul (F32.ofNat 2) (F32.sqrt (F32.add (F32.mul x.1 x.1) (F32.mul x.2 x.2)))) l)

/-- The index of the largest amplitude, the lowest on a tie (R113). -/
def peakIndex (m : List F32) : Nat :=
  (List.range 8).foldl (fun b j => if F32.gt (m.getD j 0) (m.getD b 0) then j else b) 0

/-- The frequency that an epoch's detectors point to, if they do (R113). -/
def Live.detected (lv : Live) (s : Nat) : Option F32 :=
  let m := lv.amplitudes s
  let j := peakIndex m
  let mj := m.getD j 0
  let rest := (List.range 8).foldl (fun a k => if k = j then a else F32.add a (m.getD k 0)) 0
  if F32.ge mj (lv.real Obj.slotAdaptThreshold s) && F32.ge mj (F32.mul (F32.ofNat 2) (F32.div rest (F32.ofNat 7))) then
    let a := m.getD (j - 1) 0
    let b := m.getD (j + 1) 0
    let two := F32.ofNat 2
    let half := F32.dec 5 1
    let dl := if 0 < j ∧ j < 7 then
        F32.clamp (F32.div (F32.sub b a) (F32.mul two (F32.sub (F32.sub (F32.mul two mj) a) b))) (F32.neg half) half
      else 0
    some (F32.add (lv.adaptF s j) (F32.mul dl (lv.adaptDelta s)))
  else none

/-- The step of one notch frequency towards `fe` (R113). -/
def Live.retuned (lv : Live) (s : Nat) (f fe : F32) : F32 :=
  let lim := F32.mul (F32.mul (lv.real Obj.slotAdaptRate s) (F32.ofNat (lv.num Obj.slotDetectorLength s))) (lv.slotTs s)
  F32.clamp (F32.add f (F32.clamp (F32.sub fe f) (F32.neg lim) lim)) (lv.real Obj.slotAdaptMin s) (lv.real Obj.slotAdaptMax s)

/-- No retune takes place in this epoch (R114). -/
def Live.epochFrozen (lv : Live) (s : Nat) : Bool :=
  let q := lv.slot s
  decide (q.epochs = 0) || q.epLimit || q.epEvent || q.epEventP || decide (lv.au.mode = .descent) || lv.en.frozen

/-- NOTCH_EPOCH_END (R113, R114): the retune, and the bank cleared. -/
def Live.epochEnd (lv : Live) (s : Fin 192) : Live :=
  let q := lv.slot s.val
  if !lv.adaptive s.val || decide (q.epoch < lv.num Obj.slotDetectorLength s.val) then lv
  else
    let lv := match lv.epochFrozen s.val, lv.detected s.val with
      | false, some fe =>
        let f1 := lv.notchF1 s.val
        let f2 := lv.notchF2 s.val
        let one := decide (lv.num Obj.slotNotch1Mode s.val = 2) && (decide (lv.num Obj.slotNotch2Mode s.val ≠ 2) ||
          F32.le (F32.abs (F32.sub f1 fe)) (F32.abs (F32.sub f2 fe)))
        lv.modSlot s.val (fun x => if one then { x with f1 := some (lv.retuned s.val f1 fe) }
          else { x with f2 := some (lv.retuned s.val f2 fe) })
      | _, _ => lv
    lv.modSlot s.val (fun x => { x with
      bank := [], epoch := 0, epochs := min 2 (x.epochs + 1), epLimit := false, epEventP := x.epEvent, epEvent := false })

def execNotchEpochEnd (l : LaneId) (slot : Fin 192) (s : State) : Host.Outcome State Fault Refusal :=
  done (onLive l (fun lv => lv.epochEnd slot) s)

end Sys2Proof.Machine
end

