-- ==== Sys2Proof/Machine/Angles.lean ====
section
/-!
DEFINITION. The rotor angle of a winding (R136 to R141, R252): its sources, the borrowed angle, the fallback.
-/

namespace Sys2Proof.Machine

/-- The lane's offset of a group's angle, `ElecOffset`, as a turn value (R136). -/
def Live.angleOffset (lv : Live) (g : Fin 24) : Turn := turnOf (lv.real Obj.groupElecOffset g.val lv.me.num)

/-- Pole pairs of a group. -/
def Live.poles (lv : Live) (g : Fin 24) : Nat := lv.num Obj.groupPolePairs g.val

/-- A feedback port serves as a source: it is neither suspect nor failed (R137). -/
def Live.portGood (lv : Live) (p : Fin 8) : Bool := !(lv.fbPort p).suspect && !(lv.fbPort p).failed

/-- The port decodes encoder lines. -/
def Live.encPort (lv : Live) (p : Fin 8) : Bool := decide (lv.fbModeOf p = 1 ∨ lv.fbModeOf p = 2 ∨ lv.fbModeOf p = 4)

/-- The port decodes Hall lines. -/
def Live.hallPort (lv : Live) (p : Fin 8) : Bool := decide (lv.fbModeOf p = 3 ∨ lv.fbModeOf p = 4)

/-- The electrical boundary of Hall sectors `n` − 1 and `n`: n × 60°. -/
def hallEdgeAngle (n : Nat) : Turn := BitVec.ofNat 32 (n * 2 ^ 32 / 6)

/-- `HALL` (R136, R253): sector start, n / 6 turn plus the offset, plus ωe × time since the last edge, stopped at the sector end; the sector centre when
the last two edges lie more than 100 ms apart or in opposite directions. -/
def Live.hallAngle (lv : Live) (p : Fin 8) (g : Fin 24) : Option (Turn × F32) :=
  let off := lv.angleOffset g
  let q := lv.fbPort p
  let n := q.sector.toNat
  if !lv.hallPort p || !lv.portGood p || decide (6 ≤ n) then none
  else
    let centre : Turn := BitVec.ofNat 32 ((2 * n + 1) * 2 ^ 32 / 12) + off
    match q.hallEdges with
    | a :: b :: _ =>
      let dt := a.time - b.time
      let down := decide (a.step < 0)
      let w := F32.mul (F32.div twoPi (F32.ofNat 6)) (F32.ofRatio perSec dt)
      let we := if down then F32.neg w else w
      if 0 < a.step * b.step ∧ 0 < dt ∧ dt ≤ ms 100 then
        let adv := min (2 ^ 32 * (lv.sampleTime p - a.time) / (6 * dt)) (2 ^ 32 / 6)
        some ((if down then hallEdgeAngle (n + 1) - BitVec.ofNat 32 adv else hallEdgeAngle n + BitVec.ofNat 32 adv) + off, we)
      else some (centre, we)
    | _ => some (centre, 0)

/-- `ENC` (R136): p × (count mod C) / C turns plus the offset, at the speed of the port. -/
def Live.encAngle (lv : Live) (p : Fin 8) (g : Fin 24) : Option (Turn × F32) :=
  let q := lv.fbPort p
  let c := 4 * lv.num Obj.groupLineCount g.val
  if !lv.encPort p || !lv.portGood p then none
  else
    some (BitVec.ofNat 32 (lv.poles g * (q.frozenAngle % c) * 2 ^ 32 / c) + lv.angleOffset g,
      F32.mul (F32.mul twoPi (F32.ofNat (lv.poles g))) q.speed)

/-- The mechanical angle of a SENT fast value, in turns × 2^32 (R259). -/
def Live.sentMech (lv : Live) (n : Fin 4) (fast : Word) : Nat :=
  let a := lv.num Obj.angleNibbles 0 n.val
  let d := lv.num Obj.dataNibbles 0 n.val
  (fast.toNat / 2 ^ (4 * (d - a))) % 2 ^ (4 * a) * 2 ^ (32 - 4 * a)

/-- `SENT` (R136, R259): the newest frame that completed 100 ns before the sample instant, aged to it. -/
def Live.sentAngle (lv : Live) (p : Fin 8) (g : Fin 24) : Option (Turn × F32) :=
  if h : lv.num Obj.groupSentInput g.val < 4 then
    let n : Fin 4 := ⟨lv.num Obj.groupSentInput g.val, h⟩
    let q := lv.fb.sent[n]
    let t := lv.sampleTime p
    let speed : F32 := match q.startAt, q.startPrev with
      | some a, some b =>
        let d := turnDiff (BitVec.ofNat 32 (lv.poles g * lv.sentMech n q.fast) - BitVec.ofNat 32 (lv.poles g * lv.sentMech n q.fastPrev))
        if b < a then F32.mul (F32.mul d twoPi) (F32.ofRatio perSec (a - b)) else 0
      | _, _ => 0
    let pick := match q.stopAt, q.startAt with
      | some e, some a => if e + 40 ≤ t then some (q.fast, a) else q.startPrev.map (fun b => (q.fastPrev, b))
      | _, _ => none
    match pick with
    | some (v, a) =>
      if !q.flags.getLsbD 0 then none
      else
        let age := F32.add (F32.ofRatio (t - a) perSec) (F32.mul (lv.real Obj.sentLatency 0 n.val) (F32.dec 1 6))
        some (BitVec.ofNat 32 (lv.poles g * lv.sentMech n v) + lv.angleOffset g
          + turnOf (F32.div (F32.mul speed age) twoPi), speed)
    | none => none
  else none

/-- A conversion of the angle pair, in volts (R159). -/
def Live.pairVolts (lv : Live) (c : Nat) : F32 := F32.ofRatio (((lv.aq.codes.read 0 c).toNat : Int) * 3 - 24576) 16384

/-- The amplitude of the sine/cosine pair lies in its band (R137), and neither channel is kennelled (R293). -/
def Live.pairInBand (lv : Live) : Bool :=
  let s := lv.pairVolts 185
  let c := lv.pairVolts 186
  let a := F32.sqrt (F32.add (F32.mul s s) (F32.mul c c))
  let r := Config.sincosRef lv.me.num
  !lv.fl.kChans.getLsbD 185 && !lv.fl.kChans.getLsbD 186 && F32.ge a (F32.mul (F32.dec 7 1) r) && F32.le a (F32.mul (F32.dec 13 1) r)

/-- `SINCOS` (R136). -/
def Live.pairAngle (lv : Live) (p : Fin 8) (g : Fin 24) : Option (Turn × F32) :=
  if !lv.pairInBand then none
  else
    let mech := atan2T (lv.pairVolts 185) (lv.pairVolts 186)
    let th := BitVec.ofNat 32 (lv.poles g) * mech + lv.angleOffset g
    let w := lv.fc.wind[p]
    some (th, Config.sincosFilter w.we (F32.mul (F32.mul (turnDiff (th - w.theta)) twoPi) lv.rate))

/-! ### Sensorless -/

/-- The electrical frequency of a speed in rad/s. -/
def elecHz (we : F32) : F32 := F32.div (F32.abs we) twoPi

/-- The weight of the observer between `BlendLow` and `BlendHigh` (R139). -/
def Live.blend (lv : Live) (g : Fin 24) (we : F32) : F32 :=
  let lo := lv.real Obj.fieldBlendLow g.val
  let hi := lv.real Obj.fieldBlendHigh g.val
  F32.clamp (F32.div (F32.sub (elecHz we) lo) (F32.sub hi lo)) 0 (F32.ofNat 1)

/-- `SENSORLESS` (R138, R139): the injection estimate of the tick before advanced by ωe × T, the observer, or both. -/
def Live.blendAngle (lv : Live) (p : Fin 8) (g : Fin 24) : Turn × F32 :=
  let w := lv.fc.wind[p]
  let step (we : F32) : Turn := turnOf (F32.div (F32.mul we lv.period) twoPi)
  let inj := w.hfiTheta + step w.hfiW
  let k := lv.blend g w.we
  if F32.isZero k then (inj, w.hfiW)
  else if F32.ge k (F32.ofNat 1) then (w.obsTheta, w.obsW)
  else (inj + turnOf (F32.mul k (turnDiff (w.obsTheta - inj))),
    F32.add w.hfiW (F32.mul k (F32.sub w.obsW w.hfiW)))

/-- A phase voltage as last converted (R159). -/
def Live.phaseVolts (lv : Live) (leg : Fin 24) : F32 := F32.ofRatio (90 * ((lv.aq.codes.read 0 (24 + leg.val)).toNat : Int)) 16384

/-- 1/√3, rounded to binary32. -/
def invRoot3 : F32 := 0x3F13CD3A

/-- α and β of three phase quantities, as R129 forms them. -/
def clarke (a b c : F32) : F32 × F32 :=
  (F32.mul (F32.sub (F32.sub (F32.mul (F32.ofNat 2) a) b) c) (F32.ofRatio 1 3), F32.mul (F32.sub b c) invRoot3)

/-- The measured phase voltages of a winding, α and β (R139). -/
def Live.phaseAB (lv : Live) (p : Fin 8) : F32 × F32 :=
  clarke (lv.phaseVolts (portLeg p 0)) (lv.phaseVolts (portLeg p 1)) (lv.phaseVolts (portLeg p 2))

/-- The back-EMF vector of R139: from the commanded voltages and the currents, or measured while the gates are off. -/
def Live.emf (lv : Live) (p : Fin 8) (g : Fin 24) (off : Bool) (rs : F32) (ial ibe : F32) : F32 × F32 :=
  if off then lv.phaseAB p
  else
    let w := lv.fc.wind[p]
    let ls := F32.div (F32.add (lv.real Obj.fieldLd g.val) (lv.real Obj.fieldLq g.val)) (F32.ofNat 2)
    let one (v i i' : F32) : F32 :=
      F32.sub (F32.sub v (F32.mul rs i)) (F32.div (F32.mul ls (F32.sub i i')) lv.period)
    (one w.va ial w.ial, one w.vb ibe w.ibe)

/-- One step of the back-EMF observer (R139). -/
def Live.observe (lv : Live) (p : Fin 8) (g : Fin 24) (e : F32 × F32) : Turn × F32 :=
  let w := lv.fc.wind[p]
  let size := F32.sqrt (F32.add (F32.mul e.1 e.1) (F32.mul e.2 e.2))
  let err := F32.div (F32.add (F32.mul (F32.neg e.1) (sinT w.obsTheta)) (F32.mul e.2 (cosT w.obsTheta))) size
  Config.trackingLoop (lv.real Obj.fieldPllBandwidth g.val) lv.period err w.obsTheta w.obsW

/-- The peak line-to-line back-EMF that the phase voltages show while the gates are off (R142, R149). -/
def Live.restVolts (lv : Live) (p : Fin 8) : F32 :=
  let e := lv.phaseAB p
  F32.mul root3 (F32.sqrt (F32.add (F32.mul e.1 e.1) (F32.mul e.2 e.2)))

/-! ### Own and borrowed angle -/

/-- The angle that a source gives a winding at its sample instant, none where it gives none (R136, R137). -/
def Live.readSource (lv : Live) (p : Fin 8) (g : Fin 24) (code : Nat) : Option (Turn × F32) :=
  match code with
  | 0 => lv.hallAngle p g
  | 1 => if (lv.fbPort p).aligned then lv.encAngle p g else none
  | 2 => lv.sentAngle p g
  | 3 => some (lv.blendAngle p g)
  | 4 => lv.pairAngle p g
  | _ => none

/-- The own angle of a winding (R141, R142). -/
def Live.readOwn (lv : Live) (p : Fin 8) (g : Fin 24) : Option (Turn × F32) :=
  if (lv.fc.wind[p]).srcLost then none
  else match lv.sourceOf p with
    | some c => lv.readSource p g c
    | none => none

/-- The borrowed angle: the group angle advanced by the group's electrical speed × T (R141). -/
def Live.borrow (lv : Live) (g : Fin 24) : Turn × F32 :=
  let q := lv.fc.groups[g]
  let we := lv.groupWe g
  (q.angle.setWidth 32 <<< 16 + turnOf (F32.div (F32.mul we lv.period) twoPi), we)

/-- Whether the group's `FallbackSource` is fitted and valid on this lane (R141). -/
def Live.fallbackGood (lv : Live) (p : Fin 8) (g : Fin 24) : Bool :=
  match lv.num Obj.groupFallbackSource g.val with
  | 0 => (lv.hallAngle p g).isSome
  | 1 => (lv.fbPort p).aligned && (lv.encAngle p g).isSome
  | 3 => true
  | _ => false

/-- The winding's `SENT` input is the active source and not valid (R258). -/
def Live.sentDead (lv : Live) (p : Fin 8) (g : Fin 24) : Bool :=
  decide (lv.sourceOf p = some 2) && (if h : lv.num Obj.groupSentInput g.val < 4 then
    !(lv.fb.sent[(⟨lv.num Obj.groupSentInput g.val, h⟩ : Fin 4)]).flags.getLsbD 0 else false)

/-- The angle of a winding for this run: taken into its state with its source; `none` where there is none to run on
(R136, R141, R252). -/
def Live.formAngle (lv : Live) (p : Fin 8) (g : Fin 24) : Live :=
  let pair := decide (lv.sourceOf p = some 4) && !lv.pairInBand
  let lv := if pair then lv.losePosition p 3 else lv
  let lv := if lv.sentDead p g && (lv.fc.wind[p]).inUse then lv.losePosition p 2 else lv
  match lv.readOwn p g with
  | some (th, we) =>
    let code := (lv.sourceOf p).getD 7
    let asleep := decide (code = 3) && decide ((lv.gd.ports[p]).mode = .off) &&
      F32.lt (lv.restVolts p) (lv.real Obj.groupCatchRestLevel g.val)
    lv.modWind p (fun w => { w with
      theta := th, wePrev := w.we, we := we, src := BitVec.ofNat 3 code, ownAngle := !asleep,
      hfiTheta := if code = 3 ∧ w.hfiOn = false then th else w.hfiTheta,
      hfiW := if code = 3 ∧ w.hfiOn = false then we else w.hfiW })
  | none =>
    let lv := lv.modWind p (fun w => { w with ownAngle := false })
    if (lv.fc.groups[g]).others then
      let b := lv.borrow g
      lv.modWind p (fun w => { w with theta := b.1, wePrev := w.we, we := b.2, src := 7 })
    else if !(lv.fc.wind[p]).loopOn then lv
    else if (lv.fc.groups[g]).fallback = false ∧ lv.fallbackGood p g = true then lv.toFallback g
    else lv.loseWinding p 5

/-! ### Plausibility -/

/-- The distance in sectors between an angle and the Hall sector (R140, R253). -/
def Live.hallDistance (lv : Live) (p : Fin 8) (g : Fin 24) (th : Turn) : Nat :=
  let a := (th - lv.angleOffset g).toNat * 6 / 2 ^ 32
  let d := (a + 6 - (lv.fbPort p).sector.toNat) % 6
  min d (6 - d)

/-- The Hall check applies: fitted, not the active source, and the port, neither suspect nor
failed, shows a sector (R137, R140). -/
def Live.hallChecks (lv : Live) (p : Fin 8) (g : Fin 24) : Bool :=
  decide (lv.num Obj.groupHallFitted g.val = 1) && decide ((lv.fc.wind[p]).src ≠ 0) && lv.hallPort p
    && lv.portGood p && decide ((lv.fbPort p).sector.toNat < 6)

/-- The losses of synchronism that a winding shows in its run (R140, R145): a step of its own speed beyond
`MaxAccel` × T, a second tick of its own speed beyond `MaxSpeed`, a Hall mismatch of more than one sector. -/
def Live.syncLost (lv : Live) (p : Fin 8) (g : Fin 24) : Bool :=
  let w := lv.fc.wind[p]
  let rad := F32.mul twoPi (F32.ofNat (lv.poles g))
  let jump := F32.gt (F32.abs (F32.sub w.we w.wePrev))
    (F32.mul rad (F32.mul (lv.real Obj.groupMaxAccel g.val) lv.period))
  let far := lv.hallChecks p g && decide (1 < lv.hallDistance p g w.theta)
  (w.ownAngle && (jump || decide (2 ≤ w.overSpd))) || ((w.ownAngle || decide (w.src = 7)) && far)

/-- The speed criterion's count (R145). -/
def Live.countSpeed (lv : Live) (p : Fin 8) (g : Fin 24) : Live :=
  lv.modWind p (fun w =>
    let lim := F32.mul (F32.mul twoPi (F32.ofNat (lv.poles g))) (lv.real Obj.groupMaxSpeed g.val)
    { w with overSpd := if w.ownAngle && F32.gt (F32.abs w.we) lim then w.overSpd + 1 else 0 })

end Sys2Proof.Machine
end

