-- ==== Sys2Proof/Machine/Wiring.lean ====
section
/-!
DEFINITION. The remaining wiring diagnostics (07_wiring_faults.md): current sum, sensor supply, cables, CAN bus faults,
ground shift and the counters.
-/

namespace Sys2Proof.Machine

/-- Wiring status changed. -/
def Live.modWiring (lv : Live) (f : WiringSt → WiringSt) : Live := { lv with wi := f lv.wi }

/-- An open phase or a current-sum fault (R228, R229): torque-free, source 128 + 8p + 5, the winding lost. -/
def Live.phaseFault (lv : Live) (p : Fin 8) : Live :=
  if (lv.fc.wind[p]).inUse then (lv.raise (windSource p 5) noUnit).loseWinding p 4 else lv

/-- CURRENT_SUM_FAULT: the sum out of bound in 16 consecutive runs (R229). -/
def Live.sumFault (lv : Live) (p : Fin 8) : Live :=
  if 16 ≤ (lv.fc.wind[p]).isumRuns then
    (lv.modWiring (fun w => { w with isum := setBit w.isum p.val true })).phaseFault p
  else lv

def execCurrentSumFault (l : LaneId) (p : Fin 8) (s : State) : Host.Outcome State Fault Refusal :=
  done (onLive l (fun lv => lv.sumFault p) s)

/-- VSENS_FAULT (R231): 0 undervoltage, 1 overvoltage, 2 current limit; the output stays on. -/
def Live.vsensFault (lv : Live) (kind : Fin 3) : Live :=
  if lv.sensing then
    (lv.modWiring (fun w => match kind.val with
      | 0 => { w with vsensUv := true }
      | 1 => { w with vsensOv := true }
      | _ => { w with vsensOc := true })).raiseOpen 9 .contained noUnit
  else lv

def execVsensFault (l : LaneId) (kind : Fin 3) (s : State) : Host.Outcome State Fault Refusal :=
  done (onLive l (fun lv => lv.vsensFault kind) s)

/-! ### Cables -/

/-- CABLE_TEST (R232, R237): 0 both channels, 1 A, 2 B; only in STANDBY. -/
def Live.cableTest (lv : Live) (path : Path) (v : Byte) : Live :=
  lv.onGuard path (decide (v.toNat ≤ 2)) lv.standby (fun x =>
    (x.modWiring (fun w => { w with
      cableRunA := w.cableRunA || decide (v ≠ 2), cableRunB := w.cableRunB || decide (v ≠ 1) })).accept (some path))

def execCableTest (l : LaneId) (path : Path) (v : Byte) (s : State) : Host.Outcome State Fault Refusal :=
  done (onLive l (fun lv => lv.cableTest path v) s)

/-- `CableDiag` of a result (R240): the distance reads 0 for results 0, 1 and 5. -/
def cableWord (result : Fin 8) (polrev : Bool) (dist : Byte) : Half :=
  let d := if result.val = 0 ∨ result.val = 1 ∨ result.val = 5 then 0 else min dist.toNat 80
  BitVec.ofNat 16 (result.val + bitAt polrev 3 + d * 16)

/-- CABLE_DIAG_COMPLETE (R232, R240): the latest result of a channel whose diagnostics run. -/
def Live.cableDone (lv : Live) (ch : Chan) (result : Fin 8) (polrev : Bool) (dist : Byte) : Live :=
  match ch with
  | .a => if lv.wi.cableRunA then
      lv.modWiring (fun w => { w with cableA := cableWord result polrev dist, cableRunA := false }) else lv
  | .b => if lv.wi.cableRunB then
      lv.modWiring (fun w => { w with cableB := cableWord result polrev dist, cableRunB := false }) else lv

def execCableDiagComplete (l : LaneId) (ch : Chan) (result : Fin 8) (polrev : Bool) (dist : Byte) (s : State) :
    Host.Outcome State Fault Refusal :=
  done (onLive l (fun lv => lv.cableDone ch result polrev dist) s)

/-! ### CAN transceivers -/

/-- CAN_BUS_FAULT (R233, R241, R289): 0 `BUSV`, 1 `DOMTO`, 2 `SWAP`. -/
def Live.canFault (lv : Live) (n : Fin 4) (kind : Fin 3) : Live :=
  if lv.sensing then
    (lv.modWiring (fun w => { w with canFaults := setBit w.canFaults (4 * n.val + kind.val) true })).raise
      (296 + 4 * n.val + kind.val) noUnit
  else lv

def execCanBusFault (l : LaneId) (n : Fin 4) (kind : Fin 3) (s : State) : Host.Outcome State Fault Refusal :=
  done (onLive l (fun lv => lv.canFault n kind) s)

/-- CAN_BUS_FAULT_CLEAR: the condition absent for 100 ms (R241). -/
def Live.canFaultClear (lv : Live) (n : Fin 4) (kind : Fin 3) : Live :=
  lv.modWiring (fun w => { w with canFaults := setBit w.canFaults (4 * n.val + kind.val) false })

def execCanBusFaultClear (l : LaneId) (n : Fin 4) (kind : Fin 3) (s : State) : Host.Outcome State Fault Refusal :=
  done (onLive l (fun lv => lv.canFaultClear n kind) s)

/-! ### Ground -/

/-- GROUND_SHIFT (R234): every gate off, the flag, source 4, whose fixed reaction withdraws the lane. -/
def Live.shift (lv : Live) : Live :=
  if lv.sensing && !lv.wi.gndShift then
    ((lv.modWiring (fun w => { w with gndShift := true, sniff := none, queue := [] })).settle).raise 4 noUnit
  else lv

def execGroundShift (l : LaneId) (s : State) : Host.Outcome State Fault Refusal := done (onLive l Live.shift s)

/-- GROUND_SHIFT_RECOVERY: below 0.5 V for 100 ms, the lane tries to rejoin (R44, R234). -/
def Live.shiftOver (lv : Live) : Live :=
  if lv.wi.gndShift then
    let lv := lv.modWiring (fun w => { w with gndShift := false })
    if lv.phase = .withdrawn then lv.rejoin else lv.settle
  else lv

def execGroundShiftRecovery (l : LaneId) (s : State) : Host.Outcome State Fault Refusal :=
  done (onLive l Live.shiftOver s)

/-- `ClearCounters` of `WiringStatus` (R237). -/
def Live.clearWiring (lv : Live) : Live :=
  lv.modWiring (fun w => { w with runs := 0, failures := 0, skips := 0, revpol := false })

def execClearWiringCounters (l : LaneId) (v : Byte) (s : State) : Host.Outcome State Fault Refusal :=
  done (onLive l (fun lv => lv.onZero v Live.clearWiring) s)

end Sys2Proof.Machine
end

