-- ==== Sys2Proof/Machine/Dqcur.lean ====
section
/-!
DEFINITION. The `DQCUR` item (04_field_control.md): the current loop of a winding, its limits and modulation, its thermal
model and resistance estimate, the injection extension (R128 to R140, R145, R152 to R154, R117, R228, R229).
-/

namespace Sys2Proof.Machine

/-- √3 / 2, rounded to binary32. -/
def halfRoot3 : F32 := 0x3F5DB3D7

/-! ### Currents -/

/-- A component of three phase quantities. -/
def phaseOf (x : F32 × F32 × F32) (k : Fin 3) : F32 :=
  match k.val with
  | 0 => x.1 | 1 => x.2.1 | _ => x.2.2

/-- The largest duty that leaves a valid shunt window (R133). -/
def Live.dutyLimit (lv : Live) (p : Fin 8) (g : Fin 24) : F32 :=
  let wt := F32.mul (lv.real Obj.fieldWindowTime g.val) (F32.dec 1 6)
  F32.sub (F32.ofNat 1) (F32.div (F32.mul (F32.ofNat 2) (F32.add wt (lv.deadTime p))) lv.period)

/-- Whether a phase's current is valid (R133, R134, R165, R166, R193). -/
def Live.phaseValid (lv : Live) (p : Fin 8) (g : Fin 24) (k : Fin 3) : Bool :=
  lv.aq.shuntOk.getLsbD (portLeg p k).val && F32.le (phaseOf (lv.fc.wind[p]).duty k) (lv.dutyLimit p g)
    && !((lv.gd.ports[p]).legs[k]).refreshNow

/-- The currents of a run (R134): how many phases are valid, and the three currents where at least two are. -/
def Live.validCurrents (lv : Live) (p : Fin 8) (g : Fin 24) : Nat × Option (F32 × F32 × F32) :=
  let a := lv.aq.shuntA[portLeg p 0]
  let b := lv.aq.shuntA[portLeg p 1]
  let c := lv.aq.shuntA[portLeg p 2]
  match lv.phaseValid p g 0, lv.phaseValid p g 1, lv.phaseValid p g 2 with
  | true, true, true => (3, some (a, b, c))
  | false, true, true => (2, some (F32.neg (F32.add b c), b, c))
  | true, false, true => (2, some (a, F32.neg (F32.add a c), c))
  | true, true, false => (2, some (a, b, F32.neg (F32.add a b)))
  | x, y, z => (bit1 x + bit1 y + bit1 z, none)

/-! ### Limits -/

/-- The current limit of R74: rated current, 1.5 times it in boost, the ramp of 1 s back. -/
def Live.boostLimit (lv : Live) (p : Fin 8) (g : Fin 24) : F32 :=
  let r := lv.real Obj.groupRatedCurrent g.val
  let full := F32.mul (F32.dec 15 1) r
  if (lv.au.boostEnd[p]).isSome then full
  else match lv.au.boostRamp[p] with
    | some t =>
      if lv.start - t < perSec then
        F32.sub full (F32.mul (F32.mul (F32.dec 5 1) r) (F32.ofRatio ((lv.start - t : Nat) : Int) perSec))
      else r
    | none => r

/-- The winding temperature θw (R153). -/
def Live.windTemp (lv : Live) (p : Fin 8) (g : Fin 24) : F32 :=
  let w := lv.fc.wind[p]
  let n := lv.num Obj.fieldNtcChannel g.val
  let base := if h : n < 8 then lv.aq.ntc[(⟨n, h⟩ : Fin 8)] else F32.ofNat 25
  let m := F32.add base w.dT
  let rs20 := lv.real Obj.fieldRs20 g.val
  let fresh := match w.rsAt with
    | some t => decide (lv.start ≤ t + 10 * perSec)
    | none => false
  if fresh then
    F32.max m (F32.add (F32.ofNat 20)
      (F32.div (F32.sub (F32.div (w.rs.getD rs20) rs20) (F32.ofNat 1)) (F32.dec 393 5)))
  else m

/-- fth of R152. -/
def Live.thermFactor (lv : Live) (p : Fin 8) (g : Fin 24) : F32 :=
  let hi := lv.real Obj.fieldTempMax g.val
  F32.clamp (F32.div (F32.sub hi (lv.windTemp p g)) (F32.sub hi (lv.real Obj.fieldTempDerate g.val))) 0 (F32.ofNat 1)

/-- The temperature and the applied current limit on the bus, the `THERM` and `BOOST` flags, and the over-temperature
fault when fth reaches 0 (R152, R153). -/
def Live.thermal (lv : Live) (p : Fin 8) (g : Fin 24) : Live :=
  let f := lv.thermFactor p g
  let lv := (lv.setBus (312 + p.val) (lv.windTemp p g)).setBus (378 + p.val) (F32.mul (lv.boostLimit p g) f)
  let zero := F32.isZero f
  let was := (lv.fc.wind[p]).overTemp
  let boost := (lv.au.boostEnd[p]).isSome || (match lv.au.boostRamp[p] with
    | some t => decide (lv.start - t < perSec)
    | none => false)
  let lv := lv.modWind p (fun w => { w with
    overTemp := zero, flags := setBit (setBit w.flags 10 (F32.lt f (F32.ofNat 1))) 11 boost })
  if zero && !was && (lv.fc.wind[p]).inUse then (lv.raise (windSource p 7) noUnit).groupReact g else lv

/-- The thermal model's step (R153). -/
def Live.thermStep (lv : Live) (p : Fin 8) (g : Fin 24) : Live :=
  lv.modWind p (fun w =>
    let rs := w.rs.getD (lv.real Obj.fieldRs20 g.val)
    let heat := F32.mul (F32.mul (F32.mul (lv.real Obj.fieldThermalRth g.val) (F32.dec 15 1)) rs)
      (F32.add (F32.mul w.id w.id) (F32.mul w.iq w.iq))
    { w with dT := F32.add w.dT (F32.div (F32.mul (F32.sub heat w.dT) lv.period) (lv.real Obj.fieldThermalTau g.val)) })

/-- The number of enabled windings of the lane (R130). -/
def Live.enabledWindings (lv : Live) : Nat := (List.finRange 8).countP (fun p =>
  match lv.groupOf p with
  | some g => (lv.fc.groups[g]).enabled && (lv.fc.wind[p]).inUse
  | none => false)

/-- psi + (Ld − Lq) × idr, the flux that makes torque (R129). -/
def Live.torqueFlux (lv : Live) (g : Fin 24) (idr : F32) : F32 :=
  F32.add (lv.real Obj.fieldFluxLinkage g.val)
    (F32.mul (F32.sub (lv.real Obj.fieldLd g.val) (lv.real Obj.fieldLq g.val)) idr)

/-- `regen_clamp` of R130: the q-axis reference and whether the clamp acted. -/
def Live.regenClamp (lv : Live) (g : Fin 24) (we iqr idr : F32) : F32 × Bool :=
  let vdc := lv.bus 320
  if F32.lt (F32.mul we iqr) 0 && F32.gt vdc 0 then
    let ir := F32.div (lv.bus 322) (F32.ofNat lv.enabledWindings)
    let lim := F32.div (F32.mul ir vdc)
      (F32.mul (F32.mul (F32.dec 15 1) (F32.abs we)) (F32.abs (lv.torqueFlux g idr)))
    if F32.gt (F32.abs iqr) lim then (F32.mul (signF iqr) lim, true) else (iqr, false)
  else (iqr, false)

/-! ### Decoupling -/

/-- Id and Iq of a port in a record, from binary16 (R25, R131). -/
def recordIdq (r : TickRecord) (p : Fin 8) : F32 × F32 :=
  (F32.ofHalf (r.idq.getD (2 * p.val) 0), F32.ofHalf (r.idq.getD (2 * p.val + 1) 0))

/-- Xd and Xq of one other winding, and whether it is stale (R131). -/
def Live.coupling (lv : Live) (g : Fin 24) (we : F32) (o : LaneId) : (F32 × F32) × Bool :=
  match lv.rxOf o, lv.portOfLane o g with
  | some x, some p =>
    (match x.last with
     | some r =>
       if 2 < x.age ∨ r.health.getLsbD p.val = false ∨ lv.sees o = false then ((0, 0), false)
       else
         let now := recordIdq r p
         let old := if x.age = 1 then (match x.prior with | some r' => recordIdq r' p | none => now) else now
         let md := lv.real Obj.fieldMutualD g.val
         let mq := lv.real Obj.fieldMutualQ g.val
         ((F32.sub (F32.div (F32.mul md (F32.sub now.1 old.1)) lv.period) (F32.mul (F32.mul we mq) now.2),
           F32.add (F32.div (F32.mul mq (F32.sub now.2 old.2)) lv.period) (F32.mul (F32.mul we md) now.1)),
          decide (x.age = 2))
     | none => ((0, 0), false))
  | _, _ => ((0, 0), false)

/-- Xd, Xq and `STALEX` (R131). -/
def Live.couplings (lv : Live) (g : Fin 24) (we : F32) : (F32 × F32) × Bool :=
  if F32.isZero (lv.real Obj.fieldMutualD g.val) && F32.isZero (lv.real Obj.fieldMutualQ g.val) then ((0, 0), false)
  else lv.me.others.foldl (fun a o =>
    let x := lv.coupling g we o
    ((F32.add a.1.1 x.1.1, F32.add a.1.2 x.1.2), a.2 || x.2)) ((0, 0), false)

/-! ### Modulation -/

/-- The duties of a voltage vector (R132). -/
def modulate (code : Nat) (va vb vdc : F32) : F32 × F32 × F32 :=
  let half := F32.dec 5 1
  let a := va
  let b := F32.add (F32.mul (F32.neg half) va) (F32.mul halfRoot3 vb)
  let c := F32.sub (F32.mul (F32.neg half) va) (F32.mul halfRoot3 vb)
  let hi := F32.max (F32.max a b) c
  let lo := F32.min (F32.min a b) c
  let h := F32.div vdc (F32.ofNat 2)
  let low := F32.sub (F32.neg h) lo
  let v0 := match code with
    | 0 => F32.div (F32.neg (F32.add hi lo)) (F32.ofNat 2)
    | 1 => if F32.ge (F32.add hi lo) 0 then F32.sub h hi else low
    | _ => low
  let d (x : F32) : F32 := F32.clamp (F32.add half (F32.div (F32.add x v0) vdc)) 0 (F32.ofNat 1)
  (d a, d b, d c)

/-- `window_clamp` of R135: the duties, and the factor of a scaled vector. -/
def windowClamp (dlim : F32) (d : F32 × F32 × F32) : (F32 × F32 × F32) × Option F32 :=
  let hi := F32.max (F32.max d.1 d.2.1) d.2.2
  let lo := F32.min (F32.min d.1 d.2.1) d.2.2
  let mid := F32.max (F32.min d.1 d.2.1) (F32.min (F32.max d.1 d.2.1) d.2.2)
  if F32.gt mid dlim then
    let sh := F32.sub mid dlim
    let hiAt : Nat := if hi = d.1 then 0 else if hi = d.2.1 then 1 else 2
    let loAt : Nat := if lo = d.2.2 ∧ hiAt ≠ 2 then 2 else if lo = d.2.1 ∧ hiAt ≠ 1 then 1 else 0
    let place (x1 x2 x3 : F32) : F32 × F32 × F32 :=
      let at' (k : Nat) : F32 := if k = hiAt then x1 else if k = loAt then x3 else x2
      (at' 0, at' 1, at' 2)
    if F32.ge (F32.sub lo sh) 0 then (place (F32.sub hi sh) dlim (F32.sub lo sh), none)
    else
      let k := F32.div dlim (F32.sub mid lo)
      (place (F32.mul (F32.sub hi lo) k) dlim 0, some k)
  else (d, none)

/-- The compare value of a phase: its duty with dead-time compensation (R117). -/
def Live.compensated (lv : Live) (p : Fin 8) (g : Fin 24) (k : Fin 3) (d i : F32) : F32 :=
  let tc := (((lv.gd.ports[p]).legs[k]).tc).getD (lv.deadTime p)
  let s := F32.clamp (F32.div i (F32.mul (lv.real Obj.deadTimeBand) (lv.real Obj.groupRatedCurrent g.val)))
    (F32.neg (F32.ofNat 1)) (F32.ofNat 1)
  F32.clamp (F32.add d (F32.div (F32.mul (F32.ofNat 2) (F32.mul s tc)) lv.period)) 0 (F32.ofNat 1)

/-- The dead-time compensation of a leg adapted from the delays measured in this tick (R117). -/
def Live.adaptDead (lv : Live) (p : Fin 8) (g : Fin 24) (i : F32 × F32 × F32) : Live :=
  let band := F32.mul (lv.real Obj.deadTimeBand) (lv.real Obj.groupRatedCurrent g.val)
  let td := lv.deadTime p
  let lv := if lv.num Obj.deadTimeAdapt = 0 ∨ lv.en.frozen = true then lv
    else forAll 3 (fun k (x : Live) =>
      let ik := phaseOf i k
      match (x.fc.wind[p]).dfr[k] with
      | (some r, some f) =>
        if F32.gt (F32.abs ik) band then
          let m := F32.mul (signF ik) (F32.ofRatio ((r : Int) - f) perSec)
          x.modLeg (portLeg p k) (fun q =>
            let tc := q.tc.getD td
            { q with tc := some (F32.clamp (F32.add tc (F32.div (F32.sub m tc) (F32.ofNat 64))) 0 (F32.mul (F32.ofNat 2) td)) })
        else x
      | _ => x) lv
  lv.modWind p (fun w => { w with dfr := Vector.replicate 3 (none, none) })

/-! ### The run -/

/-- What a run of the current loop computes. -/
structure LoopRun where
  id : F32
  iq : F32
  xd : F32
  xq : F32
  idfw : F32
  va : F32
  vb : F32
  vd : F32
  vq : F32
  duty : F32 × F32 × F32
  cmp : F32 × F32 × F32
  ial : F32
  ibe : F32
  cur : F32 × F32 × F32
  valid : Nat
  held : Bool
  vlim : Bool
  regen : Bool
  stalex : Bool
  scaled : Bool
  limited : Bool
  deriving DecidableEq, Repr

/-- The 5 ms ramp of the references after a start on a turning motor (R149). -/
def Live.rampFactor (lv : Live) (w : WindingSt) : Option F32 :=
  match w.rampFrom with
  | some t => if lv.start - t < ms 5 then some (F32.ofRatio ((lv.start - t : Nat) : Int) (ms 5)) else none
  | none => none

/-- The voltage that the injection adds to the d axis (R138). -/
def Live.injection (lv : Live) (p : Fin 8) (g : Fin 24) : F32 :=
  let w := lv.fc.wind[p]
  if w.hfiOn then
    (if w.hfiSign then F32.neg (lv.real Obj.fieldHfiVoltage g.val) else lv.real Obj.fieldHfiVoltage g.val)
  else 0

/-- The torque command of the winding, (A / Kf) / m; a winding that no record counts as healthy yet carries none
(R127, R146). -/
def Live.torqueCommand (lv : Live) (g : Fin 24) : F32 :=
  let kf := lv.real Obj.groupForceRatio g.val
  let m := lv.au.mGroup[g]
  if m = 0 then 0
  else F32.div (F32.div (lv.bus (192 + g.val)) (if F32.isZero kf then F32.ofNat 1 else kf)) (F32.ofNat m)

/-- The equations of R129, each line as written. -/
def Live.loopRun (lv : Live) (p : Fin 8) (g : Fin 24) : LoopRun :=
  let w := lv.fc.wind[p]
  let T := lv.period
  let th := w.theta
  let we := w.we
  let ld := lv.real Obj.fieldLd g.val
  let lq := lv.real Obj.fieldLq g.val
  let psi := lv.real Obj.fieldFluxLinkage g.val
  let rs20 := lv.real Obj.fieldRs20 g.val
  let rs := w.rs.getD rs20
  let bw := F32.mul twoPi (lv.real Obj.fieldCurrentBandwidth g.val)
  let kpd := F32.mul bw ld
  let kpq := F32.mul bw lq
  let ki := F32.mul bw rs20
  let vc := lv.validCurrents p g
  let cur := vc.2.getD (0, 0, 0)
  let ab := clarke cur.1 cur.2.1 cur.2.2
  let c := cosT th
  let s := sinT th
  let held := vc.2.isNone
  let id := if held then w.id else F32.add (F32.mul c ab.1) (F32.mul s ab.2)
  let iq := if held then w.iq else F32.sub (F32.mul c ab.2) (F32.mul s ab.1)
  let ref := lv.real Obj.fieldIdRef g.val
  let idr := F32.add ref w.idfw
  let pp := F32.ofNat (lv.poles g)
  let iqr := F32.div (lv.torqueCommand g) (F32.mul (F32.mul (F32.dec 15 1) pp) (lv.torqueFlux g idr))
  let ilim := lv.bus (378 + p.val)
  let ii := F32.mul ilim ilim
  let lim := F32.gt (F32.add (F32.mul idr idr) (F32.mul iqr iqr)) ii
  let idr := if lim then F32.max idr (F32.neg ilim) else idr
  let iqr := if lim then F32.mul (signF iqr) (F32.sqrt (F32.sub ii (F32.mul idr idr))) else iqr
  let rg := lv.regenClamp g we iqr idr
  let k := lv.rampFactor w
  let idr := match k with | some f => F32.mul idr f | none => idr
  let iqr := match k with | some f => F32.mul rg.1 f | none => rg.1
  let ed := F32.sub idr id
  let eq' := F32.sub iqr iq
  let X := lv.couplings g we
  let vdu := F32.add (F32.add (F32.mul kpd ed) w.xd)
    (F32.add (F32.sub (F32.mul rs idr) (F32.mul (F32.mul we lq) iqr)) X.1.1)
  let vqu := F32.add (F32.add (F32.mul kpq eq') w.xq)
    (F32.add (F32.add (F32.mul rs iqr) (F32.mul we (F32.add (F32.mul ld idr) psi))) X.1.2)
  let vdc := lv.bus 320
  let vlim := F32.mul (F32.mul (lv.real Obj.fieldModIndexMax g.val) vdc) invRoot3
  let vd := F32.clamp vdu (F32.neg vlim) vlim
  let vql := F32.sqrt (F32.sub (F32.mul vlim vlim) (F32.mul vd vd))
  let vq := F32.clamp vqu (F32.neg vql) vql
  let thv := th + turnOf (F32.div (F32.mul we (F32.add (F32.dec 75 8) (F32.mul (F32.dec 5 1) T))) twoPi)
  let vdi := F32.add vd (lv.injection p g)
  let cv := cosT thv
  let sv := sinT thv
  let va := F32.sub (F32.mul cv vdi) (F32.mul sv vq)
  let vb := F32.add (F32.mul sv vdi) (F32.mul cv vq)
  let wc := windowClamp (lv.dutyLimit p g) (modulate (lv.num Obj.fieldModulation g.val) va vb vdc)
  let vds := match wc.2 with | some f => F32.mul vd f | none => vd
  let vqs := match wc.2 with | some f => F32.mul vq f | none => vq
  let stay (v u e : F32) : Bool := !F32.eq v u && F32.gt (F32.mul e (F32.sub u v)) 0
  let xd := if held || stay vds vdu ed then w.xd else F32.add w.xd (F32.mul (F32.mul ki T) ed)
  let xq := if held || stay vqs vqu eq' then w.xq else F32.add w.xq (F32.mul (F32.mul ki T) eq')
  let idfw := if held then w.idfw else
    F32.clamp (F32.add w.idfw (F32.mul (F32.mul (lv.real Obj.fieldFwGain g.val) T)
      (F32.sub (F32.mul (F32.dec 95 2) vlim) (F32.sqrt (F32.add (F32.mul vdu vdu) (F32.mul vqu vqu))))))
      (F32.sub (lv.real Obj.fieldIdMin g.val) ref) 0
  let volt := !F32.eq vd vdu || !F32.eq vq vqu
  let cmp (j : Fin 3) : F32 := lv.compensated p g j (phaseOf wc.1 j) (phaseOf cur j)
  { id := id, iq := iq, xd := xd, xq := xq, idfw := idfw, va := va, vb := vb, vd := vd, vq := vq, duty := wc.1,
    cmp := (cmp 0, cmp 1, cmp 2), ial := if held then w.ial else ab.1, ibe := if held then w.ibe else ab.2,
    cur := cur, valid := vc.1, held := held, vlim := volt, regen := rg.2, stalex := X.2, scaled := wc.2.isSome,
    limited := lim || rg.2 || volt || wc.2.isSome }

/-! ### What follows from a run -/

/-- The resistance estimate of a run, where it is updated (R154). -/
def Live.rsUpdate (lv : Live) (g : Fin 24) (w : WindingSt) (r : LoopRun) : Option F32 :=
  let ii := F32.add (F32.mul r.id r.id) (F32.mul r.iq r.iq)
  let a := F32.mul (F32.dec 2 1) (lv.real Obj.groupRatedCurrent g.val)
  let rs20 := lv.real Obj.fieldRs20 g.val
  if decide (lv.num Obj.fieldRsAdapt g.val = 1) && F32.le (elecHz w.we) (lv.real Obj.fieldRsAdaptSpeed g.val)
      && F32.ge ii (F32.mul a a) && !r.limited && decide (r.valid = 3) && !lv.en.frozen then
    let ld := lv.real Obj.fieldLd g.val
    let lq := lv.real Obj.fieldLq g.val
    let rm := F32.div
      (F32.add (F32.mul (F32.add r.vd (F32.mul (F32.mul w.we lq) r.iq)) r.id)
        (F32.mul (F32.sub r.vq (F32.mul w.we (F32.add (F32.mul ld r.id) (lv.real Obj.fieldFluxLinkage g.val)))) r.iq)) ii
    let rs := w.rs.getD rs20
    some (F32.clamp (F32.add rs (F32.div (F32.sub rm rs) (F32.ofNat 1024)))
      (F32.mul (F32.dec 6 1) rs20) (F32.mul (F32.dec 18 1) rs20))
  else none

/-- The current-sum check of a run with three valid phases (R229). -/
def Live.sumRuns (lv : Live) (p : Fin 8) (w : WindingSt) (r : LoopRun) : Nat :=
  if r.valid ≠ 3 then w.isumRuns
  else
    let s := F32.add (F32.add r.cur.1 r.cur.2.1) r.cur.2.2
    if F32.gt (F32.abs s) (F32.mul (F32.dec 25 2) (lv.fullScale p)) then w.isumRuns + 1 else 0

/-- The turn window of R228 after a run: the net angle, the peaks, and whether a full turn shows an open phase. -/
def Live.openWindow (lv : Live) (g : Fin 24) (w : WindingSt) (r : LoopRun) :
    (Option Int × (F32 × F32 × F32)) × Bool :=
  let a := (F32.abs r.cur.1, F32.abs r.cur.2.1, F32.abs r.cur.2.2)
  let small := F32.lt (F32.sqrt (F32.add (F32.mul r.id r.id) (F32.mul r.iq r.iq)))
    (F32.mul (F32.dec 2 1) (lv.real Obj.groupRatedCurrent g.val))
  if small || decide (r.valid ≠ 3) || r.held then ((none, (0, 0, 0)), false)
  else match w.openPrev with
    | none => ((none, (0, 0, 0)), false)
    | some th0 =>
      let d := (w.theta - th0).toInt
      let raw := (th0.toNat : Int) + d
      let begins := decide (2 ^ 32 ≤ raw) || decide (raw < 0)
      match w.openNet with
      | none => if begins then ((some 0, a), false) else ((none, (0, 0, 0)), false)
      | some n =>
        let m := (F32.max w.openMax.1 a.1, F32.max w.openMax.2.1 a.2.1, F32.max w.openMax.2.2 a.2.2)
        if 2 ^ 32 ≤ (n + d).natAbs then
          let quiet (x y z : F32) : Bool := F32.lt x (F32.mul (F32.dec 1 1) (F32.min y z))
          ((some 0, a), quiet m.1 m.2.1 m.2.2 || quiet m.2.1 m.1 m.2.2 || quiet m.2.2 m.1 m.2.1)
        else ((some (n + d), m), false)

/-- Injection switched off above `BlendHigh` × 1.1 and on again below `BlendLow` (R138). -/
def Live.injects (lv : Live) (p : Fin 8) (g : Fin 24) (w : WindingSt) : Bool :=
  if lv.sourceOf p ≠ some 3 then false
  else
    let f := elecHz w.we
    if w.hfiOn then F32.le f (F32.mul (lv.real Obj.fieldBlendHigh g.val) (F32.dec 11 1))
    else F32.lt f (lv.real Obj.fieldBlendLow g.val)

/-- The state words of a winding that carry numbers (R267). -/
def WindingSt.words (w : WindingSt) : List Word := [w.xd, w.xq, w.idfw, w.id, w.iq, w.va, w.vb, w.ial, w.ibe, w.dT]

/-- A winding with its number-carrying state words replaced. -/
def WindingSt.withWords (w : WindingSt) (ws : List Word) : WindingSt :=
  { w with xd := ws.getD 0 0, xq := ws.getD 1 0, idfw := ws.getD 2 0, id := ws.getD 3 0, iq := ws.getD 4 0,
           va := ws.getD 5 0, vb := ws.getD 6 0, ial := ws.getD 7 0, ibe := ws.getD 8 0, dT := ws.getD 9 0 }

/-- `FieldStatus` flags of a run (R158). -/
def loopFlags (old : Word) (r : LoopRun) (hallmis rsfrz : Bool) : Word :=
  let f := setBit (setBit (setBit old 6 (decide (r.valid = 2))) 7 r.scaled) 8 r.vlim
  setBit (setBit (setBit (setBit (setBit f 9 r.regen) 12 hallmis) 15 r.stalex) 16 (F32.lt r.idfw 0)) 17 rsfrz

/-- The words of a run: duties, Id, Iq, angle, state words; the angle as the inverse transform gives it (R273). -/
def Live.runWords (w : WindingSt) (r : LoopRun) : List Word :=
  [r.duty.1, r.duty.2.1, r.duty.2.2, r.id, r.iq, turnFrac w.theta, r.xd, r.xq, r.idfw, r.id, r.iq, r.va, r.vb, r.ial, r.ibe, w.dT]

/-- A run's results taken into the winding's state and onto the bus (R129); `ws` are its words, in their order. -/
def Live.putRun (lv : Live) (p : Fin 8) (g : Fin 24) (r : LoopRun) (ws : List Word) : Live :=
  let w := lv.fc.wind[p]
  let rs := lv.rsUpdate g w r
  let mis := lv.hallChecks p g && decide (lv.hallDistance p g w.theta = 1)
  let o := lv.openWindow g w r
  let sums := lv.sumRuns p w r
  let e := lv.emf p g false (w.rs.getD (lv.real Obj.fieldRs20 g.val)) r.ial r.ibe
  let ob := lv.observe p g e
  let lv := lv.adaptDead p g r.cur
  let lv := lv.modWind p (fun w =>
    { (w.withWords (ws.drop 6)) with
      newDuty := some ((ws.getD 0 0, ws.getD 1 0, ws.getD 2 0), r.cmp),
      ticksOn := w.ticksOn + 1, flags := loopFlags w.flags r mis rs.isNone,
      rs := match rs with | some x => some x | none => w.rs,
      rsAt := if rs.isSome then some lv.start else w.rsAt,
      recon := if r.valid = 2 then satInc w.recon else w.recon,
      modClamp := if r.scaled then satInc w.modClamp else w.modClamp,
      rampFrom := if (lv.rampFactor w).isNone then none else w.rampFrom,
      hfiOn := lv.injects p g w, hfiSign := !w.hfiSign, hfiIq := w.iq,
      obsTheta := ob.1, obsW := ob.2,
      isumRuns := sums, openNet := o.1.1, openMax := o.1.2, openPrev := some w.theta })
  let lv := ((lv.setBus (288 + p.val) (ws.getD 3 0)).setBus (296 + p.val) (ws.getD 4 0)).setBus (304 + p.val) (ws.getD 5 0)
  let lv := lv.modSlot p.val (fun q => { q with
    consec := if r.held then q.consec + 1 else 0,
    invalid := if r.held then satInc q.invalid else q.invalid,
    status := slotStatus r.vlim false false r.held false r.stalex 0 })
  if o.2 then
    ({ lv with wi := { lv.wi with
      openPh := setBit lv.wi.openPh p.val true,
      isum := if 16 ≤ sums then setBit lv.wi.isum p.val true else lv.wi.isum } }).phaseFault p
  else lv

/-- The part of a `DQCUR` item that every bound winding has in every tick: angle, temperature, observer while its gates
are off (R136, R139, R142, R152). -/
def Live.itemAngle (lv : Live) (p : Fin 8) (g : Fin 24) : Live :=
  let lv := ((lv.formAngle p g).countSpeed p g).thermal p g
  if (lv.gd.ports[p]).mode = .off then
    let ob := lv.observe p g (lv.phaseAB p)
    lv.modWind p (fun w => { w with obsTheta := ob.1, obsW := ob.2 })
  else lv

/-- The current loop runs in this tick: the winding runs or stops, and has not lost synchronism in it (R146). -/
def Live.loopDue (lv : Live) (p : Fin 8) : Bool :=
  (lv.fc.wind[p]).loopOn && !lv.fl.kSlots.getLsbD p.val && decide (lv.phase = .joined)

/-- The extension's step: the injection estimate of this tick (R138). -/
def Live.extension (lv : Live) (p : Fin 8) (g : Fin 24) : Live :=
  lv.modWind p (fun w =>
    if w.hfiOn then
      let r := Config.trackingLoop (lv.real Obj.fieldPllBandwidth g.val) lv.period
        (Config.hfiError (F32.sub w.iq w.hfiIq) w.hfiSign) w.hfiTheta w.hfiW
      { w with hfiTheta := r.1, hfiW := r.2 }
    else w)

end Sys2Proof.Machine
end

