-- ==== Sys2Proof/Machine/Engine.lean ====
section
/-!
DEFINITION. The engine window (R85 to R95, R109), its lead and tail passes, signatures, tagged tests and restores
(09_time_redundant_execution.md), paired threads, and the commit instant.
-/

namespace Sys2Proof.Machine

/-! ### The tick program -/

/-- W of R88. -/
def Live.winCycles (lv : Live) : Nat := 75000000 / lv.num Obj.tickRate

/-- A winding uses high-frequency injection (R156). -/
def Live.usesHfi (lv : Live) (p : Fin 8) : Bool :=
  match lv.groupOf p with
  | some g => decide (lv.num Obj.groupPositionSource g.val = 3 ∨ lv.num Obj.groupFallbackSource g.val = 3)
  | none => false

/-- The bound winding of an eighth (R21). -/
def Live.portAt (lv : Live) (e : Nat) : Option (Fin 8) :=
  (List.finRange 8).find? (fun p => (lv.groupOf p).isSome && decide (lv.num Obj.portCarrierEighth p.val = e))

/-- Window `w` is a pair window (R88). -/
def Live.isPair (lv : Live) (w : Nat) : Bool :=
  decide (50000 < lv.num Obj.tickRate) && (match lv.portAt w with | some p => lv.usesHfi p | none => false)

/-- The cycles of a window (R88, R90). -/
def Live.budget (lv : Live) (w : Nat) : Nat := if lv.isPair w then 2 * lv.winCycles else lv.winCycles

/-- An item of an engine window (R89). -/
inductive EItem where
  | loop (p : Fin 8)
  | ext (p : Fin 8)
  | slot (s : Nat)
  deriving DecidableEq, Repr

/-- The items of a window in program order (R90, R92). -/
def Live.winItems (lv : Live) (w : Fin 8) : List EItem :=
  (match lv.portAt w.val with
   | some p => .loop p :: (if lv.usesHfi p then [.ext p] else [])
   | none => []) ++ (lv.en.windows[w]).map .slot

/-- The cycles of a loop slot (R89). -/
def Live.slotCost (lv : Live) (s : Nat) : Nat :=
  if s = 191 ∧ lv.safetySlot = true then 22
  else if lv.num Obj.slotKind s = 7 then 44
  else 22 + 22 * bit1 (lv.adaptive s) + 22 * bit1 (decide (lv.num Obj.slotTrajNumber s < 32))

/-- The occupancy of an item (R89). -/
def Live.itemCost (lv : Live) : EItem → Nat
  | .loop _ => 192
  | .ext _ => 1176
  | .slot s => lv.slotCost s

/-- A record item: the authority source of a group, or the safety evaluation (R90). -/
def Live.recordItem (lv : Live) (s : Nat) : Bool :=
  (decide (s = 191) && lv.safetySlot) ||
    (List.finRange 24).any (fun g => lv.groupBound g && decide (lv.num Obj.groupAuthoritySlot g.val = s))

/-- Whether an item that ends `t` cycles after its window's start has met its commit point (R109). -/
def Live.inTime (lv : Live) (w : Nat) (i : EItem) (t : Nat) : Bool :=
  match i with
  | .loop _ => decide (t ≤ 342)
  | .ext _ => decide (t ≤ lv.budget w)
  | .slot s => if lv.recordItem s then decide ((t + 108) * lv.num Obj.tickRate ≤ (4 - w) * 75000000)
      else decide (t ≤ lv.budget w)

/-- The commit point of an item, in cycles from its window's start (R109). -/
def Live.commitAt (lv : Live) (w : Nat) (i : EItem) : Nat :=
  match i with
  | .loop _ => 342
  | .ext _ => lv.budget w
  | .slot s => if lv.recordItem s then (4 - w) * 75000000 / lv.num Obj.tickRate - 108 else lv.budget w

/-! ### Signatures -/

/-- Words fed into the two registers of a channel (R273). -/
def Live.feed (lv : Live) (ch : Fin 32) (lead tail : List Word) : Live :=
  { lv with ps := { lv.ps with
    lead := vmod lv.ps.lead ch (fun r => crc64Feed r lead), tail := vmod lv.ps.tail ch (fun r => crc64Feed r tail),
    used := setBit lv.ps.used ch.val true } }

/-- Words with the flips that upsets make in them. -/
def flipped (ws : List Word) (fs : List (Nat × Word)) : List Word :=
  fs.foldl (fun xs f => xs.mapIdx (fun k x => if k = f.1 then x ^^^ f.2 else x)) ws

/-- The flips of the lead pass of item `n`. -/
def leadFlips (us : List Upset) (n : Nat) : List (Nat × Word) :=
  us.filterMap (fun u => match u with | .leadWord i w m => if i = n then some (w, m) else none | _ => none)

/-- The flips of the tail pass of item `n`. -/
def tailFlips (us : List Upset) (n : Nat) : List (Nat × Word) :=
  us.filterMap (fun u => match u with | .tailWord i w m => if i = n then some (w, m) else none | _ => none)

/-- A mismatch counted under R277, with its place; the third within 1 s is FATAL. -/
def Live.countMismatch (lv : Live) (src unit : Nat) : Live :=
  let recent := lv.ps.recent.filter (fun t => decide (lv.clk ≤ t + perSec)) ++ [lv.clk]
  let lv := { lv with ps := { lv.ps with recent := recent, lastTick := lv.tickLow, lastSrc := BitVec.ofNat 8 src } }
  if 3 ≤ recent.length then lv.raise 82 unit else lv

/-- The delay-register errors that strike item `n`: the corrected count and whether one is uncorrectable (R278, R303). -/
def Live.delayEcc (lv : Live) (us : List Upset) (n : Nat) : Bool × Live :=
  let syn := Config.openSyndrome 2
  let corr := us.any (fun u => match u with | .eccCorrected i => decide (i = n) | _ => false)
  let unc := us.any (fun u => match u with | .eccUncorrectable i => decide (i = n) | _ => false)
  let pat := match lv.fl.armed with | some a => a.pattern | none => 0
  let inj := lv.injected 76
  let lv := inj.2
  let fix (x : Live) (how : Option Bool) : Live :=
    ({ x with ps := { x.ps with eccCorr := satInc x.ps.eccCorr } }).raiseBy 19 noUnit syn how
  let bad (x : Live) (how : Option Bool) : Live :=
    ({ x with ps := { x.ps with eccUnc := satInc x.ps.eccUnc } }).raiseBy 20 noUnit syn how
  let lv := if corr then fix lv none else lv
  let lv := if unc then bad lv none else lv
  match inj.1 with
  | none => (unc, lv)
  | some r => if pat = 2 then (unc || r, bad lv (some r)) else (unc, fix lv (some r))

/-! ### The duty compare -/

/-- The running winding with the lowest eighth (R280). -/
def Live.firstWinding (lv : Live) : Option (Fin 8) :=
  (List.range 8).findSome? (fun e => match lv.portAt e with
    | some p => if (lv.fc.wind[p]).loopOn then some p else none
    | none => none)

/-- A duty mismatch (R272): the previous compare values stay, the rest of the tick is abandoned. -/
def Live.dutyMismatch (lv : Live) (p : Fin 8) : Live :=
  (({ lv with ps := { lv.ps with dutyBad := some p, dutyMis := satInc lv.ps.dutyMis } }).modWind p
    (fun w => { w with newDuty := none }))

/-- The turn goes to the target after `t`; after a full cycle the bit positions advance (R280). -/
def PassSt.advance (p : PassSt) (t : Nat) : PassSt :=
  let wraps := decide (t = 9) || decide (t < p.target)
  { p with target := (t + 1) % 10,
           chanBit := if wraps then (p.chanBit + 1) % 64 else p.chanBit,
           dutyBit := if wraps then (p.dutyBit + 1) % 32 else p.dutyBit }

/-- The duty compare of a winding (R272), tagged where a test is due on it (R280, R281). -/
def Live.dutyCompare (lv : Live) (p : Fin 8) (lead tail : List Word) (unc : Bool) : Live :=
  let diff := (List.range 3).map (fun k => lead.getD k 0 ^^^ tail.getD k 0)
  let tagged := lv.ps.dutyTag && decide (lv.firstWinding = some p)
  let inj : Word := if tagged then BitVec.ofNat 32 (2 ^ lv.ps.dutyBit) else 0
  let seen := if lv.ps.stuck then [0, 0, 0] else [diff.getD 0 0 ^^^ inj, diff.getD 1 0, diff.getD 2 0]
  if tagged then
    let lv := { lv with ps := { lv.ps with dutyTag := false } }
    if seen = [0, 0, 0] then lv.raise 83 9
    else if seen = [inj, 0, 0] ∧ unc = false then
      { lv with ps := { (lv.ps.advance 9) with tagged := satInc lv.ps.tagged, again := false } }
    else ({ lv with ps := { lv.ps with tagRep := satInc lv.ps.tagRep, again := true } }).dutyMismatch p
  else if seen = [0, 0, 0] ∧ unc = false then lv
  else lv.dutyMismatch p

/-! ### Running a window -/

/-- The groups whose authority source is slot `s` have an own output for this tick (R52). -/
def Live.markAuth (lv : Live) (s : Nat) : Live :=
  { lv with au := { lv.au with ownAuthNow := (List.finRange 24).foldl (fun (v : BitVec 24) g =>
    if lv.num Obj.groupAuthoritySlot g.val = s then setBit v g.val true else v) lv.au.ownAuthNow } }

/-- A `DQCUR` item that has completed (R129, R146, R272, R273). -/
def Live.runLoop (lv : Live) (w n : Nat) (p : Fin 8) (us : List Upset) : Live :=
  match lv.groupOf p with
  | none => lv
  | some g =>
    let lv := lv.itemAngle p g
    let lv := if !lv.loopDue p then lv
      else if lv.syncLost p g then lv.loseSync p
      else
        let r := lv.loopRun p g
        let ws := Live.runWords (lv.fc.wind[p]) r
        let ecc := lv.delayEcc us n
        let lead := flipped ws (leadFlips us n)
        let tail := flipped ws (tailFlips us n)
        let lv := (ecc.2.putRun p g r lead).feed (Fin.ofNat 32 w) lead tail
        if (lv.fc.wind[p]).loopOn then lv.dutyCompare p lead tail ecc.1 else lv
    lv.thermStep p g

/-- The words of the safety evaluation: the state words of every instance (R273, R327). -/
def Live.safetyWords (lv : Live) : List Word :=
  (List.finRange 24).flatMap (fun i => (List.range 4).map (fun k => (lv.sf.inst[i]).word k))

/-- State words of the instances replaced where an upset of the lead pass struck them. -/
def Live.safetyPut (lv : Live) (ws : List Word) : Live :=
  { lv with sf := { lv.sf with inst := Vector.ofFn (fun (i : Fin 24) =>
    (List.range 4).foldl (fun (q : InstSt) k => if q.word k = ws.getD (4 * i.val + k) 0 then q
      else q.load k (ws.getD (4 * i.val + k) 0)) lv.sf.inst[i]) } }

/-- Words of an item's two passes fed into its channel, an uncorrectable delay-register error marked (R273, R278). -/
def Live.passes (lv : Live) (ch n : Nat) (ws : List Word) (us : List Upset) (put : List Word → Live → Live) : Live :=
  let ecc := lv.delayEcc us n
  let lead := flipped ws (leadFlips us n)
  let lv := (put lead ecc.2).feed (Fin.ofNat 32 ch) lead (flipped ws (tailFlips us n))
  if ecc.1 then { lv with ps := { lv.ps with bad := setBit lv.ps.bad ch true } } else lv

/-- The safety evaluation in slot 191 (R328). -/
def Live.runSafety (lv : Live) (n : Nat) (us : List Upset) : Live :=
  if lv.au.mode = .startup then lv
  else
    let lv := lv.safetyEval
    let lv := { lv with au := { lv.au with ownSfNow := true } }
    (lv.modSlot 191 (fun q => { q with consec := 0 })).passes 8 n lv.safetyWords us (fun ws x => x.safetyPut ws)

/-- A loop slot in its place of the program (R97, R100, R102). -/
def Live.runSlot (lv : Live) (w n s : Nat) (us : List Upset) : Live :=
  let lv := lv.takeHold s
  if !lv.slotDue s then
    let lv := lv.slotRest s
    if lv.fl.kSlots.getLsbD s || lv.shedSlot s then lv else lv.markAuth s
  else if lv.runHeld s then lv.heldRun s
  else
    let r := if lv.num Obj.slotKind s = 7 then lv.obsRun s else lv.pidRun s
    (lv.passes w n r.words us r.put).markAuth s

/-- An item that has completed by its commit point. -/
def Live.runItem (lv : Live) (w n : Nat) (us : List Upset) : EItem → Live
  | .loop p => lv.runLoop w n p us
  | .ext p => match lv.groupOf p with
    | some g => if lv.loopDue p then lv.extension p g else lv
    | none => lv
  | .slot s => if s = 191 ∧ lv.safetySlot = true then lv.runSafety n us else lv.runSlot w n s us

/-- An item runs in this tick, so that its abandonment is a miss (R109). -/
def Live.itemDue (lv : Live) : EItem → Bool
  | .loop p => lv.loopDue p
  | .ext p => lv.loopDue p && (lv.fc.wind[p]).hfiOn
  | .slot s => if s = 191 ∧ lv.safetySlot = true then decide (lv.au.mode ≠ .startup) else lv.slotDue s

/-- The slot number under which an item's misses count. -/
def EItem.num : EItem → Nat
  | .loop p => p.val
  | .ext p => p.val
  | .slot s => s

/-- The window goes on: the program runs, no duty mismatch has ended the tick, and it is no restore tick (R272, R276). -/
def Live.goesOn (lv : Live) : Bool := lv.running && lv.ps.dutyBad.isNone && !lv.ps.restoring

/-- The items of a window one after another from cycle `t` on (R90, R109). -/
def Live.runItems (w : Nat) (us : List Upset) : Live → Nat → Nat → List EItem → Live
  | lv, _, _, [] => lv
  | lv, t, n, i :: rest =>
    if !lv.goesOn then lv
    else
      let stop' := t + lv.itemCost i
      if lv.inTime w i stop' then Live.runItems w us (lv.runItem w n us i) stop' (n + 1) rest
      else
        let lv := if lv.itemDue i then { lv with en := { lv.en with late := setBit lv.en.late i.num true } } else lv
        Live.runItems w us lv (max t (lv.commitAt w i)) (n + 1) rest

/-- The stall of a conversion repeat of the window's winding, in cycles (R109, R165). -/
def Live.retryStall (lv : Live) (w : Fin 8) : Nat :=
  match lv.portAt w.val with
  | some p => if lv.aq.lateConv.getLsbD p.val then 84 else 0
  | none => 0

/-- ENGINE_WINDOW (R90, R93, R109, R123): `stall` further cycles fall at the window's start. -/
def Live.engineWindow (lv : Live) (w : Fin 8) (stall : Nat) (us : List Upset) : Live :=
  if !lv.goesOn then lv
  else
    let items := lv.winItems w
    let st := stall + lv.retryStall w
    let used := min 8000 ((items.map lv.itemCost).sum + st)
    let peak := max (lv.en.peaks[w]).toNat used
    let stuck := us.any (fun u => match u with | .comparatorStuck => true | _ => false)
    let lv := { lv with
      en := { lv.en with peaks := vmod lv.en.peaks w (fun _ => BitVec.ofNat 16 (if items.isEmpty then (lv.en.peaks[w]).toNat else peak)) },
      ps := { lv.ps with stuck := lv.ps.stuck || stuck } }
    Live.runItems w.val us lv st 0 items

def execEngineWindow (l : LaneId) (w : Fin 8) (stall : Nat) (upsets : List Upset) (s : State) :
    Host.Outcome State Fault Refusal :=
  done (onLive l (fun lv => lv.engineWindow w stall upsets) s)

/-! ### The commit instant -/

/-- The low side of a leg still conducts at the commit instant, and its turn-off under the new compare value lies
before it: the turn-off takes place now (R95). -/
def Live.pendingPast (lv : Live) (p : Fin 8) (k : Fin 3) (c : F32) : Bool :=
  decide (((lv.gd.ports[p]).legs[k]).gate = .low) &&
    F32.lt (F32.mul (F32.mul (F32.sub (F32.ofNat 1) c) lv.period) (F32.dec 5 1)) (F32.dec 75 8)

/-- A committed compare value that leaves at least 300 ns of low-side conduction ends the leg's forced refresh (R194). -/
def Live.refreshOver (lv : Live) (p : Fin 8) (c : F32) : Bool :=
  F32.ge (F32.sub (F32.mul (F32.sub (F32.ofNat 1) c) lv.period) (F32.mul (F32.ofNat 2) (lv.deadTime p))) (F32.dec 3 7)

/-- COMMIT_INSTANT (R95, R194): the new compare values take effect. -/
def Live.commit (lv : Live) (p : Fin 8) : Live :=
  match (lv.fc.wind[p]).newDuty with
  | none => lv
  | some (d, c) =>
    if (lv.fc.wind[p]).loopOn && decide ((lv.gd.ports[p]).mode = .pwm) then
      let lv := lv.modWind p (fun w => { w with duty := d, cmp := c, newDuty := none })
      forAll 3 (fun k (x : Live) =>
        let ck := phaseOf c k
        let now := x.pendingPast p k ck
        let over' := x.refreshOver p ck
        x.modLeg (portLeg p k) (fun q => { q with
          gate := if now then .off else q.gate,
          refresh := if over' then none else q.refresh,
          refreshNow := q.refreshNow && !over' })) lv
    else lv.modWind p (fun w => { w with newDuty := none })

def execCommitInstant (l : LaneId) (p : Fin 8) (s : State) : Host.Outcome State Fault Refusal :=
  done (onLive l (fun lv => lv.commit p) s)

/-! ### Restores -/

/-- A winding's loop brought back to its checkpoint; its state of operation and its counters stand (R275, R276). -/
def restoreWind (now old : WindingSt) : WindingSt :=
  if now.loopOn && old.loopOn then
    { now with
      xd := old.xd, xq := old.xq, idfw := old.idfw, id := old.id, iq := old.iq, va := old.va, vb := old.vb,
      ial := old.ial, ibe := old.ibe, theta := old.theta, we := old.we, wePrev := old.wePrev, dT := old.dT,
      hfiTheta := old.hfiTheta, hfiW := old.hfiW, hfiIq := old.hfiIq, obsTheta := old.obsTheta, obsW := old.obsW,
      rs := old.rs, ticksOn := old.ticksOn, newDuty := none,
      openMax := old.openMax, openNet := old.openNet, openPrev := old.openPrev, isumRuns := old.isumRuns }
  else { now with newDuty := none }

/-- A slot brought back to its checkpoint; its counters stand. -/
def restoreSlot (now old : SlotSt) : SlotSt :=
  { old with misses := now.misses, invalid := now.invalid, consec := now.consec }

/-- The slots of a checkpoint, with the counters that stand now. -/
def Live.restoreSlots (lv : Live) : NMap SlotSt :=
  let both := (lv.en.slots.map (fun p => p.1)) ++ (lv.ps.ckpt.slots.map (fun p => p.1))
  both.foldl (fun (m : NMap SlotSt) k =>
    m.write {} k (restoreSlot (lv.en.slots.read {} k) (lv.ps.ckpt.slots.read {} k))) []

/-- An instance brought back to its checkpoint; an applied trip stands, with its cause (R276). -/
def Live.restoreInst (lv : Live) (i : Fin 24) : InstSt :=
  let old := lv.ps.ckpt.inst[i]
  let a := lv.sfApplied i
  if lv.sfOn i && isTrip a && decide (old.state.toNat ≠ a) then
    { old with state := BitVec.ofNat 2 a, cause := (lv.sf.inst[i]).cause, bothOpen := (lv.sf.inst[i]).bothOpen }
  else old

/-- What a restore writes (R276): the state of the checkpoint, a new epoch on it, no item in this tick; a tagged duty
test that waits for its compare is put off (R286). -/
def Live.restoreState (lv : Live) : Live :=
  let lv := { lv with
    en := { lv.en with slots := lv.restoreSlots, traj := lv.ps.ckpt.traj, trajOn := lv.ps.ckpt.trajOn },
    fc := { lv.fc with wind := Vector.ofFn (fun (p : Fin 8) => restoreWind lv.fc.wind[p] lv.ps.ckpt.wind[p]) },
    sf := { lv.sf with inst := Vector.ofFn (fun (i : Fin 24) => lv.restoreInst i) } }
  let lv := lv.newEpoch
  { lv with ps := { lv.ps with
    restoring := true, dutyBad := none, dutyTag := false, again := lv.ps.again || lv.ps.dutyTag, bad := 0, restores := satInc lv.ps.restores } }

/-- A restore (R276), its event and its count. -/
def Live.restore (lv : Live) (src unit place : Nat) : Live :=
  (lv.restoreState.raise src unit).countMismatch place unit

/-! ### Window ends and tagged tests -/

/-- The registers of a channel differ in these bits (R274, R278). -/
def Live.chanDiff (lv : Live) (c : Fin 32) : Long := lv.ps.lead[c] ^^^ lv.ps.tail[c]

/-- A channel mismatches at the window end. -/
def Live.chanBad (lv : Live) (c : Fin 32) : Bool :=
  lv.ps.used.getLsbD c.val && (lv.ps.bad.getLsbD c.val || (decide (lv.chanDiff c ≠ 0) && !lv.ps.stuck))

/-- A target of the tagged tests is in use: a fed channel, or a running winding for the duty comparator (R280). -/
def Live.targetInUse (lv : Live) (t : Nat) : Bool :=
  if t < 9 then lv.ps.used.getLsbD t else lv.firstWinding.isSome

/-- The target whose turn it is, unused ones skipped (R280). -/
def Live.nextTarget (lv : Live) : Option Nat :=
  (List.range 10).findSome? (fun k =>
    let t := (lv.ps.target + k) % 10
    if lv.targetInUse t then some t else none)

/-- The tagged test of a channel at a window end (R280, R281): whether it found a real mismatch as well. -/
def Live.tagChannel (lv : Live) (t : Nat) : Bool × Live :=
  let c : Fin 32 := Fin.ofNat 32 t
  let inj : Long := BitVec.ofNat 64 (2 ^ lv.ps.chanBit)
  let seen : Long := if lv.ps.stuck then 0 else lv.chanDiff c ^^^ inj
  if seen = 0 then (false, ({ lv with ps := { lv.ps with again := false } }).raise 83 t)
  else if seen = inj ∧ lv.ps.bad.getLsbD t = false then
    (false, { lv with ps := { (lv.ps.advance t) with tagged := satInc lv.ps.tagged, again := false } })
  else (true, { lv with ps := { lv.ps with target := t, tagRep := satInc lv.ps.tagRep, again := true } })

/-- The tagged test that is due at this window end, if any (R280). -/
def Live.tagTest (lv : Live) : Bool × Live :=
  if !lv.ps.again && decide (lv.ps.ends < 1000) then (false, lv)
  else match lv.nextTarget with
    | none => (false, lv)
    | some t =>
      let lv := { lv with ps := { lv.ps with ends := 0 } }
      if t < 9 then lv.tagChannel t
      else (false, { lv with ps := { lv.ps with target := 9, dutyTag := true, again := false } })

/-- The end of a signature window at a tick start (R274, R275): a good one opens a new epoch, a mismatch restores. -/
def Live.windowEndSig (lv : Live) : Live :=
  let lv := { lv with ps := { lv.ps with ends := lv.ps.ends + 1 } }
  let bad := (List.finRange 9).find? (fun c => lv.chanBad (Fin.ofNat 32 c.val))
  let tag := lv.tagTest
  let lv := tag.2
  let where' := match bad with
    | some c => some c.val
    | none => if tag.1 then some lv.ps.target else none
  match where' with
  | some c =>
    ({ lv with ps := { lv.ps with sigMis := satInc lv.ps.sigMis } }).restore (72 + c) c c
  | none =>
    let x := lv.newEpoch
    { x with ps := { x.ps with bad := 0 } }

/-- The pass comparison at a tick start (R274, R276, R286): a restore after a duty mismatch takes the place of a window
end; a restore tick lasts one tick. -/
def Live.passTick (lv : Live) : Live :=
  let lv := { lv with ps := { lv.ps with restoring := false } }
  if !lv.running then { lv with ps := { lv.ps with dutyBad := none } }
  else match lv.ps.dutyBad with
    | some p => lv.restore (64 + p.val) p.val (32 + p.val)
    | none => if lv.ticks % lv.num Obj.signatureWindow = 0 then lv.windowEndSig else lv

/-! ### Paired threads -/

/-- A pair's state changed. -/
def Live.modPair (lv : Live) (c : Fin 16) (f : PairSt → PairSt) : Live :=
  { lv with ps := { lv.ps with pairs := vmod lv.ps.pairs c f } }

/-- The channel of a pair. -/
def pairChan (c : Fin 16) : Fin 32 := ⟨16 + c.val, by omega⟩

/-- A pair's registers back at their initial value, its closes forgotten. -/
def Live.pairReset (lv : Live) (c : Fin 16) (repeats : Nat) : Live :=
  ({ lv with ps := { lv.ps with
      lead := vmod lv.ps.lead (pairChan c) (fun _ => 0xFFFFFFFFFFFFFFFF),
      tail := vmod lv.ps.tail (pairChan c) (fun _ => 0xFFFFFFFFFFFFFFFF) } }).modPair c
    (fun _ => { repeats := repeats })

/-- A mismatch or a missing close of a pair (R285): the job's results are discarded, both threads repeat it. -/
def Live.pairFails (lv : Live) (c : Fin 16) : Live :=
  let lv := lv.pairReset c ((lv.ps.pairs[c]).repeats + 1)
  let lv := { lv with ps := { lv.ps with softMis := satInc lv.ps.softMis } }
  (lv.raise 81 (16 + c.val)).countMismatch (16 + c.val) (16 + c.val)

/-- CLOSE_PORT_WRITE: a thread of a pair closes its job, its words fed (R273, R285). -/
def Live.closePort (lv : Live) (c : Fin 16) (tail : Bool) (ws : List Word) : Live :=
  if !lv.awake then lv
  else
    let q := lv.ps.pairs[c]
    let ch := pairChan c
    let lv := if tail then { lv with ps := { lv.ps with tail := vmod lv.ps.tail ch (fun r => crc64Feed r ws) } }
      else { lv with ps := { lv.ps with lead := vmod lv.ps.lead ch (fun r => crc64Feed r ws) } }
    let lv := lv.modPair c (fun x => { x with
      leadClosed := x.leadClosed || !tail, tailClosed := x.tailClosed || tail,
      closedAt := some (x.closedAt.getD lv.ticks) })
    if (q.leadClosed || !tail) && (q.tailClosed || tail) then
      (if lv.chanDiff ch ≠ 0 ∧ lv.ps.stuck = false then lv.pairFails c else lv.pairReset c 0)
    else lv

def execClosePortWrite (l : LaneId) (ch : Fin 16) (tail : Bool) (words : List Word) (s : State) :
    Host.Outcome State Fault Refusal :=
  done (onLive l (fun lv => lv.closePort ch tail words) s)

/-- PAIR_CLOSE_TIMEOUT: a missing close 2 ticks after the first (R285). -/
def Live.pairTimeout (lv : Live) (c : Fin 16) : Live :=
  match (lv.ps.pairs[c]).closedAt with
  | some t => if lv.awake && decide (t + 2 ≤ lv.ticks) then lv.pairFails c else lv
  | none => lv

def execPairCloseTimeout (l : LaneId) (ch : Fin 16) (s : State) : Host.Outcome State Fault Refusal :=
  done (onLive l (fun lv => lv.pairTimeout ch) s)

/-- `ClearCounters` of `PassStatus` (R288): the counters; `RecentMismatches` and the last mismatch's place are left. -/
def PassSt.clearCounts (p : PassSt) : PassSt :=
  { p with dutyMis := 0, sigMis := 0, softMis := 0, restores := 0, tagged := 0, tagRep := 0,
           eccCorr := 0, eccUnc := 0, agreeInc := 0, agreeDis := 0 }

def execClearPassCounters (l : LaneId) (v : Byte) (s : State) : Host.Outcome State Fault Refusal :=
  done (onLive l (fun lv => lv.onZero v (fun x => { x with ps := x.ps.clearCounts })) s)

/-- `ClearPeaks` of `EngineBudget` (R123). -/
def execClearPeaks (l : LaneId) (v : Byte) (s : State) : Host.Outcome State Fault Refusal :=
  done (onLive l (fun lv => lv.onZero v (fun x => { x with en := { x.en with peaks := Vector.replicate 8 0 } })) s)

/-! ### Setpoint inputs -/

/-- COMMAND_TIMEOUT: a value not renewed for `CmdStaleCycles` cycles (R104). -/
def Live.cmdTimeout (lv : Live) (g : Fin 24) : Live :=
  let q := lv.en.cmd[g]
  if q.ever && !q.timeout && decide (lv.num Obj.cmdStaleCycles < q.fresh) then
    (({ lv with en := { lv.en with cmd := vmod lv.en.cmd g (fun x => { x with timeout := true }) } }).raise 100 g.val).groupReact g
  else lv

def execCommandTimeout (l : LaneId) (g : Fin 24) (s : State) : Host.Outcome State Fault Refusal :=
  done (onLive l (fun lv => lv.cmdTimeout g) s)

/-- AIN_FAULT_TIMEOUT: a broken wire for `AinFaultTime`, or no valid value yet (R106). -/
def Live.ainTimeout (lv : Live) (i : Fin 4) : Live :=
  let q := lv.en.ain[i]
  match q.broken with
  | some t =>
    if !q.invalid && (q.value.isNone || lv.due (t + ms (lv.num Obj.ainFaultTime))) then
      ({ lv with en := { lv.en with ain := vmod lv.en.ain i (fun x => { x with invalid := true }) } }).raise 101 i.val
        (if q.value.isNone then 2 else 1)
    else lv
  | none => lv

def execAinFaultTimeout (l : LaneId) (i : Fin 4) (s : State) : Host.Outcome State Fault Refusal :=
  done (onLive l (fun lv => lv.ainTimeout i) s)

/-- The step of the counter that an edge makes (R107): a rising step edge in the direction of the second line, or one
quadrature step, A leading B counting up. -/
def psetStep (form : Nat) (q : PsetSt) (a b : Bool) : Int :=
  if form = 0 then (if a && !q.lineA then (if Config.stepUp b then 1 else -1) else 0)
  else if form = 1 then
    (if a != q.lineA && b == q.lineB then (if a != b then 1 else -1)
     else if b != q.lineB && a == q.lineA then (if b == a then 1 else -1)
     else 0)
  else 0

/-- PSET_EDGE (R107): the lines take new levels at `ph`, which then stand for `width`; a pulse shorter than `MinPulse`
is ignored. -/
def Live.psetEdge (lv : Live) (a b : Bool) (ph width : Nat) : Live :=
  if !lv.awake || decide (width * 5 < 2 * lv.num Obj.psetMinPulse) then lv
  else
    let q := lv.en.pset
    let form := lv.num Obj.psetForm
    let t := lv.start + ph
    let rise := a && !q.lineA
    let fall := !a && q.lineA
    let period := match q.riseAt with | some r => t - r | none => 0
    let known := rise && decide (period ≠ 0)
    { lv with en := { lv.en with pset := { q with
      lineA := a, lineB := b, edgeAt := some t,
      count := q.count + BitVec.ofInt 32 (psetStep form q a b),
      riseAt := if rise then some t else q.riseAt,
      high := if fall then (match q.riseAt with | some r => t - r | none => q.high) else q.high,
      freq := if known then BitVec.ofNat 32 (perSec * 1000 / period) else q.freq,
      duty := if known then F32.ofRatio (q.high : Int) period else q.duty } } }

def execPsetEdge (l : LaneId) (lineA lineB : Bool) (ph width : Nat) (s : State) : Host.Outcome State Fault Refusal :=
  done (onLive l (fun lv => lv.psetEdge lineA lineB ph width) s)

/-- PSET_TIMEOUT: no edge for `Timeout` reads as 0 Hz, or as a broken wire in duty form (R107). -/
def Live.psetTimeout (lv : Live) : Live :=
  match lv.en.pset.edgeAt with
  | some t =>
    if lv.due (t + ms (lv.num Obj.psetTimeout)) then
      { lv with en := { lv.en with pset := { lv.en.pset with freq := 0, duty := 0, riseAt := none } } }
    else lv
  | none => lv

def execPsetTimeout (l : LaneId) (s : State) : Host.Outcome State Fault Refusal :=
  done (onLive l Live.psetTimeout s)

end Sys2Proof.Machine
end

