-- ==== Sys2Proof/Machine/Program.lean ====
section
/-!
DEFINITION. The tick program that every commit builds (R85 to R92) and the conditions of the control-engine chapter
under which a commit is rejected (R21, R119, R124). `lv` is a lane with the values of the configuration in effect.
-/

namespace Sys2Proof.Machine

/-! ### What a slot reads and writes -/

/-- The safety evaluation occupies the slot (R86). -/
def Live.isSafety (lv : Live) (s : Nat) : Bool := decide (s = 191) && lv.safetySlot

/-- A loop slot is configured (R96, R121). -/
def Live.slotOn (lv : Live) (s : Nat) : Bool := decide (8 ≤ s ∧ lv.num Obj.slotKind s ≠ 0) && !lv.isSafety s

/-- The slots in this lane's program: the loop slots of its `Lanes` bit and the safety evaluation (R86, R121). -/
def Live.progSlots (lv : Live) : List Nat :=
  (List.range 192).filter (fun s =>
    lv.isSafety s || (lv.slotOn s && tbit (lv.num Obj.slotLanes s) lv.me.num))

/-- The bus entries that the safety evaluation reads: active entries and reset sources of kind 3 (R314, R346). -/
def Live.safetyReads (lv : Live) : List Nat :=
  (List.range 24).flatMap (fun i =>
    if lv.num Obj.instEnable i = 1 then
      let r := lv.num Obj.instResetSource i
      (entryOpt (lv.num Obj.instActiveEntry i)).toList ++ (if r / 4096 = 3 then [r % 1024] else [])
    else [])

/-- The entries that a slot may read in any run: both of its setpoint sources counted (R93, R103). -/
def Live.staticReads (lv : Live) (s : Nat) : List Nat :=
  if lv.isSafety s then lv.safetyReads
  else
    let two := [entryOpt (lv.num Obj.slotFeedbackEntry s), entryOpt (lv.num Obj.slotFeedforwardEntry s)]
    if lv.num Obj.slotKind s = 7 then two.filterMap id
    else
      let alt := if lv.num Obj.slotAltSource s = 255 then none
        else sourceEntry (lv.num Obj.slotAltSource s) (lv.num Obj.slotAltIndex s)
      (two ++ [entryOpt (lv.num Obj.slotMinEntry s), entryOpt (lv.num Obj.slotMaxEntry s),
        entryOpt (lv.num Obj.slotSelectEntry s),
        sourceEntry (lv.num Obj.slotSetpointSource s) (lv.num Obj.slotSetpointIndex s), alt]).filterMap id

/-- The entries that a slot writes, those of its trajectory generator included (R96, R105). -/
def Live.staticWrites (lv : Live) (s : Nat) : List Nat :=
  if lv.isSafety s then []
  else
    let n := lv.num Obj.slotTrajNumber s
    lv.slotOuts s ++ (if n < 32 then [386 + 2 * n, 387 + 2 * n] else [])

/-- The slots of a list that produce what a slot reads, the slot itself left out (R92). -/
def Live.producers (lv : Live) (among : List Nat) (s : Nat) : List Nat :=
  let rs := lv.staticReads s
  among.filter (fun t => decide (t ≠ s) && (lv.staticWrites t).any (fun e => rs.contains e))

/-! ### Placing -/

/-- The program under construction: slots and cycles of each window, and the slots in the order of placing. -/
structure Placing where
  wins   : Vector (List Nat) 8
  cycles : Vector Nat 8
  order  : List (Nat × Fin 8)

/-- The windows before any slot is placed: the winding items of the bound ports (R86, R89, R90). -/
def Live.emptyPlan (lv : Live) : Placing :=
  { wins := Vector.replicate 8 [],
    cycles := Vector.ofFn (fun (w : Fin 8) => match lv.portAt w.val with
      | some p => 192 + (if lv.usesHfi p then 1176 else 0)
      | none => 0),
    order := [] }

/-- A window is the second eighth of a pair (R88, R92). -/
def Live.secondOfPair (lv : Live) (w : Nat) : Bool := decide (0 < w) && lv.isPair (w - 1)

/-- A slot fits in a window (R90). -/
def Live.fits (lv : Live) (q : Placing) (s : Nat) (w : Fin 8) : Bool :=
  let t := q.cycles[w] + lv.slotCost s
  !lv.secondOfPair w.val && decide (t ≤ lv.budget w.val) &&
    (!lv.recordItem s || (decide (w.val ≤ 3) && lv.inTime w.val (.slot s) t))

/-- A slot placed. -/
def Live.putSlot (lv : Live) (q : Placing) (s : Nat) (w : Fin 8) : Placing :=
  { wins := vmod q.wins w (fun xs => xs ++ [s]), cycles := vmod q.cycles w (fun c => c + lv.slotCost s),
    order := q.order ++ [(s, w)] }

/-- The reject cause of a slot that does not fit (R92). -/
def Live.unplacedCause (lv : Live) (s : Nat) : Nat := if lv.recordItem s then 4 else 1

/-- The windows that R92 tries for an automatic slot. -/
def Live.tryWindows (lv : Live) (q : Placing) (among : List Nat) (s : Nat) : List (Fin 8) :=
  let ps := lv.producers among s
  let first := match (q.order.filter (fun x => ps.contains x.1)).getLast? with
    | some x => x.2.val
    | none => 0
  let last := if lv.recordItem s then 3 else 7
  (List.finRange 8).filter (fun w => decide (first ≤ w.val ∧ w.val ≤ last))

/-- One slot placed, or the cause and the slot that reject (R92). -/
def Live.placeSlot (lv : Live) (among : List Nat) (q : Placing) (s : Nat) : Except (Nat × Nat) Placing :=
  let w := if lv.isSafety s then 255 else lv.num Obj.slotWindow s
  if h : w < 8 then
    let v : Fin 8 := if lv.secondOfPair w then ⟨w - 1, by omega⟩ else ⟨w, h⟩
    if lv.fits q s v then .ok (lv.putSlot q s v) else .error (lv.unplacedCause s, s)
  else match (lv.tryWindows q among s).find? (fun v => lv.fits q s v) with
    | some v => .ok (lv.putSlot q s v)
    | none => .error (lv.unplacedCause s, s)

/-- The ancestors of a slot among the slots still to be ordered, itself included where it lies on a cycle. -/
def Live.ancestors (lv : Live) (rest : List Nat) (s : Nat) : List Nat :=
  (List.range rest.length).foldl (fun (xs : List Nat) _ =>
    rest.filter (fun t => xs.contains t || (xs.any (fun x => (lv.producers rest x).contains t))))
    (lv.producers rest s)

/-- The next slot in the order of R92: the lowest without a producer among the rest; where every slot has one, the
lowest slot of a cycle that no other slot of the rest feeds. -/
def Live.nextSlot (lv : Live) (rest : List Nat) : Option Nat :=
  match rest.find? (fun s => (lv.producers rest s).isEmpty) with
  | some s => some s
  | none => match rest.find? (fun s =>
      let anc := lv.ancestors rest s
      anc.contains s && anc.all (fun x => (lv.ancestors rest x).contains s)) with
    | some s => some s
    | none => rest.head?

/-- Producers before consumers (R92). -/
def Live.orderSlots (lv : Live) : Nat → List Nat → List Nat
  | 0, rest => rest
  | k + 1, rest => match lv.nextSlot rest with
    | none => []
    | some s => s :: Live.orderSlots lv k (rest.filter (fun t => t != s))

/-- A list of slots placed in turn. -/
def Live.placeAll (lv : Live) (among : List Nat) : List Nat → Placing → Except (Nat × Nat) Placing
  | [], q => .ok q
  | s :: ss, q => match lv.placeSlot among q s with
    | .ok r => Live.placeAll lv among ss r
    | .error x => .error x

/-- The slots with a fixed window. -/
def Live.hasWindow (lv : Live) (s : Nat) : Bool := !lv.isSafety s && decide (lv.num Obj.slotWindow s < 8)

/-- The tick program of this lane (R92), or the cause and the slot that reject it. -/
def Live.buildProgram (lv : Live) : Except (Nat × Nat) Placing :=
  let all := lv.progSlots
  let auto := all.filter (fun s => !lv.hasWindow s)
  match lv.placeAll all (all.filter (fun s => lv.hasWindow s)) lv.emptyPlan with
  | .error x => .error x
  | .ok q => lv.placeAll all (lv.orderSlots auto.length auto) q

/-- The slot positions that the program uses (R89, R90). -/
def Live.positionsUsed (lv : Live) : Nat :=
  (List.finRange 8).countP (fun p => (lv.groupOf p).isSome)
    + (lv.progSlots.map (fun s => if lv.isSafety s then 1 else if lv.num Obj.slotKind s = 7 then 2 else 1)).sum

/-- The units of 22 cycles that the slots take (R89). -/
def Live.unitsUsed (lv : Live) : Nat := (lv.progSlots.map (fun s => lv.slotCost s / 22)).sum

/-- The program put in place of the one before (R85, R123). -/
def Live.installProgram (lv : Live) : Live :=
  match lv.buildProgram with
  | .ok q =>
    { lv with en := { lv.en with
        windows := q.wins,
        placed := q.order.foldl (fun (m : NMap Nat) x => m.write 0 x.1 (x.2.val + 1)) [],
        planned := q.cycles, units := BitVec.ofNat 16 lv.unitsUsed, positions := BitVec.ofNat 8 lv.positionsUsed } }
  | .error _ =>
    { lv with en := { lv.en with windows := Vector.replicate 8 [], placed := [], planned := Vector.replicate 8 0,
                                 units := 0, positions := 0 } }

/-! ### Agreed-class slots -/

/-- The class of an entry is Agreed or Network, given the agreed-class slots (R118, R119). -/
def Live.entryAgreed (lv : Live) (good : List Nat) (e : Nat) : Bool :=
  if e < 192 then
    good.contains e || (decide (0 < e) && decide (lv.num Obj.slotKind (e - 1) = 7) && good.contains (e - 1))
  else if e < 288 then true
  else if 331 ≤ e ∧ e ≤ 377 then true
  else if 386 ≤ e ∧ e ≤ 449 then
    good.any (fun s => decide (lv.num Obj.slotTrajNumber s = (e - 386) / 2)) ||
      !(List.range 192).any (fun s => lv.slotOn s && decide (lv.num Obj.slotTrajNumber s = (e - 386) / 2))
  else false

/-- The agreed-class slots: the largest set each of whose slots reads only entries of class Agreed or Network and
outputs of the set (R119); a slot that is off reads nothing. -/
def Live.agreedSlots (lv : Live) : List Nat :=
  (List.range 192).foldl (fun (good : List Nat) _ =>
    good.filter (fun s => !(lv.slotOn s || lv.isSafety s) || (lv.staticReads s).all (fun e => lv.entryAgreed good e)))
    ((List.range 192).filter (fun s => decide (8 ≤ s)))

/-! ### Reject causes -/

/-- An entry number that R124 rejects with cause 5: outside 0 to 1023, or reserved. -/
def badEntry (e : Nat) : Bool := decide (e ≠ 65535) && (decide (1024 ≤ e) || decide (450 ≤ e ∧ e ≤ 767))

/-- The cause that a setpoint source gives, 0 where it is in order (R103, R124). -/
def sourceCause (code idx : Nat) : Nat :=
  match code with
  | 1 => if 1024 ≤ idx ∨ badEntry idx = true then 5 else 0
  | 2 => if 24 ≤ idx then 15 else 0
  | 3 =>
    let i := idx % 4096
    if idx / 4096 = 1 then (if 1024 ≤ i ∨ badEntry i = true then 5 else 0)
    else if idx / 4096 = 2 then (if 24 ≤ i then 15 else 0) else 15
  | 4 => if 4 ≤ idx then 15 else 0
  | _ => 0

/-- A notch's parameters break R111 or R112. -/
def Live.notchBad (lv : Live) (s : Nat) (mode : Nat) (f : F32) : Bool :=
  let ts := lv.slotTs s
  let top := F32.div (F32.dec 45 2) ts
  decide (mode ≠ 0) && (!(F32.gt f 0 && F32.le f top) ||
    (decide (mode = 2) && (
      let lo := lv.real Obj.slotAdaptMin s
      let hi := lv.real Obj.slotAdaptMax s
      let low := F32.div (F32.ofNat 2) (F32.mul (F32.ofNat (lv.num Obj.slotDetectorLength s)) ts)
      !(F32.lt lo hi && F32.le hi top && F32.ge lo low && F32.ge f lo && F32.le f hi))))

/-- The slot is named as the authority source of a bound group (R119). -/
def Live.isAuthority (lv : Live) (s : Nat) : Bool :=
  (List.finRange 24).any (fun g => lv.groupBound g && decide (lv.num Obj.groupAuthoritySlot g.val = s))

/-- The causes 5 to 7 and 10 to 15 of one configured slot, the lowest that applies; 0 for none (R124). -/
def Live.slotCause (lv : Live) (s : Nat) : Nat :=
  let k := lv.num Obj.slotKind s
  let traj := lv.num Obj.slotTrajNumber s
  let named := [lv.num Obj.slotFeedbackEntry s, lv.num Obj.slotFeedforwardEntry s, lv.num Obj.slotMinEntry s,
    lv.num Obj.slotMaxEntry s, lv.num Obj.slotSelectEntry s]
  let c1 := sourceCause (lv.num Obj.slotSetpointSource s) (lv.num Obj.slotSetpointIndex s)
  let c2 := if lv.num Obj.slotAltSource s = 255 then 0
    else sourceCause (lv.num Obj.slotAltSource s) (lv.num Obj.slotAltIndex s)
  if named.any badEntry || decide (c1 = 5) || decide (c2 = 5) then 5
  else if F32.gt (lv.real Obj.slotOutMin s) (lv.real Obj.slotOutMax s) then 6
  else if k ≠ 7 ∧ (lv.notchBad s (lv.num Obj.slotNotch1Mode s) (lv.real Obj.slotNotch1Freq s)
      || lv.notchBad s (lv.num Obj.slotNotch2Mode s) (lv.real Obj.slotNotch2Freq s)) = true then 7
  else if (k = 2 ∨ k = 3) ∧ (F32.le (lv.real Obj.slotFollowErrLimit s) 0 = true ∨ lv.num Obj.slotFeedbackEntry s = 65535)
    then 10
  else if k = 7 ∧ (s = 191 ∨ (lv.slotOn (s + 1) || lv.isSafety (s + 1)) = true) then 11
  else if traj < 32 ∧ ((k ≠ 2 ∧ k ≠ 3) ∨ (lv.num Obj.slotTrajMode s = 0 ∧ k ≠ 3) ∨
      (List.range s).any (fun t => lv.slotOn t && decide (lv.num Obj.slotTrajNumber t = traj)) = true) then 12
  else if lv.num Obj.slotDivider s ≤ lv.num Obj.slotPhase s then 13
  else if k = 1 ∨ 8 ≤ k ∨ c1 = 15 ∨ c2 = 15 ∨ (k = 7 ∧ F32.le (lv.real Obj.slotKff s) 0 = true) then 15
  else 0

/-- The lowest slot with one of the causes of `slotCause`. -/
def Live.slotReject (lv : Live) : Option (Nat × Nat) :=
  (List.range 192).findSome? (fun s =>
    if lv.slotOn s then (let c := lv.slotCause s; if c = 0 then none else some (c, s)) else none)

/-- A carrier-eighth placement contrary to R21: `pr` gives the three lanes under the same configuration. -/
def Live.eighthBad (lv : Live) (pr : LaneId → Live) : Bool :=
  let ports := (List.finRange 8).filter (fun p => (lv.groupOf p).isSome)
  let e (p : Fin 8) : Nat := lv.num Obj.portCarrierEighth p.val
  ports.any (fun p => ports.any (fun q => decide (p ≠ q ∧ e p = e q))) ||
    (decide (50000 < lv.num Obj.tickRate) && ports.any (fun p => lv.usesHfi p &&
      (decide (e p = 7) || ports.any (fun q => decide (e q = e p + 1))))) ||
    (List.finRange 24).any (fun g =>
      let es := allLanes.filterMap (fun o => (lv.portOfLane o g).map (fun p => (pr o).num Obj.portCarrierEighth p.val))
      match es with
      | [] => false
      | x :: xs => xs.any (fun y => decide (y ≠ x)))

/-- A record item or authority source contrary to R119, by its slot. -/
def Live.authorityBad (lv : Live) : Option Nat :=
  let good := lv.agreedSlots
  let named := (List.finRange 24).filterMap (fun g =>
    if lv.groupBound g && decide (lv.num Obj.groupAuthoritySlot g.val ≠ 255) then some (lv.num Obj.groupAuthoritySlot g.val)
    else none)
  match named.find? (fun s => !(decide (2 ≤ lv.num Obj.slotKind s ∧ lv.num Obj.slotKind s ≤ 6)) ||
      decide (lv.num Obj.slotLanes s ≠ 7) || !good.contains s) with
  | some s => some s
  | none => if lv.safetySlot && !good.contains 191 then some 191 else none

/-- A `MirrorList` entry of kind 2, 3 or 4 that names a local slot (R119). -/
def Live.mirrorBad (lv : Live) : Option Nat :=
  let good := lv.agreedSlots
  ((List.range 64).map (fun i => lv.num Obj.mirrorWord 0 i)).findSome? (fun m =>
    if (m / 4096 = 2 ∨ m / 4096 = 3 ∨ m / 4096 = 4) ∧ good.contains (m % 4096) = false then some (m % 4096) else none)

/-- The cause and slot with which the control-engine chapter rejects a configuration (R124): the causes other than 1,
2 and 4 in ascending order, those of single slots by slot, then the positions, then the placing. -/
def Live.engineReject (lv : Live) (pr : LaneId → Live) : Option (Nat × Nat) :=
  if lv.eighthBad pr then some (3, 255)
  else match lv.slotReject with
    | some x => some x
    | none => match lv.authorityBad with
      | some s => some (8, s)
      | none => match lv.mirrorBad with
        | some s => some (9, s)
        | none =>
          if lv.safetySlot && decide (lv.num Obj.slotKind 191 ≠ 0) then some (14, 191)
          else if 192 < lv.positionsUsed then some (2, 255)
          else match lv.buildProgram with
            | .error x => some x
            | .ok _ => none

end Sys2Proof.Machine
end

