-- ==== Sys2Proof/Machine/Check.lean ====
section
/-!
DEFINITION. Check 12 of an image (R395, R417): every condition that the manual states as rejected at commit, chapter
by chapter, over probes: each lane with the image's values in effect. `pr` gives the probe of each lane.
-/

namespace Sys2Proof.Machine

/-! ### Probes -/

/-- A lane with an image's values in effect, judged before they are applied. -/
def Live.probe (lv : Live) (bs : List Byte) : Live :=
  { me := lv.me, cfg := imageValues lv.me bs, rc := lv.rc, fl := { unusable := lv.fl.unusable } }

/-- Another lane with an image's values in effect. -/
def probeLane (bs : List Byte) (o : LaneId) : Live := { me := o, cfg := imageValues o bs }

/-- All of a condition over the groups that a lane drives, with the port. -/
def Live.groupsHere (lv : Live) : List (Fin 24 × Fin 8) :=
  (List.finRange 24).filterMap (fun g => (lv.portOf g).map (fun p => (g, p)))

/-! ### Schedule table -/

/-- The enabled entries (R360). -/
def Live.entriesOn (lv : Live) : List Nat := (List.range 2048).filter (fun e => decide (lv.entLength e ≠ 0))

/-- The channels of an entry. -/
def Live.entChans (lv : Live) (e : Nat) : List Chan := [Chan.a, Chan.b].filter (lv.entOn e)

/-- Two entries share a channel, their slot intervals intersect and they are active in one cycle (R361, cause 4). -/
def Live.collides (lv : Live) (x y : Nat) : Bool :=
  (lv.entChans x).any (fun c => lv.entOn y c) &&
    decide ((lv.entOffset x : Int) - lv.entGuard x < lv.entEnd y ∧ (lv.entOffset y : Int) - lv.entGuard y < lv.entEnd x) &&
    (let m := Nat.gcd (lv.entRep x) (lv.entRep y)
     decide (lv.entBase x % m = lv.entBase y % m))

/-- An entry of a health-frame code contrary to R62 (cause 11). -/
def Live.healthEntryBad (lv : Live) (e : Nat) : Bool :=
  let b := lv.entBuf e
  decide (512 ≤ b ∧ b ≤ 514) &&
    !(decide (lv.entDir e = (if b = 512 then 0 else 1)) && lv.entOn e .a && lv.entOn e .b && !lv.entBoth e
      && decide (lv.entRep e = 1))

/-- An entry is named by a safe-data input or output (R352). -/
def Live.safeEntry (lv : Live) (e : Nat) : Bool :=
  (List.range 24).any (fun i => lv.sdUsed i && (lv.sdSources i).contains e) ||
    (List.range 8).any (fun j => decide (lv.sdOut j 0 2 = e))

/-- An entry breaks the condition of a cause of R361 other than 1 and 15. Buffer codes above 514 name nothing and
count as a reserved bit set. -/
def Live.entryBreaks (lv : Live) (on : List Nat) (cause e : Nat) : Bool :=
  let b := lv.entBuf e
  match cause with
  | 2 => (lv.entChans e).any (fun c =>
      decide (lv.entLength e * 10 < lv.wireNs c (lv.entMax e) + 20 * lv.entGuard e))
  | 3 => decide (lv.num Obj.cycleTicks * lv.tick < 4 * lv.entEnd e)
  | 4 => on.any (fun y => decide (y ≠ e) && lv.collides e y)
  | 5 => decide (lv.entOffset e < 400 * lv.num Obj.backupDelay + lv.entGuard e)
  | 6 => decide (lv.entFrame e = 0)
  | 7 => decide (lv.entRep e = 0 ∨ 64 < lv.entRep e ∨ lv.entRep e ≤ lv.entBase e)
  | 8 => (lv.entChans e).isEmpty
  | 9 => lv.entBoth e && (!(lv.entOn e .a && lv.entOn e .b) || (lv.entRx e && (decide (b % 2 = 1) ||
      on.any (fun y => decide (lv.entBuf y = b + 1)))))
  | 10 => on.any (fun y => decide (y ≠ e ∧ lv.entBuf y = b) && (lv.entRx e || lv.entRx y))
  | 11 => lv.healthEntryBad e
  | 12 => lv.safeEntry e && !([1, 2, 4, 8, 16, 32, 64].contains (lv.entRep e))
  | 13 => decide (1400 < lv.entMax e) || (decide (512 ≤ b ∧ b ≤ 514) && decide (49 < lv.entMax e))
  | 14 => decide (lv.entGuard e = 0 ∨ 514 < b) || decide (2 ^ 20 ≤ lv.ent e 0 4) || decide (1024 ≤ lv.ent e 8 2)
      || decide (32 ≤ lv.ent e 11 1)
  | _ => false

/-- The lowest enabled entry that fails a cause's condition; entry 0 where the condition names none. -/
def Live.causeEntry (lv : Live) (on : List Nat) (cause : Nat) : Option Nat :=
  match cause with
  | 1 => if on.isEmpty then some 0 else none
  | 10 => match on.find? (lv.entryBreaks on 10) with
    | some e => some e
    | none =>
      let rx := lv.num Obj.tunnelRxBuffer
      let tx := lv.num Obj.tunnelTxBuffer
      let named (b : Nat) : Nat := (on.find? (fun e => decide (lv.entBuf e = b))).getD 0
      if rx = 65535 ∧ tx = 65535 then none
      else if rx = 65535 then some (named tx)
      else if tx = 65535 then some (named rx)
      else if !on.any (fun e => decide (lv.entBuf e = rx ∧ lv.entDir e = 3)) then some (named rx)
      else if !on.any (fun e => decide (lv.entBuf e = tx ∧ lv.entDir e = 2)) then some (named tx)
      else none
  | 11 => match on.find? (lv.entryBreaks on 11) with
    | some e => some e
    | none => if [512, 513, 514].all (fun b => on.any (fun e => decide (lv.entBuf e = b))) then none else some 0
  | 15 => if lv.num Obj.backupDelay * 1000 < 1000 + max (lv.wireNs .a 24) (lv.wireNs .b 24) then some 0 else none
  | c => on.find? (lv.entryBreaks on c)

/-- The schedule's reject cause and entry as `ScheduleReject` reports them (R361, R380, R412), 0 where the table
stands: the lowest cause that applies. -/
def Live.scheduleReject (lv : Live) : Half :=
  let on := lv.entriesOn
  match ((List.range 16).filter (fun c => decide (1 ≤ c))).findSome? (fun c => (lv.causeEntry on c).map (fun e => (c, e))) with
  | some (c, e) => BitVec.ofNat 16 (c * 4096 + e % 2048)
  | none => 0

/-! ### Ticks, authority and field control -/

/-- `TickRate`, `CycleTicks`, `MirrorList` and `LaneRank` (R15, R16, R65, R82). -/
def Live.laneRules (lv : Live) : Bool :=
  let rate := lv.num Obj.tickRate
  let cyc := lv.num Obj.cycleTicks
  let mirror := (List.range 64).map (fun i => lv.num Obj.mirrorWord 0 i)
  let ranks := (List.range 3).map (fun k => lv.num Obj.laneAtRank 0 k)
  decide (perSec % rate = 0 ∧ us 250 ≤ cyc * (perSec / rate) ∧ cyc * (perSec / rate) ≤ ms 10)
    && mirror.any (fun m => decide (m ≠ 0))
    && mirror.all (fun m =>
      let i := m % 4096
      match m / 4096 with
      | 0 => decide (i = 0)
      | 1 => decide (i < 1024)
      | 2 => decide (i < 192)
      | 3 => decide (i < 192)
      | 4 => decide (i < 192)
      | 5 => decide (i < 64)
      | 6 => decide (i = 0)
      | 7 => decide (i < 96)
      | _ => false)
    && [0, 1, 2].all (fun o => ranks.contains o)

/-- A position source is fitted on a lane's port (R126, R136, R242). -/
def Live.fitted (lv : Live) (code : Nat) (p : Fin 8) : Bool :=
  let m := lv.num Obj.fbMode p.val
  match code with
  | 0 => decide (m = 3 ∨ m = 4)
  | 1 => decide (m = 1 ∨ m = 2 ∨ m = 4)
  | _ => true

/-- The ties of a group's sub-indices (R126, R157). -/
def Live.groupTies (lv : Live) (g : Nat) : Bool :=
  let r (o : Obj) : F32 := lv.real o g
  let rated := F32.mul (F32.dec 15 1) (r Obj.groupRatedCurrent)
  let part (m l : F32) : Bool := F32.le m (F32.mul (F32.dec 9 1) l)
  let hertz := F32.div lv.rate (F32.ofNat 10)
  F32.le (F32.mul (F32.ofNat (lv.num Obj.groupPolePairs g)) (r Obj.groupMaxSpeed)) hertz
    && part (r Obj.fieldMutualD) (r Obj.fieldLd) && part (r Obj.fieldMutualQ) (r Obj.fieldLq)
    && F32.le (r Obj.fieldCurrentBandwidth) hertz
    && F32.ge (r Obj.fieldIdRef) (F32.neg rated)
    && F32.ge (r Obj.fieldIdMin) (F32.neg rated) && F32.le (r Obj.fieldIdMin) (r Obj.fieldIdRef)
    && F32.lt (r Obj.fieldBlendLow) (r Obj.fieldBlendHigh) && F32.lt (r Obj.fieldTempDerate) (r Obj.fieldTempMax)

/-- No lane's motor port is named by two groups (R126). -/
def Live.portsOnce (lv : Live) : Bool :=
  allLanes.all (fun o => (List.finRange 8).all (fun p =>
    decide ((List.finRange 24).countP (fun g => lv.portOfLane o g == some p) ≤ 1)))

/-- The groups (R126, R137, R157, R242, R252). -/
def Live.fieldRules (lv : Live) (pr : LaneId → Live) : Bool :=
  let here := lv.groupsHere
  lv.portsOnce
    && (List.finRange 24).all (fun g => !lv.groupBound g || lv.groupTies g.val)
    && decide (here.countP (fun x => decide (lv.num Obj.groupPositionSource x.1.val = 4)) ≤ 1)
    && (List.finRange 24).all (fun g =>
      let src := lv.num Obj.groupPositionSource g.val
      let fall := lv.num Obj.groupFallbackSource g.val
      allLanes.all (fun o => match lv.portOfLane o g with
        | none => true
        | some p =>
          (pr o).fitted src p && (pr o).fitted fall p
            && (decide (lv.num Obj.groupHallFitted g.val = 0) || (pr o).fitted 0 p)
            && (decide (src ≠ 1) || decide (fall = 3) || (decide (fall = 0 ∧ (pr o).num Obj.fbMode p.val = 4)))))

/-! ### Power stage, gate drive and feedback -/

/-- The VDS monitor threshold of a port, mV (R197). -/
def vdsMv (c : Nat) : Nat := if c ≤ 23 then 50 * (c + 1) else 1200 + 100 * (c - 23)

/-- Rising thresholds, each at least 1 V above the one before (R211). -/
def ladderRises (lv : Live) : Bool :=
  let ov := [lv.real Obj.vChOn, lv.real Obj.vRegenCut, lv.real Obj.vAsc, lv.real Obj.vAbs]
  (ov.zip ov.tail).all (fun x => F32.ge (F32.sub x.2 x.1) (F32.ofNat 1))
    && F32.ge (F32.sub (lv.real Obj.vChOn) (lv.real Obj.chHyst)) (F32.ofNat 10)
    && F32.le (lv.real Obj.vAbs) (F32.ofNat 85)

/-- The power stage (R175, R199, R211, R217). -/
def Live.stageRules (lv : Live) : Bool :=
  lv.groupsHere.all (fun x =>
      F32.ge (lv.real Obj.fieldWindowTime x.1.val) (if lv.num Obj.shuntGain 0 x.2.val ≤ 1 then F32.dec 4 1 else F32.dec 6 1))
    && (List.range 8).all (fun p =>
      decide (vdsMv (lv.num Obj.portVdsThreshold p) < 1000 + 500 * lv.num Obj.portHardShortThreshold p)
        && F32.le (lv.real Obj.portBootFault p) (F32.sub (lv.real Obj.portBootRefresh p) (F32.dec 5 2)))
    && ladderRises lv

/-- The count rate and the Hall filter of a port that a group uses (R244). -/
def Live.ratesFit (lv : Live) (g : Fin 24) (p : Fin 8) : Bool :=
  let m := lv.fbModeOf p
  let speed := lv.real Obj.groupMaxSpeed g.val
  let top := F32.min (F32.ofNat 80000000) (F32.ofRatio 400000000 (lv.num Obj.fbFilter p.val + 2))
  let hall := F32.mul (F32.mul (F32.ofNat (6 * lv.num Obj.groupPolePairs g.val)) speed)
    (F32.ofRatio (lv.num Obj.fbHallFilter p.val) 1000000)
  (decide (m = 0) || F32.le (F32.mul (F32.ofNat (lv.fbCounts p)) speed) top)
    && (decide (m ≠ 3 ∧ m ≠ 4) || F32.le hall (F32.dec 25 2))

/-- The feedback ports (R244, R248, R256, R261). -/
def Live.feedbackRules (lv : Live) : Bool :=
  lv.groupsHere.all (fun x => lv.ratesFit x.1 x.2)
    && (List.finRange 8).all (fun p =>
      decide (lv.int Obj.fbSoftMin p.val < lv.int Obj.fbSoftMax p.val) &&
        decide (lv.num Obj.fbIndexPosition p.val < lv.fbCounts p))
    && decide (lv.num Obj.reelM ≠ 0 ∧ lv.num Obj.reelN ≠ 0 ∧ lv.num Obj.reelM ≤ lv.num Obj.reelN)

/-! ### Fault map -/

/-- The sources that name a unit of R312 (R551). -/
def kennelSource (s : Nat) : Bool :=
  decide (s = 96 ∨ s = 98 ∨ s = 99 ∨ (128 ≤ s ∧ s ≤ 191) ∨ (197 ≤ s ∧ s ≤ 199) ∨ (208 ≤ s ∧ s ≤ 239) ∨
    (296 ≤ s ∧ s ≤ 311) ∨ (344 ≤ s ∧ s ≤ 351) ∨ s = 370)

/-- An entry of the map is allowed (R290, R292, R311). -/
def mapEntryOk (s v : Nat) : Bool :=
  match sourceFixed s with
  | some x => decide (v = x)
  | none =>
    let react := v % 8
    let cls := bits v 4 3
    decide (v < 64) && (match cls with
      | 0 => decide (react ≤ 1)
      | 1 => decide (1 ≤ react ∧ react ≤ 4)
      | 2 => decide (react = 5)
      | _ => false) && (decide (react ≠ 2) || kennelSource s)

/-- `FaultSourceMap` (R290, R292, R311, R551). -/
def Live.mapRules (lv : Live) : Bool :=
  let m := lv.bytes Obj.faultSourceMap
  (List.range 384).all (fun s => mapEntryOk s (natAt m (2 * s) 2))

/-! ### Machine safety -/

/-- The type of an instance: 0 `ESTOP`, 1 `GUARD`, 2 `TWOHAND`, 3 `CURTAIN` (R313). -/
def instType (i : Nat) : Nat := if i < 8 then 0 else if i < 16 then 1 else if i < 20 then 2 else 3

/-- The lane of a terminal's code, none where the code is not one (R314). -/
def terminalLane (c : Nat) : Option Nat :=
  if c / 4096 = 1 ∧ c % 1024 < 12 ∧ (c / 1024) % 4 < 3 then some ((c / 1024) % 4) else none

/-- A channel code is none or a terminal (R314). -/
def noneOrTerminal (c : Nat) : Bool := decide (c = 0) || (terminalLane c).isSome

/-- The lock and reset sources and channels of an instance are of the kinds their fields allow (R314, R346). -/
def Live.instKinds (lv : Live) (i : Nat) : Bool :=
  let c1 := lv.num Obj.instChannel1 i
  let c2 := lv.num Obj.instChannel2 i
  let lk := lv.num Obj.instLockSource i
  let rs := lv.num Obj.instResetSource i
  (noneOrTerminal c1 || decide (c1 / 4096 = 2 ∧ c1 % 4096 < 24 ∧ c2 = 0)) && noneOrTerminal c2
    && noneOrTerminal lk && (decide (lk = 0) || decide (instType i = 1))
    && (noneOrTerminal rs || decide (rs / 4096 = 3 ∧ rs % 4096 < 1024))

/-- Stop category, reset mode and times lie in the type's set (R313, R346). -/
def Live.instSets (lv : Live) (i : Nat) : Bool :=
  let cat := lv.num Obj.instStopCategory i
  match instType i with
  | 0 => decide (cat ≤ 1 ∧ lv.num Obj.instResetMode i = 0)
  | 2 => decide (cat = 2 ∧ 50 ≤ lv.num Obj.instDiscrepancyTime i ∧ lv.num Obj.instDiscrepancyTime i ≤ 500)
  | _ => decide (cat ≤ 2)

/-- An enabled instance has two channels on two lanes, and the reset source that it needs (R315). -/
def Live.instWhole (lv : Live) (i : Nat) : Bool :=
  let c1 := lv.num Obj.instChannel1 i
  let c2 := lv.num Obj.instChannel2 i
  let two := decide (c1 / 4096 = 2) || (match terminalLane c1, terminalLane c2 with
    | some x, some y => decide (x ≠ y)
    | _, _ => false)
  two && (decide (instType i = 2) || !(decide (instType i = 0) || decide (lv.num Obj.instResetMode i = 0))
    || decide (lv.num Obj.instResetSource i ≠ 0))

/-- A `CURTAIN` channel has an `OffFilter` of at least 1.1 ms and no `PulseSource` (R315). -/
def curtainOk (pr : LaneId → Live) (c : Nat) : Bool :=
  match terminalLane c with
  | none => true
  | some o => match LaneId.ofNum o with
    | none => true
    | some n => decide (11 ≤ (pr n).num Obj.offFilter 0 (c % 1024) ∧ (pr n).num Obj.pulseSource 0 (c % 1024) = 255)

/-- Every terminal that an instance names as channel, lock or reset source, in turn (R315). -/
def Live.terminalsNamed (lv : Live) : List Nat :=
  (List.range 24).flatMap (fun i =>
    [lv.num Obj.instChannel1 i, lv.num Obj.instChannel2 i, lv.num Obj.instLockSource i, lv.num Obj.instResetSource i].filter
      (fun c => (terminalLane c).isSome))

/-- A safe-data input names only enabled `BOTH` receive entries on both channels (R315, R352). -/
def Live.sdInOk (lv : Live) (i : Nat) : Bool :=
  !lv.sdUsed i || ((([0, 2, 4].map (fun k => lv.sdIn i k 2)).filter (fun e => decide (e ≠ 0xFFFF))).all (fun e =>
      decide (e < 2048 ∧ lv.entLength e ≠ 0 ∧ lv.entDir e = 1) && lv.entBoth e && lv.entOn e .a && lv.entOn e .b)
    && decide (lv.sdIn i 10 1 ≤ 63 ∧ lv.sdIn i 11 1 ≤ 15))

/-- A safe-data output names a schedule entry that transmits, and its fields lie in range (R352). -/
def Live.sdOutOk (lv : Live) (j : Nat) : Bool :=
  decide (lv.sdOut j 0 2 = 0xFFFF) || (decide (lv.sdOut j 0 2 < 2048 ∧ lv.sdOut j 6 2 = 0) &&
    (List.range 8).all (fun k => decide (lv.sdOut j (8 + 2 * k) 2 < 1024 ∨ lv.sdOut j (8 + 2 * k) 2 = 0xFFFF)))

/-- Every pulse train of the device in the order of placing, at offset 0 (R336). -/
def trains (pr : LaneId → Live) : List PulseTrain :=
  let all := allLanes.flatMap (fun o =>
    (List.range 6).map (fun n =>
      ({ lane := o, isTpo := true, num := n, offset := 0, period := (pr o).num Obj.tpoPeriod 0 n,
         width := (pr o).num Obj.tpoWidth 0 n } : PulseTrain)) ++
    (List.range 4).map (fun n =>
      { lane := o, isTpo := false, num := n, offset := 0, period := (pr o).num Obj.soutPulseInterval 0 n,
        width := (pr o).num Obj.soutPulseWidth 0 n }))
  all.mergeSort (fun x y => decide (x.period ≤ y.period))

/-- One train placed at the smallest offset that keeps 100 µs from every pulse placed (R336). -/
def placeTrain (rate : Nat) (placed : List PulseTrain) (t : PulseTrain) : Option PulseTrain :=
  ((List.range (t.period * rate / 1000)).find? (fun o =>
    let u := { t with offset := o }
    (u.pulses rate).all (fun h => !placed.any (fun x => x.near rate (perSec / rate) (h % rate) t.width)))).map
    (fun o => { t with offset := o })

/-- The pulse plan of the device, none where a train cannot be placed (R336). -/
def pulsePlan (pr : LaneId → Live) (rate : Nat) : Option (List PulseTrain) :=
  (trains pr).foldl (fun acc t => match acc with
    | none => none
    | some ts => (placeTrain rate ts t).map (fun u => ts ++ [u])) (some [])

/-- Machine safety (R315, R336, R343, R346, R349, R352). -/
def Live.safetyRules (lv : Live) (pr : LaneId → Live) : Bool :=
  let named := lv.terminalsNamed
  let used := (List.range 24).countP lv.sdUsed + (List.range 8).countP (fun j => decide (lv.sdOut j 0 2 ≠ 0xFFFF))
  (List.range 24).all (fun i => lv.instKinds i &&
      (decide (lv.num Obj.instEnable i = 0) || (lv.instSets i && lv.instWhole i)) &&
      (decide (instType i ≠ 3) || (curtainOk pr (lv.num Obj.instChannel1 i) && curtainOk pr (lv.num Obj.instChannel2 i))))
    && decide (named.eraseDups.length = named.length)
    && (List.range 24).all lv.sdInOk && (List.range 8).all lv.sdOutOk
    && decide (used ≤ lv.num Obj.residentUnits)
    && (List.range 4).all (fun n => decide (2 * lv.num Obj.soutPulseInterval 0 n ≤ lv.num Obj.diagInterval 0 n))
    && (pulsePlan pr (lv.num Obj.tickRate)).isSome

/-! ### Network, supply and application -/

/-- A flow may be named as a target: an application flow that is enabled (R458). -/
def Live.flowNamed (lv : Live) (f : Nat) : Bool := decide (16 ≤ f ∧ f < 64 ∧ natAt (lv.bytes Obj.flowDepth) f 1 ≠ 0)

/-- Every depth of an application flow is 0 to 16 (R458, R475). -/
def Live.depthsOk (lv : Live) : Bool :=
  (List.range 64).all (fun f => decide (f < 16) || decide (natAt (lv.bytes Obj.flowDepth) f 1 ≤ 16))

/-- Cycle points (R377, R383, R458). -/
def Live.cyclePointsOk (lv : Live) : Bool :=
  (List.range 16).all (fun n =>
    let t := lv.num Obj.cycleTarget 0 n
    let v := lv.num Obj.cyclePoint 0 n
    decide (t = 255) || (decide ((v % 2 ^ 20) * 4 < lv.num Obj.cycleTicks * lv.tick ∧ bits v 25 20 ≤ bits v 31 26)
      && (!(tbit t 6) || lv.flowNamed (t % 64))))

/-- The filters of the CAN ports, and the ports that BIST marked unusable (R305, R409, R411, R458). -/
def Live.canRules (lv : Live) : Bool :=
  (List.range 4).all (fun n =>
    let f := lv.rcBytes Obj.canFilters n
    (List.range 16).all (fun k =>
      let t := natAt f (12 * k + 8) 4
      !(tbit (natAt f (12 * k) 4) 29) && !(tbit (natAt f (12 * k) 4) 30) && decide (natAt f (12 * k + 4) 4 < 2 ^ 29)
        && (decide (t = 255) || lv.flowNamed t))
    && (decide (lv.num Obj.canTxFlow 0 n = 255) || lv.flowNamed (lv.num Obj.canTxFlow 0 n))
    && !(lv.fl.unusable.getLsbD 1 && decide (2 ≤ n ∧ lv.rcNum Obj.canMode n ≠ 0)))

/-- An application thread entry (R476). -/
def threadEntryOk (bs : List Byte) (n : Nat) : Bool :=
  let f (off len : Nat) : Nat := natAt bs (16 * n + off) len
  let p := f 11 1
  decide (0x600000 ≤ f 0 4 ∧ f 0 4 ≤ 0x7FFFFF ∧ 0x20000000 ≤ f 4 4 ∧ f 4 4 ≤ 0x201FFFFF ∧ f 4 4 % 16 = 0 ∧ f 8 1 ≤ 15)
    && decide (f 9 1 = 0 ∨ f 9 1 = 2 ∨ f 9 1 = 3) && decide (f 10 1 < 4 ∧ f 12 4 = 0)
    && (decide (p = 255) || (decide (p < bs.length / 16 ∧ p ≠ n ∧ natAt bs (16 * p + 11) 1 = n)))

/-- Scheduler and application (R458, R476). -/
def Live.appRules (lv : Live) : Bool :=
  let t := lv.bytes Obj.appThreads
  (List.range (t.length / 16)).all (threadEntryOk t) && lv.depthsOk && lv.cyclePointsOk && lv.canRules
    && (decide (lv.num Obj.appFaultFlow = 255) || lv.flowNamed (lv.num Obj.appFaultFlow))

/-- Supply (R527). -/
def Live.supplyRules (lv : Live) : Bool :=
  F32.le (lv.real Obj.vbatLow) (F32.sub (lv.real Obj.vbatHigh) (F32.ofNat 1))

/-- The conditions of the chapters that report no cause of their own. -/
def Live.otherRules (lv : Live) (pr : LaneId → Live) : Bool :=
  lv.laneRules && lv.fieldRules pr && lv.stageRules && lv.feedbackRules && lv.mapRules && lv.safetyRules pr
    && lv.appRules && lv.supplyRules

/-! ### Check 12 -/

/-- What check 12 finds: whether the image may be committed, the engine's cause and slot, the schedule's report. -/
structure Verdict where
  ok    : Bool
  cause : Byte
  slot  : Byte
  sched : Half
  deriving DecidableEq, Repr

/-- Check 12 of an image at a lane (R417). -/
def Live.check12 (lv : Live) (bs : List Byte) : Verdict :=
  let here := lv.probe bs
  let pr (o : LaneId) : Live := if o = lv.me then here else probeLane bs o
  let sch := here.scheduleReject
  match here.engineReject pr with
  | some (c, n) => { ok := false, cause := BitVec.ofNat 8 c, slot := BitVec.ofNat 8 n, sched := sch }
  | none => { ok := decide (sch = 0) && here.otherRules pr, cause := 0, slot := 255, sched := sch }

/-- The causes reported in the chapters' objects (R123, R380). -/
def Live.report (lv : Live) (v : Verdict) : Live :=
  { lv with en := { lv.en with rejCause := v.cause, rejSlot := v.slot }, jn := { lv.jn with reject := v.sched } }

end Sys2Proof.Machine
end

