-- ==== Sys2Proof/Machine/Storage.lean ====
section
/-!
DEFINITION. Configuration and firmware storage (14_images_and_security.md): downloads, the slot directory and its
commands, the copy comparison, and the values put in effect at an apply (R418 to R424, R426 to R428).
-/

namespace Sys2Proof.Machine

/-- A lane's live state and its managed storage, as the storage commands change them together. -/
abbrev LiveStore := Live × NvStore

/-! ### Roles of the directory -/

def SlotDir.pairOf (d : SlotDir) : SlotRole → Nat
  | .staged => d.staged | .active => d.active | .previous => d.previous

def SlotDir.version (d : SlotDir) : SlotRole → Word
  | .staged => d.vStaged | .active => d.vActive | .previous => d.vPrevious

def SlotDir.digest (d : SlotDir) : SlotRole → List Byte
  | .staged => d.dStaged | .active => d.dActive | .previous => d.dPrevious

/-- The code of a role in `COPYSLOT` (R446). -/
def SlotRole.code : SlotRole → Nat
  | .staged => 0 | .active => 1 | .previous => 2

/-- One directory write that records a role's image; version 0 is empty (R418). -/
def SlotDir.setRole (d : SlotDir) (r : SlotRole) (v : Word) (dig : List Byte) : SlotDir :=
  let d := { d with seq := d.seq + 1 }
  match r with
  | .staged => { d with vStaged := v, dStaged := dig }
  | .active => { d with vActive := v, dActive := dig }
  | .previous => { d with vPrevious := v, dPrevious := dig }

/-- The status of a role (R445). -/
def Live.roleStatus (lv : Live) : SlotRole → Byte
  | .staged => lv.im.stStaged | .active => lv.im.stActive | .previous => lv.im.stPrevious

/-- The status of a role set. -/
def Live.setStatus (lv : Live) (r : SlotRole) (c : Byte) : Live :=
  match r with
  | .staged => { lv with im := { lv.im with stStaged := c } }
  | .active => { lv with im := { lv.im with stActive := c } }
  | .previous => { lv with im := { lv.im with stPrevious := c } }

/-- Region `CSn`. -/
def NvStore.region (st : NvStore) (n : Nat) : List Byte := (st.regions.toList).getD n []

/-- Region `CSn` written. -/
def NvStore.setRegion (st : NvStore) (n : Nat) (bs : List Byte) : NvStore :=
  if h : n < 6 then { st with regions := st.regions.set n (trimZeros bs) } else st

/-- The image of a role, from the first region of its pair. -/
def NvStore.image (st : NvStore) (r : SlotRole) : List Byte := st.region (2 * st.dir.pairOf r)

/-- The digest that an image carries (R414). -/
def digestOf (bs : List Byte) : List Byte := slice bs (64 + (header bs).bodyLen) 64

/-- The version that an image carries (R413). -/
def versionOf (bs : List Byte) : Word := BitVec.ofNat 32 (header bs).version

/-! ### Storage errors -/

/-- An access to the storage: the injection of checker 104 raises source 361 and leaves the data intact (R302, R443). -/
def Live.touchStore (lv : Live) (region : Nat) : Live :=
  match lv.injected 104 with
  | (some r, l2) => l2.raiseBy 361 region 0 (some r)
  | (none, l2) => l2

/-! ### Comparing the copies of a role -/

/-- What the comparison of a pair finds (R419): the result as `COPYRESULT` codes it, the region that is overwritten. -/
def copyVerdict (st : NvStore) (o : Otp) (r : SlotRole) : Nat × Option Nat :=
  let n := 2 * st.dir.pairOf r
  let x := st.region n
  let y := st.region (n + 1)
  let fits (z : List Byte) : Bool := decide (versionOf z = st.dir.version r ∧ digestOf z = st.dir.digest r)
  if x = y then (0, none)
  else match decide (checkStored st o x = 1), decide (checkStored st o y = 1) with
    | true, false => (1, some (n + 1))
    | false, true => (1, some n)
    | true, true => if fits x then (2, some (n + 1)) else if fits y then (2, some n) else (3, none)
    | false, false => (3, none)

/-- The copies of a role compared, repaired or given up (R419). An empty role holds no image to compare. -/
def compareRole (r : SlotRole) (o : Otp) (x : LiveStore) : LiveStore :=
  let st := x.2
  if st.dir.version r = 0 then x
  else
    let v := copyVerdict st o r
    let lv := x.1.touchStore (2 * st.dir.pairOf r)
    let lv := { lv with im := { lv.im with copyResult := BitVec.ofNat 2 v.1, copySlot := BitVec.ofNat 3 r.code } }
    match v with
    | (0, _) => (lv, st)
    | (c, some n) =>
      let m := if n % 2 = 0 then n + 1 else n - 1
      (({ lv with im := { lv.im with repairs := satInc lv.im.repairs } }).raise (if c = 1 then 354 else 355) n,
       st.setRegion n (st.region m))
    | (_, none) =>
      ((lv.setStatus r 14).raise 356 (2 * st.dir.pairOf r), { st with dir := st.dir.setRole r 0 [] })

/-! ### Applying a configuration -/

/-- A group's ports and pole pairs, which decide whether its accumulator runs on (R143). -/
def Live.groupShape (lv : Live) (g : Nat) : Nat × Nat × Nat × Nat :=
  (lv.num Obj.groupPortA g, lv.num Obj.groupPortB g, lv.num Obj.groupPortC g, lv.num Obj.groupPolePairs g)

/-- A group after a new configuration is applied: it is disabled, and its accumulator runs on or restarts (R143). -/
def GroupSt.carried (q : GroupSt) (same : Bool) : GroupSt :=
  if same then { angle := q.angle, formed := q.formed, speed := q.speed, acc := q.acc, accOn := q.accOn, steps := q.steps }
  else {}

/-- A winding after a new configuration is applied: its gates off, its estimates at the new values (R154, R424). -/
def WindingSt.carried (w : WindingSt) : WindingSt :=
  { stopLoop w with
    ws := match w.ws with
      | .lost => .lost | .kennelled => .kennelled | _ => .disabled
    rs := none, hfiFound := false, fromLos := false, again := none }

/-- The application loaded anew: its memory from the image, its threads and flows as at the end of STARTUP (R120, R424,
R452, R465). -/
def Live.loadApp (lv : Live) : Live :=
  let lv := { lv with sc := {
    code := lv.bytes Obj.appCode, data := lv.bytes Obj.appData, stopped := lv.sc.stopped, refusals := lv.sc.refusals,
    laneRefs := lv.sc.laneRefs, drops := lv.sc.drops, faults := lv.sc.faults } }
  if lv.au.startupOver && !lv.sc.stopped then
    let ds := lv.bytes Obj.appDefaults
    ((List.range 256).foldl (fun (x : Live) k => x.setBus (768 + k) (BitVec.ofNat 32 (natAt ds (4 * k) 4))) lv).autostart
  else lv

/-- The pulse plan of an image drawn up (R336); `bs` is the image, empty for the defaults. -/
def Live.drawPlan (lv : Live) (bs : List Byte) : Live :=
  { lv with sf := { lv.sf with plan := (pulsePlan (probeLane bs) (lv.num Obj.tickRate)).getD [] } }

/-- A new configuration applied (R424): the `IMG` values, the tick program with a new epoch, the mismatch history, the
`RW` objects, Jalsyn in LISTEN, every gate off. -/
def Live.applyConfig (lv : Live) (bs : List Byte) : Live :=
  let shape := lv.groupShape
  let lv := { lv with cfg := imageValues lv.me bs }
  let lv := { lv with
    fc := { lv.fc with
      groups := Vector.ofFn (fun (g : Fin 24) => (lv.fc.groups[g]).carried (decide (shape g.val = lv.groupShape g.val))),
      wind := lv.fc.wind.map WindingSt.carried },
    en := { lv.en with cmd := Vector.replicate 24 {}, slots := lv.en.slots.mapDflt {} (fun q =>
      { misses := q.misses, invalid := q.invalid }), late := 0 },
    ps := { lv.ps with recent := [], dutyBad := none, ends := 0 },
    jn := { lv.jn with entries := [], parityBad := [], portsOff := false },
    di := { lv.di with rw := [] } }
  let lv := (lv.toListen 2).installProgram.drawPlan bs
  let lv := if lv.en.running then lv.startProgram else lv.newEpoch
  lv.loadApp.settle

/-! ### Commands on the slots -/

/-- A slot command's result: the command counts as running until its completion (R423, R446). -/
def Live.running' (lv : Live) (cmd : Nat) (v : Word) (result : Byte) : Live :=
  { lv with im := { lv.im with busy := lv.im.busy ++ [(cmd, v, result)] } }

/-- The role that Verify acts on: STAGED or PREVIOUS, whichever holds the version (R423). -/
def NvStore.verifyRole (st : NvStore) (v : Word) : Option SlotRole :=
  if v = 0 then none
  else if st.dir.vStaged = v then some .staged
  else if st.dir.vPrevious = v then some .previous
  else none

/-- The guard of a slot command, 1 Stage to 4 Revert (R423). -/
def configGuard (cmd : Nat) (v : Word) (x : LiveStore) : Bool :=
  let im := x.1.im
  let d := x.2.dir
  match cmd with
  | 1 => decide (im.stagingStatus = 1 ∧ versionOf (x.2.image .staged) = v) && im.busy.isEmpty
  | 2 => match x.2.verifyRole v with
    | some r => decide (x.1.roleStatus r = 1 ∨ x.1.roleStatus r = 2)
    | none => false
  | 3 => decide (im.stStaged = 2 ∧ d.vStaged = v ∧ d.vActive.toNat < v.toNat)
  | _ => decide (im.stPrevious = 2 ∧ d.vPrevious = v)

/-- The refusal of a slot command, none where its guard holds: at the entry lane, a path without an open session is
refused first (R423). -/
def configRefusal (cmd : Nat) (entry : Option Path) (v : Word) (x : LiveStore) : Option Word :=
  let session := match entry with
    | some p => x.1.sessionOn p
    | none => true
  if !x.1.standby || !session then some abortState
  else if configGuard cmd v x then none else some abortCheck

/-- Stage v carried out: region 1 into region 2, compared, recorded (R423). -/
def stage (o : Otp) (v : Word) (x : LiveStore) : LiveStore :=
  let st := x.2
  let n := 2 * st.dir.pairOf .staged
  let img := st.region n
  let lv := x.1.touchStore n
  if st.bad then ((lv.setStatus .staged 15).raise 361 n |>.running' 1 v 15, st)
  else
    let st := st.setRegion (n + 1) img
    let st := { st with dir := st.dir.setRole .staged v (digestOf img) }
    let y := compareRole .staged o ((lv.setStatus .staged 1), st)
    (y.1.running' 1 v (y.1.roleStatus .staged), y.2)

/-- Verify v carried out: the copies compared, checks 4 to 11, then check 12 (R423). -/
def verify (o : Otp) (v : Word) (x : LiveStore) : LiveStore :=
  match x.2.verifyRole v with
  | none => x
  | some r =>
    let y := compareRole r o x
    if y.2.dir.version r = 0 then (y.1.running' 2 v 14, y.2)
    else if y.2.bad then ((y.1.setStatus r 15).raise 361 (2 * y.2.dir.pairOf r) |>.running' 2 v 15, y.2)
    else
      let img := y.2.image r
      let lv := y.1.raiseKeys (damagedKeys 1 y.2 o img)
      let c := checkStored y.2 o img
      if c ≠ 1 then ((lv.setStatus r (BitVec.ofNat 8 c)).running' 2 v (BitVec.ofNat 8 c), y.2)
      else
        let w := lv.check12 img
        let code : Byte := if w.ok then 2 else 12
        (((lv.report w).setStatus r code).running' 2 v code, y.2)

/-- Commit v carried out: one directory write rotates the roles, and the new ACTIVE image is applied (R423, R424). -/
def commit (o : Otp) (v : Word) (x : LiveStore) : LiveStore :=
  let y := compareRole .staged o x
  if y.2.dir.vStaged = 0 then (y.1.running' 3 v 14, y.2)
  else
    let d := y.2.dir
    let turned : SlotDir :=
      { staged := d.previous, active := d.staged, previous := d.active, vStaged := 0, vActive := d.vStaged,
        vPrevious := d.vActive, dStaged := [], dActive := d.dStaged, dPrevious := d.dActive, seq := d.seq + 1 }
    let st := { y.2 with dir := turned }
    let old : Byte := if d.vActive = 0 then 0 else y.1.im.stActive
    let im := { y.1.im with stStaged := 0, stActive := 2, stPrevious := old, stagingStatus := 0, stagingGot := 0 }
    let lv := { y.1 with im := im }
    ((lv.applyConfig (st.image .active)).running' 3 v 2, st)

/-- Revert v carried out: one directory write exchanges ACTIVE and PREVIOUS (R423, R424). -/
def revert (o : Otp) (v : Word) (x : LiveStore) : LiveStore :=
  let y := compareRole .previous o x
  if y.2.dir.vPrevious = 0 then (y.1.running' 4 v 14, y.2)
  else
    let d := y.2.dir
    let turned : SlotDir :=
      { d with active := d.previous, previous := d.active, vActive := d.vPrevious, vPrevious := d.vActive,
               dActive := d.dPrevious, dPrevious := d.dActive, seq := d.seq + 1 }
    let st := { y.2 with dir := turned }
    let old : Byte := if d.vActive = 0 then 0 else y.1.im.stActive
    let lv := { y.1 with im := { y.1.im with stActive := 2, stPrevious := old } }
    ((lv.applyConfig (st.image .active)).running' 4 v 2, st)

/-- A slot command carried out at its apply tick (R423). -/
def configAct (cmd : Nat) (o : Otp) (v : Word) (x : LiveStore) : LiveStore :=
  match cmd with
  | 1 => stage o v x
  | 2 => verify o v x
  | 3 => commit o v x
  | _ => revert o v x

/-- A slot command at a lane: out of reach of a silent lane, refused under its guard, else carried out (R387, R423). -/
def configCommand (cmd : Nat) (entry : Option Path) (v : Word) (o : Otp) (x : LiveStore) : LiveStore :=
  let lv := x.1
  if !lv.answers then x
  else if !lv.writes then (lv.abortWith entry abortState, x.2)
  else if v = 0 then (lv.abortWith entry abortRange, x.2)
  else match configRefusal cmd entry v x with
    | some c => (lv.abortWith entry c, x.2)
    | none => let y := configAct cmd o v x
              (y.1.accept entry, y.2)

def execConfigStage (l : LaneId) (entry : Option Path) (v : Word) (s : State) : Host.Outcome State Fault Refusal :=
  done (onStore l (configCommand 1 entry v) s)

def execConfigVerify (l : LaneId) (entry : Option Path) (v : Word) (s : State) : Host.Outcome State Fault Refusal :=
  done (onStore l (configCommand 2 entry v) s)

def execConfigCommit (l : LaneId) (entry : Option Path) (v : Word) (s : State) : Host.Outcome State Fault Refusal :=
  done (onStore l (configCommand 3 entry v) s)

def execConfigRevert (l : LaneId) (entry : Option Path) (v : Word) (s : State) : Host.Outcome State Fault Refusal :=
  done (onStore l (configCommand 4 entry v) s)

/-- CONFIG_COMMAND_COMPLETE: the oldest command's action ends; `LastCommandResult` takes its result (R423). -/
def Live.configComplete (lv : Live) : Live :=
  match lv.im.busy with
  | [] => lv
  | (_, _, r) :: rest => { lv with im := { lv.im with busy := rest, lastResult := r } }

def execConfigCommandComplete (l : LaneId) (s : State) : Host.Outcome State Fault Refusal :=
  done (onLive l Live.configComplete s)

/-! ### Downloads -/

/-- What refuses a block of a download (R422, R427): its offset, the bytes received so far, the target's present
content and size. -/
def blockRefusal (off got size : Nat) (old data : List Byte) : Option Word :=
  if 32768 < data.length then some abortLong
  else if off ≠ 0 ∧ off ≠ got then some abortCheck
  else
    let n := off + data.length
    let now := if off = 0 then data else putBytes old off data
    if size < n ∨ (64 ≤ n ∧ imageLen now < n) then some abortLong else none

/-- A write of `StageData` that is accepted (R422). -/
def stageBlock (o : Otp) (data : List Byte) (x : LiveStore) : LiveStore :=
  let st := x.2
  let off := x.1.rwNum Obj.stageOffset
  let n := 2 * st.dir.pairOf .staged
  let lv := x.1.touchStore n
  let lv := if off = 0 then lv.setStatus .staged 0 else lv
  let st := if off = 0 then { st with dir := st.dir.setRole .staged 0 [] } else st
  let got := off + data.length
  let lv := (lv.setRw Obj.stageOffset 0 0 (leBytes 4 got)).setRw Obj.stageData 0 0 data
  let lv := { lv with im := { lv.im with stagingGot := got } }
  if st.bad then (({ lv with im := { lv.im with stagingStatus := 15 } }).raise 361 n, st)
  else
    let img := if off = 0 then trimZeros data else putBytes (st.region n) off data
    let st := st.setRegion n img
    let whole := decide (64 ≤ got ∧ imageLen img ≤ got)
    let lv := if whole then lv.raiseKeys (damagedKeys 1 st o img) else lv
    let c := checkReceived st o got img
    ({ lv with im := { lv.im with stagingStatus := if whole then BitVec.ofNat 8 c else 3 } }, st)

/-- STAGE_DATA (R422). -/
def stageData (path : Path) (data : List Byte) (o : Otp) (x : LiveStore) : LiveStore :=
  let lv := x.1
  if !lv.answers then x
  else if !lv.writes || !lv.standby || !lv.sessionOn path then (lv.abortWith (some path) abortState, x.2)
  else if data.isEmpty then
    let lv := { lv with im := { lv.im with stagingGot := 0, stagingStatus := 0 } }
    (((lv.setRw Obj.stageOffset 0 0 (leBytes 4 0)).setRw Obj.stageData 0 0 []).accept (some path), x.2)
  else match blockRefusal (lv.rwNum Obj.stageOffset) lv.im.stagingGot 4194304 (x.2.image .staged) data with
    | some c => (lv.abortWith (some path) c, x.2)
    | none => let y := stageBlock o data x
              (y.1.accept (some path), y.2)

def execStageData (l : LaneId) (path : Path) (data : List Byte) (s : State) : Host.Outcome State Fault Refusal :=
  done (onStore l (stageData path data) s)

/-! ### Firmware -/

/-- The content of a firmware slot. -/
def NvStore.firmware (st : NvStore) (b : Bool) : List Byte := if b then st.fwB else st.fwA

/-- The content of a firmware slot written. -/
def NvStore.setFirmware (st : NvStore) (b : Bool) (bs : List Byte) : NvStore :=
  if b then { st with fwB := bs } else { st with fwA := bs }

/-- A firmware slot is marked empty. -/
def NvStore.fwEmpty (st : NvStore) (b : Bool) : Bool := if b then st.boot.emptyB else st.boot.emptyA

/-- The empty mark of a firmware slot set. -/
def BootRecord.mark (r : BootRecord) (b : Bool) (e : Bool) : BootRecord :=
  if b then { r with emptyB := e } else { r with emptyA := e }

/-- The status of a firmware slot at boot (R417, R426): 0 where it is marked empty. -/
def bootStatus (st : NvStore) (o : Otp) (b : Bool) : Nat := if st.fwEmpty b then 0 else checkBoot st o (st.firmware b)

/-- The status of a firmware slot reported. -/
def Live.setFwStatus (lv : Live) (b : Bool) (c : Nat) : Live :=
  if b then { lv with im := { lv.im with stB := BitVec.ofNat 8 c } }
  else { lv with im := { lv.im with stA := BitVec.ofNat 8 c } }

/-- The region number that source 361 names for a firmware slot: none of 0 to 5. -/
def fwRegion : Nat := noUnit

/-- A write of `LoadData` that is accepted (R427). -/
def loadBlock (o : Otp) (data : List Byte) (x : LiveStore) : LiveStore :=
  let b := !x.2.boot.runningB
  let off := x.1.rwNum Obj.fwLoadOffset
  let got := off + data.length
  let lv := ((x.1.touchStore fwRegion).setRw Obj.fwLoadOffset 0 0 (leBytes 4 got)).setRw Obj.fwLoadData 0 0 data
  let lv := { lv with im := { lv.im with loadGot := got } }
  let lv := if off = 0 then lv.setFwStatus b 0 else lv
  let st := if off = 0 then { x.2 with boot := x.2.boot.mark b true } else x.2
  if st.bad then (({ lv with im := { lv.im with loadStatus := 15 } }).raise 361 fwRegion, st)
  else
    let img := if off = 0 then trimZeros data else putBytes (st.firmware b) off data
    let st := st.setFirmware b img
    if 64 ≤ got ∧ imageLen img ≤ got then
      let c := checkLoad st o got img
      let lv := lv.raiseKeys (damagedKeys 2 st o img)
      (({ lv with im := { lv.im with loadStatus := BitVec.ofNat 8 c } }).setFwStatus b c,
       { st with boot := st.boot.mark b false })
    else ({ lv with im := { lv.im with loadStatus := 3 } }, st)

/-- LOAD_DATA (R427): the rules of R422 for the firmware slot that is not running. -/
def loadData (path : Path) (data : List Byte) (o : Otp) (x : LiveStore) : LiveStore :=
  let lv := x.1
  if !lv.answers then x
  else if !lv.writes || !lv.standby || !lv.sessionOn path then (lv.abortWith (some path) abortState, x.2)
  else if data.isEmpty then
    let lv := { lv with im := { lv.im with loadGot := 0, loadStatus := 0 } }
    (((lv.setRw Obj.fwLoadOffset 0 0 (leBytes 4 0)).setRw Obj.fwLoadData 0 0 []).accept (some path), x.2)
  else match blockRefusal (lv.rwNum Obj.fwLoadOffset) lv.im.loadGot 67108864 (x.2.firmware (!x.2.boot.runningB)) data with
    | some c => (lv.abortWith (some path) c, x.2)
    | none => let y := loadBlock o data x
              (y.1.accept (some path), y.2)

def execLoadData (l : LaneId) (path : Path) (data : List Byte) (s : State) : Host.Outcome State Fault Refusal :=
  done (onStore l (loadData path data) s)

/-- FIRMWARE_ACTIVATE (R427): `trial` says whether another lane of the device is in trial. -/
def activate (path : Path) (v : Word) (trial : Bool) (x : LiveStore) : LiveStore :=
  let lv := x.1
  let b := !x.2.boot.runningB
  if !lv.answers then x
  else if !lv.writes then (lv.abortWith (some path) abortState, x.2)
  else if v = 0 then (lv.abortWith (some path) abortRange, x.2)
  else if !lv.standby || !lv.au.standstill || !lv.sessionOn path || trial
      || decide (lv.im.loadStatus ≠ 1 ∨ versionOf (x.2.firmware b) ≠ v) then
    (lv.abortWith (some path) abortState, x.2)
  else
    ((lv.accept (some path)).reset .software,
     { x.2 with boot := { x.2.boot with runningB := b, trial := true, tried := false, confirmed := false } })

def execFirmwareActivate (l : LaneId) (path : Path) (v : Word) (s : State) : Host.Outcome State Fault Refusal :=
  done (onStore l (fun _ => activate path v (l.others.any (fun o => (s.lane o).store.boot.trial))) s)

/-! ### Confirming a trial -/

/-- The lane may confirm its firmware (R428). -/
def mayConfirm (n : Lane) : Bool :=
  n.live.joined && n.store.boot.trial && decide (100 ≤ n.live.im.trialTicks)
    && decide (n.live.clk ≤ n.live.im.trialFrom + 2 * perSec)

/-- The security counter raised to a value; its fuses only rise (R426). -/
def Otp.raiseTo (o : Otp) (k : Nat) : Otp := { o with counter := o.counter ||| BitVec.ofNat 255 (2 ^ k - 1) }

/-- Key slots revoked, one bit each (R428, R431). -/
def Otp.revoke (o : Otp) (m : BitVec 12) : Otp := { o with revoked := o.revoked ||| m }

/-- FIRMWARE_CONFIRM (R428): the trial flag, the counter, the keys, in this order. -/
def confirm (n : Lane) : Lane :=
  if mayConfirm n then
    let h := header (n.store.firmware n.store.boot.runningB)
    let o := n.otp.raiseTo h.epoch
    let late (b : Bool) (c : Byte) : Byte :=
      if c = 1 ∧ (header (n.store.firmware b)).epoch < o.count then 13 else c
    { live := { n.live with im := { n.live.im with stA := late false n.live.im.stA, stB := late true n.live.im.stB } },
      store := { n.store with boot := { n.store.boot with trial := false, tried := false, confirmed := true } },
      otp := o.revoke (BitVec.ofNat 12 (h.revoke % 16)) }
  else n

def execFirmwareConfirm (l : LaneId) (s : State) : Host.Outcome State Fault Refusal := done (onLane l confirm s)

/-! ### Boot -/

/-- What the boot ROM decides (R425, R428): the slot started, none where neither passes, and the record after it. -/
def bootChoice (st : NvStore) (o : Otp) : Option Bool × BootRecord :=
  let r := st.boot
  let failed := r.trial && r.tried
  let first := if failed then !r.runningB else r.runningB
  let r := if failed then
      { r with runningB := first, trial := false, tried := false, fallbacks := satInc r.fallbacks } else r
  if bootStatus st o first = 1 then (some first, { r with tried := r.trial })
  else if bootStatus st o (!first) = 1 then
    (some (!first), { r with runningB := !first, trial := false, tried := false })
  else (none, r)

/-- The retention banks that failed their check after DEEP (R510, R520): cleared and refilled, source 24 for each. The
refills of bank 1 (the snapshot of the DEEP entry) and of the marker list (the logbook index) give what they held. -/
def Live.refillBanks (lv : Live) (bad : BitVec 4) : Live :=
  let hit (n : Nat) : Bool := bad.getLsbD n || (lv.injected (72 + n)).1.isSome
  let lost : BitVec 4 := BitVec.ofNat 4 (((List.range 4).map (fun n => bitAt (hit n) n)).sum)
  let fl := if hit 0 then { lv.fl with history := [], first := none, seq := 0 } else lv.fl
  let su := { lv.su with bankBad := lost, last := if hit 0 then 0 else lv.su.last }
  let au := if hit 2 then { lv.au with rejoins := 0, noRejoin := false } else lv.au
  let im := if hit 3 then { lv.im with descs := [] } else lv.im
  let lv := { lv with fl := fl, su := su, au := au, im := im }
  (List.range 4).foldl (fun (x : Live) n =>
    let r := x.injected (72 + n)
    if lost.getLsbD n then r.2.raiseBy 24 n 0 r.1 else x) lv

/-- The node-ID that the lane takes at its reset (R388). -/
def Live.nodeIdNow (lv : Live) : Nat :=
  (if lv.rcNum Obj.nodeIdBase ≠ 0 then lv.rcNum Obj.nodeIdBase else 1 + 16 * lv.mo.idCode.toNat) + lv.me.num

/-- The configuration load (R419, R420): every role compared, the ACTIVE image checked and applied. -/
def loadConfig (o : Otp) (x : LiveStore) : LiveStore :=
  let x := compareRole .previous o (compareRole .staged o (compareRole .active o x))
  let status (r : SlotRole) (lv : Live) : Live :=
    if x.2.dir.version r = 0 then lv
    else lv.setStatus r (BitVec.ofNat 8 (checkStored x.2 o (x.2.image r)))
  let lv := status .previous (status .staged (status .active x.1))
  let img := if lv.activeValid then x.2.image .active else []
  let lv := if x.2.dir.vActive = 0 then lv else lv.raiseKeys (damagedKeys 1 x.2 o (x.2.image .active))
  let lv := { lv with cfg := if lv.activeValid then imageValues lv.me img else [] }
  let lv := { lv with sc := { lv.sc with code := lv.bytes Obj.appCode, data := lv.bytes Obj.appData },
                      jn := { lv.jn with portsOff := !lv.activeValid } }
  (((lv.toListen 2).installProgram.drawPlan img).newEpoch, x.2)

/-- The descriptors that bank 3 still holds become markers (R511). -/
def Live.markDescs (lv : Live) : Live :=
  let ds := lv.im.descs
  ds.foldl (fun (x : Live) m => x.addMarker m) { lv with im := { lv.im with descs := [] } }

/-- The firmware of a slot starts (R388, R420, R425, R506, R511): `free` numbers the draw of an attestation pair. -/
def startFirmware (free : Nat) (o : Otp) (banksBad : BitVec 4) (moved : Bool) (x : LiveStore) : LiveStore :=
  let st := if x.2.attestOk then x.2 else { x.2 with attestOk := true, attestId := free }
  let lv := if x.1.su.fromDeep then x.1.refillBanks banksBad else x.1
  let lv := { lv with
    phase := if lv.su.halt then .haltedState else .loaded,
    start := lv.clk,
    su := { lv.su with wdAt := some lv.clk, fromDeep := false },
    di := { lv.di with nodeId := lv.nodeIdNow },
    im := { lv.im with stA := BitVec.ofNat 8 (bootStatus st o false), stB := BitVec.ofNat 8 (bootStatus st o true),
                       trialFrom := lv.su.t0, trialTicks := 0 } }
  let lv := lv.raiseKeys (damagedKeys 2 st o (st.firmware st.boot.runningB))
  let lv := if moved then lv.raise 357 (bit1 st.boot.runningB) else lv
  let y := loadConfig o (lv, st)
  let lv := (forAll 4 (fun n (z : Live) => z.canInit n) y.1).markDescs
  let lv := if lv.phase = .loaded then { lv with gd := { lv.gd with forcedLow := false } } else lv
  (lv.settle, y.2)

/-- FIRMWARE_START (R425): the boot ROM checks the slots and starts one, or the lane stays in its boot ROM. -/
def boot (banksBad : BitVec 4) (free : Nat) (o : Otp) (x : LiveStore) : LiveStore :=
  if x.1.phase = .boot then
    match bootChoice x.2 o with
    | (some b, r) =>
      startFirmware free o banksBad (decide (b ≠ x.2.boot.runningB)) (x.1, { x.2 with boot := r })
    | (none, r) => ({ x.1 with phase := .bootFailed }, { x.2 with boot := r })
  else x

/-- FIRMWARE_START, with the comparison of R421 that the lane makes when its configuration is loaded. -/
def State.firmwareStart (s : State) (l : LaneId) (banksBad : BitVec 4) : State :=
  let t := onFree l (boot banksBad) s
  onLive l (fun lv => if lv.phase = .loaded then t.compareLanes l lv else lv) t

def execFirmwareStart (l : LaneId) (banksBad : BitVec 4) (s : State) : Host.Outcome State Fault Refusal :=
  done (s.firmwareStart l banksBad)

end Sys2Proof.Machine
end

