-- ==== Sys2Proof/Machine/Capture.lean ====
section
/-!
DEFINITION. The logbook's rings (R437 to R442, R451): samples, captures, the trend, erase and read, and the reset that
ends a halt (R294, R441).
-/

namespace Sys2Proof.Machine

/-! ### Samples -/

/-- A signal's value; no entry is sampled as 0. -/
def Live.sampleOf (lv : Live) (e : Nat) : F32 := if e < 1024 then lv.bus e else 0

/-- A pending capture after one more sample. Only a capture that waits behind another can lose the oldest of its
pre-trigger part: it is shortened where the ring would overwrite it, and `TRUNC` is set (R438, R439). -/
def Capture.sampled (c : Capture) (head : Bool) (smp : List F32) : Capture :=
  let c := { c with age := c.age + 1 }
  let c := if 0 < c.left then { c with left := c.left - 1, samples := c.samples ++ [smp] } else c
  if !head && decide (0 < c.pre ∧ 32768 < c.pre + c.age) then
    { c with pre := c.pre - 1, trunc := true, samples := c.samples.drop 1 }
  else c

/-- The sample of a tick, once every `LogDivider` ticks (R438). -/
def Live.logSample (lv : Live) : Live :=
  if lv.ticks % lv.num Obj.logDivider ≠ 0 then lv
  else
    let smp := lv.logList.map (fun e => lv.sampleOf e.toNat)
    let pend := match lv.im.pending with
      | [] => []
      | c :: cs => c.sampled true smp :: cs.map (fun x => x.sampled false smp)
    { lv with im := { lv.im with
      ring := (smp :: lv.im.ring).take 32768, pending := pend,
      truncated := lv.im.truncated || pend.any (fun c => c.trunc) } }

/-- The trend signals of a tick added to the sums (R442). -/
def Live.trendSample (lv : Live) : Live :=
  let now := (List.range 16).map (fun i => lv.sampleOf (natAt (lv.bytes Obj.trendSignals) (2 * i) 2))
  let sums := if lv.im.trendN = 0 then now else (lv.im.trendSum.zip now).map (fun p => F32.add p.1 p.2)
  { lv with im := { lv.im with trendSum := sums, trendN := lv.im.trendN + 1 } }

/-! ### Captures -/

/-- The bytes of a capture: header and samples (R439). -/
def Capture.size (c : Capture) : Nat := 160 + 256 * c.samples.length

/-- The capture ring of 3072 MiB, newest first: what no longer fits is overwritten (R439). -/
def keepRing : Nat → List Capture → List Capture
  | _, [] => []
  | room, c :: cs => if c.size ≤ room then c :: keepRing (room - c.size) cs else []

/-- A capture written into the ring (R439); storage that reports an error takes nothing (R417). -/
def writeCapture (c : Capture) (x : LiveStore) : LiveStore :=
  let lv := x.1.touchStore noUnit
  if x.2.bad then (lv.raise 361 noUnit, x.2)
  else (lv, { x.2 with captures := keepRing 3221225472 (c :: x.2.captures) })

/-- CAPTURE_WRITTEN: the oldest pending capture is complete and written (R439, R440). -/
def captureWritten (x : LiveStore) : LiveStore :=
  match x.1.im.pending with
  | [] => x
  | c :: cs =>
    if c.left = 0 then writeCapture c ({ x.1 with im := { x.1.im with pending := cs } }, x.2) else x

def execCaptureWritten (l : LaneId) (s : State) : Host.Outcome State Fault Refusal :=
  done (onStore l (fun _ => captureWritten) s)

/-- LOG_TRIGGER: a write of 0 to `Trigger` (R439). -/
def execLogTrigger (l : LaneId) (v : Byte) (s : State) : Host.Outcome State Fault Refusal :=
  done (onLive l (fun lv => lv.onZero v (fun x => x.logTriggerNow 0xFFFF)) s)

/-- The FATAL capture as the reset of a halt finds it: the samples taken so far (R441). -/
def Capture.cut (c : Capture) : Capture := { c with post := c.post - c.left, left := 0 }

/-- HALT_RESTART: 100 ms after the halt the FATAL capture has been written and the lane resets (R294, R441). -/
def haltRestart (x : LiveStore) : LiveStore :=
  match x.1.phase, x.1.fl.haltedAt with
  | .halted, some t =>
    if x.1.due (t + ms 100) then
      let lv := { x.1 with clk := max x.1.clk (t + ms 100) }
      let y : LiveStore := match lv.im.pending with
        | c :: cs => if c.fatal then writeCapture c.cut ({ lv with im := { lv.im with pending := cs } }, x.2) else (lv, x.2)
        | [] => (lv, x.2)
      (y.1.reset .haltRestart, y.2)
    else x
  | _, _ => x

def execHaltRestart (l : LaneId) (s : State) : Host.Outcome State Fault Refusal :=
  done (onStore l (fun _ => haltRestart) s)

/-! ### Trend -/

/-- TREND_RECORD: every 10 ms the means of the 16 signals (R442). -/
def trendRecord (x : LiveStore) : LiveStore :=
  let n := x.1.im.trendN
  if n = 0 then x
  else
    let r := (x.1.timeStamp, x.1.im.trendSum.map (fun v => F32.div v (F32.ofNat n)))
    let lv := { x.1 with im := { x.1.im with trendSum := [], trendN := 0 } }
    if x.1.fl.unusable.getLsbD 3 || x.1.im.erasing then (lv, x.2)
    else (lv, { x.2 with trend := (r :: x.2.trend).take 7456540 })

def execTrendRecord (l : LaneId) (s : State) : Host.Outcome State Fault Refusal :=
  done (onStore l (fun _ => trendRecord) s)

/-! ### Erase -/

/-- LOGBOOK_ERASE: both rings, `MarkerList` and `Captures` are emptied, in a session (R433, R451). -/
def logbookErase (path : Path) (v : Byte) (x : LiveStore) : LiveStore :=
  let lv := x.1
  if !lv.answers then x
  else if !lv.writes then (lv.abortWith (some path) abortState, x.2)
  else if v ≠ 0 then (lv.abortWith (some path) abortRange, x.2)
  else if !lv.sessionOn path then (lv.abortWith (some path) abortState, x.2)
  else
    (({ lv with im := { lv.im with erasing := true, markers := [] } }).accept (some path),
     { x.2 with captures := [], trend := [] })

def execLogbookErase (l : LaneId) (path : Path) (v : Byte) (s : State) : Host.Outcome State Fault Refusal :=
  done (onStore l (fun _ => logbookErase path v) s)

/-- ERASE_COMPLETE (R451). -/
def execEraseComplete (l : LaneId) (s : State) : Host.Outcome State Fault Refusal :=
  done (onLive l (fun lv => { lv with im := { lv.im with erasing := false } }) s)

/-! ### Reading -/

/-- A capture as it is read (R439). -/
def Capture.bytes (c : Capture) : List Byte :=
  leBytes 8 c.time.toNat ++ wordBytes c.tick ++ halfBytes c.source
    ++ halfBytes (if c.trunc then Config.truncFlags else 0) ++ leBytes 4 c.pre ++ leBytes 4 c.post
    ++ leBytes 1 c.divider.toNat ++ List.replicate 7 0 ++ c.signals.flatMap halfBytes
    ++ c.samples.flatMap (fun s => s.flatMap wordBytes)

/-- A trend record as it is read (R442). -/
def trendBytes (r : Long × List F32) : List Byte := leBytes 8 r.1.toNat ++ r.2.flatMap wordBytes

/-- The selection of `CaptureSelect` (R451): 0 the trend ring, oldest first; n the n-th newest capture. -/
def Live.selection (lv : Live) (st : NvStore) : List Byte :=
  match lv.rwNum Obj.captureSelect with
  | 0 => st.trend.reverse.flatMap trendBytes
  | n + 1 => match st.captures[n]? with
    | some c => c.bytes
    | none => []

/-- READ_DATA: bytes from `ReadOffset`, which advances by the length returned (R451). -/
def readData (path : Path) (x : LiveStore) : LiveStore :=
  let lv := x.1
  if !lv.answers then x
  else
    let off := lv.rwNum Obj.readOffset
    let d := ((lv.selection x.2).drop off).take 32768
    ((lv.setRw Obj.readOffset 0 0 (leBytes 4 (off + d.length))).answer
      { path := some path, sid := 0, abort := none, data := d, last := true }, x.2)

def execReadData (l : LaneId) (path : Path) (s : State) : Host.Outcome State Fault Refusal :=
  done (onStore l (fun _ => readData path) s)

end Sys2Proof.Machine
end

