-- ==== Sys2Proof/Machine/Clocks.lean ====
section
/-!
DEFINITION. Clocks (16_clocks.md): the start delay's end, the monitors, clock-wait, gating and the frequency meter.
-/

namespace Sys2Proof.Machine

/-- A change of the clock block. -/
def Live.modClock (lv : Live) (f : ClockSt → ClockSt) : Live := { lv with ck := f lv.ck }

/-- Every output forced by the failure logic (R486): gates and chopper low, `SOUT` and `TPO` off, links and Jalsyn
silent. -/
def Live.forceOutputs (lv : Live) : Live :=
  let lv := lv.outputsOff
  { lv with
    sf := { lv.sf with tpo := lv.sf.tpo.map (fun t => { t with pulsing := false }) },
    gd := { lv.gd with forcedLow := true, chOn := false, chForced := false },
    jn := { lv.jn with portsOff := true },
    ck := { lv.ck with forced := true } }

/-- The domains in clock-wait (R480, R487): `CORE` on RC40 or stopped, `SAFE` on RC40 or PLL_A, `AON` running. -/
def ClockSt.waiting (c : ClockSt) : ClockSt :=
  let core := c.rc40
  let safe := c.rc40 || c.plla
  { c with
    clkWait := true, good := 0,
    altsrc := BitVec.ofNat 8 (bitAt core 0 + bitAt (!c.rc40 && c.plla) 6 + bitAt (c.altsrc.getLsbD 7) 7),
    domrun := BitVec.ofNat 8 (bitAt core 0 + bitAt safe 6 + 2 ^ 7) }

/-- Entry into clock-wait (R486, R487). -/
def Live.enterClockWait (lv : Live) : Live :=
  let lv := lv.forceOutputs
  ({ lv with phase := .clockWait, ck := lv.ck.waiting,
             au := { lv.au with role := .none, follower := false, holding := false, noLease := false } }).settle

/-- Whether the monitors watch the lane's sources: not without supply, not in SLEEP or DEEP (R488). -/
def Live.clocked (lv : Live) : Bool :=
  match lv.phase with
  | .off | .inReset | .sleep | .deep => false
  | _ => true

/-- The flag a monitor clears, by syndrome (R484, R494). -/
def ClockSt.trip (c : ClockSt) (m : Nat) : ClockSt :=
  let c := { c with failures := satInc c.failures, last := BitVec.ofNat 8 m }
  match m with
  | 1 => { c with xtal := false, xtalWin := false }
  | 2 => { c with xtalWin := false }
  | 3 => { c with rc40 := false }
  | 5 => { c with plla := false }
  | 6 => { c with pllb := false }
  | 7 => { c with lprc := false }
  | _ => c

/-- A monitor other than the LPRC window has tripped (R484, R486). -/
def Live.clockFailure (lv : Live) (m : Nat) : Live :=
  ((lv.modClock (fun c => c.trip m)).raise 2 noUnit (BitVec.ofNat 32 m)).enterClockWait

/-- The LPRC window trip (R486, R492): recorded and notified; `AON` switches to `XTAL` ÷ 25, in DEEP at the next
wake. The lane continues, so the fixed reaction of source 2 is not carried out (log entry 30). -/
def Live.lprcTrip (lv : Live) : Live :=
  let lv := lv.modClock (fun c => c.trip 7)
  let lv := lv.modClock (fun c =>
    if lv.phase = .deep then { c with lprcLate := true } else { c with altsrc := setBit c.altsrc 7 true })
  Live.raiseN 3 lv 2 noUnit 7 none 0x49

/-- Whether the two last gates of the window monitor were outside ±0.30 % (R485). -/
def ClockSt.outside (c : ClockSt) : Bool := decide (3000 < c.devNow.natAbs) && decide (3000 < c.devPrev.natAbs)

/-- CLOCK_MONITOR_TRIP: the monitor of a syndrome of R484. The window of `XTAL` trips only when its two last gates
were outside. -/
def Live.monitorTrip (lv : Live) (m : Nat) : Live :=
  match m with
  | 7 => if lv.clocked || decide (lv.phase = .deep) then lv.lprcTrip else lv
  | 2 => if lv.clocked && lv.ck.outside then lv.clockFailure 2 else lv
  | 1 | 3 | 5 | 6 => if lv.clocked then lv.clockFailure m else lv
  | _ => lv

def execClockMonitorTrip (l : LaneId) (monitor : Fin 8) (s : State) : Host.Outcome State Fault Refusal :=
  done (onLive l (fun lv => lv.monitorTrip monitor.val) s)

/-- A domain after its source has failed (R480, R483): on its alternate source, or stopped where it has none. -/
def ClockSt.switch (c : ClockSt) (d : Nat) : ClockSt :=
  match d with
  | 0 => { c with altsrc := setBit c.altsrc 0 c.rc40, domrun := setBit c.domrun 0 c.rc40 }
  | 6 => { c with altsrc := setBit c.altsrc 6 c.plla, domrun := setBit c.domrun 6 c.plla }
  | 7 => { c with altsrc := setBit c.altsrc 7 c.xtal, domrun := setBit c.domrun 7 c.xtal }
  | _ => { c with domrun := setBit c.domrun d false }

/-- The normal source of a domain has stopped (R480). -/
def ClockSt.sourceLost (c : ClockSt) (d : Nat) : Bool :=
  match d with
  | 4 => !c.pllb
  | 6 => !c.rc40
  | 7 => !c.lprc
  | _ => !c.plla || !c.xtal

/-- The domain's own registers after its reset (R483): the units the model holds in that domain. -/
def Live.resetDomain (lv : Live) (d : Nat) : Live :=
  match d with
  | 5 => { lv with di := { lv.di with can := lv.di.can.map (fun c => { c with errState := 3, txErr := 0, rxErr := 0 }) } }
  | _ => lv

/-- ASYNC_DOMAIN_SWITCH: the switch of a domain whose source has stopped completes (R483). -/
def Live.domainSwitch (lv : Live) (d : Nat) : Live :=
  if lv.clocked && lv.ck.sourceLost d then
    ((lv.modClock (fun c => c.switch d)).resetDomain d).raise 5 d
  else lv

def execAsyncDomainSwitch (l : LaneId) (dom : Fin 8) (s : State) : Host.Outcome State Fault Refusal :=
  done (onLive l (fun lv => lv.domainSwitch dom.val) s)

/-- Whether a gate satisfies clock-wait's recovery conditions (R487). -/
def ClockSt.healthy (c : ClockSt) : Bool :=
  c.xtal && c.rc40 && c.plla && c.pllb && decide (c.devNow.natAbs ≤ 3000)

/-- WINDOW_GATE_END: a gate of R485 ends. The gate shows that RC40 and, unless it counted nothing, `XTAL` run; the
PLLs lock to an `XTAL` within ±2 % (log entry 31). -/
def Live.gateEnd (lv : Live) (dev : Int) : Live :=
  if lv.clocked then
    let d := max (-100000) (min 100000 dev)
    lv.modClock (fun c =>
      let runs := decide (-1000000 < dev)
      let locks := runs && decide (dev.natAbs ≤ 20000)
      let c := { c with devPrev := c.devNow, devNow := d, rc40 := true, xtal := runs,
                        plla := if c.clkWait then locks else c.plla, pllb := if c.clkWait then locks else c.pllb,
                        xtalWin := decide (d.natAbs ≤ 3000 ∧ c.devNow.natAbs ≤ 3000) }
      { c with good := if c.clkWait then (if c.healthy then c.good + 1 else 0) else c.good })
  else lv

def execWindowGateEnd (l : LaneId) (dev : Int) (s : State) : Host.Outcome State Fault Refusal :=
  done (onLive l (fun lv => lv.gateEnd dev) s)

/-- CLOCK_WAIT_RECOVERY: after 100 good gates the lane makes a software reset and tries to rejoin (R44, R487). -/
def Live.clockRecovery (lv : Live) : Live :=
  if lv.phase = .clockWait ∧ 100 ≤ lv.ck.good ∧ lv.ck.healthy = true then
    if lv.su.halt then lv.reset .software else lv.rejoin
  else lv

def execClockWaitRecovery (l : LaneId) (s : State) : Host.Outcome State Fault Refusal :=
  done (onLive l Live.clockRecovery s)

/-- OSCILLATOR_START_DELAY_END (R479, R492, R502, R519): the domains go to their normal sources; the lane goes on to
its stagger, after a wake from SLEEP to the join step. -/
def Live.delayEnd (lv : Live) (xtalOk : Bool) : Live :=
  if lv.phase = .startDelay then
    let lv := { lv with clk := max lv.clk (lv.su.t0 + startDelay lv.mo.oscCode) }
    let lv := lv.modClock (fun c =>
      { c with rc40 := true, lprc := c.lprc || !c.lprcLate, xtal := xtalOk, plla := xtalOk, pllb := xtalOk,
               altsrc := BitVec.ofNat 8 (bitAt (c.altsrc.getLsbD 7 || c.lprcLate) 7),
               lprcLate := false, domrun := if xtalOk then 0xFF else 0xC1 })
    if !xtalOk then lv.clockFailure 1
    else if lv.su.fromSleep then
      { lv with phase := .loaded, start := lv.clk, gd := { lv.gd with forcedLow := false },
                jn := { lv.jn with portsOff := decide (lv.im.stActive ≠ 1 ∧ lv.im.stActive ≠ 2) },
                su := { lv.su with fromSleep := false, wdAt := some lv.clk } }
    else { lv with phase := .stagger }
  else lv

def execOscillatorStartDelayEnd (l : LaneId) (xtalOk : Bool) (s : State) : Host.Outcome State Fault Refusal :=
  done (onLive l (fun lv => lv.delayEnd xtalOk) s)

/-- The vote client of a domain (R489, R514). -/
def domainClient (d : Nat) : Nat :=
  match d with
  | 1 => 2 | 2 => 11 | 3 => 3 | 4 => 10 | 5 => 6 | 6 => 11 | _ => 0

/-- GATING_ABANDONED (R489): counted, recorded, and a refused vote during an entry. -/
def Live.gateAbandoned (lv : Live) (d : Nat) : Live :=
  if lv.awake then
    let lv := lv.modClock (fun c => { c with abandoned := satInc c.abandoned })
    let lv := if lv.su.entry.isSome then
        { lv with su := { lv.su with gateHeld := setBit lv.su.gateHeld (domainClient d) true } }
      else lv
    lv.raise 3 d 256
  else lv

def execGatingAbandoned (l : LaneId) (dom : Fin 8) (s : State) : Host.Outcome State Fault Refusal :=
  done (onLive l (fun lv => lv.gateAbandoned dom.val) s)

/-- The nominal frequency of a source code of the frequency meter (R477, R480, R495). -/
def nominalHz (code : Nat) : Nat :=
  match code with
  | 0 => 25000000 | 1 => 40000000 | 2 => 1000000 | 3 => 600000000 | 4 => 600000000 | 5 => 400000000
  | 6 => 80000000 | 7 => 125000000 | 8 => 80000000 | 9 => 40000000 | _ => 1000000

/-- FREQUENCY_METER_START: a write to `Start` takes the settings as they stand; refused while one runs (R492, R495). -/
def Live.meterStart (lv : Live) (v : Byte) : Live :=
  if lv.writes && decide (v = 0) && decide (lv.ck.meter.state = 1) then lv.abortWith none abortState
  else lv.onZero v (fun x => x.modClock (fun c => { c with meter :=
    { c.meter with state := 1, measured := lv.rwNum Obj.measuredSource, ref := lv.rwNum Obj.referenceSource,
                   gate := lv.rwNum Obj.gateCycles } }))

def execFrequencyMeterStart (l : LaneId) (v : Byte) (s : State) : Host.Outcome State Fault Refusal :=
  done (onLive l (fun lv => lv.meterStart v) s)

/-- FREQUENCY_METER_DONE: the gate of channel 1 ends, or a source of the measurement stops (R495). -/
def MeterSt.finish (m : MeterSt) (count : Word) (stopped : Bool) : MeterSt :=
  if m.state = 1 then
    if stopped then { m with state := 3 }
    else { m with state := 2, count := count, hz := F32.ofRatio (count.toNat * nominalHz m.ref) m.gate }
  else m

def execFrequencyMeterDone (l : LaneId) (count : Word) (stopped : Bool) (s : State) :
    Host.Outcome State Fault Refusal :=
  done (onLive l (fun lv => lv.modClock (fun c => { c with meter := c.meter.finish count stopped })) s)

/-- `ClearCounters` of `ClockStatus` (R493). -/
def Live.clearClock (lv : Live) : Live := lv.modClock (fun c => { c with failures := 0, abandoned := 0 })

def execClearClockCounters (l : LaneId) (v : Byte) (s : State) : Host.Outcome State Fault Refusal :=
  done (onLive l (fun lv => lv.onZero v Live.clearClock) s)

end Sys2Proof.Machine
end

