-- ==== Sys2Proof/Machine/Links.lean ====
section
/-!
DEFINITION. The lane links (01_tick_and_lanes.md): the blocks of R25, R27, R144, R321 and R400, their sending at T/2,
their checks on receipt, the counters and the service of a link (R24 to R34, R45, R66, R301).
-/

namespace Sys2Proof

open Sys2Proof.Machine

/-! ### Blocks as bytes -/

/-- A list brought to a length. -/
def padTo {α : Type} (n : Nat) (d : α) (xs : List α) : List α := xs.take n ++ List.replicate (n - xs.length) d

/-- Bytes `0x00` to `0x7B` of a tick record (R25). -/
def TickRecord.body (r : TickRecord) : List Byte :=
  [BitVec.ofNat 8 (r.sender.num + 4 * r.role.code), r.devmode] ++ halfBytes r.leash ++ wordBytes r.tick
    ++ wordBytes r.health ++ wordBytes r.din ++ (padTo 4 0 r.ain).flatMap halfBytes ++ wordBytes r.psetv
    ++ (padTo 16 0 r.idq).flatMap halfBytes ++ (padTo 8 0 r.angle).flatMap halfBytes
    ++ (padTo 8 0 r.auth).flatMap wordBytes ++ leBytes 6 r.sfstate.toNat ++ halfBytes r.mirhdr
    ++ wordBytes r.tickhi ++ [0, 0, 0, 0]

/-- Bytes `0x00` to `0x13` of a channel block (R321). -/
def ChannelBlock.body (b : ChannelBlock) : List Byte := wordBytes b.tick ++ wordBytes b.sinv ++ leBytes 12 b.sdv.toNat

/-- The 64 words of a mirror block (R27, R66). -/
def MirrorBlock.body (b : MirrorBlock) : List Byte := (padTo 64 0 b.words).flatMap wordBytes

/-- The 24 accumulators of a join block (R144). -/
def JoinBlock.body (b : JoinBlock) : List Byte := (padTo 24 0 b.accs).flatMap (fun x => leBytes 8 x.toNat)

/-- Bytes `0x00` to `0x1B` of a dictionary block (R400). -/
def DictBlock.body (b : DictBlock) : List Byte :=
  wordBytes b.tick ++ [BitVec.ofNat 8 b.kind.code, b.seq, BitVec.ofNat 8 b.origin.num, b.len] ++ halfBytes b.index
    ++ [b.sub, 0] ++ wordBytes b.arg ++ leBytes 8 b.value.toNat ++ [0, 0, 0, 0]

/-- A tick record with its CRC. -/
def TickRecord.sealed (r : TickRecord) : TickRecord := { r with crc := crc32c r.body }

/-- A channel block with its CRC. -/
def ChannelBlock.sealed (b : ChannelBlock) : ChannelBlock := { b with crc := crc32c b.body }

/-- A mirror block with its CRC. -/
def MirrorBlock.sealed (b : MirrorBlock) : MirrorBlock := { b with crc := crc32c b.body }

/-- A join block with its CRC. -/
def JoinBlock.sealed (b : JoinBlock) : JoinBlock := { b with crc := crc32c b.body }

/-- A dictionary block with its CRC. -/
def DictBlock.sealed (b : DictBlock) : DictBlock := { b with crc := crc32c b.body }

/-! ### Fields of `LEASH` (R45) and `HEALTH` (R301) -/

def TickRecord.renew (r : TickRecord) : Bool := r.leash.getLsbD 0
def TickRecord.ack (r : TickRecord) : Bool := r.leash.getLsbD 1
def TickRecord.demote (r : TickRecord) : Bool := r.leash.getLsbD 2
def TickRecord.release (r : TickRecord) : Bool := r.leash.getLsbD 3
def TickRecord.holder (r : TickRecord) : Option LaneId := LaneId.ofNum (bits r.leash.toNat 5 4)
def TickRecord.seen (r : TickRecord) : Bool := r.leash.getLsbD 6
def TickRecord.relSeen (r : TickRecord) : Bool := r.leash.getLsbD 7
def TickRecord.epoch (r : TickRecord) : BitVec 6 := BitVec.ofNat 6 (bits r.leash.toNat 15 10)

/-- `FWD_UP` or `BACK_UP` of the sender (R45). -/
def TickRecord.linkUp (r : TickRecord) : LinkDir → Bool
  | .fwd => r.leash.getLsbD 8
  | .back => r.leash.getLsbD 9

/-- `WRUN` of a port (R301). -/
def TickRecord.wrun (r : TickRecord) (p : Fin 8) : Bool := r.health.getLsbD p.val
/-- `PLOST` of a port (R301). -/
def TickRecord.plost (r : TickRecord) (p : Fin 8) : Bool := r.health.getLsbD (8 + p.val)
/-- `AGREEINC` (R284, R301). -/
def TickRecord.agreeInc (r : TickRecord) : Bool := r.health.getLsbD 16
/-- Both Jalsyn channels of the sender are lost (R301). -/
def TickRecord.blind (r : TickRecord) : Bool := r.health.getLsbD 17 && r.health.getLsbD 18
/-- `DEGREQ` (R296, R301). -/
def TickRecord.degreq (r : TickRecord) : Nat := bits r.health.toNat 21 20
/-- The sender's extended tick count (R17). -/
def TickRecord.fullTick (r : TickRecord) : Long := r.tickhi ++ r.tick

end Sys2Proof

namespace Sys2Proof.Machine

/-- This lane's `LEASH` field (R45, R47, R55). -/
def Live.leashWord (lv : Live) : Half :=
  let a := lv.au
  BitVec.ofNat 16 (bitAt a.holding 0 + bitAt (a.ackNow && !a.demoting && !a.holding) 1 + bitAt a.demoting 2
    + bitAt a.releasing 3 + (match a.holder with | some o => o.num | none => 3) * 2 ^ 4 + bitAt a.seenNow 6
    + bitAt a.relSeen 7 + bitAt (!lv.tk.fwd.lost) 8 + bitAt (!lv.tk.back.lost) 9 + a.epoch.toNat * 2 ^ 10)

/-- A unit of the lane is kennelled (R301). -/
def Live.anyKennel (lv : Live) : Bool :=
  decide (lv.fl.kPorts ≠ 0 ∨ lv.fl.kCans ≠ 0 ∨ lv.fl.kCores ≠ 0 ∨ lv.fl.kSlots ≠ 0 ∨ lv.fl.kChans ≠ 0
    ∨ lv.fl.kAdcs ≠ 0 ∨ lv.fl.kUnits ≠ 0)

/-- This lane's `HEALTH` field (R301). -/
def Live.healthWord (lv : Live) : Word :=
  let port (p : Fin 8) : Nat :=
    bitAt (decide ((lv.fc.wind[p]).ws = .running)) p.val
      + bitAt ((lv.groupOf p).isSome && !(lv.fc.wind[p]).ownAngle) (8 + p.val)
  let chanLost (c : ChanSt) : Bool := c.lost && !lv.jn.portsOff
  BitVec.ofNat 32 (((List.finRange 8).map port).sum + bitAt lv.ps.incNow 16 + bitAt (chanLost lv.jn.chA) 17
    + bitAt (chanLost lv.jn.chB) 18 + bitAt lv.gd.chFault 19 + lv.fl.degreq.toNat * 2 ^ 20
    + bitAt lv.anyKennel 22 + bitAt lv.intrusiveRuns 23 + bitAt (lv.fl.tests.any (fun t => t.failed)) 24)

/-! ### Authority outputs -/

/-- The output of a group's authority source (R127). -/
def Live.authSource (lv : Live) (g : Fin 24) : F32 :=
  let s := lv.num Obj.groupAuthoritySlot g.val
  if s = 255 then lv.bus (216 + g.val) else lv.bus s

/-- The authority value of a controlled stop (R151). -/
def Live.stopValue (lv : Live) (g : Fin 24) : F32 :=
  let v := (lv.fc.groups[g]).speed
  let top := lv.real Obj.groupMaxSpeed g.val
  if F32.lt (F32.abs v) (F32.mul (F32.dec 5 3) top) then 0
  else
    let a := F32.mul (lv.real Obj.groupStopTorque g.val)
      (F32.min (F32.ofNat 1) (F32.div (F32.abs v) (F32.mul (F32.dec 5 2) top)))
    if F32.sign v then a else F32.neg a

/-- The authority setpoint that this lane computes for a group (R127, R151, R329). -/
def Live.authOut (lv : Live) (g : Fin 24) : F32 :=
  let q := lv.fc.groups[g]
  match q.stop with
  | none => lv.authSource g
  | some u => if q.stopped then (if u = .category2 then lv.authSource g else 0) else lv.stopValue g

/-- The groups for which an own output stands in this tick (R52): computed by the slot, taken from the command entry,
or replaced by a controlled stop. -/
def Live.authReady (lv : Live) : BitVec 24 :=
  (List.finRange 24).foldl (fun (v : BitVec 24) g =>
    setBit v g.val (lv.au.ownAuthNow.getLsbD g.val || (lv.fc.groups[g]).stop.isSome
      || decide (lv.num Obj.groupAuthoritySlot g.val = 255))) 0

/-- `AUTH` on the link to a lane: by that lane's motor ports (R26). -/
def Live.authFor (lv : Live) (own : Vector F32 24) (o : LaneId) : List F32 :=
  (List.finRange 8).map (fun p => match lv.groupOfLane o p with
    | some g => own[g]
    | none => 0)

/-! ### Mirror words -/

/-- Entry `n` of `MirrorList` (R65). -/
def Live.mirCode (lv : Live) (n : Nat) : Nat := lv.num Obj.mirrorWord 0 n

/-- The mirror word that a source code names (R65, R119, R327). -/
def Live.mirWord (lv : Live) (code : Nat) : Word :=
  let i := code % 4096
  match code / 4096 with
  | 1 => lv.bus i
  | 2 => (lv.en.slots.read {} i).i
  | 3 => (lv.en.slots.read {} i).f1.getD (lv.real Obj.slotNotch1Freq i)
  | 4 => (lv.en.slots.read {} i).f2.getD (lv.real Obj.slotNotch2Freq i)
  | 5 => match lv.en.traj[i / 2]? with
    | some t => if i % 2 = 0 then t.1 else t.2
    | none => 0
  | 6 => F32.ofNat lv.au.ownMode.code
  | 7 => match lv.sf.inst[i / 4]? with
    | some q => q.word (i % 4)
    | none => 0
  | _ => 0

/-- A slot's state changed. -/
def Live.setSlot (lv : Live) (s : Nat) (f : SlotSt → SlotSt) : Live :=
  { lv with en := { lv.en with slots := lv.en.slots.write {} s (f (lv.en.slots.read {} s)) } }

/-- A mirror word loaded into the state that its code names (R67). -/
def Live.mirPut (lv : Live) (code : Nat) (w : Word) : Live :=
  let i := code % 4096
  match code / 4096 with
  | 1 => lv.setBus (i % 1024) w
  | 2 => if i < 192 then lv.setSlot i (fun q => { q with i := w }) else lv
  | 3 => if i < 192 then lv.setSlot i (fun q => { q with f1 := some w }) else lv
  | 4 => if i < 192 then lv.setSlot i (fun q => { q with f2 := some w }) else lv
  | 5 =>
    if h : i / 2 < 32 then
      { lv with en := { lv.en with traj := vmod lv.en.traj ⟨i / 2, h⟩ (fun t => if i % 2 = 0 then (w, t.2) else (t.1, w)) } }
    else lv
  | 6 => match Mode.ofCode (F32.toInt w).toNat with
    | some m => { lv with au := { lv.au with ownMode := m } }
    | none => lv
  | 7 =>
    if h : i / 4 < 24 then
      { lv with sf := { lv.sf with inst := vmod lv.sf.inst ⟨i / 4, h⟩ (fun q => q.load (i % 4) w) } }
    else lv
  | _ => lv

/-- The 64 mirror words as they stand (R66). -/
def Live.mirWords (lv : Live) : List Word := (List.range 64).map (fun n => lv.mirWord (lv.mirCode n))

/-! ### Sending -/

/-- The tick record for the lane at the far end of a link, without its mirror header (R25). -/
def Live.recordFor (lv : Live) (own : Vector F32 24) (sf : BitVec 48) (m : Mode) (o : LaneId) : TickRecord :=
  let f := lv.tk.frame
  let run (p : Fin 8) : Bool := (lv.groupOf p).isSome && decide ((lv.fc.wind[p]).ws = .running)
  { sender := lv.me, role := lv.au.role, devmode := BitVec.ofNat 8 m.code, leash := lv.leashWord, tick := lv.tickLow,
    health := lv.healthWord,
    din := f.sin.setWidth 32 ||| (f.edm.setWidth 32 <<< 12) ||| BitVec.ofNat 32 (bitAt f.whistle 16),
    ain := f.ain.toList, psetv := f.pset,
    idq := (List.finRange 8).flatMap (fun p => if run p then
      [F32.toHalf (lv.fc.wind[p]).id, F32.toHalf (lv.fc.wind[p]).iq] else [0, 0]),
    angle := (List.finRange 8).map (fun p => if (lv.groupOf p).isSome && (lv.fc.wind[p]).ownAngle then
      ((lv.fc.wind[p]).theta >>> 16).setWidth 16 else 0),
    auth := lv.authFor own o, sfstate := sf, mirhdr := 0,
    tickhi := (lv.tk.count >>> 32).setWidth 32, crc := 0 }

/-- This lane sends a mirror block to the lane: it is Lead and the lane Heel (R27). -/
def Live.mirrorsTo (lv : Live) (o : LaneId) : Bool := lv.au.holding && decide (lv.holderOf .heel = some o)

/-- This lane, as Lead, sends a join block to the lane (R144). -/
def Live.joinsTo (lv : Live) (o : LaneId) : Bool := decide (lv.fc.joinFor = some o) && decide (lv.fc.joinLeft ≠ 0)

/-- A queued dictionary message as it goes out in this tick (R400). -/
def Live.dictOut (lv : Live) (q : List DictBlock) : Option DictBlock :=
  q.head?.map (fun b => ({ b with tick := lv.tickLow } : DictBlock).sealed)

/-- Everything that a link carries of this lane in this tick, in the order of R27. -/
def Live.linkTx (lv : Live) (own : Vector F32 24) (sf : BitVec 48) (m : Mode) (d : LinkDir) : LinkTx :=
  let o := lv.me.peer d
  let mir := lv.mirrorsTo o
  let r := lv.recordFor own sf m o
  { record := some ({ r with mirhdr := if mir then 64 + 128 + lv.au.mirSeq.setWidth 16 <<< 8 else 0 } : TickRecord).sealed,
    chan := some ({ tick := lv.tickLow, sinv := lv.sf.sinvNow, sdv := lv.sf.sdvNow, crc := 0 } : ChannelBlock).sealed,
    mirror := if mir then some ({ words := lv.mirWords, crc := 0 } : MirrorBlock).sealed else none,
    join := if lv.joinsTo o then
      some ({ accs := lv.fc.groups.toList.map (fun g => g.acc.signExtend 64), crc := 0 } : JoinBlock).sealed else none,
    dict := lv.dictOut (match d with | .fwd => lv.di.txFwd | .back => lv.di.txBack) }

/-- SEND_TICK_RECORD: at T/2 of a tick a joined lane sends its blocks on both links and captures its own outputs for
the comparison of R52 and its own mirror words (R24 to R27, R66, R144, R321, R400). In a restore tick every record
value holds (R276). -/
def Live.sendRecord (lv : Live) : Live :=
  if lv.phase ≠ .joined ∨ lv.au.sentTick = some lv.tk.count then lv
  else
    let hold := lv.ps.restoring
    let own : Vector F32 24 := if hold then lv.au.ownAuth else Vector.ofFn (fun g => lv.authOut g)
    let sf : BitVec 48 := if hold then lv.au.sentSf else lv.sfComputed
    let m : Mode := if hold then lv.au.sentMode else lv.au.ownMode
    let f := lv.linkTx own sf m .fwd
    let b := lv.linkTx own sf m .back
    let sent := f.mirror.isSome || b.mirror.isSome
    let joins := f.join.isSome || b.join.isSome
    let acks := lv.leashWord.getLsbD 1
    { lv with
      tk := { lv.tk with fwdTx := f, backTx := b },
      au := { lv.au with
        ownAuth := own, sentAuth := own, sentOk := if hold then 0 else lv.authReady, sentSf := sf,
        sentSfOk := lv.au.ownSfNow && !hold, sentMode := m, sentTick := some lv.tk.count,
        capture := lv.mirWords, renewals := if acks then satInc lv.au.renewals else lv.au.renewals,
        mirSeq := if sent then lv.au.mirSeq + 1 else lv.au.mirSeq },
      fc := { lv.fc with joinLeft := if joins then lv.fc.joinLeft - 1 else lv.fc.joinLeft },
      sf := { lv.sf with sinvPrev := lv.sf.sinvNow, sdvPrev := lv.sf.sdvNow },
      di := { lv.di with txFwd := lv.di.txFwd.drop 1, txBack := lv.di.txBack.drop 1 },
      im := { lv.im with trialTicks := lv.im.trialTicks + 1 } }

def execSendTickRecord (l : LaneId) (s : State) : Host.Outcome State Fault Refusal :=
  done (onLive l Live.sendRecord s)

/-! ### Receiving -/

/-- The link receivers run: the firmware has loaded its configuration, and the lane has neither withdrawn nor halted. -/
def Live.listens (lv : Live) : Bool := decide (lv.phase = .joined ∨ lv.phase = .loaded)

/-- The CRC check of a block on a link, with the injection of checkers 77 and 78 (R28, R302). -/
def Live.crcCheck (lv : Live) (d : LinkDir) (ok : Bool) : Bool × Live :=
  let r := lv.injected (77 + d.num)
  (ok && r.1.isNone, r.2)

/-- A block discarded for its CRC (R30, R507). -/
def LinkRx.badCrc (r : LinkRx) : LinkRx := { r with crcErr := satInc r.crcErr, badNow := true }

/-- A block discarded for its `TICK` (R30, R507). -/
def LinkRx.badTick (r : LinkRx) : LinkRx := { r with tickMis := satInc r.tickMis, badNow := true }

/-- A lane seen to be joined (R29, R77, R83): its loss leaves the count; a lane in DESCENT accepts none (R43). -/
def Live.seeJoined (lv : Live) (o : LaneId) (r : Role) : Live :=
  if lv.au.mode = .descent ∨ (lv.au.views[o.fin]).joined = true then lv
  else
    let lv := lv.modView o (fun v => { v with joined := true, lost := false, role := r, follower := false, acked := false })
    { lv with au := { lv.au with faults := lv.au.faults.filter (fun f => !decide (f.kind = .laneLoss ∧ f.lane = o)) } }

/-- A tick record that passed its checks (R28 to R30): the first one brings the link into service. On a lost link it
is counted, and stands before its blocks; nothing uses it. -/
def Live.acceptRecord (lv : Live) (d : LinkDir) (r : TickRecord) : Live :=
  let q := lv.rx d
  let lv := lv.modRx d (fun x => { x with valid := satInc x.valid })
  if q.lost then lv.modRx d (fun x => { x with got := some r })
  else
    let lv := lv.modRx d (fun x => { x with got := some r, inService := true, missRun := if x.inService then x.missRun else 0 })
    if q.inService then lv else lv.seeJoined (lv.me.peer d) r.role

/-- RECEIVE_TICK_RECORD (R28 to R30). A lane that has not joined takes the count of the running lanes (R17). -/
def Live.receiveRecord (lv : Live) (d : LinkDir) (r : TickRecord) (arr : Arrival) : Live :=
  if !lv.listens || decide (arr = .late) then lv
  else
    let c := lv.crcCheck d (decide (r.crc = crc32c r.body))
    let lv := c.2.modRx d (fun x => { x with complete := true })
    if !c.1 then lv.modRx d LinkRx.badCrc
    else if lv.phase = .joined ∧ r.tick ≠ lv.tickLow then lv.modRx d LinkRx.badTick
    else
      let lv := if lv.phase = .joined then lv else { lv with tk := { lv.tk with count := r.fullTick } }
      lv.acceptRecord d r

def execReceiveTickRecord (l : LaneId) (dir : LinkDir) (r : TickRecord) (arr : Arrival) (s : State) :
    Host.Outcome State Fault Refusal :=
  done (onLive l (fun lv => lv.receiveRecord dir r arr) s)

/-- RECEIVE_CHANNEL_BLOCK (R28, R30, R321). -/
def Live.receiveChannel (lv : Live) (d : LinkDir) (b : ChannelBlock) (arr : Arrival) : Live :=
  if !lv.listens || decide (arr = .late) then lv
  else
    let c := lv.crcCheck d (decide (b.crc = crc32c b.body))
    let lv := c.2
    if !c.1 then lv.modRx d LinkRx.badCrc
    else if b.tick ≠ lv.tickLow then lv.modRx d LinkRx.badTick
    else if (lv.rx d).lost then lv
    else lv.modRx d (fun x => { x with chan := some b })

def execReceiveChannelBlock (l : LaneId) (dir : LinkDir) (b : ChannelBlock) (arr : Arrival) (s : State) :
    Host.Outcome State Fault Refusal :=
  done (onLive l (fun lv => lv.receiveChannel dir b arr) s)

/-- The words of two blocks that differ (R66). -/
def mirDiff (a b : List Word) : List Bool := ((padTo 64 0 a).zip (padTo 64 0 b)).map (fun p => p.1 != p.2)

/-- Heel compares a mirror block with its own capture of the same tick (R66, R67): a difference is recorded and the
block is loaded at the next tick start; the first block after a lane became Heel is loaded without comparison. -/
def Live.compareMirror (lv : Live) (ws : List Word) : Live :=
  if lv.au.mirFirst then { lv with au := { lv.au with mirFirst := false, mirLoad := some ws } }
  else
    let diff := mirDiff ws lv.au.capture
    let runs := ((padTo 64 0 lv.au.mirRuns).zip diff).map (fun p => if p.2 then p.1 + 1 else 0)
    let lv := { lv with au := { lv.au with mirRuns := runs } }
    match diff.findIdx? (fun b => b) with
    | none => lv
    | some n => ({ lv with au := { lv.au with mirCorr := satInc lv.au.mirCorr, mirLoad := some ws } }).raise 49 noUnit
        (BitVec.ofNat 32 n)

/-- RECEIVE_MIRROR_BLOCK (R28, R66 to R68): it stands or falls with the record before it; Heel takes Lead's. -/
def Live.receiveMirror (lv : Live) (d : LinkDir) (b : MirrorBlock) (arr : Arrival) : Live :=
  if !lv.listens || decide (arr = .late) || (lv.rx d).got.isNone then lv
  else
    let c := lv.crcCheck d (decide (b.crc = crc32c b.body))
    let lv := c.2
    if !c.1 then lv.modRx d LinkRx.badCrc
    else if (lv.rx d).lost then lv
    else
      let lv := lv.modRx d (fun x => { x with mirror := some b })
      if decide (lv.au.role = .heel) && !lv.au.follower && decide (lv.au.holder = some (lv.me.peer d))
          && decide (lv.au.sentTick = some lv.tk.count) then
        lv.compareMirror b.words
      else lv

def execReceiveMirrorBlock (l : LaneId) (dir : LinkDir) (b : MirrorBlock) (arr : Arrival) (s : State) :
    Host.Outcome State Fault Refusal :=
  done (onLive l (fun lv => lv.receiveMirror dir b arr) s)

/-- RECEIVE_JOIN_BLOCK (R28, R144): a block that ends after the receiver's tick start is taken one tick start later,
with one more step; the steps from the tick that the block reflects are counted from here. -/
def Live.receiveJoin (lv : Live) (d : LinkDir) (b : JoinBlock) (arr : Arrival) : Live :=
  let q := lv.rx d
  let ok := match arr with
    | .inTime => q.got.isSome
    | .late => q.last.isSome && decide (q.age = 1)
  if !lv.listens || !ok then lv
  else
    let c := lv.crcCheck d (decide (b.crc = crc32c b.body))
    let lv := c.2
    if !c.1 then lv.modRx d LinkRx.badCrc
    else if q.lost || q.join.isSome then lv
    else
      let lv := lv.modRx d (fun x => { x with join := some b })
      match arr with
      | .inTime => { lv with fc := { lv.fc with groups := lv.fc.groups.map (fun g => { g with steps := 0 }) } }
      | .late => lv

def execReceiveJoinBlock (l : LaneId) (dir : LinkDir) (b : JoinBlock) (arr : Arrival) (s : State) :
    Host.Outcome State Fault Refusal :=
  done (onLive l (fun lv => lv.receiveJoin dir b arr) s)

/-- RECEIVE_DICTIONARY_BLOCK (R28, R30, R400). -/
def Live.receiveDict (lv : Live) (d : LinkDir) (b : DictBlock) (arr : Arrival) : Live :=
  if !lv.listens || decide (arr = .late) then lv
  else
    let c := lv.crcCheck d (decide (b.crc = crc32c b.body))
    let lv := c.2
    if !c.1 then lv.modRx d LinkRx.badCrc
    else if b.tick ≠ lv.tickLow then lv.modRx d LinkRx.badTick
    else if (lv.rx d).lost then lv
    else lv.modRx d (fun x => { x with dict := some b })

def execReceiveDictionaryBlock (l : LaneId) (dir : LinkDir) (b : DictBlock) (arr : Arrival) (s : State) :
    Host.Outcome State Fault Refusal :=
  done (onLive l (fun lv => lv.receiveDict dir b arr) s)

/-- The highest-ranked joined lane among the lanes that this lane sees (R34). -/
def Live.topLane (lv : Live) : Option LaneId :=
  [0, 1, 2].findSome? (fun k => allLanes.find? (fun o => lv.sees o && decide (lv.rankOf o = k)))

/-- TICK_MARKER_RECEIVED: before Jalsyn integration a lane holds its tick start to that of the highest-ranked joined
lane; `offset` is how far its own tick start lies from it, ns, after compensation (R34). -/
def Live.tickMarker (lv : Live) (d : LinkDir) (offset : Int) : Live :=
  if lv.listens && !lv.tk.onJalsyn && decide (lv.topLane = some (lv.me.peer d)) && !(lv.rx d).lost then
    { lv with tk := { lv.tk with offset := offset } }
  else lv

def execTickMarkerReceived (l : LaneId) (dir : LinkDir) (offset : Int) (s : State) : Host.Outcome State Fault Refusal :=
  done (onLive l (fun lv => lv.tickMarker dir offset) s)

/-! ### Loss of a link -/

/-- No link of this lane is up and at least one is lost (R61). -/
def Live.alone (lv : Live) : Bool := !lv.linkUp && (lv.tk.fwd.lost || lv.tk.back.lost)

/-- What a lost link held is not used (R29). -/
def LinkRx.drop (r : LinkRx) : LinkRx :=
  { r with lost := true, got := none, chan := none, chanPrev := none, mirror := none, join := none, dict := none, dictPrev := none }

/-- LANE_LINK_LOST: no valid record for `LeaseTicks` consecutive ticks (R29); a lane with no link left listens for its
own device (R61). -/
def Live.linkLost (lv : Live) (d : LinkDir) : Live :=
  let r := lv.rx d
  if lv.joined && r.up && decide (lv.num Obj.leaseTicks ≤ r.missRun) then
    let lv := (lv.modRx d LinkRx.drop).raise 48 d.num
    if lv.joined && lv.alone && lv.au.loneSince.isNone then
      { lv with au := { lv.au with loneSince := some lv.ticks, loneHeard := false } }
    else lv
  else lv

def execLaneLinkLost (l : LaneId) (dir : LinkDir) (s : State) : Host.Outcome State Fault Refusal :=
  done (onLive l (fun lv => lv.linkLost dir) s)

/-- `ClearCounters` of `LaneLinkCounters` (R30). -/
def LinkRx.clearCounts (r : LinkRx) : LinkRx := { r with valid := 0, crcErr := 0, tickMis := 0, missing := 0 }

def execClearLinkCounters (l : LaneId) (v : Byte) (s : State) : Host.Outcome State Fault Refusal :=
  done (onLive l (fun lv => lv.onZero v (fun x =>
    (x.modRx .fwd LinkRx.clearCounts).modRx .back LinkRx.clearCounts)) s)

end Sys2Proof.Machine
end

