-- ==== Sys2Proof/Machine/Roles.lean ====
section
/-!
DEFINITION. The events of lane authority (02_lane_authority.md): lease, silence, votes, mirroring, joining, the end of
STARTUP, boost and the lone lane (R40 to R63, R67, R74). What a tick start does to the roles stands in
`Machine/Authority.lean`.
-/

namespace Sys2Proof.Machine

/-! ### Records as this lane holds them -/

/-- The tick record accepted from a lane in the tick that ends at this tick start (R28). -/
def Live.gotFrom (lv : Live) (o : LaneId) : Option TickRecord :=
  match lv.rxOf o with
  | some r => if r.lost then none else r.got
  | none => none

/-- The latest record from a lane on a link that is not lost (R33, R60). -/
def Live.latestFrom (lv : Live) (o : LaneId) : Option TickRecord :=
  match lv.rxOf o with
  | some r => if r.lost then none else r.got.orElse (fun _ => r.last)
  | none => none

/-- The link to a lane is up. -/
def Live.upTo (lv : Live) (o : LaneId) : Bool :=
  match lv.rxOf o with
  | some r => r.up
  | none => false

/-! ### Taking roles -/

/-- The Lead as this lane sees it loses its role, others move up (R42). -/
def Live.leadGone (lv : Live) : Live :=
  match lv.holderOf .lead with
  | some o => if o = lv.me then lv else (lv.setRole o .none).moveUp
  | none => lv.moveUp

/-- The lowest free role of R42 for a joining lane: Heel, then Watch. -/
def Live.freeRole (lv : Live) : Option Role :=
  if (lv.holderOf .heel).isNone then some .heel
  else if (lv.holderOf .watch).isNone then some .watch
  else none

/-- A joined lane without a role takes the lowest free one (R42): not in STARTUP or DESCENT (R43), not in a gap (R58),
and outside STANDBY only when it is run-capable. -/
def Live.takeRole (lv : Live) (o : LaneId) : Live :=
  let mode := lv.au.mode
  if lv.sees o && !lv.laneFollower o && decide (lv.laneRole o = .none) && !lv.au.gap
      && decide (mode ≠ .startup ∧ mode ≠ .descent) && (decide (mode = .standby) || lv.runCapable o) then
    match lv.freeRole with
    | some r =>
      let lv := lv.setRole o r
      if o = lv.me ∧ (mode = .operational ∨ mode = .reduced) then forAll 24 (fun g x => x.enableGroup g) lv else lv
    | none => lv
  else lv

/-! ### The leash -/

/-- The lease of a Lead that needs acknowledgements has run out (R48). -/
def Live.leaseOut (lv : Live) : Bool :=
  decide (lv.au.role = .lead) && !lv.au.noLease && !lv.alone
    && decide (lv.au.lastAck + lv.num Obj.leaseTicks < lv.ticks + 2)

/-- Neither link has brought a record since the lease: both are on their way to be declared lost, and R61 decides
(R48, R80). -/
def Live.bothSilent (lv : Live) : Bool :=
  [LinkDir.fwd, LinkDir.back].all (fun d => !(lv.rx d).up || decide (lv.num Obj.leaseTicks ≤ (lv.rx d).missRun + 1))

/-- LEASE_EXPIRY: the Lead whose lease has run out stops renewing and withdraws (R48, R63). -/
def Live.leaseEnd (lv : Live) : Live :=
  if lv.joined && lv.leaseOut then
    let lv := { lv with au := { lv.au with holding := false } }
    if lv.bothSilent then lv
    else ({ lv with au := { lv.au with expiries := satInc lv.au.expiries } }).withdraw
  else lv

def execLeaseExpiry (l : LaneId) (s : State) : Host.Outcome State Fault Refusal := done (onLive l Live.leaseEnd s)

/-- HEEL_SILENT_TAKEOVER: `LeaseTicks` + 1 silent ticks, with the link to Watch or to Lead up (R49). -/
def Live.silentTakeover (lv : Live) : Live :=
  let up (r : Role) : Bool := match lv.holderOf r with
    | some o => lv.upTo o
    | none => false
  if lv.joined && decide (lv.au.role = .heel) && decide (lv.num Obj.leaseTicks + 1 ≤ lv.au.silent)
      && (up .watch || up .lead) then
    lv.leadGone
  else lv

def execHeelSilentTakeover (l : LaneId) (s : State) : Host.Outcome State Fault Refusal :=
  done (onLive l Live.silentTakeover s)

/-! ### Votes -/

/-- The other comparing lane, if there is one (R52, R54). -/
def Live.otherComparer (lv : Live) : Option LaneId :=
  allLanes.find? (fun o => decide (o ≠ lv.me) && lv.capable o && decide (lv.laneRole o = .heel ∨ lv.laneRole o = .watch))

/-- A deviation count has reached `CompareTicks` (R52). -/
def Live.deviates (lv : Live) : Bool :=
  let n := lv.num Obj.compareTicks
  decide (n ≤ lv.au.devMode) || lv.au.devGroup.any (fun k => decide (n ≤ k)) || lv.au.devSf.any (fun k => decide (n ≤ k))

/-- Deviation counts forgotten. -/
def AuthSt.noDeviation (a : AuthSt) : AuthSt :=
  { a with devGroup := Vector.replicate 24 0, devSf := Vector.replicate 24 0, devMode := 0 }

/-- DEMOTE_VOTE: a comparing lane votes (R52, R53); the only one, in REDUCED, becomes a follower, and the device goes to
DESCENT (R57, R70). -/
def Live.demoteVote (lv : Live) : Live :=
  if lv.joined && decide (lv.au.role = .heel ∨ lv.au.role = .watch) && !lv.au.demoting && lv.deviates then
    if lv.au.mode = .reduced ∧ lv.otherComparer = none then
      ({ lv with au := lv.au.noDeviation }.makeFollower lv.me true).wantMode .descent
    else { lv with au := { lv.au with
      demoting := true, demoteFor := lv.au.holder, demoteTicks := 0, voteStands := false, demSent := satInc lv.au.demSent } }
  else lv

def execDemoteVote (l : LaneId) (s : State) : Host.Outcome State Fault Refusal := done (onLive l Live.demoteVote s)

/-- DEMOTE_UNSUPPORTED: the odd lane out becomes a follower (R40, R42, R54). -/
def Live.voteFails (lv : Live) : Live :=
  if lv.joined && lv.au.demoting && !lv.au.voteStands && decide (lv.num Obj.compareTicks < lv.au.demoteTicks)
      && decide (lv.capables = 3) then
    { lv with au := { lv.au.noDeviation with demoting := false, demoteFor := none } }.makeFollower lv.me true
  else lv

def execDemoteUnsupported (l : LaneId) (s : State) : Host.Outcome State Fault Refusal := done (onLive l Live.voteFails s)

/-! ### Mirroring -/

/-- MIRROR_DIVERGENCE_REPEAT: a word that differed in 3 consecutive blocks (R67): the event, and the swap with a
role-capable Watch. -/
def Live.mirrorRepeat (lv : Live) : Live :=
  match lv.au.mirRuns.findIdx? (fun n => decide (3 ≤ n)) with
  | none => lv
  | some n =>
    if lv.joined && decide (lv.au.role = .heel) then
      let lv := ({ lv with au := { lv.au with mirRuns := lv.au.mirRuns.map (fun k => if 3 ≤ k then 0 else k) } }).raise 50
        noUnit (BitVec.ofNat 32 n)
      match lv.holderOf .watch with
      | some w => if lv.joined && lv.capable w then (lv.setRole w .heel).setRole lv.me .watch else lv
      | none => lv
    else lv

def execMirrorDivergenceRepeat (l : LaneId) (s : State) : Host.Outcome State Fault Refusal :=
  done (onLive l Live.mirrorRepeat s)

/-! ### The end of STARTUP -/

/-- What the end of STARTUP sets (R100, R106, R120, R323, R452): an input in broken wire has given no setpoint yet. -/
def Live.leaveStartup (lv : Live) : Live :=
  let ds := lv.bytes Obj.appDefaults
  let lv := { lv with
    en := { lv.en with
      slots := lv.en.slots.mapDflt {} SlotSt.fresh,
      ain := lv.en.ain.map (fun q => if q.broken.isSome then { q with value := none } else q),
      pset := if lv.en.pset.broken.isSome then { lv.en.pset with value := none } else lv.en.pset },
    sf := { lv.sf with inst := Vector.replicate 24 {}, appliedInst := 0 },
    au := { lv.au with startupOver := true } }
  let lv := forAll 24 (fun i (x : Live) => x.setBus (352 + i.val) (F32.ofNat (x.sfApplied i))) lv
  let lv := (List.range 256).foldl (fun (x : Live) k => x.setBus (768 + k) (BitVec.ofNat 32 (natAt ds (4 * k) 4))) lv
  lv.autostart

/-- STARTUP_END: 400 ms after the first release, or once all three lanes have joined (R43); STANDBY, roles by rank. -/
def Live.startupEnd (lv : Live) : Live :=
  if lv.joined && decide (lv.au.mode = .startup) && !lv.au.startupOver
      && (lv.due (lv.au.startedAt + ms 400) || allLanes.all lv.sees) then
    let lv := lv.leaveStartup
    (({ lv with au := { lv.au with ownMode := .standby } }).enterMode .standby).assignByRank
  else lv

def execStartupEnd (l : LaneId) (s : State) : Host.Outcome State Fault Refusal := done (onLive l Live.startupEnd s)

/-! ### Joining -/

/-- The modes of the lanes that this lane hears (R43). -/
def Live.heardModes (lv : Live) : List Nat := lv.me.others.filterMap (fun o => (lv.latestFrom o).map (fun r => r.devmode.toNat))

/-- The running device takes a joining lane (R43, R58): no lane is heard past STARTUP, or a holder renews and the mode is
not DESCENT. -/
def Live.admits (lv : Live) : Bool :=
  let recs := lv.me.others.filterMap lv.latestFrom
  let past := recs.filter (fun r => decide (r.devmode ≠ 0))
  past.isEmpty || past.any (fun r => r.renew && decide (r.devmode ≠ 4))

/-- This lane joins (R42, R43, R502): the tick program starts, `TPO` follows the plan; the position accumulators and the
pulse count come from the running lanes (R107, R144). -/
def Live.joinOwn (lv : Live) : Live :=
  let late := lv.heardModes.any (fun m => decide (m ≠ 0))
  let lv := { lv with
    phase := .joined,
    gd := { lv.gd with forcedLow := false },
    en := { lv.en with pset := { lv.en.pset with join := decide (lv.num Obj.psetForm ≤ 1) && late } },
    fc := { lv.fc with joinGot := !late, joinFor := if late then some lv.me else none, joinLeft := 0 } }
  lv.startProgram.settle

/-- A peer joins (R29, R42, R77, R83): a link that was lost returns to service with its next valid record; a lane that
has been heard counts as joined and takes a role. -/
def Live.joinPeer (lv : Live) (o : LaneId) : Live :=
  match lv.me.linkTo o with
  | none => lv
  | some d =>
    if lv.au.mode = .descent then lv
    else if (lv.rx d).lost || (lv.au.views[o.fin]).lost then
      (lv.modRx d (fun r => { r.drop with lost := false, inService := false, missRun := 0, last := none, prior := none })).modView o
        (fun v => { v with joined := false, lost := false, rejoins := satInc v.rejoins })
    else if (lv.rx d).inService then (lv.seeJoined o ((lv.latestFrom o).elim Role.none (fun r => r.role))).takeRole o
    else lv

/-- LANE_JOIN of lane `o` at this lane; `same` says that this lane's ACTIVE image and firmware are those of the lanes
that run outside STANDBY (R421). -/
def Live.laneJoin (lv : Live) (o : LaneId) (same : Bool) : Live :=
  if o = lv.me then
    (if lv.phase = .loaded then (if same && lv.admits && !lv.su.halt then lv.joinOwn else lv)
     else if lv.joined then lv.takeRole o else lv)
  else if lv.listens then lv.joinPeer o
  else lv

/-- This lane agrees in image and firmware with every lane that runs outside STANDBY (R421). -/
def State.levelWith (s : State) (l : LaneId) : Bool :=
  l.others.all (fun o =>
    !((s.lane o).live.joined && decide ((s.lane o).live.au.mode ≠ .standby ∧ (s.lane o).live.au.mode ≠ .startup))
      || (sameImage (s.lane l) (s.lane o) && sameFirmware (s.lane l) (s.lane o)))

def execLaneJoin (l : LaneId) (j : LaneId) (s : State) : Host.Outcome State Fault Refusal :=
  done (onLive l (fun lv => lv.laneJoin j (s.levelWith l)) s)

/-! ### The lone lane -/

/-- LONE_LISTEN_END (R61): a lane that is not integrated withdraws at once; after 2 Jalsyn cycles without a health frame
of its own device it holds the leash without lease, and a driving device goes to DESCENT (R70). A follower, which can
take no role, withdraws. -/
def Live.loneEnd (lv : Live) : Live :=
  match lv.au.loneSince with
  | none => lv
  | some k =>
    if !lv.joined || lv.au.noLease then lv
    else if lv.au.loneHeard || !lv.integrated || lv.au.follower then lv.withdraw
    else if lv.ticks < k + 2 * lv.num Obj.cycleTicks then lv
    else
      let lv := lv.me.others.foldl (fun (x : Live) o => x.loseLane o) lv
      let lv := lv.takeLeash
      let lv := { lv with au := { lv.au with role := .lead, noLease := true } }
      if lv.au.ownMode = .operational ∨ lv.au.ownMode = .reduced then lv.wantMode .descent else lv

def execLoneListenEnd (l : LaneId) (s : State) : Host.Outcome State Fault Refusal := done (onLive l Live.loneEnd s)

/-! ### Boost -/

/-- BOOST_END: `BoostTime` has passed; the limit ramps back over 1 s (R74). -/
def Live.boostOver (lv : Live) (p : Fin 8) : Live :=
  match lv.au.boostEnd[p] with
  | some t =>
    if lv.due t then
      { lv with au := { lv.au with
        boostEnd := vmod lv.au.boostEnd p (fun _ => none), boostRamp := vmod lv.au.boostRamp p (fun _ => some t) } }
    else lv
  | none => lv

def execBoostEnd (l : LaneId) (p : Fin 8) (s : State) : Host.Outcome State Fault Refusal :=
  done (onLive l (fun lv => lv.boostOver p) s)

end Sys2Proof.Machine
end

