-- ==== Sys2Proof/Machine/Authority.lean ====
section
/-!
DEFINITION. What a tick start does to lane authority (02_lane_authority.md) and to the group angles
(04_field_control.md): the leash, the comparison, the applied outputs, roles as the records show them, lost links, modes,
boost, mirror words, group angle, speed and position (R33, R46 to R60, R67, R70, R73, R74, R142 to R144, R296).
-/

namespace Sys2Proof.Machine

/-! ### The leash -/

/-- A change of the authority state. -/
def Live.modAuth (lv : Live) (f : AuthSt → AuthSt) : Live := { lv with au := f lv.au }

/-- Epoch `a` is newer than epoch `b` (R46). -/
def newer (a b : BitVec 6) : Bool := decide (1 ≤ (a - b).toNat ∧ (a - b).toNat ≤ 31)

/-- A renewal is valid by its epoch (R46). -/
def Live.epochOk (lv : Live) (e : BitVec 6) : Bool := !lv.au.accepted || decide (e = lv.au.epoch ∨ e = lv.au.epoch + 1)

/-- This lane's own sent record of the tick that ends at this tick start. -/
def Live.ownSent (lv : Live) : Option TickRecord :=
  if lv.au.sentTick = some (lv.tk.count - 1) then lv.tk.fwdTx.record else none

/-- The peers' records of the tick that ends at this tick start. -/
def Live.gotAll (lv : Live) : List (LaneId × TickRecord) := lv.me.others.filterMap (fun o => (lv.gotFrom o).map (fun r => (o, r)))

/-- A lane that holds the leash gives it up to another holder (R46): no role is left to it. -/
def Live.giveUp (lv : Live) : Live := ({ lv with au := { lv.au with holding := false } }).makeFollower lv.me true

/-- What the peers' records say to the lane that holds the leash (R46, R48, R55): acknowledgements before the test of the
lease, another holder, two votes. -/
def Live.leadSide (lv : Live) : Live :=
  if !lv.au.holding then lv
  else
    let mine (r : TickRecord) : Bool := decide (r.holder = some lv.me)
    let rs := lv.gotAll
    let votes := rs.filter (fun p => p.2.demote && mine p.2)
    let fresh := votes.filter (fun p => match (lv.rxOf p.1).bind (fun q => q.last) with
      | some r => !(r.demote && mine r)
      | none => true)
    let acked := rs.any (fun p => p.2.ack && mine p.2 && decide (p.2.epoch = lv.au.epoch))
    let other := rs.any (fun p => p.2.ack && p.2.holder.isSome && !mine p.2 &&
      (decide (p.2.epoch = lv.au.epoch) || newer p.2.epoch lv.au.epoch))
    let lv := lv.modAuth (fun a => { a with
      demRecv := fresh.foldl (fun n _ => satInc n) a.demRecv,
      lastAck := if acked || (!lv.linkUp && !lv.alone) then lv.ticks else a.lastAck })
    if other then lv.giveUp.modAuth (fun a => { a with releasing := true })
    else if 2 ≤ votes.length then (lv.makeFollower lv.me true).modAuth (fun a => { a with releasing := true, holding := false })
    else if lv.au.noLease || lv.alone then lv
    else if lv.leaseOut then lv.modAuth (fun a => { a with holding := false })
    else
      let left := lv.au.lastAck + lv.num Obj.leaseTicks - 1 - lv.ticks
      lv.modAuth (fun a => { a with minMargin := if left < a.minMargin.toNat then BitVec.ofNat 8 left else a.minMargin })

/-- The renewal that a lane accepts (R46): of valid ones the newer epoch, of equal epochs the higher rank; a holder takes
its own into account. -/
def Live.bestRenewal (lv : Live) : Option (LaneId × TickRecord) :=
  let cands := lv.gotAll.filter (fun p => p.2.renew && lv.epochOk p.2.epoch)
  let beats (o : LaneId) (e : BitVec 6) (o' : LaneId) (e' : BitVec 6) : Bool :=
    newer e e' || (decide (e = e') && decide (lv.rankOf o < lv.rankOf o'))
  let best := cands.foldl (fun (b : Option (LaneId × TickRecord)) p => match b with
    | none => some p
    | some q => if beats p.1 p.2.epoch q.1 q.2.epoch then some p else b) none
  match best with
  | some p => if lv.au.holding && !beats p.1 p.2.epoch lv.me lv.au.epoch then none else some p
  | none => none

/-- A renewal accepted (R45 to R47). -/
def Live.acceptRenewal (lv : Live) (o : LaneId) (r : TickRecord) : Live :=
  let lv := if lv.au.holding then lv.giveUp else lv
  let hands := decide (lv.au.holder ≠ some o ∨ lv.au.epoch ≠ r.epoch)
  let lv := if hands then lv.modAuth AuthSt.handsChanged else lv
  lv.modAuth (fun a => { a with epoch := r.epoch, accepted := true, holder := some o, ackNow := true, seenNow := true })

/-- The RELEASE of the holder, seen directly, or through Watch's `RELSEEN` (R45, R55). -/
def Live.releaseSeen (lv : Live) (old : Option LaneId) (e : BitVec 6) : Bool × Bool :=
  match old with
  | none => (false, false)
  | some h =>
    let direct := match lv.gotFrom h with
      | some r => r.release && decide (r.epoch = e)
      | none => false
    let watch := match (lv.holderOf .watch).bind lv.gotFrom with
      | some r => r.relSeen && decide (r.holder = some h ∧ r.epoch = e)
      | none => false
    (direct, decide (lv.au.role = .heel) && watch)

/-- Evidence of a renewal for Heel's silent count (R49, R53). -/
def Live.evidence (lv : Live) : Bool :=
  let direct := lv.au.seenNow
  let watch := match (lv.holderOf .watch).bind lv.gotFrom with
    | some r => r.seen && decide (r.holder = lv.au.holder ∧ r.epoch = lv.au.epoch)
    | none => false
  (direct || watch) && !(lv.au.demoting && decide (lv.au.demoteFor = lv.au.holder))

/-- PROCESS_LEASH (R46 to R49, R53 to R55). -/
def Live.leashTick (lv : Live) : Live :=
  let lv := lv.modAuth (fun a => { a with ackNow := false, seenNow := false, relSeen := false, releasing := false })
  let voted := lv.au.demoting
  let old : Option LaneId := lv.au.holder
  let e := lv.au.epoch
  let lv := lv.leadSide
  let lv := match lv.bestRenewal with
    | some p => lv.acceptRenewal p.1 p.2
    | none => lv
  let rel := if lv.au.holder = old ∧ lv.au.holding = false then lv.releaseSeen old e else (false, false)
  let lv := lv.modAuth (fun a => { a with relSeen := rel.1 })
  let lv := if voted && lv.au.demoting && !lv.au.voteStands then
      let joins := match lv.otherComparer.bind lv.gotFrom with
        | some r => r.demote && decide (r.holder = lv.au.holder)
        | none => false
      lv.modAuth (fun a => if joins then { a with voteStands := true } else { a with demoteTicks := a.demoteTicks + 1 })
    else lv
  let heel : Bool := decide (lv.au.role = Role.heel) && !lv.au.holding
  let lv := if heel then
      lv.modAuth (fun a => { a with silent := if lv.evidence then 0 else a.silent + 1 })
    else lv.modAuth (fun a => { a with silent := 0 })
  match old with
  | some h => if (rel.1 || rel.2) && decide (h ≠ lv.me) && decide (lv.laneRole h = .lead) then
      lv.makeFollower h (match lv.gotFrom h with
        | some r => !r.blind
        | none => true)
    else lv
  | none => lv

/-! ### The comparison -/

/-- Full scale of a group (R52). -/
def Live.fullScaleOf (lv : Live) (g : Fin 24) : F32 :=
  let s := lv.num Obj.groupAuthoritySlot g.val
  if s = 255 then
    let kf := lv.real Obj.groupForceRatio g.val
    let kf := if F32.isZero kf then F32.ofNat 1 else kf
    F32.mul (F32.mul (F32.mul (F32.mul (F32.mul kf (F32.ofNat (lv.groupWindings g))) (F32.dec 15 1))
      (F32.ofNat (lv.num Obj.groupPolePairs g.val))) (lv.real Obj.fieldFluxLinkage g.val)) (lv.real Obj.groupRatedCurrent g.val)
  else F32.max (F32.abs (lv.real Obj.slotOutMin s)) (F32.abs (lv.real Obj.slotOutMax s))

/-- A setpoint deviates (R52). -/
def Live.authDiffers (lv : Live) (g : Fin 24) (a b : F32) : Bool :=
  F32.gt (F32.abs (F32.sub a b)) (F32.mul (lv.real Obj.compareTolerance 0 g.val) (lv.fullScaleOf g))

/-- The deviation counts after a comparison with Lead's record (R52). -/
def Live.countDeviations (lv : Live) (r : TickRecord) : Live :=
  let step (ready dev : Bool) (n : Nat) : Nat := if ready then (if dev then n + 1 else 0) else n
  let grp : Vector Nat 24 := Vector.ofFn (fun (g : Fin 24) => match lv.portOf g with
    | some p => step (lv.au.sentOk.getLsbD g.val) (lv.authDiffers g (r.auth.getD p.val 0) lv.au.sentAuth[g]) lv.au.devGroup[g]
    | none => 0)
  let sf : Vector Nat 24 := Vector.ofFn (fun (i : Fin 24) =>
    step lv.au.sentSfOk (field2 r.sfstate.toNat i.val != field2 lv.au.sentSf.toNat i.val) lv.au.devSf[i])
  lv.modAuth (fun a => { a with
    devGroup := grp, devSf := sf,
    devMode := step true (r.devmode != BitVec.ofNat 8 a.sentMode.code) a.devMode })

/-- COMPARE_AUTHORITY (R52, R284). -/
def Live.compareTick (lv : Live) : Live :=
  if decide (lv.au.role = .heel ∨ lv.au.role = .watch) && !lv.au.holding then
    match lv.au.holder.bind lv.gotFrom, lv.ownSent with
    | some r, some own =>
      let other := match lv.otherComparer.bind lv.gotFrom with
        | some x => x.agreeInc
        | none => false
      if r.agreeInc || own.agreeInc || other then lv else lv.countDeviations r
    | _, _ => lv
  else lv

/-! ### Applied outputs -/

/-- Lead's valid renewed record of the tick that ends at this tick start (R51); none is the gap of R58. -/
def Live.leadRecord (lv : Live) : Option TickRecord :=
  if lv.au.voteStands || (lv.alone && !lv.au.noLease) then none
  else if lv.au.holding then
    match lv.ownSent with
    | some r => if r.renew && decide (r.epoch = lv.au.epoch) then some r else none
    | none => none
  else match lv.au.holder.bind lv.gotFrom with
    | some r => if r.renew && lv.au.seenNow && decide (r.epoch = lv.au.epoch) then some r else none
    | none => none

/-- The applied setpoint of a group (R51, R127): bus entry 192 + g. -/
def Live.applySetpoint (lv : Live) (g : Fin 24) (x : F32) : Live :=
  ({ lv with au := { lv.au with applied := vmod lv.au.applied g (fun _ => x) } }).setBus (192 + g.val) x

/-- The setpoints of Lead's record: this lane's groups by its motor ports, Lead's own from what it sent (R26, R51). -/
def Live.applySetpoints (lv : Live) (r : TickRecord) : Live :=
  if lv.au.holding then
    forAll 24 (fun g x => if x.groupBound g then x.applySetpoint g x.au.sentAuth[g] else x) lv
  else
    forAll 8 (fun p x => match x.groupOf p with
      | some g => x.applySetpoint g (r.auth.getD p.val 0)
      | none => x) lv

/-- The mode of Lead's record: a lane that leaves STARTUP with it does what the end of STARTUP does (R43, R51). -/
def Live.adoptMode (lv : Live) (m : Mode) : Live :=
  let lv := if lv.au.mode = .startup ∧ m ≠ .startup ∧ lv.au.startupOver = false then lv.leaveStartup else lv
  lv.applyMode m

/-- APPLY_AUTHORITY (R51, R58): setpoints, safety states and mode of Lead's record, or the gap. A mode that this lane has
computed since its own record stands until it has been sent. -/
def Live.applyTick (lv : Live) : Live :=
  match lv.leadRecord with
  | none => lv.modAuth (fun a => { a with gap := true })
  | some r =>
    let lv := (lv.modAuth (fun a => { a with gap := false })).applySetpoints r
    let keep := decide (lv.au.ownMode ≠ lv.au.sentMode) && decide (lv.au.mode ≠ .startup)
    let lv := match Mode.ofCode r.devmode.toNat with
      | some m => lv.adoptMode m
      | none => lv
    let lv := if keep then lv else lv.modAuth (fun a => { a with ownMode := a.mode })
    lv.applyStates r.sfstate

/-- A mode request held over a gap (R58, R81): taken by the new Lead in its first tick as holder, by the others with its
first record. -/
def Live.pendingMode (lv : Live) : Live :=
  match lv.au.modePending with
  | some v =>
    if lv.au.holding || lv.leadRecord.isSome then
      (lv.modAuth (fun a => { a with modePending := none })).takeRequest v
    else lv
  | none => lv

/-! ### Roles as the records show them -/

/-- A peer that reports itself Lead (R49, R55): any other Lead of this lane's view loses the role. -/
def Live.promotePeer (lv : Live) (o : LaneId) : Live :=
  let lv := allLanes.foldl (fun (x : Live) q =>
    if q ≠ o ∧ x.laneRole q = .lead then
      (if q = x.me then { x with au := { x.au with role := .none, holding := false, follower := true } } else x.setRole q .none)
    else x) lv
  (lv.setRole o .lead).moveUp

/-- A change of role that the sender's records show (R42). -/
def Live.reportedRole (lv : Live) (o : LaneId) (now before : Role) : Live :=
  if now = before ∨ lv.laneRole o = now then lv
  else match now with
    | .none => if lv.laneFollower o then lv else lv.makeFollower o true
    | .lead => lv.promotePeer o
    | .watch =>
      if lv.laneRole o = .heel then
        (match lv.holderOf .watch with
         | some w => (lv.setRole w .heel).setRole o .watch
         | none => lv.setRole o .watch)
      else if (lv.holderOf .watch).isNone && !lv.laneFollower o then lv.setRole o .watch else lv
    | .heel => if (lv.holderOf .heel).isNone && !lv.laneFollower o then lv.setRole o .heel else lv

/-- A peer's record taken up in this lane's view of it (R40, R42, R83). -/
def Live.viewRecord (lv : Live) (o : LaneId) (r : TickRecord) : Live :=
  if !lv.sees o then lv
  else
    let before := match (lv.rxOf o).bind (fun q => q.last) with
      | some p => p.role
      | none => r.role
    let blinded := r.blind && !(lv.au.views[o.fin]).netblind
    let lv := lv.modView o (fun v => { v with epoch := r.epoch, netblind := r.blind })
    let lv := if blinded then lv.makeFollower o false else lv
    lv.reportedRole o r.role before

/-- Every peer's record taken up. -/
def Live.viewTick (lv : Live) : Live := lv.gotAll.foldl (fun (x : Live) p => x.viewRecord p.1 p.2) lv

/-- A lane that is not Heel holds no mirror state; a new Heel loads its first block without comparison (R67). -/
def Live.mirrorRole (lv : Live) : Live :=
  if lv.au.role = .heel then lv
  else lv.modAuth (fun a => { a with mirFirst := true, mirRuns := List.replicate 64 0, mirLoad := none })

/-- MIRROR_LOAD (R67, R68). -/
def Live.mirrorLoad (lv : Live) : Live :=
  match lv.au.mirLoad with
  | some ws =>
    let lv := lv.modAuth (fun a => { a with mirLoad := none })
    (List.range 64).foldl (fun (x : Live) n => x.mirPut (x.mirCode n) (ws.getD n 0)) lv
  | none => lv

/-! ### Lost links -/

/-- The order of two lanes: Lead, Heel, Watch, none, then rank (R60). -/
def Live.below (lv : Live) (y z : LaneId) : Bool :=
  decide ((lv.laneRole z).code < (lv.laneRole y).code ∨
    ((lv.laneRole z).code = (lv.laneRole y).code ∧ lv.rankOf z < lv.rankOf y))

/-- LINK_LOSS_RESOLUTION for the lane at the far end of a lost link (R60): the third lane's record decides. -/
def Live.resolveLink (lv : Live) (d : LinkDir) : Live :=
  let y := lv.me.peer d
  let z := lv.me.peer d.other
  if !lv.joined || !(lv.rx d).lost || !lv.sees y || lv.alone then lv
  else
    let reachesY := match lv.latestFrom z, z.linkTo y with
      | some r, some e => r.linkUp e
      | _, _ => false
    if !reachesY then lv.loseLane y
    else if lv.below lv.me y then lv.withdraw
    else lv.loseLane y

/-- Both links resolved. -/
def Live.resolveLinks (lv : Live) : Live := (lv.resolveLink .fwd).resolveLink .back

/-! ### Modes -/

/-- The stop demand of the records' `DEGREQ` (R296): the highest request, own record included. -/
def Live.degreqTick (lv : Live) : Live :=
  let rs := lv.gotAll.map (fun p => p.2.degreq) ++ (match lv.ownSent with
    | some r => [r.degreq]
    | none => [])
  let top := rs.foldl max 0
  if top = 2 then lv.stopDemand 0 false
  else if top = 1 ∧ lv.au.gap = false then lv.stopDemand 1 false
  else lv

/-- The lanes that hold a role. -/
def Live.ranked (lv : Live) : Nat := allLanes.countP (fun o => lv.sees o && decide (lv.laneRole o ≠ .none))

/-- DEVICE_MODE_TRANSITION by losses and joins (R70): `noLease` stands once the lone check has passed. -/
def Live.modeTick (lv : Live) : Live :=
  let n := lv.capables
  let last := decide (n ≤ 1) && (lv.au.noLease || lv.au.holding)
  match lv.au.ownMode with
  | .operational => if last then lv.wantMode .descent else if n = 2 then lv.wantMode .reduced else lv
  | .reduced => if last then lv.wantMode .descent else if n = 3 ∧ lv.ranked = 3 then lv.wantMode .operational else lv
  | _ => lv

/-- The ends that stand at a tick start (R70, R151): every group has ended its controlled stop, or DESCENT finds the
device at standstill. -/
def Live.endTick (lv : Live) : Live :=
  let lv := lv.stopDone
  if lv.au.mode = .descent ∧ lv.au.ownMode = .descent ∧ lv.au.standstill then lv.toSafe else lv

/-! ### Healthy windings and boost -/

/-- A lane reports its winding of a group running in its last valid record; a controlled stop of an own winding counts
as well (R73, R127). -/
def Live.windingHealthy (lv : Live) (g : Fin 24) (o : LaneId) : Bool :=
  match lv.portOfLane o g with
  | none => false
  | some p =>
    if o = lv.me then
      (match lv.ownSent with
       | some r => r.wrun p
       | none => decide ((lv.fc.wind[p]).ws = .running)) || decide ((lv.fc.wind[p]).ws = .stopping)
    else lv.sees o && (match lv.latestFrom o with
      | some r => r.wrun p
      | none => false)

/-- m of a group (R73). -/
def Live.healthy (lv : Live) (g : Fin 24) : Nat := allLanes.countP (fun o => lv.windingHealthy g o)

/-- A winding that has not reached running since the enable has left (R74): lost, kennelled, or its lane lost. -/
def Live.leftGroup (lv : Live) (g : Fin 24) (o : LaneId) : Bool :=
  match lv.portOfLane o g with
  | none => false
  | some p =>
    if o = lv.me then decide ((lv.fc.wind[p]).ws = .lost ∨ (lv.fc.wind[p]).ws = .kennelled) else !lv.sees o

/-- BOOST_GRANT for the own winding of a group (R74). -/
def Live.grantBoost (lv : Live) (g : Fin 24) (m : Nat) : Live :=
  if m = 0 ∨ lv.au.mGranted[g] ≤ m then lv
  else
    let lv := lv.modAuth (fun a => { a with mGranted := vmod a.mGranted g (fun _ => m) })
    match lv.portOf g with
    | some p => lv.modAuth (fun a => { a with
        boostEnd := vmod a.boostEnd p (fun _ => some (lv.start + perSec * lv.num Obj.boostTime)),
        boostRamp := vmod a.boostRamp p (fun _ => none) })
    | none => lv

/-- m and boost of a group at a tick start (R73, R74). -/
def Live.boostGroup (lv : Live) (g : Fin 24) : Live :=
  if !lv.groupBound g then lv
  else
    let m := lv.healthy g
    let waits (o : LaneId) : Bool := lv.au.awaited.getLsbD (3 * g.val + o.num)
    let left := allLanes.any (fun o => waits o && lv.leftGroup g o)
    let falls := decide (m < lv.au.mGroup[g]) || left
    let awaited := allLanes.foldl (fun (v : BitVec 72) o =>
      setBit v (3 * g.val + o.num) (waits o && !lv.leftGroup g o && !lv.windingHealthy g o)) lv.au.awaited
    let lv := lv.modAuth (fun a => { a with awaited := awaited, mGroup := vmod a.mGroup g (fun _ => m) })
    if falls && (lv.fc.groups[g]).enabled then lv.grantBoost g m else lv

/-- m and boost of every group. -/
def Live.boostTick (lv : Live) : Live := forAll 24 (fun g x => x.boostGroup g) lv

/-! ### Group angles -/

/-- The signed 16-bit difference of two angles (R142). -/
def wrap16 (a b : Half) : Int := (a - b).toInt

/-- The angle that a lane supplies for a group at this tick start (R142). -/
def Live.suppliedAngle (lv : Live) (g : Fin 24) (o : LaneId) : Option Half :=
  match lv.portOfLane o g, (if o = lv.me then lv.ownSent else if lv.sees o then lv.gotFrom o else none) with
  | some p, some r => if r.plost p then none else some (r.angle.getD p.val 0)
  | _, _ => none

/-- The middle of three numbers. -/
def middle (x y z : Int) : Int := max (min x y) (min (max x y) z)

/-- The group angle from the valid lanes' angles in the order A, B, C, and d of two of them (R142). -/
def voteAngle : List Half → Option (Half × Int)
  | [x] => some (x, 0)
  | [x, y] => some (x + BitVec.ofInt 16 ((wrap16 y x).fdiv 2), wrap16 y x)
  | [x, y, z] => some (x + BitVec.ofInt 16 (middle 0 (wrap16 y x) (wrap16 z x)), 0)
  | _ => none

/-- The position of a group in rev (R143). -/
def Live.groupPos (lv : Live) (g : Fin 24) (acc : BitVec 48) : F32 :=
  let x := F32.div (F32.div (F32.ofInt acc.toInt) (F32.ofNat 65536)) (F32.ofNat (lv.num Obj.groupPolePairs g.val))
  let m := lv.real Obj.groupPositionModulus g.val
  if F32.isZero m then x else F32.sub x (F32.mul m (F32.floor (F32.div x m)))

/-- The filter constant of R143. -/
def Live.speedFilter (lv : Live) (g : Fin 24) : F32 :=
  F32.div lv.period (F32.add (lv.real Obj.groupSpeedFilter g.val) lv.period)

/-- GROUP_ANGLE_UPDATE of one group (R142, R143, R147). -/
def Live.angleGroup (lv : Live) (g : Fin 24) : Live :=
  if !lv.groupBound g then lv
  else
    let xs := allLanes.filterMap (fun o => (lv.suppliedAngle g o).map (fun a => (o, a)))
    let others := xs.any (fun p => decide (p.1 ≠ lv.me))
    match voteAngle (xs.map (fun p => p.2)) with
    | none =>
      ((lv.modGroup g (fun q => { q with valid := false, others := false, nValid := 0, disagree := 0 })).flagBus (240 + g.val) true
        false).flagBus (264 + g.val) true false
    | some (a, d) =>
      let q := lv.fc.groups[g]
      let step : Int := if q.formed then wrap16 a q.angle else 0
      let raw := F32.div (F32.mul (F32.div (F32.ofInt step) (F32.ofNat 65536)) lv.rate) (F32.ofNat (lv.num Obj.groupPolePairs g.val))
      let v := F32.add q.speed (F32.mul (F32.sub raw q.speed) (lv.speedFilter g))
      let on := q.accOn || decide (lv.au.mode ≠ .startup)
      let acc : BitVec 48 := if q.accOn then q.acc + BitVec.ofInt 48 step else if on then a.setWidth 48 else q.acc
      let apart := decide (xs.length = 2) &&
        F32.gt (F32.div (F32.ofNat d.natAbs) (F32.ofNat 65536)) (F32.mul (F32.ofNat 2) (lv.real Obj.groupAngleVoteLimit g.val))
      let lv := lv.modGroup g (fun q => { q with
        angle := a, valid := true, others := others, nValid := xs.length, apart := d, formed := true, speed := v,
        acc := acc, accOn := on, steps := q.steps + step, disagree := if apart then q.disagree + 1 else 0 })
      (lv.setBus (240 + g.val) v).setBus (264 + g.val) (lv.groupPos g acc)

/-- The steps counted for a join block restart where none is awaited (R144). -/
def Live.stepsReset (lv : Live) : Live :=
  if lv.tk.fwd.join.isSome || lv.tk.back.join.isSome then lv
  else { lv with fc := { lv.fc with groups := lv.fc.groups.map (fun q => { q with steps := 0 }) } }

/-- The loss of synchronism by the angle vote (R145): with three valid lanes, the own angle beyond `AngleVoteLimit` from
the group angle in `AngleVoteTicks` consecutive ticks. -/
def Live.voteOwn (lv : Live) (p : Fin 8) : Live :=
  match lv.groupOf p with
  | none => lv
  | some g =>
    let q := lv.fc.groups[g]
    let far := match lv.suppliedAngle g lv.me with
      | some a => q.valid && F32.gt (F32.div (F32.ofNat (wrap16 a q.angle).natAbs) (F32.ofNat 65536))
          (lv.real Obj.groupAngleVoteLimit g.val)
      | none => false
    let lv := lv.modWind p (fun w => { w with
      voteDev := if far && decide (q.nValid = 3) then w.voteDev + 1 else 0, flags := setBit w.flags 13 far })
    if lv.num Obj.groupAngleVoteTicks g.val ≤ (lv.fc.wind[p]).voteDev ∧ (lv.fc.wind[p]).loopOn = true then
      (lv.modWind p (fun w => { w with voteDev := 0 })).loseSync p
    else lv

/-- Group angles, speeds and positions at a tick start, and the votes on the own angles (R142 to R145). -/
def Live.angleTick (lv : Live) : Live :=
  let lv := forAll 24 (fun g (x : Live) => x.angleGroup g) lv.stepsReset
  forAll 8 (fun p (x : Live) => x.voteOwn p) lv

/-! ### Join blocks -/

/-- JOIN_BLOCK_LOAD (R144): the block's accumulators and the steps formed since the tick that it reflects. -/
def Live.loadJoin (lv : Live) (b : JoinBlock) : Live :=
  let lv := forAll 24 (fun g (x : Live) =>
    x.modGroup g (fun q => { q with
      acc := (b.accs.getD g.val 0).setWidth 48 + BitVec.ofInt 48 q.steps, accOn := q.accOn || q.formed })) lv
  let lv := { lv with fc := { lv.fc with joinGot := true, joinFor := none, joinLeft := 0 } }
  forAll 24 (fun g (x : Live) => if x.groupBound g ∧ (x.fc.groups[g]).valid = true then
    x.setBus (264 + g.val) (x.groupPos g (x.fc.groups[g]).acc) else x) lv

/-- The joining lane at a tick start (R144): the first valid block is loaded; without one by the end of the four ticks
that follow its first `ACK`, a lane whose groups have an angle from others withdraws. -/
def Live.joinWait (lv : Live) : Live :=
  match lv.tk.fwd.join.orElse (fun _ => lv.tk.back.join) with
  | some b => lv.loadJoin b
  | none =>
    if lv.fc.joinLeft = 0 then
      (if lv.au.ackNow then { lv with fc := { lv.fc with joinLeft := 7 } } else lv)
    else if lv.fc.joinLeft = 1 then
      (if lv.fc.groups.any (fun q => q.others) then lv.withdraw
       else { lv with fc := { lv.fc with joinGot := true, joinFor := none, joinLeft := 0 } })
    else { lv with fc := { lv.fc with joinLeft := lv.fc.joinLeft - 1 } }

/-- A lane whose first acknowledgement Lead sees gets join blocks in the next four ticks (R144). -/
def Live.joinServe (lv : Live) : Live :=
  lv.gotAll.foldl (fun (x : Live) p =>
    if p.2.ack && !(x.au.views[p.1.fin]).acked then
      let y := x.modView p.1 (fun v => { v with acked := true })
      if y.au.holding && y.fc.groups.any (fun q => q.accOn) then
        { y with fc := { y.fc with joinFor := some p.1, joinLeft := 4 } }
      else y
    else x) lv

/-- Join blocks at a tick start. -/
def Live.joinTick (lv : Live) : Live :=
  if lv.fc.joinFor = some lv.me ∧ lv.fc.joinGot = false then lv.joinWait else lv.joinServe

/-! ### The links at a tick start -/

/-- A link's receive side at the end of a tick (R29, R30, R33): what was received becomes the last; missing records
count. -/
def LinkRx.rotate (r : LinkRx) : LinkRx :=
  let new := r.got.isSome && !r.lost
  { r with
    missing := if r.complete then r.missing else satInc r.missing,
    missRun := if !r.inService then 0 else if new then 0 else r.missRun + 1,
    prior := if new then r.last else r.prior,
    last := if new then r.got else r.last,
    age := if new then 1 else if r.last.isSome then r.age + 1 else 0,
    got := none, complete := false, badNow := false,
    chanPrev := r.chan, chan := none, dictPrev := r.dict, dict := none, mirror := none, join := none }

/-- The symbols of a link at the end of a tick (R507, R515): `bad` says that a lost peer's link carried only blocks that
fail their checks. -/
def LinkSymbols.rotate (q : LinkSymbols) (bad : Bool) : LinkSymbols :=
  { q with readyPrev := q.readyNow, readyNow := false, badTicks := if bad then q.badTicks + 1 else 0,
           sendReset := q.sendReset - 1 }

/-- One link at the end of a tick; a lost peer that has failed its checks for 10 ticks is reset (R507). -/
def Live.rotateLink (lv : Live) (d : LinkDir) : Live :=
  let r := lv.rx d
  let y := lv.me.peer d
  let bad := (lv.au.views[y.fin]).lost && r.badNow
  let lv := lv.modRx d LinkRx.rotate
  let lv := match d with
    | .fwd => { lv with su := { lv.su with fwd := lv.su.fwd.rotate bad } }
    | .back => { lv with su := { lv.su with back := lv.su.back.rotate bad } }
  let n := match d with
    | .fwd => lv.su.fwd.badTicks
    | .back => lv.su.back.badTicks
  if bad && decide (n = 10) then
    (match d with
     | .fwd => { lv with su := { lv.su with fwd := { lv.su.fwd with sendReset := 3 } } }
     | .back => { lv with su := { lv.su with back := { lv.su.back with sendReset := 3 } } })
  else lv

/-- Both links at the end of a tick; what was sent has gone. -/
def Live.rotateLinks (lv : Live) : Live :=
  let lv := (lv.rotateLink .fwd).rotateLink .back
  { lv with tk := { lv.tk with fwdTx := {}, backTx := {} } }

/-- TICK_PHASE_SLEW (R36): at once in STANDBY and before the lane has joined, else at most 10 ns in a tick. -/
def Live.slewTick (lv : Live) : Live :=
  let o := lv.tk.offset
  let o' : Int := if lv.au.mode = .standby ∨ lv.phase ≠ .joined then 0
    else if 10 < o then o - 10 else if o < -10 then o + 10 else 0
  { lv with tk := { lv.tk with offset := o' } }

end Sys2Proof.Machine
end

