-- ==== Sys2Proof/Machine/Module.lean ====
section
/-!
DEFINITION. The module (18_module_and_lands.md): straps, die temperature and the test access port.
-/

namespace Sys2Proof.Machine

/-! ### Straps -/

/-- The strap code of a reading in mV, none outside every accepted range (R539). -/
def strapRead (mv : Nat) : Option (BitVec 3) :=
  if mv < 50 then some 0
  else if 176 ≤ mv ∧ mv ≤ 216 then some 1
  else if 371 ≤ mv ∧ mv ≤ 454 then some 2
  else if 675 ≤ mv ∧ mv ≤ 825 then some 3
  else if 1017 ≤ mv ∧ mv ≤ 1243 then some 4
  else if 1494 ≤ mv ∧ mv ≤ 1826 then some 5
  else if 2138 ≤ mv ∧ mv ≤ 2613 then some 6
  else if 2800 < mv then some 7
  else none

/-- Both straps read at a power-on release (R539, R540, R549). -/
def Live.readStraps (lv : Live) (oscMv idMv : Half) : Live :=
  let o := strapRead oscMv.toNat
  let i := strapRead idMv.toNat
  let lv := { lv with mo := { lv.mo with
    oscCode := o.getD 7, idCode := i.getD 7, oscMv := oscMv, idMv := idMv, oscErr := o.isNone, idErr := i.isNone } }
  let lv := if o.isNone then lv.raise 6 noUnit 1 else lv
  if i.isNone then lv.raise 6 noUnit 2 else lv

/-! ### Die temperature -/

/-- A die temperature reported (R546, R550). -/
def Live.dieReading (lv : Live) (t : F32) : Live :=
  { lv with mo := { lv.mo with die := t, dieMax := F32.max lv.mo.dieMax t } }

/-- DIE_HOT: above 145 °C for 1 ms (R546). -/
def Live.dieHot (lv : Live) (t : F32) : Live :=
  if !lv.awake then lv
  else
    let lv := lv.dieReading t
    if F32.gt t (F32.ofNat 145) then
      ({ lv with mo := { lv.mo with dieHot := true } }).raise 10 noUnit
    else lv

/-- DIE_HOT_CLEAR: below 135 °C (R546). -/
def Live.dieHotClear (lv : Live) (t : F32) : Live :=
  if !lv.awake then lv
  else
    let lv := lv.dieReading t
    if F32.lt t (F32.ofNat 135) then { lv with mo := { lv.mo with dieHot := false } } else lv

def execDieHot (l : LaneId) (temp : F32) (s : State) : Host.Outcome State Fault Refusal :=
  done (onLive l (fun lv => lv.dieHot temp) s)

def execDieHotClear (l : LaneId) (temp : F32) (s : State) : Host.Outcome State Fault Refusal :=
  done (onLive l (fun lv => lv.dieHotClear temp) s)

/-! ### Test access port -/

/-- The value that IDCODE reads (R541). -/
def idcode : Word := 0xC3240A5B

/-- The lane has supply, so that its port works. -/
def Live.powered (lv : Live) : Bool := decide (lv.phase ≠ .off)

/-- An instruction shifted into the port: it leaves reset, and the instruction acts as `a` (R541). -/
def TapSt.load (t : TapSt) (i a : TapInstr) : TapSt :=
  { t with inReset := false, instr := i, acts := a, driving := a = .extest ∨ a = .clamp, floating := a = .highz,
           dr := match a with
             | .idcode => idcode
             | .bypass | .clamp | .highz => 0
             | _ => t.dr }

/-- A change of a powered lane's port. -/
def Live.onTap (lv : Live) (f : TapSt → TapSt) : Live :=
  if lv.powered then { lv with mo := { lv.mo with tap := f lv.mo.tap } } else lv

/-- EXTEST, CLAMP or HIGHZ: accepted only while `RSTn` of the lane is held low, else it acts as BYPASS (R542). -/
def Live.tapDrive (lv : Live) (i : TapInstr) : Live :=
  lv.onTap (fun t => t.load i (if lv.su.rstn then i else .bypass))

/-- `RSTn` released: an instruction that drives or floats the outputs acts as BYPASS from then on (R548). -/
def TapSt.release (t : TapSt) : TapSt :=
  match t.acts with
  | .extest | .clamp | .highz => { t with acts := .bypass, driving := false, floating := false, dr := 0 }
  | _ => t

/-- The port's reset (R541): the instruction is IDCODE and no cell drives. -/
def TapSt.reset (t : TapSt) : TapSt :=
  { t with inReset := true, instr := .idcode, acts := .idcode, dr := idcode, driving := false, floating := false }

def execTapBypass (l : LaneId) (s : State) : Host.Outcome State Fault Refusal :=
  done (onLive l (fun lv => lv.onTap (fun t => t.load .bypass .bypass)) s)

def execTapIdcode (l : LaneId) (s : State) : Host.Outcome State Fault Refusal :=
  done (onLive l (fun lv => lv.onTap (fun t => t.load .idcode .idcode)) s)

/-- The cells sampled; the same shift preloads them (R541). -/
def execTapSamplePreload (l : LaneId) (cells : List Byte) (s : State) : Host.Outcome State Fault Refusal :=
  done (onLive l (fun lv => lv.onTap (fun t =>
    { t.load .samplePreload .samplePreload with cells := cells })) s)

def execTapExtest (l : LaneId) (s : State) : Host.Outcome State Fault Refusal :=
  done (onLive l (fun lv => lv.tapDrive .extest) s)

def execTapClamp (l : LaneId) (s : State) : Host.Outcome State Fault Refusal :=
  done (onLive l (fun lv => lv.tapDrive .clamp) s)

def execTapHighz (l : LaneId) (s : State) : Host.Outcome State Fault Refusal :=
  done (onLive l (fun lv => lv.tapDrive .highz) s)

def execTapReset (l : LaneId) (s : State) : Host.Outcome State Fault Refusal :=
  done (onLive l (fun lv => lv.onTap TapSt.reset) s)

end Sys2Proof.Machine
end

