-- ==== Sys2Proof/Machine/Supply.lean ====
section
/-!
DEFINITION. Supply, resets and low-power states (17_supply_reset_power.md), with the reverse-polarity cell (R235)
and the die and strap readings that a power-on release makes.
-/

namespace Sys2Proof.Machine

/-- A change of the supply block. -/
def Live.modSupply (lv : Live) (f : SupplySt → SupplySt) : Live := { lv with su := f lv.su }

/-! ### Supply -/

/-- The start of a staggered path (R479, R502): RC40 and LPRC run, the start delay begins. -/
def Live.beginDelay (lv : Live) : Live :=
  { lv with phase := .startDelay,
            su := { lv.su with t0 := lv.clk },
            ck := { lv.ck with rc40 := true, lprc := true, domrun := 0xC1, altsrc := 1 } }

/-- The reverse-polarity cell read at power-on (R235): a CORRECTED event whose source the manual does not number. -/
def Live.readCell (lv : Live) : Live :=
  if lv.wi.revCell then
    ({ lv with wi := { lv.wi with revCell := false, revpol := true } }).raiseOpen 0 .corrected noUnit
  else lv

/-- POWER_ON_RELEASE (R498, R499, R502, R503): of an unpowered lane a power-on reset, of a lane in brown-out a
brown-out reset with `AONHELD`; the straps and the reverse-polarity cell are read. While `RSTn` is low the lane
stays in external reset. -/
def Live.powerRelease (lv : Live) (oscMv idMv : Half) (extOsc : Bool) : Live :=
  if lv.phase = .off ∨ (lv.phase = .inReset ∧ lv.su.brownout = true ∧ lv.su.swOpen = false) then
    let fresh := decide (lv.phase = .off)
    let lv := if fresh then
        ({ lv with phase := .off, su := { lv.su with aonHeld := false } }).reset .powerOn
      else
        ({ lv with su := { lv.su with aonHeld := true } }).reset .brownOut
    let lv := { lv with su := { lv.su with brownout := false, aonUp := true, porAt := lv.clk },
                        ck := { lv.ck with extOsc := extOsc },
                        jn := { lv.jn with gbase := 0, cbase := lv.clk },
                        au := if fresh then { lv.au with startedAt := lv.clk } else lv.au }
    let lv := if lv.su.rstn then lv else lv.beginDelay
    (lv.readStraps oscMv idMv).readCell
  else lv

def execPowerOnRelease (l : LaneId) (oscMv idMv : Half) (extOsc : Bool) (s : State) :
    Host.Outcome State Fault Refusal :=
  done (onLive l (fun lv => lv.powerRelease oscMv idMv extOsc) s)

/-- BROWN_OUT (R499): the lane enters brown-out reset and waits for a power-on release; what the retention banks hold
is kept while the `AON` rail is. -/
def Live.brownOut (lv : Live) : Live :=
  if lv.phase = .off ∨ lv.su.brownout = true then lv
  else
    let lv := lv.closeSession.restart true .inReset
    lv.modSupply (fun u => { u with brownout := true, kind := 2 })

def execBrownOut (l : LaneId) (s : State) : Host.Outcome State Fault Refusal := done (onLive l Live.brownOut s)

/-- OVERVOLTAGE_PROTECTION (R500): the switch opens, which is a brown-out with the cause `OVPROT`. -/
def Live.overvoltage (lv : Live) : Live :=
  if lv.phase = .off then lv
  else lv.brownOut.modSupply (fun u => { u with swOpen := true, ovprot := true })

def execOvervoltageProtection (l : LaneId) (s : State) : Host.Outcome State Fault Refusal :=
  done (onLive l Live.overvoltage s)

/-- OVP_RECLOSE (R500): the switch closes; a power-on release can follow. -/
def execOvpReclose (l : LaneId) (s : State) : Host.Outcome State Fault Refusal :=
  done (onLive l (fun lv => lv.modSupply (fun u => { u with swOpen := false })) s)

/-- AON_RAIL_DROP (R497): the lane is unpowered, and its next release is a power-on reset. -/
def Live.aonDrop (lv : Live) : Live :=
  let lv := lv.closeSession
  { lv.restart false .off with
    tk := {}, ck := {}, im := {}, mo := { tap := lv.mo.tap.reset }, su := { swOpen := lv.su.swOpen, rstn := lv.su.rstn } }

def execAonRailDrop (l : LaneId) (s : State) : Host.Outcome State Fault Refusal := done (onLive l Live.aonDrop s)

/-- REVERSE_POLARITY_FLAG (R235): a reversal longer than 1 ms sets the flag cell of the unpowered lane. -/
def Live.reversePolarity (lv : Live) : Live :=
  if lv.phase = .off then { lv with wi := { lv.wi with revCell := true } } else lv

def execReversePolarityFlag (l : LaneId) (s : State) : Host.Outcome State Fault Refusal :=
  done (onLive l Live.reversePolarity s)

/-- VBAT_WINDOW_CROSSING (R501, R530). -/
def Live.vbatCrossing (lv : Live) (high : Bool) (mv : Nat) : Live :=
  if lv.awake then
    let lv := lv.crossed 169 high
    let lv := lv.modSupply (fun u => if high then { u with vHigh := true } else { u with vLow := true })
    lv.raise (if high then 1 else 0) noUnit (BitVec.ofNat 32 mv)
  else lv

def execVbatWindowCrossing (l : LaneId) (high : Bool) (mv : Nat) (s : State) : Host.Outcome State Fault Refusal :=
  done (onLive l (fun lv => lv.vbatCrossing high mv) s)

/-- VBAT_FLAG_CLEAR (R501): the voltage has been back inside the window for 100 ms. -/
def execVbatFlagClear (l : LaneId) (high : Bool) (s : State) : Host.Outcome State Fault Refusal :=
  done (onLive l (fun lv => lv.modSupply (fun u =>
    if high then { u with vHigh := false } else { u with vLow := false })) s)

/-! ### Resets -/

/-- EXTERNAL_RESET (R505, R525): `RSTn` low for 1 µs; held while the input stays low. -/
def Live.externalReset (lv : Live) : Live :=
  if lv.phase = .off then lv.modSupply (fun u => { u with rstn := true })
  else
    let lv := lv.reset .external
    lv.modSupply (fun u => { u with rstn := true })

def execExternalReset (l : LaneId) (s : State) : Host.Outcome State Fault Refusal :=
  done (onLive l Live.externalReset s)

/-- EXTERNAL_RESET_RELEASE (R502, R505, R548): the lane starts its power-up path, unless it waits for a power-on
release; an instruction of the test port that drives acts as BYPASS. -/
def Live.resetRelease (lv : Live) : Live :=
  if lv.su.rstn then
    let lv := lv.modSupply (fun u => { u with rstn := false })
    let lv := lv.onTap TapSt.release
    if lv.phase = .inReset ∧ lv.su.brownout = false then lv.beginDelay else lv
  else lv

def execExternalResetRelease (l : LaneId) (s : State) : Host.Outcome State Fault Refusal :=
  done (onLive l Live.resetRelease s)

/-- The firmware runs in this phase. -/
def Live.firmware (lv : Live) : Bool :=
  match lv.phase with
  | .loaded | .joined | .withdrawn | .halted | .haltedState => true
  | _ => false

/-- WATCHDOG_EXPIRY (R506): armed and not served for 10 ms. Time may have passed since the last command. -/
def Live.watchdog (lv : Live) : Live :=
  match lv.su.wdAt with
  | some t => if lv.firmware then ({ lv with clk := max lv.clk (t + ms 10) }).reset .watchdog else lv
  | none => lv

def execWatchdogExpiry (l : LaneId) (s : State) : Host.Outcome State Fault Refusal :=
  done (onLive l Live.watchdog s)

/-- CROSS_LANE_RESET_REQUEST (R507): both links have received the request within the same 1 ms; a halted lane, and a
lane without its links' receivers, ignores it. -/
def Live.crossReset (lv : Live) : Live :=
  match lv.phase with
  | .off | .inReset | .halted | .haltedState | .sleep | .deep => lv
  | _ => lv.reset .crossLane

def execCrossLaneResetRequest (l : LaneId) (s : State) : Host.Outcome State Fault Refusal :=
  done (onLive l Live.crossReset s)

/-- LANE_RESET: a write of 0 to `LaneReset`, in STANDBY and a service session (R526). -/
def Live.laneReset (lv : Live) (path : Path) (v : Byte) : Live :=
  lv.onGuard path (decide (v = 0)) (lv.standby && lv.sessionOn path)
    (fun x => (x.reset .software).accept (some path))

def execLaneReset (l : LaneId) (path : Path) (v : Byte) (s : State) : Host.Outcome State Fault Refusal :=
  done (onLive l (fun lv => lv.laneReset path v) s)

/-- Reset-request characters for three ticks on the link to a lane (R507). -/
def Live.requestReset (lv : Live) (o : LaneId) : Live :=
  match lv.me.linkTo o with
  | some .fwd => lv.modSupply (fun u => { u with fwd := { u.fwd with sendReset := 3 } })
  | some .back => lv.modSupply (fun u => { u with back := { u.back with sendReset := 3 } })
  | none => lv

/-- CROSS_RESET: a write of another lane's number to `CrossReset` (R507, R526). -/
def Live.crossWrite (lv : Live) (path : Path) (v : Byte) : Live :=
  match LaneId.ofNum v.toNat with
  | some o =>
    lv.onGuard path (decide (o ≠ lv.me)) (lv.standby && lv.sessionOn path)
      (fun x => (x.requestReset o).accept (some path))
  | none => lv.onGuard path false false (fun x => x)

def execCrossReset (l : LaneId) (path : Path) (v : Byte) (s : State) : Host.Outcome State Fault Refusal :=
  done (onLive l (fun lv => lv.crossWrite path v) s)

/-- `ClearCounters` of `SupplyStatus` (R526). -/
def SupplySt.clear (u : SupplySt) : SupplySt :=
  { u with counts := Vector.replicate 6 0, vMin := 0x42B40000, vMax := 0, ovprot := false }

def execClearSupplyCounters (l : LaneId) (v : Byte) (s : State) : Host.Outcome State Fault Refusal :=
  done (onLive l (fun lv => lv.onZero v (fun x => x.modSupply SupplySt.clear)) s)

/-! ### Power states -/

/-- The guards of R513, as they stand at this lane. -/
def Live.powerGuard (lv : Live) : Bool :=
  (decide (lv.au.mode = .standby) || decide (lv.au.mode = .safe)) && lv.au.standstill &&
    lv.sf.sout.all (fun o => !o.cmd) &&
    (decide (lv.num Obj.parkingEntry = 65535) || !F32.isZero (lv.bus (lv.num Obj.parkingEntry)))

/-- A power request that a guard refuses (R513, R528). -/
def Live.powerRefused (lv : Live) : Live :=
  (lv.modSupply (fun u => { u with result := 3 })).abortWith none abortState

/-- The entry into IDLE (R512, R513): the tick program stops, `CTL` is gated, every gate is held low. -/
def Live.enterIdle (lv : Live) : Live :=
  if lv.su.idle then lv
  else
    { lv with en := { lv.en with running := false },
              gd := { lv.gd with forcedLow := true },
              ck := { lv.ck with domrun := setBit lv.ck.domrun 1 false },
              su := { lv.su with idle := true } }.settle

/-- The start of an entry into SLEEP or DEEP at the apply tick (R513, R515); every client holds its vote. -/
def Live.beginEntry (lv : Live) (deep : Bool) : Live :=
  lv.modSupply (fun u => { u with
    entry := some { deep := deep, apply := lv.ticks }, votes := 0x3FFF, gateHeld := 0, readySent := false,
    latched := none })

/-- A `PowerRequest` carried out at its apply tick (R513, R528): 0 RUN, 1 IDLE, 2 SLEEP, 3 DEEP. -/
def Live.powerRequest (lv : Live) (v : Nat) : Live :=
  if lv.phase ≠ .joined then (if lv.answers then lv.abortWith none abortState else lv)
  else if !lv.powerGuard then lv.powerRefused
  else match v with
    | 0 => lv.leaveIdle.accept none
    | 1 => lv.enterIdle.accept none
    | 2 => if lv.su.idle then lv.powerRefused else (lv.beginEntry false).accept none
    | _ => if lv.su.idle then lv.powerRefused else (lv.beginEntry true).accept none

def execPowerRequestRun (l : LaneId) (s : State) : Host.Outcome State Fault Refusal :=
  done (onLive l (fun lv => lv.powerRequest 0) s)

def execPowerRequestIdle (l : LaneId) (s : State) : Host.Outcome State Fault Refusal :=
  done (onLive l (fun lv => lv.powerRequest 1) s)

def execPowerRequestSleep (l : LaneId) (s : State) : Host.Outcome State Fault Refusal :=
  done (onLive l (fun lv => lv.powerRequest 2) s)

def execPowerRequestDeep (l : LaneId) (s : State) : Host.Outcome State Fault Refusal :=
  done (onLive l (fun lv => lv.powerRequest 3) s)

/-- READY_SYMBOL_RECEIVED (R515). -/
def Live.readySymbol (lv : Live) (d : LinkDir) : Live :=
  if lv.phase ≠ .joined then lv
  else match d with
    | .fwd => lv.modSupply (fun u => { u with fwd := { u.fwd with readyNow := true } })
    | .back => lv.modSupply (fun u => { u with back := { u.back with readyNow := true } })

def execReadySymbolReceived (l : LaneId) (dir : LinkDir) (s : State) : Host.Outcome State Fault Refusal :=
  done (onLive l (fun lv => lv.readySymbol dir) s)

/-- n of R515: the entry timeout in ticks. -/
def Live.entryTicks (lv : Live) : Nat := (lv.num Obj.entryTimeout * lv.num Obj.tickRate + 999) / 1000

/-- The abandon of an entry (R515): the votes are asserted again, the blocks restart, the refusers are named. -/
def Live.abandonEntry (lv : Live) : Live :=
  let who := lv.su.votes &&& 0x1FFF
  let lv := lv.modSupply (fun u => { u with
    entry := none, refusers := who, votes := 0x3FFF, gateHeld := 0, result := 2, abandons := satInc u.abandons,
    readySent := false, latched := none })
  (if lv.en.running then lv else lv.startProgram).raise 9 noUnit (who.setWidth 32)

/-- POWER_ENTRY_ABANDON: at tick a + n (R515). -/
def Live.entryAbandon (lv : Live) : Live :=
  match lv.su.entry with
  | some e => if e.apply + lv.entryTicks ≤ lv.ticks then lv.abandonEntry else lv
  | none => lv

def execPowerEntryAbandon (l : LaneId) (s : State) : Host.Outcome State Fault Refusal :=
  done (onLive l Live.entryAbandon s)

/-! ### Wake -/

/-- Whether `WakeEnable` admits an event of a kind (R517, R528); a change at a `SIN` terminal also needs an enabled
instance that names it. -/
def Live.wakeEnabled (lv : Live) (kind detail : Nat) : Bool :=
  let en := lv.num Obj.wakeEnable
  match kind with
  | 1 => decide (detail < 4) && tbit en detail
  | 2 => tbit en 4
  | 3 => tbit en 5
  | 4 => decide (detail < 2) && tbit en (6 + detail)
  | 5 => tbit en 8 && (List.range 24).any (fun i =>
      decide (lv.num Obj.instEnable i = 1) &&
        ([Obj.instChannel1, Obj.instChannel2, Obj.instLockSource, Obj.instResetSource].any (fun o =>
          let v := lv.num o i
          decide (v / 4096 = 1 ∧ v / 1024 % 4 = lv.me.num ∧ v % 16 = detail))))
  | 6 => decide (detail < 2)
  | _ => false

/-- What SLEEP clears (R509): role, epoch and leash, the tick count, the state of the tick program. -/
def Live.sleepCleared (lv : Live) : Live :=
  { lv with
    au := { (lv.au.afterReset true) with startedAt := lv.clk, startupOver := false },
    tk := { levels := lv.tk.levels,
            fwd := { valid := lv.tk.fwd.valid, crcErr := lv.tk.fwd.crcErr, tickMis := lv.tk.fwd.tickMis,
                     missing := lv.tk.fwd.missing },
            back := { valid := lv.tk.back.valid, crcErr := lv.tk.back.crcErr, tickMis := lv.tk.back.tickMis,
                      missing := lv.tk.back.missing } },
    en := { lv.en with bus := [], busBad := [], busStale := [], appNext := [], appWritten := [],
                       slots := lv.en.slots.mapDflt {} SlotSt.fresh, appLate := [],
                       traj := Vector.replicate 32 (0, 0), trajOn := 0, running := false,
                       cmd := Vector.replicate 24 {} },
    fc := { lv.fc with groups := Vector.replicate 24 {}, joinGot := false, joinFor := none, joinLeft := 0 },
    sf := { lv.sf with inst := Vector.replicate 24 {}, appliedInst := 0, category := none,
                       term := Vector.replicate 36 .lost, sdStat := Vector.replicate 48 .lost },
    jn := { lv.ownTime with
            bufs := lv.jn.bufs, slotCnt := lv.jn.slotCnt, unequal := lv.jn.unequal, refDis := lv.jn.refDis,
            reint := lv.jn.reint, reject := lv.jn.reject, chA := { cnt := lv.jn.chA.cnt }, chB := { cnt := lv.jn.chB.cnt } } }

/-- The lane wakes (R517 to R519): `LastWake`, the wake pattern on both links, the oscillator start delay. -/
def Live.wake (lv : Live) (kind detail : Nat) : Live :=
  let deep := decide (lv.phase = .deep)
  let lv := if deep then
      { (lv.restart true .startDelay) with ck := lv.ck.afterReset, su := lv.su, fl := { (lv.fl.afterReset true) with
          armed := lv.fl.armed, injStatus := lv.fl.injStatus } }
    else lv.sleepCleared
  let lv := { lv with au := { lv.au with startedAt := lv.clk, startupOver := false } }
  let lv := lv.beginDelay.modSupply (fun u => { u with
    wake := BitVec.ofNat 16 (kind + 16 * detail), wakePat := true, fromDeep := deep, fromSleep := !deep, bankBad := 0,
    votes := 0x3FFF, latched := none, entry := none, readySent := false, idle := false })
  { lv with gd := { lv.gd with forcedLow := true } }

/-- WAKE_EVENT (R517, R518, R525): it wakes a sleeping lane, is latched during an entry, and is ignored otherwise. -/
def Live.wakeEvent (lv : Live) (kind detail : Nat) : Live :=
  if !lv.wakeEnabled kind detail then lv
  else if lv.phase = .sleep ∨ lv.phase = .deep then lv.wake kind detail
  else if lv.phase = .joined ∧ lv.su.entry.isSome = true then
    lv.modSupply (fun u => { u with latched := match u.latched with
      | some x => some x
      | none => some (kind, detail) })
  else lv

def execWakeEvent (l : LaneId) (kind : Fin 7) (detail : Fin 16) (s : State) : Host.Outcome State Fault Refusal :=
  done (onLive l (fun lv => lv.wakeEvent kind.val detail.val) s)

/-- WAKE_TIMER_EXPIRY (R517): `WakeTimer` seconds after the drop; 0 is off. -/
def Live.wakeTimer (lv : Live) : Live :=
  let n := lv.rwNum Obj.wakeTimer
  if n ≠ 0 ∧ (lv.phase = .sleep ∨ lv.phase = .deep) then
    ({ lv with clk := max lv.clk (lv.su.dropAt + n * perSec) }).wakeEvent 3 0
  else lv

def execWakeTimerExpiry (l : LaneId) (s : State) : Host.Outcome State Fault Refusal :=
  done (onLive l Live.wakeTimer s)

/-- The drop into the state requested (R515, R518): sessions close, outputs are forced, the last vote is withdrawn;
a latched wake event wakes the lane at once. -/
def Live.drop (lv : Live) (e : Entry) : Live :=
  let lv := (lv.closeSession e.deep).outputsOff
  let hit := lv.su.latched
  let lv := { lv with
    phase := if e.deep then .deep else .sleep,
    gd := { lv.gd with forcedLow := true },
    en := { lv.en with running := false },
    jn := { lv.jn with portsOff := true },
    su := { lv.su with entry := none, votes := 0, dropAt := lv.clk, wdAt := none, wakeDur := hit.isSome,
                       result := if hit.isSome then 4 else 1 } }
  let lv := lv.settle
  match hit with
  | some (k, d) => lv.wake k d
  | none => lv

/-- Whether a client of R514 meets its condition for withdrawal; `quiet` is what the outside world tells of the
blocks whose activity the model does not hold; `trial` of a firmware activation. -/
def Live.clientQuiet (lv : Live) (quiet : BitVec 14) (trial : Bool) (n : Nat) : Bool :=
  match n with
  | 0 => lv.di.open'.isNone && lv.di.held.isEmpty && lv.im.busy.isEmpty && !trial
  | 1 => lv.sc.ready.isEmpty && lv.sc.core2.isNone && lv.sc.core3.isNone
  | 2 => !lv.en.running
  | 4 => lv.im.pending.isEmpty
  | 5 => quiet.getLsbD 5 && !lv.im.erasing
  | 11 => lv.sf.tpo.all (fun t => !t.pulsing) && lv.sf.sout.all (fun o => !o.dark)
  | 12 => true
  | 13 => false
  | _ => if h : 6 ≤ n ∧ n ≤ 9 then
      quiet.getLsbD n || decide ((lv.di.can[(⟨n - 6, by omega⟩ : Fin 4)]).errState = 3)
    else quiet.getLsbD n

/-- The votes still held (R514): a withdrawn vote stays withdrawn, an abandoned gate keeps its client's vote. -/
def Live.votesNow (lv : Live) (quiet : BitVec 14) (trial : Bool) : BitVec 14 :=
  (List.range 14).foldl (fun v n =>
    if lv.clientQuiet quiet trial n && !(lv.su.gateHeld.getLsbD n) then setBit v n false else v) lv.su.votes

/-- The symbols of a link. -/
def Live.symbols (lv : Live) : LinkDir → LinkSymbols
  | .fwd => lv.su.fwd | .back => lv.su.back

/-- The other lanes that are live, as this lane sees them (R398, R516, R525). -/
def Live.livePeers (lv : Live) : List LinkDir :=
  [LinkDir.fwd, LinkDir.back].filter (fun d =>
    let v := lv.au.views[(lv.me.peer d).fin]
    v.joined && !v.lost)

/-- The evaluation of an entry at a tick start from a + 1 on (R515), after the links' symbols have moved to the
previous tick. -/
def Live.evalEntry (lv : Live) (quiet : BitVec 14) (trial : Bool) : Live :=
  match lv.su.entry with
  | none => lv
  | some e =>
    if lv.ticks ≤ e.apply then lv
    else
      let lv := { lv with en := { lv.en with running := false } }
      let v : BitVec 14 := lv.votesNow quiet trial
      let lv := lv.modSupply (fun u => { u with votes := v })
      let ready := decide ((v &&& 0x1FFF) = 0)
      let peers := lv.livePeers
      if ready && peers.all (fun d => (lv.symbols d).readyPrev) then lv.drop e
      else if ready && lv.su.readySent && peers.any (fun d =>
          decide ((lv.rx d).age ≠ 1) && !(lv.symbols d).readyPrev) then lv.drop e
      else if e.apply + lv.entryTicks ≤ lv.ticks then lv.abandonEntry
      else if ready then lv.modSupply (fun u => { u with readySent := true })
      else lv

end Sys2Proof.Machine
end

