-- ==== Sys2Proof/Machine/Flags.lean ====
section
/-!
DEFINITION. The status words of the manual: the fields of each as its rule lays them out, from the state they report.
-/

namespace Sys2Proof.Machine

/-- A word made of fields, each a value and its lowest bit. -/
def pack (fs : List (Nat × Nat)) : Nat := (fs.map (fun f => f.1 * 2 ^ f.2)).sum

/-- A word made of single bits, from bit 0 up. -/
def packBits (bs : List Bool) : Nat := (bs.zipIdx.map (fun b => bitAt b.1 b.2)).sum

/-! ### Lane authority (R83) -/

/-- `STATE` of this lane. -/
def Live.ownState (lv : Live) : Nat :=
  match lv.phase with
  | .off | .sleep | .deep => 0
  | .joined => if lv.alone then 6 else 2
  | .withdrawn => 3
  | .halted | .haltedState => 4
  | .clockWait => 5
  | _ => 1

/-- `STATE` of another lane: a lane that has not joined counts as starting until STARTUP ends, then as absent (R305). -/
def Live.peerState (lv : Live) (o : LaneId) : Nat :=
  let v := lv.au.views[o.fin]
  if v.lost then 3 else if v.joined then 2 else if lv.au.mode = .startup then 1 else 0

/-- `LaneStatus` of lane `o` as this lane sees it (R83). -/
def Live.laneStatus (lv : Live) (o : LaneId) : Nat :=
  let v := lv.au.views[o.fin]
  let own := decide (o = lv.me)
  pack [(if own then lv.ownState else lv.peerState o, 0), ((lv.laneRole o).code, 3), (bit1 (lv.laneFollower o), 5),
    (bit1 (if own then lv.netBlind else v.netblind), 6), ((if own then lv.au.epoch else v.epoch).toNat, 8),
    ((if own then lv.au.rejoins else v.rejoins).toNat, 16), (lv.au.refused.toNat, 20)]

/-! ### Engine and field control -/

/-- `SlotStatus` (R122): the bits of the last run, the frozen notches, the kennel and the consecutive misses. -/
def Live.slotStatusOf (lv : Live) (s : Nat) : Nat :=
  let q := lv.slot s
  let frz (m : Nat) : Bool := decide (m = 2) && lv.epochFrozen s
  let base := if s = 191 ∧ lv.safetySlot = true then bit1 lv.en.running else q.status.toNat % 4096
  base ||| pack [(bit1 (frz (lv.num Obj.slotNotch1Mode s)), 6), (bit1 (frz (lv.num Obj.slotNotch2Mode s)), 7),
    (bit1 (lv.fl.kSlots.getLsbD s), 8), (min q.consec 15, 12)]

/-- The code of a winding state (R158). -/
def WState.code : WState → Nat
  | .disabled => 0 | .measuring => 1 | .stopping => 2 | .refused => 3 | .running => 4 | .torqueFree => 5 | .lost => 6
  | .kennelled => 7

/-- `FieldStatus` of a winding (R158). -/
def WindingSt.fieldStatus (w : WindingSt) : Nat :=
  pack [(w.ws.code, 0), (w.src.toNat, 3), (w.catchCode.toNat, 24)] + w.flags.toNat % 2 ^ 18 / 2 ^ 6 * 2 ^ 6

/-! ### Gate drive and wiring -/

/-- `PortStatus` of a motor port (R218). -/
def Live.portStatus (lv : Live) (p : Fin 8) : Nat :=
  let q := lv.gd.ports[p]
  let asc : Option Side := match q.mode with
    | .asc sd => some sd
    | _ => none
  packBits [(q.legs[0]).shorted, (q.legs[1]).shorted, (q.legs[2]).shorted, decide (q.scSide = .high), q.double, q.hard,
    decide (q.fault = some .overcurrent), decide (q.fault = some .gate) || q.legs.toList.any (fun g => g.fault),
    decide (q.fault = some .bootstrap), q.legs.toList.any (fun g => g.refresh.isSome), asc.isSome,
    decide (asc = some .high), q.waitEnd.isSome, q.latched, q.ladder]
    + min 7 (recentTries lv.clk q.tries).length * 2 ^ 16

/-- `LaneDriveStatus` (R220). -/
def GateSt.driveStatus (g : GateSt) : Nat :=
  pack [(bit1 g.railUv, 0), (bit1 g.chOn, 1), (bit1 g.chFault, 2), (g.chCause.code, 3), (bit1 g.chEnergy, 6),
    (bit1 g.regenCut, 7), (bit1 g.ladderAsc, 8), (bit1 g.vabs, 9), (bit1 g.pumpF, 10)]

/-- `WiringFlags` (R239). -/
def WiringSt.wiringFlags (w : WiringSt) : Nat :=
  packBits [w.vsensUv, w.vsensOv, w.vsensOc, w.gndShift, w.revpol, w.linkLow, w.tetherF, w.reelF]
    + pack [(w.openPh.toNat, 8), (w.isum.toNat, 16)]

/-! ### Feedback -/

/-- `FbStatus` (R262). -/
def FbPortSt.fbStatus (q : FbPortSt) : Nat :=
  packBits [q.suspect, q.failed, q.aligned, q.satHi, q.satLo, q.levelF, q.spdMeth, q.down]
    + pack [(q.lines.h.toNat, 8), (q.sector.toNat, 11), (bit1 q.still, 14), (bit1 q.indexSeen, 15), (min 3 q.illRun, 16),
        (min 3 q.idxRun, 18)]

/-- `OutputStatus` of `TETHER` and `REEL` (R263). -/
def FeedbackSt.outputStatus (f : FeedbackSt) : Nat := packBits [f.tetherOn, f.tetherCut, f.reelOn, f.reelHeld]

/-! ### Faults (R312) -/

/-- `KennelStatus`. -/
def FaultSt.kennelStatus (f : FaultSt) : Nat :=
  pack [(f.kPorts.toNat, 0), (if f.unusable.getLsbD 1 then f.kCans.toNat ||| 12 else f.kCans.toNat, 8), (f.kCores.toNat, 12),
    (bit1 (decide (f.kSlots ≠ 0)), 14), (bit1 (decide (f.kChans ≠ 0)), 15), (f.kAdcs.toNat, 16)]

/-! ### Machine safety (R347, R350) -/

/-- Every guard of a reset row is met but the reset (R325, R347). -/
def Live.resetWait (lv : Live) (i : Fin 24) : Bool :=
  let x := lv.sfInput i.val
  let q := lv.sf.inst[i]
  let both := decide (x.c1 = 1 ∧ x.c2 = 1)
  let lockOk := decide (x.lock = 1 ∨ x.lock = 3)
  let one := decide ((x.c1 = 1 ∧ x.c2 = 2) ∨ (x.c1 = 2 ∧ x.c2 = 1))
  lv.sfOn i && !isTwoHand i.val &&
    ((decide (q.state = 0) && ((both && lockOk) || one)) || (decide (q.state = 3) && both && lockOk && q.bothOpen))

/-- `Status` of a safety-function instance (R347). -/
def Live.instStatus (lv : Live) (i : Fin 24) : Nat :=
  let q := lv.sf.inst[i]
  let c := lv.instChans i.val
  pack [(lv.sfApplied i, 0), (c.1, 2), (c.2, 4), (lv.instLock i.val, 6), (bit1 q.degRun, 8), (bit1 q.armed, 9),
    (bit1 (lv.resetWait i), 10), (bit1 q.hold, 11), (q.cause.toNat, 12)]

/-- `DegradedRemaining`, s (R346, R327): the time left of a running timer, rounded up. -/
def Live.degradedLeft (lv : Live) (i : Fin 24) : Nat :=
  let q := lv.sf.inst[i]
  let rate := lv.num Obj.tickRate
  if q.degRun then (lv.num Obj.safetyDegradedTime * rate - q.degTimer.toNat + rate - 1) / rate else 0

/-- `OutputStatus` of a safety output (R350). -/
def SoutSt.status (q : SoutSt) : Nat :=
  pack [(bit1 q.cmd, 0), (bit1 q.readback, 1), (bit1 q.locked, 2), (q.cause.toNat, 3), (bit1 q.openload, 5),
    (bit1 q.deferred, 6), (bit1 q.edm, 7)]

/-! ### Jalsyn and CAN -/

/-- The code of a synchronisation state (R381). -/
def SyncState.code : SyncState → Nat
  | .listen => 0 | .wait => 1 | .launch => 2 | .integrating => 3 | .sync => 4 | .silent => 5 | .refused => 6

/-- `NodeStatus` (R381). -/
def NetSt.nodeStatus (n : NetSt) : Nat :=
  pack [(n.sync.code, 0), (bit1 n.chA.linkUp, 3), (bit1 n.chB.linkUp, 4), (bit1 n.chA.lost, 5), (bit1 n.chB.lost, 6),
    (n.refuse.toNat, 7), (n.mRank.toNat, 9), (n.mNode.toNat, 11), (bit1 n.rateFault, 17)]

/-- `CAN2` or `CAN3` is marked unusable (R305). -/
def Live.canUnusable (lv : Live) (n : Fin 4) : Bool := decide (2 ≤ n.val) && lv.fl.unusable.getLsbD 1

/-- A CAN port transmits nothing in DESCENT (R72). -/
def Live.canShed (lv : Live) (n : Fin 4) : Bool := lv.au.ballast && tbit (lv.num Obj.ballastCan) n.val

/-- `PortStatus` of a CAN port (R410); error passive from a count of 128 on, as ISO 11898-1 has it (PRESUMED, log entry
58). -/
def Live.canStatus (lv : Live) (n : Fin 4) : Nat :=
  let q := lv.di.can[n]
  let passive := decide (q.errState = 0 ∧ (128 ≤ q.txErr.toNat ∨ 128 ≤ q.rxErr.toNat))
  pack [(if passive then 1 else q.errState.toNat, 0), (bit1 (lv.fl.kCans.getLsbD n.val || lv.canUnusable n), 2), (bit1 (lv.canShed n), 3),
    (bit1 (decide (lv.rcNum Obj.canMode n.val = 2) && decide (q.errState ≠ 3)), 4),
    (lv.wi.canFaults.toNat / 2 ^ (4 * n.val) % 16, 8)]

/-! ### Images and logbook -/

/-- `SlotFlags` (R446). -/
def ImageSt.slotFlags (m : ImageSt) : Nat :=
  pack [(bit1 (!m.busy.isEmpty), 0), (bit1 m.mismatch, 1), (bit1 m.fwMismatch, 2), (m.copyResult.toNat, 3),
    (m.copySlot.toNat, 5)]

/-- `LogStatus` (R451). -/
def Live.logStatus (lv : Live) : Nat := packBits [!lv.fl.unusable.getLsbD 3, lv.im.erasing, lv.im.truncated]

/-! ### Clocks, supply and module -/

/-- `ClockFlags` (R494). -/
def ClockSt.clockFlags (c : ClockSt) : Nat :=
  packBits [c.xtal, c.rc40, c.lprc, c.plla, c.pllb, c.xtalWin, c.clkWait, c.extOsc]
    + pack [(c.altsrc.toNat, 8), (c.domrun.toNat, 16)]

/-- `SupplyFlags` (R526). -/
def SupplySt.supplyFlags (u : SupplySt) : Nat := packBits [u.vLow, u.vHigh, u.ovprot, u.aonHeld, u.halt]

/-- `WakeStatus` (R529). -/
def SupplySt.wakeStatus (u : SupplySt) : Nat := pack [(u.bankBad.toNat, 0), (bit1 u.wakeDur, 4)]

end Sys2Proof.Machine
end

