-- ==== Sys2Proof/Machine/Secure.lean ====
section
/-!
DEFINITION. Keys, service sessions, attestation, tamper detection and debug access (R429 to R436, R449, R450).
-/

namespace Sys2Proof.Machine

/-- A change of a whole lane by a write that names its path: out of reach of a silent lane, aborted by a halted one,
else carried out (R387). -/
def writeLane (path : Path) (f : Lane → Lane) (n : Lane) : Lane :=
  if !n.live.answers then n
  else if !n.live.writes then { n with live := n.live.abortWith (some path) abortState }
  else f n

/-- A write refused with a code. -/
def Lane.refuse (n : Lane) (path : Path) (code : Word) : Lane := { n with live := n.live.abortWith (some path) code }

/-! ### Key slots -/

/-- The slots of a purpose. -/
def purposeSlots (n : Nat) : List Nat := (List.range 12).filter (fun k => decide (k / 4 = n / 4))

/-- A slot is programmed. -/
def Otp.programmed (o : Otp) (n : Nat) : Bool := o.burnt.getLsbD n

/-- `SlotState` of a key slot (R449). -/
def slotState (st : NvStore) (o : Otp) (n : Fin 12) : Nat :=
  if !o.burnt.getLsbD n.val then 0
  else if o.revoked.getLsbD n.val then 2
  else if keyDamaged st o n then 3 else 1

/-- The keys of slot `n` burnt: two copies stored, the fingerprint fixed (R429, R430). -/
def burnKeys (n : Fin 12) (keys : List Byte) (l : Lane) : Lane :=
  { l with
    store := { l.store with keys := l.store.keys.set n { first := keys, second := keys } },
    otp := { l.otp with prints := l.otp.prints.set n (fingerprint keys), burnt := setBit l.otp.burnt n.val true } }

/-- KEY_PROGRAM (R430). -/
def keyProgram (path : Path) (n : Byte) : Lane → Lane :=
  writeLane path (fun l =>
    let load := l.live.rwBytes Obj.keyLoad
    let none' := [8, 9, 10, 11].all (fun k => !l.otp.programmed k)
    if h : n.toNat < 12 then
      if n.toNat < 4 then l.refuse path abortRange
      else if l.live.standby && (l.live.sessionOn path || none') && !l.otp.programmed n.toNat
          && decide (load.length = 1985 ∧ load.head? = some n) then
        let l := burnKeys ⟨n.toNat, h⟩ (load.drop 1) l
        { l with live := l.live.accept (some path) }
      else l.refuse path abortState
    else l.refuse path abortRange)

def execKeyProgram (l : LaneId) (path : Path) (n : Byte) (s : State) : Host.Outcome State Fault Refusal :=
  done (onLane l (keyProgram path n) s)

/-- A valid stored image of the lane is signed with configuration slot `n` (R431). -/
def signsImage (l : Lane) (n : Nat) : Bool :=
  [SlotRole.staged, .active, .previous].any (fun r =>
    let h := header (l.store.image r)
    decide (l.store.dir.version r ≠ 0 ∧ (l.live.roleStatus r = 1 ∨ l.live.roleStatus r = 2))
      && (decide (4 + h.edSlot = n) || decide (4 + h.mlSlot = n)))

/-- The slots that signed the open session's response are among the slots of a mask (R431). -/
def Live.sessionSigned (lv : Live) (n : Nat) : Bool :=
  match lv.im.session with
  | some (_, _, ed, ml) => decide (8 + ed = n ∨ 8 + ml = n)
  | none => false

/-- KEY_REVOKE (R431). -/
def keyRevoke (path : Path) (n : Byte) : Lane → Lane :=
  writeLane path (fun l =>
    let k := n.toNat
    let good (m : Nat) : Bool := l.otp.programmed m && !l.otp.revoked.getLsbD m
    if k < 4 ∨ 12 ≤ k then l.refuse path abortRange
    else if !l.live.standby || !l.live.sessionOn path then l.refuse path abortState
    else if (good k && (purposeSlots k).all (fun m => decide (m = k) || !good m)) || signsImage l k then
      l.refuse path abortCheck
    else
      let lv := if l.live.sessionSigned k then l.live.closeSession else l.live
      { l with otp := l.otp.revoke (BitVec.ofNat 12 (2 ^ k)), live := lv.accept (some path) })

def execKeyRevoke (l : LaneId) (path : Path) (n : Byte) (s : State) : Host.Outcome State Fault Refusal :=
  done (onLane l (keyRevoke path n) s)

/-! ### Service sessions -/

/-- The 48 bytes of a challenge (R432). -/
def challengeBytes (draw : Nat) (serial : List Byte) (me : LaneId) (sessions : Half) : List Byte :=
  leBytes 32 (Config.nonce draw).toNat ++ slice serial 0 12 ++ leBytes 1 me.num ++ [0] ++ halfBytes sessions

/-- CHALLENGE_READ (R432): a new nonce, unless failed responses have locked the lane. -/
def challengeRead (path : Path) (serial : List Byte) (draw : Nat) (x : LiveStore) : LiveStore :=
  let lv := x.1
  if !lv.answers then x
  else if lv.im.lockout.isSome then (lv.abortWith (some path) abortState, x.2)
  else
    let c := challengeBytes draw serial lv.me x.2.sessions
    let lv := { lv with im := { lv.im with nonce := some c, nonceAt := lv.clk } }
    (lv.answer { path := some path, sid := 0, abort := none, data := c, last := true }, x.2)

def execChallengeRead (l : LaneId) (path : Path) (s : State) : Host.Outcome State Fault Refusal :=
  done (onFree l (fun n _ => challengeRead path s.serial n) s)

/-- The fields of a response (R432). -/
def respEd (r : List Byte) : Nat := natAt r 0 1
def respMl (r : List Byte) : Nat := natAt r 1 1
def respMinutes (r : List Byte) : Nat := natAt r 2 2

/-- Both signatures of a response verify over the valid challenge, with keys of the purpose that starts at slot `base`
(R432, R436). -/
def responseGood (base : Nat) (r : List Byte) (o : Otp) (x : LiveStore) : Bool :=
  match x.1.im.nonce with
  | none => false
  | some c =>
    let msg := c ++ slice r 0 4
    decide (x.1.clk ≤ x.1.im.nonceAt + 60 * perSec) && decide (1 ≤ respMinutes r ∧ respMinutes r ≤ 480) &&
      (match goodKeys x.2 o (keySlot base (respEd r)), goodKeys x.2 o (keySlot base (respMl r)) with
       | some ek, some mk =>
         Config.ed25519 (edKey ek) msg (slice r 4 64) && Config.mlDsa65 (mlKey mk) msg (slice r 68 3309)
       | _, _ => false)

/-- The damaged slots that a response names (R429). -/
def respDamaged (base : Nat) (r : List Byte) (o : Otp) (st : NvStore) : List (Fin 12) :=
  ([keySlot base (respEd r), keySlot base (respMl r)].filterMap id).filter (fun n => keyDamaged st o n)

/-- A response that fails: counted, recorded, and after three within 10 min the lockout begins (R432). -/
def Live.authFail (lv : Live) (path : Path) : Live :=
  let recent := lv.clk :: lv.im.failures.filter (fun t => decide (lv.clk ≤ t + 600 * perSec))
  let lv := { lv with im := { lv.im with
    authFails := satInc lv.im.authFails,
    failures := if 3 ≤ recent.length then [] else recent,
    lockout := if 3 ≤ recent.length then some (lv.clk + 600 * perSec) else lv.im.lockout } }
  (lv.raise 359 path.code).abortWith (some path) abortCheck

/-- The length of a response refused: neither empty nor whole (R393, R396). -/
def respLength (r : List Byte) : Option Word :=
  if r.length = 0 ∨ r.length = 3377 then none
  else if r.length < 3377 then some abortShort else some abortLong

/-- SESSION_RESPONSE (R432). -/
def sessionResponse (path : Path) (r : List Byte) (o : Otp) (x : LiveStore) : LiveStore :=
  let lv := x.1
  if !lv.answers then x
  else if !lv.writes then (lv.abortWith (some path) abortState, x.2)
  else match respLength r with
    | some c => (lv.abortWith (some path) c, x.2)
    | none =>
      let lv := lv.setRw Obj.response 0 0 r
      if r.isEmpty then (lv.accept (some path), x.2)
      else if lv.sessionOpen then (lv.abortWith (some path) abortState, x.2)
      else
        let lv := lv.raiseKeys (respDamaged 8 r o x.2)
        if responseGood 8 r o (lv, x.2) then
          let e := lv.clk + respMinutes r * 60 * perSec
          (({ lv with im := { lv.im with nonce := none, session := some (path, e, respEd r, respMl r) } }).accept (some path),
           { x.2 with sessions := x.2.sessions + 1 })
        else (lv.authFail path, x.2)

def execSessionResponse (l : LaneId) (path : Path) (data : List Byte) (s : State) : Host.Outcome State Fault Refusal :=
  done (onStore l (sessionResponse path data) s)

/-- SESSION_CLOSE: the session ends and its `RC` writes take effect (R433). -/
def Live.sessionClose (lv : Live) (path : Path) (v : Byte) : Live :=
  lv.onGuard path (decide (v = 0)) true (fun x => x.closeSession.accept (some path))

def execSessionClose (l : LaneId) (path : Path) (v : Byte) (s : State) : Host.Outcome State Fault Refusal :=
  done (onLive l (fun lv => lv.sessionClose path v) s)

/-- SESSION_EXPIRY: the duration has elapsed (R433). -/
def Live.sessionExpiry (lv : Live) : Live :=
  match lv.im.session with
  | some (_, e, _, _) => if lv.due e then ({ lv with clk := max lv.clk e }).closeSession else lv
  | none => lv

def execSessionExpiry (l : LaneId) (s : State) : Host.Outcome State Fault Refusal := done (onLive l Live.sessionExpiry s)

/-- AUTH_LOCKOUT_END: 10 min after the third failure (R432). -/
def Live.lockoutEnd (lv : Live) : Live :=
  match lv.im.lockout with
  | some e => if lv.due e then { lv with im := { lv.im with lockout := none } } else lv
  | none => lv

def execAuthLockoutEnd (l : LaneId) (s : State) : Host.Outcome State Fault Refusal := done (onLive l Live.lockoutEnd s)

/-! ### Attestation and tamper detection -/

/-- The 109 bytes that an attestation signs (R434): an empty ACTIVE role gives a digest of zeros. -/
def attestMessage (challenge serial : List Byte) (me : LaneId) (st : NvStore) : List Byte :=
  challenge ++ slice serial 0 12 ++ leBytes 1 me.num ++ slice st.dir.dActive 0 64

/-- ATTEST_CHALLENGE (R434, R435). -/
def attestChallenge (path : Path) (data serial : List Byte) (x : LiveStore) : LiveStore :=
  let lv := x.1
  if !lv.answers then x
  else if !lv.writes then (lv.abortWith (some path) abortState, x.2)
  else if 32 < data.length then (lv.abortWith (some path) abortLong, x.2)
  else if data.length ≠ 0 ∧ data.length ≠ 32 then (lv.abortWith (some path) abortShort, x.2)
  else if data.isEmpty then ((lv.setRw Obj.attestChallenge 0 0 []).accept (some path), x.2)
  else if x.2.attestZero || !x.2.attestOk then (lv.abortWith (some path) abortState, x.2)
  else
    let sig := leBytes 3373 (Config.attestSign x.2.attestId (attestMessage data serial lv.me x.2)).toNat
    ((({ lv with im := { lv.im with signature := sig } }).setRw Obj.attestChallenge 0 0 data).accept (some path), x.2)

def execAttestChallenge (l : LaneId) (path : Path) (data : List Byte) (s : State) : Host.Outcome State Fault Refusal :=
  done (onStore l (fun _ => attestChallenge path data s.serial) s)

/-- ATTEST_REGENERATE: a new key pair, in a session (R435). -/
def attestRegenerate (path : Path) (v : Byte) (draw : Nat) (x : LiveStore) : LiveStore :=
  let lv := x.1
  if !lv.answers then x
  else if !lv.writes then (lv.abortWith (some path) abortState, x.2)
  else if v ≠ 0 then (lv.abortWith (some path) abortRange, x.2)
  else if !lv.sessionOn path then (lv.abortWith (some path) abortState, x.2)
  else (lv.accept (some path), { x.2 with attestOk := true, attestId := draw, attestZero := false })

def execAttestRegenerate (l : LaneId) (path : Path) (v : Byte) (s : State) : Host.Outcome State Fault Refusal :=
  done (onFree l (fun n _ => attestRegenerate path v n) s)

/-- TAMPER_DETECTED (R435): the attestation keys are zeroised whatever the lane does; the lane otherwise runs on. -/
def tamper (x : LiveStore) : LiveStore :=
  if x.1.phase = .off then x
  else (if x.1.awake then x.1.raise 8 noUnit else x.1, { x.2 with attestZero := true })

def execTamperDetected (l : LaneId) (_cause : Byte) (s : State) : Host.Outcome State Fault Refusal :=
  done (onStore l (fun _ => tamper) s)

/-! ### Debug access -/

/-- DEBUG_RESPONSE: a second response, with firmware-purpose keys, inside an open session (R436). -/
def debugResponse (path : Path) (r : List Byte) (o : Otp) (x : LiveStore) : LiveStore :=
  let lv := x.1
  if !lv.answers then x
  else if !lv.writes then (lv.abortWith (some path) abortState, x.2)
  else match respLength r with
    | some c => (lv.abortWith (some path) c, x.2)
    | none =>
      let lv := lv.setRw Obj.debugResponse 0 0 r
      if r.isEmpty then (lv.accept (some path), x.2)
      else if !lv.sessionOn path then (lv.abortWith (some path) abortState, x.2)
      else
        let lv := lv.raiseKeys (respDamaged 0 r o x.2)
        if responseGood 0 r o (lv, x.2) then
          (({ lv with im := { lv.im with nonce := none, debug := true } }).accept (some path), x.2)
        else (lv.authFail path, x.2)

def execDebugResponse (l : LaneId) (path : Path) (data : List Byte) (s : State) : Host.Outcome State Fault Refusal :=
  done (onStore l (debugResponse path data) s)

end Sys2Proof.Machine
end

