-- ==== Sys2Proof/Machine/Reads.lean ====
section
/-!
DEFINITION. What a read of the object dictionary returns: the read-only objects that the lane produces, chapter by
chapter, then the read of any object by its access class (R394).
-/

namespace Sys2Proof.Machine

/-- A number below `n`, for an index that a table entry keeps in range. -/
def idxOf (n : Nat) [NeZero n] (k : Nat) : Fin n := Fin.ofNat n k

/-- The four bytes of a signed value. -/
def intBytes (x : Int) : List Byte := leBytes 4 (BitVec.ofInt 32 x).toNat

/-! ### Sensing (R159, R184) -/

/-- A frozen conversion in the unit of its channel (R159): the channels whose value is a code times a range. -/
def senseCode (ch code : Nat) : F32 :=
  if ch < 48 ∨ ch = 168 ∨ ch = 169 then F32.ofRatio (90 * code) 16384
  else if ch < 96 ∨ ch = 171 then F32.ofRatio (3 * code) 16384
  else if ch < 144 ∨ ch = 172 then F32.ofRatio ((25 * code : Nat) - 81920) 16384
  else if ch < 168 ∨ ch = 187 then F32.ofRatio (20 * code) 16384
  else if ch < 185 then F32.ofRatio code 16384
  else if ch < 187 then F32.ofRatio (((3 * code : Nat) : Int) - 24576) 16384
  else if ch = 188 then F32.ofRatio (10 * code) 16384
  else F32.ofRatio (3 * code) 16384

/-- The chopper current, with the chopper's shunt settings (R159, R176). -/
def Live.chopperAmps (lv : Live) (code : Nat) : F32 :=
  F32.mul (F32.ofInt ((code : Int) - 8192))
    (F32.div (F32.ofRatio 3 16384) (F32.mul (gainOf (lv.num Obj.chopperShuntGain)) (lv.real Obj.chopperShuntResistance)))

/-- One value of `SenseValues` (R184). -/
def Live.senseValue (lv : Live) (ch : Nat) : F32 :=
  let code := (lv.aq.frozen.read 0 ch).toNat
  if ch < 24 then lv.aq.shuntA[idxOf 24 ch]
  else if ch = 168 then lv.aq.vdc
  else if ch = 170 then lv.chopperAmps code
  else if 173 ≤ ch ∧ ch ≤ 180 then lv.aq.ntc[idxOf 8 (ch - 173)]
  else senseCode ch code

/-- `ScanRotation`, ns (R168, R183). -/
def AcqSt.scanRotation (a : AcqSt) : Nat :=
  let n := (List.finRange 16).countP (fun k => a.health.getLsbD k.val && !a.roles.contains k)
  (165 + max n 1 - 1) / max n 1 * 100

/-- An offset in amperes (R176, R183). -/
def Live.offsetAmps (lv : Live) (leg : Fin 24) (o : F32) : F32 := F32.mul o (lv.ampsPerCount (legPort leg))

/-! ### Objects by chapter; `none` leaves the table's value -/

/-- Communication, CAN ports and server (R407, R409, R412). -/
def Live.readComm (lv : Live) (serial : List Byte) (idx sub : Nat) : Option (List Byte) :=
  if idx = 0x1001 then some (leBytes 1 (bit1 lv.fl.first.isSome))
  else if idx = 0x1018 ∧ sub = 4 then some (wordBytes (crc32c serial))
  else if 0x1F00 ≤ idx ∧ idx < 0x1F04 then
    let n : Fin 4 := idxOf 4 (idx - 0x1F00)
    let q := lv.di.can[n]
    match sub with
    | 0x08 => some (leBytes 2 (lv.canStatus n))
    | 0x09 => some [q.txErr] | 0x0A => some [q.rxErr] | 0x0B => some (halfBytes q.busOffs)
    | 0x0C => some (wordBytes q.framesRx) | 0x0D => some (wordBytes q.framesTx)
    | _ => none
  else if idx = 0x1F10 ∧ sub = 2 then some (leBytes 1 lv.di.nodeId)
  else if idx = 0x1F20 then
    match sub with
    | 2 => some (leBytes 1 lv.di.sessions.length)
    | 3 => some (wordBytes lv.di.refusals) | 4 => some (wordBytes lv.di.aborts)
    | 5 => some (wordBytes lv.di.repFails) | 6 => some (wordBytes lv.di.ignored)
    | _ => none
  else none

/-- The code of a fault kind (R84). -/
def FaultKind.code : FaultKind → Nat
  | .laneLoss => 1 | .jalsynChannel => 2 | .winding => 3 | .positionSource => 4 | .safetyChannel => 5
  | .safeDataCopy => 6 | .chopper => 7

/-- `FaultPair` (R77, R84). -/
def AuthSt.faultPair (a : AuthSt) : Nat :=
  let k (n : Nat) : Nat := match a.faults[n]? with
    | some x => x.kind.code
    | none => 0
  pack [(min 15 a.faults.length, 0), (k 0, 4), (k 1, 8)]

/-- The sub-indices 1 to 16 of `HealthReport`, in order (R84). -/
def Live.healthReport (lv : Live) : List (List Byte) :=
  let a := lv.au
  let f := lv.fl
  [leBytes 1 a.role.code, leBytes 1 a.mode.code, leBytes 1 a.epoch.toNat, wordBytes a.renewals, halfBytes a.expiries,
   [a.minMargin], halfBytes a.takeovers, halfBytes a.demSent, halfBytes a.demRecv, wordBytes a.mirCorr,
   wordBytes f.corrected, wordBytes f.contained, halfBytes f.fatal, halfBytes f.coverage, halfBytes f.lastTest,
   leBytes 2 a.faultPair]

/-- The health frame of 49 bytes: lane letter, serial number, report (R84). -/
def Live.healthFrame (lv : Live) (serial : List Byte) : List Byte :=
  leBytes 1 lv.me.num ++ slice serial 0 12 ++ lv.healthReport.flatten

/-- Identity, tick, mode, lane authority and lane links (R3, R16, R30, R82, R84, R406). -/
def Live.readLane (lv : Live) (serial : List Byte) (idx sub : Nat) : Option (List Byte) :=
  match idx, sub with
  | 0x2000, 3 => some serial
  | 0x2000, 5 => some [BitVec.ofNat 8 (0x41 + lv.me.num)]
  | 0x2012, _ => some (wordBytes lv.tickLow)
  | 0x2013, _ => some (wordBytes ((lv.tk.count >>> 32).setWidth 32))
  | 0x2020, _ => some (leBytes 1 lv.au.mode.code)
  | 0x2410, n => (LaneId.ofNum (n - 1)).map (fun o => leBytes 4 (lv.laneStatus o))
  | 0x2430, 0 => none
  | 0x2430, n =>
    let r := if n < 5 then lv.tk.fwd else lv.tk.back
    match (n - 1) % 4 with
    | 0 => some (wordBytes r.valid) | 1 => some (wordBytes r.crcErr) | 2 => some (wordBytes r.tickMis)
    | _ => some (wordBytes r.missing)
  | 0x4C40, 0 => none
  | 0x4C40, n => lv.healthReport[n - 1]?
  | _, _ => none

/-- Field control and loop slots (R121, R157): a `DQCUR` item's slot and the safety evaluation's report their item. -/
def Live.readField (lv : Live) (idx sub : Nat) : Option (List Byte) :=
  if 0x2900 ≤ idx ∧ idx < 0x2918 then
    let g : Fin 24 := idxOf 24 (idx - 0x2900)
    let w : WindingSt := match lv.portOf g with
      | some p => lv.fc.wind[p]
      | none => {}
    match sub with
    | 0x1A => some (wordBytes (w.rs.getD (lv.real Obj.fieldRs20 g.val)))
    | 0x1B => some (leBytes 4 w.fieldStatus)
    | 0x1C => some (halfBytes w.losEvents) | 0x1D => some (halfBytes w.refusals)
    | 0x1E => some (wordBytes w.recon) | 0x1F => some (wordBytes w.modClamp)
    | _ => none
  else if 0x3000 ≤ idx ∧ idx < 0x30C0 then
    let s := idx - 0x3000
    let q := lv.slot s
    let own : Option (Fin 24) := if s < 8 then lv.groupOf (idxOf 8 s) else none
    match sub with
    | 0x01 => if own.isSome then some [1] else if s = 191 ∧ lv.safetySlot = true then some [8] else none
    | 0x03 => own.map (fun g => leBytes 1 g.val)
    | 0x31 => some (wordBytes (lv.notchF1 s)) | 0x32 => some (wordBytes (lv.notchF2 s))
    | 0x33 => some (leBytes 2 (lv.slotStatusOf s))
    | 0x34 => some (wordBytes q.misses) | 0x35 => some (wordBytes q.invalid)
    | 0x36 =>
      let w := if own.isSome then lv.num Obj.portCarrierEighth s + 1 else lv.en.placed.read 0 s
      some (leBytes 1 (if w = 0 then 255 else w - 1))
    | _ => none
  else none

/-- Engine budget and pass comparison (R123, R288). -/
def Live.readEngine (lv : Live) (idx sub : Nat) : Option (List Byte) :=
  let e := lv.en
  let p := lv.ps
  if idx = 0x3410 then
    if 1 ≤ sub ∧ sub ≤ 8 then some (leBytes 2 (e.planned[idxOf 8 (sub - 1)]))
    else if 0x0C ≤ sub ∧ sub ≤ 0x13 then some (halfBytes (e.peaks[idxOf 8 (sub - 0x0C)]))
    else match sub with
      | 0x09 => some (leBytes 2 lv.winCycles) | 0x0A => some (halfBytes e.units) | 0x0B => some [e.positions]
      | 0x14 => some [e.rejCause] | 0x15 => some [e.rejSlot]
      | _ => none
  else if idx = 0x3431 then
    match sub with
    | 0x01 => some (wordBytes p.dutyMis) | 0x02 => some (wordBytes p.sigMis) | 0x03 => some (wordBytes p.softMis)
    | 0x04 => some (wordBytes p.restores) | 0x05 => some (wordBytes p.lastTick) | 0x06 => some [p.lastSrc]
    | 0x07 => some (wordBytes p.tagged) | 0x08 => some (wordBytes p.tagRep) | 0x09 => some (wordBytes p.eccCorr)
    | 0x0A => some (wordBytes p.eccUnc) | 0x0B => some (wordBytes p.agreeInc) | 0x0C => some (wordBytes p.agreeDis)
    | 0x0D => some (leBytes 1 (min 3 p.recent.length))
    | _ => none
  else none

/-- Acquisition (R183, R184). -/
def Live.readSense (lv : Live) (idx sub : Nat) : Option (List Byte) :=
  let a := lv.aq
  if idx = 0x3801 then some ((List.range 192).flatMap (fun ch => wordBytes (lv.senseValue ch)))
  else if idx = 0x3802 then
    match sub with
    | 0x01 => some (leBytes 2 a.health.toNat) | 0x02 => some (leBytes 2 a.scanRotation)
    | 0x03 => some (wordBytes a.retries) | 0x04 => some (wordBytes a.invalids) | 0x05 => some (wordBytes a.sats)
    | 0x06 => some (leBytes 24 a.cmpHigh.toNat) | 0x07 => some (leBytes 24 a.cmpLow.toNat)
    | 0x09 => some ((List.finRange 24).flatMap (fun leg => wordBytes (lv.offsetAmps leg ((a.start[leg]).getD 0))))
    | 0x0A => some ((List.finRange 24).flatMap (fun leg => wordBytes (lv.offsetAmps leg a.offs[leg])))
    | _ => none
  else none

/-- Gate drive and wiring (R217, R219, R237). -/
def Live.readDrive (lv : Live) (idx sub : Nat) : Option (List Byte) :=
  let g := lv.gd
  let w := lv.wi
  if idx = 0x3C00 then
    match sub with
    | 0x10 => some (leBytes 4 g.driveStatus) | 0x11 => some (wordBytes g.regen) | 0x12 => some (wordBytes g.energy)
    | 0x13 => some (halfBytes g.ascEvents)
    | _ => none
  else if 0x3C10 ≤ idx ∧ idx < 0x3C18 then
    let p : Fin 8 := idxOf 8 (idx - 0x3C10)
    let q := g.ports[p]
    match sub with
    | 0x11 => some (leBytes 4 (lv.portStatus p)) | 0x12 => some (wordBytes q.trips)
    | 0x13 => some (wordBytes q.hardTrips) | 0x14 => some (wordBytes q.gateFaults)
    | 0x15 => some (wordBytes q.refreshes) | 0x16 => some (wordBytes q.retries)
    | _ => none
  else if idx = 0x3C20 then
    if 1 ≤ sub ∧ sub ≤ 8 then some (halfBytes (w.results[idxOf 8 (sub - 1)]))
    else match sub with
      | 0x09 => some (wordBytes w.runs) | 0x0A => some (wordBytes w.failures) | 0x0B => some (wordBytes w.skips)
      | 0x0C => some (leBytes 4 w.wiringFlags) | 0x0D => some (halfBytes w.cableA) | 0x0E => some (halfBytes w.cableB)
      | 0x10 => some (halfBytes w.canFaults)
      | _ => none
  else none

/-- Feedback (R261, R263, R264). -/
def Live.readFeedback (lv : Live) (idx sub : Nat) : Option (List Byte) :=
  if 0x4000 ≤ idx ∧ idx < 0x4008 then
    let q := lv.fb.ports[idxOf 8 (idx - 0x4000)]
    match sub with
    | 0x0E => some (wordBytes q.counter) | 0x0F => some (leBytes 4 q.angle) | 0x10 => some (wordBytes q.speed)
    | 0x11 => some (leBytes 4 q.fbStatus) | 0x12 => some (wordBytes q.illegal) | 0x13 => some (wordBytes q.corrections)
    | 0x14 => some (wordBytes q.rejects) | 0x15 => some (wordBytes q.hallErrs) | 0x18 => some (leBytes 4 q.lastIndex)
    | _ => none
  else if idx = 0x4010 then
    match sub with
    | 0x08 => some (wordBytes lv.fb.reelCount) | 0x09 => some (leBytes 1 lv.fb.outputStatus)
    | _ => none
  else if idx = 0x4020 ∧ 0x21 ≤ sub ∧ sub ≤ 0x30 then
    let q := lv.fb.sent[idxOf 4 ((sub - 0x21) % 4)]
    match (sub - 0x21) / 4 with
    | 0 => some (wordBytes q.fast) | 1 => some (wordBytes q.slow) | 2 => some (halfBytes q.flags)
    | _ => some (wordBytes q.errors)
  else none

/-- A channel's counters (R382). -/
def ChanCount.read (c : ChanCount) : Nat → Option (List Byte)
  | 0x01 => some (wordBytes c.framesTx) | 0x02 => some (wordBytes c.framesRx) | 0x03 => some (wordBytes c.fcs)
  | 0x04 => some (wordBytes c.unknown) | 0x05 => some (wordBytes c.cycMis) | 0x06 => some (wordBytes c.window)
  | 0x07 => some (wordBytes c.emptyRx) | 0x08 => some (wordBytes c.emptyTx) | 0x09 => some (wordBytes c.refMiss)
  | 0x0A => some (wordBytes c.second) | 0x0B => some (wordBytes c.differ) | 0x0C => some (wordBytes c.incompl)
  | 0x0D => some (halfBytes c.downs) | 0x0E => some (halfBytes c.dup) | 0x0F => some (halfBytes c.collide)
  | _ => none

/-- Jalsyn (R380, R382). -/
def Live.readJalsyn (lv : Live) (idx sub : Nat) : Option (List Byte) :=
  let n := lv.jn
  if idx = 0x4400 then
    match sub with
    | 0x10 => some (leBytes 4 n.nodeStatus)
    | 0x11 => some (leBytes 8 (BitVec.ofInt 64 (lv.globalAt lv.clk)).toNat)
    | 0x12 => some (halfBytes n.cycle)
    | 0x13 => some (intBytes (max (-2147483647) (min 2147483647 n.offset)))
    | 0x14 => some (intBytes n.rho) | 0x15 => some (halfBytes n.reject)
    | 0x16 => some ((List.range 2048).flatMap (fun e => wordBytes (n.slotCnt.read 0 e)))
    | _ => none
  else if idx = 0x4420 then
    match sub with
    | 0x10 => some (wordBytes n.unequal) | 0x20 => some (wordBytes n.refDis) | 0x22 => some (halfBytes n.reint)
    | _ => if sub < 0x10 then n.chA.cnt.read sub else n.chB.cnt.read (sub - 0x10)
  else none

/-- Machine safety (R346, R348, R349, R351). -/
def Live.readSafety (lv : Live) (idx sub : Nat) : Option (List Byte) :=
  let f := lv.sf
  if 0x4800 ≤ idx ∧ idx < 0x4818 then
    let i : Fin 24 := idxOf 24 (idx - 0x4800)
    match sub with
    | 0x0B => some (leBytes 1 (lv.sfApplied i)) | 0x0C => some (leBytes 2 (lv.instStatus i))
    | 0x0D => some (leBytes 2 (lv.degradedLeft i))
    | _ => none
  else match idx, sub with
    | 0x4820, 0x31 => some (wordBytes lv.verdicts)
    | 0x4820, 0x32 => some (leBytes 2 (packBits (f.sin.toList.map (fun q => q.faulted))))
    | 0x4820, 0x33 => some (leBytes 1 (packBits (f.tpo.toList.map (fun q => q.faulted))))
    | 0x4830, 0x22 => some (wordBytes f.incomplete)
    | 0x4830, n => if 0x1D ≤ n ∧ n ≤ 0x20 then some (leBytes 2 (f.sout[idxOf 4 (n - 0x1D)]).status) else none
    | 0x4840, 0x02 => some (wordBytes f.expMis) | 0x4840, 0x03 => some (wordBytes f.aliveRej)
    | 0x4850, 0x04 => some (wordBytes f.safeMis)
    | _, _ => none

/-- Faults and the logbook (R310, R451). -/
def readFaults (x : LiveStore) (idx sub : Nat) : Option (List Byte) :=
  let f := x.1.fl
  let m := x.1.im
  match idx, sub with
  | 0x4C08, 1 => some (halfBytes f.bistResult) | 0x4C08, 2 => some (halfBytes f.bistTime)
  | 0x4C10, 1 => some (f.history.flatMap EventRec.bytes)
  | 0x4C10, 2 => some (wordBytes f.overwritten) | 0x4C10, 3 => some (wordBytes f.suppressed)
  | 0x4C20, 1 => some (match f.first with
    | some e => e.bytes
    | none => [])
  | 0x4C20, 2 => some (wordBytes f.later)
  | 0x4C30, 1 => some (leBytes 4 f.kennelStatus)
  | 0x4C30, 2 => some (leBytes 24 f.kSlots.toNat) | 0x4C30, 3 => some (leBytes 24 f.kChans.toNat)
  | 0x4C30, 5 => some (halfBytes f.refusals) | 0x4C30, 6 => some (leBytes 2 f.kUnits.toNat)
  | 0x4C50, 5 => some [f.injStatus]
  | 0x4C60, 0x09 => some (leBytes 1 m.pending.length) | 0x4C60, 0x0A => some (leBytes 4 x.2.captures.length)
  | 0x4C60, 0x0B => some (wordBytes m.markerN)
  | 0x4C60, 0x0F => some (m.markers.flatMap (fun k =>
      leBytes 8 k.time.toNat ++ wordBytes k.tick ++ halfBytes k.source ++ [0, 0]))
  | 0x4C60, 0x10 => some (leBytes 1 x.1.logStatus)
  | _, _ => none

/-- Clocks, supply, straps and temperature (R493, R495, R526, R528, R529, R549, R550). -/
def Live.readPower (lv : Live) (idx sub : Nat) : Option (List Byte) :=
  let c := lv.ck
  let u := lv.su
  let m := lv.mo
  match idx, sub with
  | 0x5000, 1 => some (leBytes 4 c.clockFlags) | 0x5000, 2 => some (intBytes c.devNow)
  | 0x5000, 3 => some (halfBytes c.failures) | 0x5000, 4 => some [c.last] | 0x5000, 5 => some (wordBytes c.abandoned)
  | 0x5010, 1 => some (leBytes 1 m.oscCode.toNat) | 0x5010, 2 => some (leBytes 1 m.idCode.toNat)
  | 0x5010, 3 => some (halfBytes m.oscMv) | 0x5010, 4 => some (halfBytes m.idMv)
  | 0x5010, 5 => some (leBytes 1 (packBits [m.oscErr, m.idErr]))
  | 0x5020, 5 => some (wordBytes c.meter.count) | 0x5020, 6 => some (wordBytes c.meter.hz)
  | 0x5020, 7 => some [c.meter.state]
  | 0x5030, 1 => some [u.last] | 0x5030, 2 => some (u.counts.toList.flatMap halfBytes)
  | 0x5030, 3 => some (wordBytes u.vMin) | 0x5030, 4 => some (wordBytes u.vMax)
  | 0x5030, 5 => some (leBytes 2 u.supplyFlags)
  | 0x5040, 2 => some (leBytes 1 (bit1 u.idle)) | 0x5040, 3 => some (leBytes 2 u.votes.toNat)
  | 0x5040, 4 => some (leBytes 2 u.refusers.toNat) | 0x5040, 6 => some [u.result]
  | 0x5040, 0x0A => some (halfBytes u.abandons)
  | 0x5050, 1 => some (halfBytes u.wake) | 0x5050, 2 => some (leBytes 1 u.wakeStatus)
  | 0x5060, 1 => some (wordBytes m.die) | 0x5060, 2 => some (wordBytes m.dieMax)
  | 0x5060, 3 => some (leBytes 1 (bit1 m.dieHot))
  | _, _ => none

/-- Images, keys and the service session (R445, R448 to R450, R475). -/
def readImages (o : Otp) (x : LiveStore) (idx sub : Nat) : Option (List Byte) :=
  let m := x.1.im
  let st := x.2
  let version (b : Bool) : List Byte := leBytes 4 (if st.fwEmpty b then 0 else (header (st.firmware b)).version)
  match idx, sub with
  | 0x5400, 3 => some [m.stagingStatus] | 0x5400, 4 => some (leBytes 4 m.stagingGot)
  | 0x5400, 5 => some (wordBytes st.dir.vStaged) | 0x5400, 6 => some (wordBytes st.dir.vActive)
  | 0x5400, 7 => some (wordBytes st.dir.vPrevious)
  | 0x5400, 8 => some [m.stStaged] | 0x5400, 9 => some [m.stActive] | 0x5400, 10 => some [m.stPrevious]
  | 0x5400, 11 => some st.dir.dActive | 0x5400, 12 => some (leBytes 2 m.slotFlags)
  | 0x5400, 13 => some (halfBytes m.repairs) | 0x5400, 14 => some [m.lastResult]
  | 0x5420, 1 => some (leBytes 1 (bit1 st.boot.runningB))
  | 0x5420, 2 => some (version false) | 0x5420, 3 => some (version true)
  | 0x5420, 4 => some [m.stA] | 0x5420, 5 => some [m.stB]
  | 0x5420, 6 => some (leBytes 1 o.count) | 0x5420, 9 => some [m.loadStatus]
  | 0x5420, 11 => some (leBytes 1 (if st.boot.trial then 1 else if st.boot.confirmed then 2 else 0))
  | 0x5420, 12 => some (halfBytes st.boot.fallbacks)
  | 0x5430, 0x1C => some (leBytes 1 (bit1 st.attestZero))
  | 0x5430, 0x1D => some (if st.attestOk && !st.attestZero then leBytes 1984 (Config.attestPublic st.attestId).toNat else [])
  | 0x5430, 0x1F => some m.signature
  | 0x5430, n =>
    if 1 ≤ n ∧ n ≤ 12 then some (leBytes 1 (slotState st o (idxOf 12 (n - 1))))
    else if 13 ≤ n ∧ n ≤ 24 then
      let k : Fin 12 := idxOf 12 (n - 13)
      some (if o.programmed k.val then leBytes 32 (o.prints[k]).toNat else [])
    else none
  | 0x5440, 3 => some (leBytes 1 (if m.session.isSome then 1 else if m.lockout.isSome then 2 else 0))
  | 0x5440, 4 => some (leBytes 2 (match m.session with
    | some (_, e, _) => (e - x.1.clk + 60 * perSec - 1) / (60 * perSec)
    | none => 0))
  | 0x5440, 5 => some (leBytes 1 (match m.session with
    | some (p, _) => p.code
    | none => 255))
  | 0x5440, 7 => some (halfBytes m.authFails)
  | 0x5850, 1 => some (wordBytes x.1.sc.refusals) | 0x5850, 2 => some (wordBytes x.1.sc.laneRefs)
  | 0x5850, 3 => some (wordBytes x.1.sc.drops) | 0x5850, 4 => some (wordBytes x.1.sc.faults)
  | _, _ => none

/-! ### Any object -/

/-- What the lane produces for a read-only object; `none` leaves the table's value. -/
def produced (serial : List Byte) (o : Otp) (x : LiveStore) (idx sub : Nat) : Option (List Byte) :=
  if idx < 0x2000 then x.1.readComm serial idx sub
  else if idx < 0x2800 ∨ idx = 0x4C40 then x.1.readLane serial idx sub
  else if idx < 0x3400 then x.1.readField idx sub
  else if idx < 0x3800 then x.1.readEngine idx sub
  else if idx < 0x3C00 then x.1.readSense idx sub
  else if idx < 0x4000 then x.1.readDrive idx sub
  else if idx < 0x4400 then x.1.readFeedback idx sub
  else if idx < 0x4800 then x.1.readJalsyn idx sub
  else if idx < 0x4C00 then x.1.readSafety idx sub
  else if idx < 0x5000 then readFaults x idx sub
  else if idx < 0x5400 then x.1.readPower idx sub
  else readImages o x idx sub

/-- The value of an object that may be read, by its access class (R394). -/
def objectValue (serial : List Byte) (o : Otp) (x : LiveStore) (ob : Obj) (idx sub : Nat) : List Byte :=
  let i := idx - ob.idx
  let k := sub - ob.sub
  match produced serial o x idx sub with
  | some bs => bs
  | none => match ob.acc with
    | .rw => x.1.rwBytes ob i k
    | .rc => x.1.rcBytes ob i k
    | .img => x.1.bytes ob i k
    | _ => ob.dfltAt i k

end Sys2Proof.Machine
end

