-- ==== Sys2Proof/Machine/SelfTest.lean ====
section
/-!
DEFINITION. Kennel release, fault records, injection, BIST and the rotating self-tests (10_faults_and_selftest.md).
-/

namespace Sys2Proof.Machine

/-! ### Fault records -/

/-- CLEAR_HISTORY (R299): inside a service session the history queue is emptied. -/
def Live.clearHistory (lv : Live) (path : Path) (v : Byte) : Live :=
  lv.onGuard path (decide (v = 0)) (lv.sessionOn path)
    (fun x => ({ x with fl := { x.fl with history := [] } }).accept (some path))

def execClearHistory (l : LaneId) (path : Path) (v : Byte) (s : State) : Host.Outcome State Fault Refusal :=
  done (onLive l (fun lv => lv.clearHistory path v) s)

/-- CLEAR_FIRST (R299): inside a service session `FirstEvent` is cleared, its count of later events with it. -/
def Live.clearFirst (lv : Live) (path : Path) (v : Byte) : Live :=
  lv.onGuard path (decide (v = 0)) (lv.sessionOn path)
    (fun x => ({ x with fl := { x.fl with first := none, later := 0 } }).accept (some path))

def execClearFirst (l : LaneId) (path : Path) (v : Byte) (s : State) : Host.Outcome State Fault Refusal :=
  done (onLive l (fun lv => lv.clearFirst path v) s)

/-! ### Kennel release -/

/-- The unit is kennelled. -/
def Live.kennelled (lv : Live) : KennelUnit → Bool
  | .port p => lv.fl.kPorts.getLsbD p.val
  | .slot s => lv.fl.kSlots.getLsbD s.val
  | .channel c => lv.fl.kChans.getLsbD c.val
  | .adc n => lv.fl.kAdcs.getLsbD n.val
  | .can n => lv.fl.kCans.getLsbD n.val
  | .core three => lv.fl.kCores.getLsbD (bit1 three)
  | .cvu u => lv.fl.kUnits.getLsbD u.val

/-- A channel's latest conversion is saturated or outside the bounds of its own rule (R166, R180, R295). -/
def Live.channelBad (lv : Live) (c : Fin 192) : Bool :=
  let x := (lv.aq.codes.read 0 c.val).toNat
  decide (x = 0) || decide (16383 ≤ x) ||
    (decide (173 ≤ c.val ∧ c.val < 181) && lv.aq.ntcBad.getLsbD (c.val - 173))

/-- The kennelling cause of a unit is absent (R295); the comparators' levels and the sniff test of a motor port count among its
tests, whose outcome the row carries. -/
def Live.causeAbsent (lv : Live) : KennelUnit → Bool
  | .slot s => (lv.slotReads s.val).all (fun e =>
      F32.finite (lv.bus e) && !lv.en.busBad.read false e && !lv.en.busStale.read false e)
  | .channel c => !lv.channelBad c
  | .can n => decide (bits lv.wi.canFaults.toNat (4 * n.val + 3) (4 * n.val) = 0)
  | .port _ | .adc _ | .core _ | .cvu _ => true

/-- A released port: its protection at its start, its winding disabled, enabled again through the catch procedure
where its group is enabled (R295). Counters stand, and the sniff test run within the write counts (R237). -/
def Live.releasePort (lv : Live) (p : Fin 8) : Live :=
  let lv := ({ lv with fl := { lv.fl with kPorts := setBit lv.fl.kPorts p.val false } }).modPort p (fun q =>
    { trips := q.trips, hardTrips := q.hardTrips, gateFaults := q.gateFaults, refreshes := q.refreshes,
      retries := q.retries })
  let lv := { lv with wi := { lv.wi with
    runs := satInc lv.wi.runs, results := vmod lv.wi.results p (fun _ => sniffWord 1 7 15) } }
  let lv := (lv.park p .disabled).settlePort p
  match lv.groupOf p with
  | some g => if (lv.fc.groups[g]).enabled then lv.enableWinding p else lv
  | none => lv

/-- A released unit starts as after a lane reset (R295). -/
def Live.release (lv : Live) : KennelUnit → Live
  | .port p => lv.releasePort p
  | .slot s => { lv with
      fl := { lv.fl with kSlots := setBit lv.fl.kSlots s.val false },
      en := { lv.en with slots := lv.en.slots.drop s.val } }
  | .channel c => { lv with fl := { lv.fl with kChans := setBit lv.fl.kChans c.val false } }
  | .adc n => { lv with
      fl := { lv.fl with kAdcs := setBit lv.fl.kAdcs n.val false },
      aq := { lv.aq with health := setBit lv.aq.health n.val true, badRef := setBit lv.aq.badRef n.val false } }
  | .can n => ({ lv with fl := { lv.fl with kCans := setBit lv.fl.kCans n.val false } }).canInit n
  | .core three => ({ lv with fl := { lv.fl with kCores := setBit lv.fl.kCores (bit1 three) false } }).schedule
  | .cvu u => { lv with
      fl := { lv.fl with kUnits := setBit lv.fl.kUnits u.val false },
      sf := { lv.sf with cvu := vmod lv.sf.cvu u (fun _ => {}) } }

/-- A release refused: counted in `ReleaseRefusals` (R295). -/
def Live.releaseRefused (lv : Live) (path : Path) : Live :=
  ({ lv with fl := { lv.fl with refusals := satInc lv.fl.refusals } }).abortWith (some path) abortCheck

/-- KENNEL_RELEASE (R295, R312); `pass` is the outcome of the unit's own test. -/
def Live.kennelRelease (lv : Live) (path : Path) (code : Half) (pass : Bool) : Live :=
  match kennelUnit code with
  | none => lv.onGuard path false false (fun x => x)
  | some u => lv.onGuard path true (lv.standby && lv.sessionOn path) (fun x =>
      if x.kennelled u && x.causeAbsent u && pass then
        ((x.release u).raise 352 code.toNat).accept (some path)
      else x.releaseRefused path)

def execKennelRelease (l : LaneId) (path : Path) (code : Half) (pass : Bool) (s : State) :
    Host.Outcome State Fault Refusal :=
  done (onLive l (fun lv => lv.kennelRelease path code pass) s)

/-! ### Injection -/

/-- INJECT_ARM (R303): in STANDBY inside a session, one at a time; otherwise `InjectStatus` 4. -/
def Live.injectArm (lv : Live) (path : Path) (v : Byte) : Live :=
  if !lv.answers then lv
  else if !lv.writes then lv.abortWith (some path) abortState
  else if v ≠ 0 then lv.abortWith (some path) abortRange
  else if !(lv.standby && lv.sessionOn path) || lv.fl.armed.isSome then
    ({ lv with fl := { lv.fl with injStatus := 4 } }).abortWith (some path) abortState
  else
    let i : Injection := { checker := lv.rwNum Obj.injectChecker, pattern := lv.rwNum Obj.injectPattern,
                           react := decide (lv.rwNum Obj.injectReact = 1), until' := lv.clk + perSec }
    ({ lv with fl := { lv.fl with armed := some i, injStatus := 1 } }).accept (some path)

def execInjectArm (l : LaneId) (path : Path) (v : Byte) (s : State) : Host.Outcome State Fault Refusal :=
  done (onLive l (fun lv => lv.injectArm path v) s)

/-- INJECTION_EXPIRED (R303). -/
def Live.injectionExpired (lv : Live) : Live :=
  match lv.fl.armed with
  | some a => if lv.due a.until' then { lv with fl := { lv.fl with armed := none, injStatus := 3 } } else lv
  | none => lv

def execInjectionExpired (l : LaneId) (s : State) : Host.Outcome State Fault Refusal :=
  done (onLive l Live.injectionExpired s)

/-- An uncorrectable error in an SRAM macro: source 17, or source 18 with a restore in an engine bank (R276, R292). -/
def Live.sramLost (lv : Live) (which : Nat) (syn : Word) (inj : Option Bool) : Live :=
  if Config.engineBank which then
    let lv := lv.raiseBy 18 which syn inj
    if inj = some false || !lv.running then lv else lv.restoreState
  else lv.raiseBy 17 which syn inj

/-- An injection on a memory or register checker that the lane exercises all the time, at its next check (R302, R303):
SRAM, MRAM, gate-drive and crossbar configuration. The word struck and the sources of the two configuration checkers
are open (log entries 22 and 26). -/
def Live.exercise (lv : Live) : Live :=
  match lv.fl.armed with
  | none => lv
  | some a =>
    let syn := Config.openSyndrome 3
    let r := lv.injected a.checker
    if a.checker < 64 then
      (if a.pattern = 1 then r.2.raiseBy 16 a.checker syn r.1 else r.2.sramLost a.checker syn r.1)
    else if a.checker < 72 then r.2.raiseBy (if a.pattern = 1 then 21 else 22) (a.checker - 64) 0 r.1
    else if a.checker = 102 ∨ a.checker = 103 then
      Live.raiseN 3 r.2 (Config.openSource (a.checker - 92)).toNat noUnit 0 r.1 0x09
    else lv

/-! ### BIST -/

/-- BIST starts: gates low, links and Jalsyn silent (R189, R304). -/
def Live.beginBist (lv : Live) : Live := { lv with phase := .bist, gd := { lv.gd with forcedLow := true } }.settle

/-- BIST_START (R44, R304, R502): after the stagger of the lane, or at once after a reset of kinds 4 to 7; a lane that
withdrew and may try again makes its software reset first. -/
def Live.bistStart (lv : Live) : Live :=
  match lv.phase with
  | .stagger =>
    ({ lv with clk := max lv.clk (lv.su.t0 + startDelay lv.mo.oscCode + lv.me.num * ms (lv.num Obj.bistStagger)) }).beginBist
  | .inReset =>
    if 4 ≤ lv.su.kind.toNat ∧ lv.su.rstn = false ∧ lv.su.brownout = false then
      ({ lv with clk := lv.clk + us 10, su := { lv.su with t0 := lv.clk + us 10 } }).beginBist
    else lv
  | .withdrawn => if lv.mayRejoin then
      let x := lv.rejoin
      ({ x with clk := x.clk + us 10, su := { x.su with t0 := x.clk + us 10 } }).beginBist
    else lv
  | _ => lv

def execBistStart (l : LaneId) (s : State) : Host.Outcome State Fault Refusal :=
  done (onLive l Live.bistStart s)

/-- The partitions whose failure leaves the lane running without a unit: P12 to P15 (R305). -/
def unitPartitions : Half := 0x7800

/-- Source 353 for each failed partition of P12 to P15 (R305). -/
def Live.raiseUnusable (lv : Live) : Live :=
  (List.range 4).foldl (fun (x : Live) i => if lv.fl.unusable.getLsbD i then x.raise 353 (12 + i) else x) lv

/-- BIST_COMPLETE (R304, R305, R504): the signatures are judged; the collector runs from here and records the reset. -/
def Live.bistComplete (lv : Live) (failed : Half) (time : Half) : Live :=
  if lv.phase = .bist then
    let lv := { lv with clk := lv.clk + us time.toNat,
                        fl := { lv.fl with bistResult := failed &&& 0x7FFF, bistTime := time } }
    if failed &&& (0x7FFF ^^^ unitPartitions) ≠ 0 then { lv with phase := .bistFailed }
    else
      let lv := { lv with phase := .boot, fl := { lv.fl with unusable := (failed >>> 11).setWidth 4 } }
      let lv := if lv.su.kind = 1 ∨ lv.su.fromDeep = true then lv else lv.raise 7 noUnit (lv.su.kind.setWidth 32)
      lv.raiseUnusable
  else lv

def execBistComplete (l : LaneId) (failed : Half) (time : Half) (s : State) : Host.Outcome State Fault Refusal :=
  done (onLive l (fun lv => lv.bistComplete failed time) s)

/-! ### Rotating self-tests -/

/-- The test takes a unit out of its normal use (R306). -/
def intrusiveTest (n : Fin 13) : Bool := decide (10 ≤ n.val)

/-- Whether a test may start in the lane's role and mode (R306). -/
def Live.testApplies (lv : Live) (n : Fin 13) : Bool :=
  if n = 0 ∨ lv.au.mode = .startup ∨ lv.phase ≠ .joined then false
  else if n = 12 ∧ (lv.fl.kCores ≠ 0 ∨ lv.fl.unusable.getLsbD 0 = true) then false
  else if !intrusiveTest n then true
  else match lv.au.mode with
    | .standby => true
    | .operational => decide (lv.au.role = .watch)
    | .reduced => decide (lv.au.role = .heel) && lv.au.standstill
    | _ => false

/-- The interval of a test in 2.5 ns counts (R306). -/
def Live.testInterval (lv : Live) (n : Fin 13) : Nat :=
  match n.val with
  | 1 => 1000 * lv.num Obj.signatureWindow * lv.tick
  | 2 => ms 1 | 3 => ms 10 | 4 => ms 1000 | 5 => ms 10000 | 6 => ms 1000 | 7 => ms 10 | 8 => ms 100
  | 9 => ms 100 | 10 => ms 1000 | 11 => ms 10 | _ => ms 10000

/-- The stated time of an intrusive test (R306). -/
def testTime (n : Fin 13) : Nat := if n = 10 then ms 2 else if n = 12 then ms 8 else 0

/-- A test's record changed. -/
def Live.modTest (lv : Live) (n : Fin 13) (f : TestSt → TestSt) : Live :=
  { lv with fl := { lv.fl with tests := vmod lv.fl.tests n f } }

/-- ROTATING_SELF_TEST (R306, R309): a test starts; the core that test 12 takes hands its thread over. -/
def Live.testStart (lv : Live) (n : Fin 13) : Live :=
  if lv.testApplies n && (lv.fl.tests[n]).startedAt.isNone then
    let lv := lv.modTest n (fun t => { t with startedAt := some lv.clk })
    if n = 12 then lv.clearCore (decide ((lv.fl.tests[n]).unit % 2 = 1)) else lv
  else lv

def execRotatingSelfTest (l : LaneId) (n : Fin 13) (s : State) : Host.Outcome State Fault Refusal :=
  done (onLive l (fun lv => lv.testStart n) s)

/-- What follows a failed test (R306): `unit` names the macro, region, bank, leg, converter, domain, channel or
check-value unit; test 12 names its core by turn. -/
def Live.testFailed (lv : Live) (n : Fin 13) (unit turn : Nat) (syn : Word) : Live :=
  match n.val with
  | 1 => lv.raise 83 unit
  | 2 | 10 => if h : unit < 16 then
      (if lv.fl.kAdcs.getLsbD unit then lv
       else ({ lv with aq := { lv.aq with health := setBit lv.aq.health unit false } }).failAdc ⟨unit, h⟩) else lv
  | 3 => if h : unit < 24 then
      (lv.raise (128 + 8 * (unit / 3) + 3) unit).kennelPort (legPort ⟨unit, h⟩) else lv
  | 4 => lv.sramLost unit syn none
  | 5 => lv.raise 22 unit
  | 6 => lv.raise 23 unit
  | 7 => lv.clockFailure (if unit = 4 then 6 else 5)
  | 8 => if unit < 192 then lv.raise 210 unit else lv
  | 9 => if unit < 16 then lv.raise 344 unit else lv
  | 11 => lv.raise 17 unit syn
  | 12 => lv.raise 370 (2 + turn % 2)
  | _ => lv

/-- A single error that a scrub corrected (R292, R306). -/
def Live.scrubbed (lv : Live) (n : Fin 13) (unit : Nat) (syn : Word) : Live :=
  match n.val with
  | 4 => lv.raise 16 unit syn
  | 5 => lv.raise 21 unit
  | 6 => lv.raise 23 unit
  | _ => lv

/-- `LastRotatingTest` (R307). -/
def lastTestWord (n : Fin 13) (pass : Bool) : Half := BitVec.ofNat 16 (n.val + bitAt (!pass) 15)

/-- SELF_TEST_COMPLETE (R306, R307): the outcome recorded, the turn passed on, then the reaction. -/
def Live.testDone (lv : Live) (n : Fin 13) (unit : Nat) (pass : Bool) (found : Option Word) : Live :=
  match (lv.fl.tests[n]).startedAt with
  | none => lv
  | some t0 =>
    if lv.due (t0 + testTime n) then
      let turn := (lv.fl.tests[n]).unit
      let lv := { lv with clk := max lv.clk (t0 + testTime n), fl := { lv.fl with lastTest := lastTestWord n pass } }
      let lv := lv.modTest n (fun t =>
        { passedAt := if pass then some lv.clk else t.passedAt, failed := !pass, unit := t.unit + 1, startedAt := none })
      let lv := if n = 12 then lv.schedule else lv
      let syn := found.getD 0
      let lv := if pass && found.isSome then lv.scrubbed n unit syn else lv
      if pass then lv else lv.testFailed n unit turn syn
    else lv

def execSelfTestComplete (l : LaneId) (n : Fin 13) (unit : Nat) (pass : Bool) (found : Option Word) (s : State) :
    Host.Outcome State Fault Refusal :=
  done (onLive l (fun lv => lv.testDone n unit pass found) s)

/-- The test is covered: it passed last, within its interval (R307). -/
def Live.testCovered (lv : Live) (n : Fin 13) : Bool :=
  lv.testApplies n && !(lv.fl.tests[n]).failed &&
    (match (lv.fl.tests[n]).passedAt with
     | some t => decide (lv.clk ≤ t + lv.testInterval n)
     | none => false)

/-- `SelfTestCoverage` (R307); 0 where no test is applicable. -/
def Live.updateCoverage (lv : Live) : Live :=
  let all := (List.finRange 13).filter (fun n => lv.testApplies n)
  let got := all.filter (fun n => lv.testCovered n)
  { lv with fl := { lv.fl with coverage := BitVec.ofNat 16 (10000 * got.length / all.length) } }

/-! ### Internal references -/

/-- REFERENCE_WINDOW_CROSSING (R171, R308): `S189` to `S191` beyond ±1 % for 10 µs. -/
def Live.refCrossing (lv : Live) (ch : Fin 3) (high : Bool) : Live :=
  if lv.sensing then (lv.crossed (189 + ch.val) high).raise 12 (189 + ch.val) else lv

def execReferenceWindowCrossing (l : LaneId) (ch : Fin 3) (high : Bool) (s : State) : Host.Outcome State Fault Refusal :=
  done (onLive l (fun lv => lv.refCrossing ch high) s)

end Sys2Proof.Machine
end

