-- ==== Sys2Proof/Machine/Window.lean ====
section
/-!
DEFINITION. The application window and the scheduler's commands (15_scheduler_application.md): thread control, flows,
check-value units, Jalsyn buffers, the signal bus, faults, captures and time, as application threads use them.
-/

namespace Sys2Proof.Machine

/-! ### The caller -/

/-- The caller is an application thread that runs (R452): the window answers no other. -/
def Live.calls (lv : Live) (t : Fin 128) : Bool :=
  lv.awake && match (lv.thread t).run with
    | .running _ => true
    | _ => false

/-- A command of the window carried out for a running caller. -/
def Live.byCaller (lv : Live) (t : Fin 128) (f : Live → Live) : Live := if lv.calls t then f lv else lv

/-- THREAD_FAULT's effect (R456): FAULTED, source 369 with the RISC-V exception code and the address. -/
def Live.threadFault (lv : Live) (t : Fin 128) (code : Byte) (addr : Word) : Live :=
  (lv.faultThread t).raise 369 (128 + t.val) ((code.setWidth 32 <<< 24) ||| (addr &&& 0xFFFFFF))

/-- THREAD_FAULT (R456). -/
def execThreadFault (l : LaneId) (t : Fin 128) (code : Byte) (addr : Word) (s : State) :
    Host.Outcome State Fault Refusal :=
  done (onLive l (fun lv => lv.byCaller t (fun x => x.threadFault t code addr)) s)

/-! ### Thread control (R466) -/

/-- `SCH_RESULT` of a caller. -/
def Live.schResult (lv : Live) (t : Fin 128) (r : Nat) : Live :=
  lv.modThread t (fun q => { q with schRes := BitVec.ofNat 3 r })

/-- A thread is DORMANT or FAULTED. -/
def Live.startable (lv : Live) (t : Fin 128) : Bool :=
  lv.hasThread t && match (lv.thread t).run with
    | .dormant | .faulted => true
    | _ => false

/-- The thread that a register's low eight bits name; none below 128 (R466). -/
def namedThread (w : Word) : Option (Fin 128) :=
  if h : 128 ≤ w.toNat % 256 then some ⟨w.toNat % 256 - 128, by omega⟩ else none

/-- SCH_START: the named thread, and its partner, start (R457, R466). -/
def Live.schStart (lv : Live) (c : Fin 128) (w : Word) : Live :=
  match namedThread w with
  | none => lv.schResult c 1
  | some t =>
    if !lv.startable t then lv.schResult c 2
    else
      let lv := (lv.schResult c 0).startThread t
      match lv.partner t with
      | some p => if lv.startable p then lv.startThread p else lv
      | none => lv

def execSchStart (l : LaneId) (caller : Fin 128) (w : Word) (s : State) : Host.Outcome State Fault Refusal :=
  done (onLive l (fun lv => lv.byCaller caller (fun x => x.schStart caller w)) s)

/-- SCH_STOP: the named thread, and its partner, become DORMANT (R457, R462, R466). -/
def Live.schStop (lv : Live) (c : Fin 128) (w : Word) : Live :=
  match namedThread w with
  | none => lv.schResult c 1
  | some t => match (lv.thread t).run with
    | .dormant => lv.schResult c 2
    | _ => ((lv.schResult c 0).haltThread t .dormant).stopPartner t

def execSchStop (l : LaneId) (caller : Fin 128) (w : Word) (s : State) : Host.Outcome State Fault Refusal :=
  done (onLive l (fun lv => lv.byCaller caller (fun x => x.schStop caller w)) s)

/-- SCH_PRIO: a priority set; a READY thread goes to the tail of its new list (R466, R474). -/
def Live.schPrio (lv : Live) (c : Fin 128) (w : Word) : Live :=
  match namedThread w with
  | none => lv.schResult c 1
  | some t =>
    if !lv.hasThread t then lv.schResult c 2
    else
      let lv := (lv.schResult c 0).modThread t (fun q => { q with prio := some ⟨w.toNat / 256 % 16, by omega⟩ })
      match (lv.thread t).run with
      | .ready => lv.makeReady t
      | _ => lv.schedule

def execSchPrio (l : LaneId) (caller : Fin 128) (w : Word) (s : State) : Host.Outcome State Fault Refusal :=
  done (onLive l (fun lv => lv.byCaller caller (fun x => x.schPrio caller w)) s)

/-- SCH_YIELD: the caller goes to the tail of its ready list (R466). -/
def Live.schYield (lv : Live) (c : Fin 128) : Live := (lv.schResult c 0).makeReady c

def execSchYield (l : LaneId) (caller : Fin 128) (s : State) : Host.Outcome State Fault Refusal :=
  done (onLive l (fun lv => lv.byCaller caller (fun x => x.schYield caller)) s)

/-- SCH_WAIT of a kind (R455, R466): 0 tick, 1 cycle, 2 delay in µs. -/
def Live.schWait (lv : Live) (c : Fin 128) (kind delay : Nat) : Live :=
  match kind with
  | 0 => (lv.schResult c 0).makeWait c .tick
  | 1 => (lv.schResult c 0).makeWait c .cycle
  | 2 => if delay = 0 then lv.schResult c 3 else (lv.schResult c 0).makeWait c (.delay (lv.clk + us delay))
  | _ => lv.schResult c 3

def execSchWaitTick (l : LaneId) (caller : Fin 128) (s : State) : Host.Outcome State Fault Refusal :=
  done (onLive l (fun lv => lv.byCaller caller (fun x => x.schWait caller 0 0)) s)

def execSchWaitCycle (l : LaneId) (caller : Fin 128) (s : State) : Host.Outcome State Fault Refusal :=
  done (onLive l (fun lv => lv.byCaller caller (fun x => x.schWait caller 1 0)) s)

def execSchWaitDelay (l : LaneId) (caller : Fin 128) (us : BitVec 24) (s : State) : Host.Outcome State Fault Refusal :=
  done (onLive l (fun lv => lv.byCaller caller (fun x => x.schWait caller 2 us.toNat)) s)

/-- WAIT_DELAY_EXPIRY: a delay has elapsed (R455). -/
def Live.delayOver (lv : Live) (t : Fin 128) : Live :=
  match (lv.thread t).run with
  | .waiting (.delay u) => if lv.due u then lv.makeReady t else lv
  | _ => lv

def execWaitDelayExpiry (l : LaneId) (t : Fin 128) (s : State) : Host.Outcome State Fault Refusal :=
  done (onLive l (fun lv => lv.delayOver t) s)

/-! ### Flows (R460 to R462, R464, R467) -/

/-- The bytes of 16 words, least significant first. -/
def bytesOf (ws : Vector Word 16) : List Byte := ws.toList.flatMap wordBytes

/-- FLW_POST: the staged item posted (R460, R467); an invalid flow is found before an invalid length. -/
def Live.flwPost (lv : Live) (c : Fin 128) : Live :=
  let q := lv.thread c
  let f : Fin 64 := ⟨q.pflow.toNat, q.pflow.isLt⟩
  let n := q.plen.toNat
  let set (x : Live) (r : Nat) : Live := x.modThread c (fun z => { z with presult := BitVec.ofNat 3 r })
  let bad := decide (lv.flowDepth f = 0) || match lv.flowPort f with
    | some p => !lv.portSends p
    | none => false
  if !bad && decide (64 < n) then set lv 4
  else
    let r := lv.post f { tag := q.ptag, info := lv.itemInfo n false 0 0, data := (bytesOf q.pdata).take n }
    let x := set r.2 r.1
    { x with sc := { x.sc with refusals := if r.1 = 1 then satInc x.sc.refusals else x.sc.refusals,
                               laneRefs := if r.1 = 2 then satInc x.sc.laneRefs else x.sc.laneRefs } }

def execFlwPost (l : LaneId) (caller : Fin 128) (s : State) : Host.Outcome State Fault Refusal :=
  done (onLive l (fun lv => lv.byCaller caller (fun x => x.flwPost caller)) s)

/-- FLW_TAKE (R461, R464, R467): an invalid flow is found before a held item. -/
def Live.flwTake (lv : Live) (c : Fin 128) (w : Word) : Live :=
  let f : Fin 64 := ⟨w.toNat % 64, by omega⟩
  let set (x : Live) (r : Nat) : Live := x.modThread c (fun z => { z with tresult := BitVec.ofNat 3 r })
  if lv.flowDepth f = 0 ∨ (lv.flowPort f).isSome = true then set lv 3
  else if (lv.thread c).held.isSome then set lv 4
  else
    let q := lv.flow f
    match q.serving, q.queue with
    | none, it :: rest =>
      let x := lv.modFlow f (fun z => { z with queue := rest, serving := some (.thread c, it) })
      x.modThread c (fun z => { z with held := some (f, it), tresult := 0 })
    | sv, _ =>
      if w.getLsbD 8 then
        let x := lv.makeWait c (.item f)
        x.modFlow f (fun z => { z with waiters := z.waiters ++ [c] })
      else set lv (if sv.isSome then 2 else 1)

def execFlwTake (l : LaneId) (caller : Fin 128) (w : Word) (s : State) : Host.Outcome State Fault Refusal :=
  done (onLive l (fun lv => lv.byCaller caller (fun x => x.flwTake caller w)) s)

/-- FLW_DONE: the service of the held item ends; ignored when none is held (R461, R467). -/
def execFlwDone (l : LaneId) (caller : Fin 128) (s : State) : Host.Outcome State Fault Refusal :=
  done (onLive l (fun lv => lv.byCaller caller (fun x => x.discardHeld caller)) s)

/-- A CAN port that may transmit now: it takes posts and is not bus-off (R72, R409, R464). -/
def Live.canTalks (lv : Live) (n : Fin 4) : Bool := lv.portSends n && decide ((lv.di.can[n]).errState ≠ 2)

/-- CAN_FRAME_TRANSMITTED: the frame first handed to a port is on the bus; an item served by the port has been sent and the
next one goes into service (R409, R464). -/
def Live.canSent (lv : Live) (n : Fin 4) : Live :=
  match lv.canTalks n, (lv.di.can[n]).tx with
  | true, fr :: rest =>
    let lv := { lv with di := { lv.di with can := vmod lv.di.can n (fun c => { c with
      tx := rest, framesTx := satInc c.framesTx, txErr := if c.txErr = 0 then 0 else c.txErr - 1 }) } }
    let mine (f : Fin 64) : Bool := match (lv.flow f).serving with
      | some (.port p, it) => decide (p = n) && decide (itemFrame it = fr)
      | _ => false
    match (List.finRange 64).find? mine with
    | some f => lv.endService f
    | none => lv
  | _, _ => lv

def execCanFrameTransmitted (l : LaneId) (n : Fin 4) (s : State) : Host.Outcome State Fault Refusal :=
  done (onLive l (fun lv => lv.canSent n) s)

/-! ### Check-value units (R341, R342, R468) -/

/-- A check-value unit changed. -/
def Live.modCvu (lv : Live) (u : Fin 16) (f : CvuSt → CvuSt) : Live :=
  { lv with sf := { lv.sf with cvu := vmod lv.sf.cvu u f } }

/-- A unit that takes writes: the application's, and not kennelled (R468). -/
def Live.cvuOpen (lv : Live) (u : Fin 16) : Bool :=
  decide (lv.num Obj.residentUnits ≤ u.val) && !lv.fl.kUnits.getLsbD u.val

/-- Bytes fed to a unit. -/
def Live.cvuFeed (lv : Live) (u : Fin 16) (bs : List Byte) : Live :=
  if lv.cvuOpen u then lv.modCvu u (fun q => { q with running := crc32Feed q.running bs }) else lv

/-- The alive check of a finish (R342). -/
def CvuSt.alive (q : CvuSt) (v : Byte) : Bool × CvuSt :=
  let d := (v - q.last).toNat
  if q.first ∨ d = 1 then (true, { q with last := v, first := false })
  else if 2 ≤ d ∧ d ≤ 1 + q.aliveSkip.toNat then (true, { q with last := v, skip := true })
  else (false, { q with reject := true })

/-- CVU_FINISH (R342, R463, R468): an injection on the unit's checker inverts the computed value (R302). -/
def Live.cvuFinish (lv : Live) (u : Fin 16) (w : Word) : Live :=
  if !lv.cvuOpen u then lv
  else
    let n := min 64 (w.toNat % 128)
    let inj := lv.injected (85 + u.val)
    let lv := inj.2
    let q := lv.sf.cvu[u]
    let run := crc32Feed q.running ((bytesOf q.buf).take n)
    let res := if inj.1.isSome then run else ~~~run
    let bad := decide (res ≠ q.expect)
    let q := { q with running := run, result := res, mismatch := q.mismatch || bad }
    let r := if w.getLsbD 8 then q.alive ((w >>> 16).setWidth 8) else (true, q)
    let lv := (lv.modCvu u (fun _ => r.2))
    let lv := { lv with sf := { lv.sf with
      aliveRej := if r.1 then lv.sf.aliveRej else satInc lv.sf.aliveRej,
      expMis := if bad then satInc lv.sf.expMis else lv.sf.expMis } }
    if bad && q.postEn then
      lv.hwPost ⟨q.postFlow.toNat, q.postFlow.isLt⟩
        { tag := BitVec.ofNat 32 u.val, info := lv.itemInfo 8 false 3 0, data := wordBytes res ++ wordBytes q.expect } 3
    else lv

/-- CVU_RESET: running value to its initial value, status cleared, `FIRST` set (R468). -/
def Live.cvuReset (lv : Live) (u : Fin 16) : Live :=
  if lv.cvuOpen u then
    lv.modCvu u (fun q => { q with running := 0xFFFFFFFF, mismatch := false, skip := false, reject := false,
                                   ctrlRef := false, first := true })
  else lv

/-- CVU_CTRL (R468): a post target that is resident or disabled is refused and shown by `CTRLREF`. -/
def Live.cvuCtrl (lv : Live) (u : Fin 16) (w : Word) : Live :=
  if !lv.cvuOpen u then lv
  else
    let lv := if w.getLsbD 31 then lv.cvuReset u else lv
    let f : Fin 64 := ⟨w.toNat / 256 % 64, by omega⟩
    let refuse := w.getLsbD 14 && decide (lv.flowDepth f = 0)
    lv.modCvu u (fun q =>
      let q := { q with aliveSkip := w.setWidth 4 }
      if refuse then { q with ctrlRef := true }
      else { q with postFlow := BitVec.ofNat 6 f.val, postEn := w.getLsbD 14 })

/-- A write of a register of a unit, by its offset (R468); none where no register stands there. -/
def Live.cvuWrite (lv : Live) (u : Fin 16) (off : Nat) (w : Word) : Option Live :=
  let set (f : CvuSt → CvuSt) : Option Live := some (if lv.cvuOpen u then lv.modCvu u f else lv)
  match off with
  | 0x00 => set (fun q => { q with running := w })
  | 0x04 => some (lv.cvuFeed u (wordBytes w))
  | 0x08 => some (lv.cvuFeed u [w.setWidth 8])
  | 0x0C => set (fun q => { q with expect := w })
  | 0x10 => some (lv.cvuFinish u w)
  | 0x14 => set (fun q => { q with mismatch := q.mismatch && !w.getLsbD 0, skip := q.skip && !w.getLsbD 1,
                                   reject := q.reject && !w.getLsbD 2, ctrlRef := q.ctrlRef && !w.getLsbD 6 })
  | 0x18 => some lv
  | 0x1C => some (lv.cvuCtrl u w)
  | 0x20 => some lv
  | _ =>
    if h : 0x40 ≤ off ∧ off < 0x80 ∧ off % 4 = 0 then
      set (fun q => { q with buf := vmod q.buf ⟨(off - 0x40) / 4, by omega⟩ (fun _ => w) })
    else none

def execCvuFeed (l : LaneId) (caller : Fin 128) (u : Fin 16) (w : Word) (s : State) : Host.Outcome State Fault Refusal :=
  done (onLive l (fun lv => lv.byCaller caller (fun x => x.cvuFeed u (wordBytes w))) s)

def execCvuFeedb (l : LaneId) (caller : Fin 128) (u : Fin 16) (w : Word) (s : State) : Host.Outcome State Fault Refusal :=
  done (onLive l (fun lv => lv.byCaller caller (fun x => x.cvuFeed u [w.setWidth 8])) s)

def execCvuFinish (l : LaneId) (caller : Fin 128) (u : Fin 16) (w : Word) (s : State) : Host.Outcome State Fault Refusal :=
  done (onLive l (fun lv => lv.byCaller caller (fun x => x.cvuFinish u w)) s)

def execCvuReset (l : LaneId) (caller : Fin 128) (u : Fin 16) (s : State) : Host.Outcome State Fault Refusal :=
  done (onLive l (fun lv => lv.byCaller caller (fun x => x.cvuReset u)) s)

def execCvuCtrl (l : LaneId) (caller : Fin 128) (u : Fin 16) (w : Word) (s : State) : Host.Outcome State Fault Refusal :=
  done (onLive l (fun lv => lv.byCaller caller (fun x => x.cvuCtrl u w)) s)

/-- CVU_DEFERRED_WRITE: a write issued while bytes were being fed takes effect after the last of them (R341). -/
def execCvuDeferredWrite (l : LaneId) (caller : Fin 128) (u : Fin 16) (reg : Byte) (w : Word) (s : State) :
    Host.Outcome State Fault Refusal :=
  done (onLive l (fun lv => lv.byCaller caller (fun x => (x.cvuWrite u reg.toNat w).getD x)) s)

/-! ### Jalsyn buffers (R469) -/

/-- A buffer is granted to the application (R475). -/
def Live.granted (lv : Live) (b : Nat) : Bool := tbit (natAt (lv.bytes Obj.appBuffers) (b / 8) 1) (b % 8)

/-- A buffer is named by a transmit entry (R469). -/
def Live.bufSends (lv : Live) (b : Nat) : Bool :=
  (List.range lv.entCount).any (fun e => decide (lv.entLength e ≠ 0 ∧ lv.entBuf e = b) && !lv.entRx e)

/-- `JSN_RESULT` of a caller. -/
def Live.jsnResult (lv : Live) (c : Fin 128) (r : Nat) : Live :=
  lv.modThread c (fun q => { q with jsnRes := BitVec.ofNat 2 r })

/-- JSN_SEL: a buffer selected and its receive page fixed (R469). -/
def Live.jsnSel (lv : Live) (c : Fin 128) (w : Word) : Live :=
  let b := w.toNat % 512
  let lv := lv.modThread c (fun q => { q with
    jsnSel := BitVec.ofNat 9 b, jsnPage := if lv.granted b then (lv.buf b).data else [], jsnSince := 0 })
  lv.jsnResult c (if lv.granted b then 0 else 1)

def execJsnSel (l : LaneId) (caller : Fin 128) (w : Word) (s : State) : Host.Outcome State Fault Refusal :=
  done (onLive l (fun lv => lv.byCaller caller (fun x => x.jsnSel caller w)) s)

/-- The answer to an access to the selected transmit buffer: 1 not granted, 3 not a transmit buffer (R469). -/
def Live.jsnCheck (lv : Live) (c : Fin 128) : Nat :=
  let b := (lv.thread c).jsnSel.toNat
  if !lv.granted b then 1 else if !lv.bufSends b then 3 else 0

/-- JSN_MARK: write page and send page exchanged, the buffer fresh (R364, R469). -/
def Live.jsnMark (lv : Live) (c : Fin 128) : Live :=
  let q := lv.thread c
  let r := lv.jsnCheck c
  if r ≠ 0 then lv.jsnResult c r
  else if 1400 < q.jsnLen.toNat then lv.jsnResult c 2
  else (lv.modBuf q.jsnSel.toNat (fun b => { b with
    data := b.page, page := b.data, slen := q.jsnLen.toNat, fresh := true })).jsnResult c 0

def execJsnMark (l : LaneId) (caller : Fin 128) (s : State) : Host.Outcome State Fault Refusal :=
  done (onLive l (fun lv => lv.byCaller caller (fun x => x.jsnMark caller)) s)

/-- A word of the write page written (R469). -/
def Live.jsnData (lv : Live) (c : Fin 128) (off : Nat) (w : Word) : Live :=
  let r := lv.jsnCheck c
  if r ≠ 0 then lv.jsnResult c r
  else (lv.modBuf (lv.thread c).jsnSel.toNat (fun b => { b with page := overlay b.page off (wordBytes w) })).jsnResult c 0

/-- A write of a `JSN_` register (R469). -/
def Live.jsnWrite (lv : Live) (c : Fin 128) (off : Nat) (w : Word) : Option Live :=
  match off with
  | 0x000 => some (lv.jsnSel c w)
  | 0x004 => some lv
  | 0x008 => some lv
  | 0x00C => some (lv.modThread c (fun q => { q with
      jsnLen := w.setWidth 11, jsnRes := if 1400 < w.toNat % 2048 then 2 else 0 }))
  | 0x010 => some (lv.jsnMark c)
  | 0x014 => some lv
  | 0x018 => some { lv with sc := { lv.sc with cpe := lv.sc.cpe &&& ~~~(w.setWidth 16) } }
  | _ => if 0x800 ≤ off ∧ off < 0xD78 ∧ off % 4 = 0 then some (lv.jsnData c (off - 0x800) w) else none

/-! ### Signal bus, faults, captures, time (R470 to R473) -/

/-- SIG_ENTRY_WRITE (R120, R456, R470): an application entry takes the value; a write in the freeze cycle misses the
next freeze. A write below entry 768 is a thread fault. -/
def Live.sigWrite (lv : Live) (c : Fin 128) (e : Fin 1024) (w : Word) (late : Bool) : Live :=
  if e.val < 768 then lv.threadFault c 7 (BitVec.ofNat 32 (0x40004000 + 4 * e.val))
  else { lv with en := { lv.en with
    appNext := if late then lv.en.appNext else lv.en.appNext.write 0 e.val w,
    appLate := lv.en.appLate.write none e.val (if late then some w else none),
    appWritten := lv.en.appWritten.write 0 e.val lv.ticks } }

def execSigEntryWrite (l : LaneId) (caller : Fin 128) (e : Fin 1024) (w : Word) (late : Bool) (s : State) :
    Host.Outcome State Fault Refusal :=
  done (onLive l (fun lv => lv.byCaller caller (fun x => x.sigWrite caller e w late)) s)

/-- A raise of a source within 1 ms of its last accepted one (R471). -/
def Live.flaSoon (lv : Live) (n : Fin 8) : Bool :=
  match lv.sc.flaAt[n] with
  | some t => decide (lv.clk < t + ms 1)
  | none => false

/-- FLA_RAISE: source 376 + `N` raised with the staged unit and syndrome; refused within 1 ms of the last accepted
raise of the source (R471). -/
def Live.flaRaise (lv : Live) (c : Fin 128) (n : Fin 8) : Live :=
  if lv.flaSoon n then { lv with sc := { lv.sc with flaRef := true } }
  else
    let q := lv.thread c
    ({ lv with sc := { lv.sc with flaRef := false, flaAt := vmod lv.sc.flaAt n (fun _ => some lv.clk) } }).raise
      (376 + n.val) q.flaUnit.toNat q.flaSyn

def execFlaRaise (l : LaneId) (caller : Fin 128) (n : Fin 8) (s : State) : Host.Outcome State Fault Refusal :=
  done (onLive l (fun lv => lv.byCaller caller (fun x => x.flaRaise caller n)) s)

/-- FLA_HSEL: a history record copied, 0 the newest (R471). -/
def Live.flaHsel (lv : Live) (c : Fin 128) (idx : Nat) : Live :=
  lv.modThread c (fun q => { q with hrec := lv.fl.history.reverse[idx]? })

def execFlaHsel (l : LaneId) (caller : Fin 128) (idx : Fin 32) (s : State) : Host.Outcome State Fault Refusal :=
  done (onLive l (fun lv => lv.byCaller caller (fun x => x.flaHsel caller idx.val)) s)

/-- LGC_TRIGGER: a trigger with source 0xFFFE; the caller's result says whether a capture is pending (R440, R472). -/
def Live.lgcTrigger (lv : Live) (c : Fin 128) : Live :=
  let r := lv.trigger 0xFFFE
  let res := if r.1 then 1 else if lv.im.pending.length < r.2.im.pending.length then 0 else 2
  let lv := if r.1 then r.2.raise 360 noUnit else r.2
  lv.modThread c (fun q => { q with lgcRes := BitVec.ofNat 2 res })

def execLgcTrigger (l : LaneId) (caller : Fin 128) (s : State) : Host.Outcome State Fault Refusal :=
  done (onLive l (fun lv => lv.byCaller caller (fun x => x.lgcTrigger caller)) s)

/-- TIM_TIMELO_READ: the upper word of the time read is latched for the caller (R473). -/
def Live.timLow (lv : Live) (c : Fin 128) (ph : Nat) : Live :=
  let at' : Live := { lv with clk := lv.start + ph }
  let t : Long := at'.timeStamp
  lv.modThread c (fun q => { q with timeHi := (t >>> 32).setWidth 32 })

def execTimTimeloRead (l : LaneId) (caller : Fin 128) (ph : Nat) (s : State) : Host.Outcome State Fault Refusal :=
  done (onLive l (fun lv => lv.byCaller caller (fun x => x.timLow caller ph)) s)

/-! ### Any register of the window (R465) -/

/-- A write of a `SCH_` register (R466). -/
def Live.schWrite (lv : Live) (c : Fin 128) (off : Nat) (w : Word) : Option Live :=
  match off with
  | 0x000 => some lv
  | 0x004 => some (lv.schStart c w)
  | 0x008 => some (lv.schStop c w)
  | 0x00C => some (lv.schPrio c w)
  | 0x010 => some (lv.schYield c)
  | 0x014 => some (lv.schWait c (w.toNat % 4) (w.toNat / 256))
  | 0x018 => some lv
  | 0x01C => some lv
  | _ => if 0x200 ≤ off ∧ off < 0x400 ∧ off % 4 = 0 then some lv else none

/-- A write of a `FLW_` register (R467). -/
def Live.flwWrite (lv : Live) (c : Fin 128) (off : Nat) (w : Word) : Option Live :=
  match off with
  | 0x000 => some (lv.modThread c (fun q => { q with pflow := w.setWidth 6 }))
  | 0x004 => some (lv.modThread c (fun q => { q with ptag := w }))
  | 0x008 => some (lv.modThread c (fun q => { q with plen := w.setWidth 7 }))
  | 0x00C => some (lv.flwPost c)
  | 0x010 => some lv
  | 0x014 => some (lv.flwTake c w)
  | 0x018 => some lv
  | 0x01C => some (lv.discardHeld c)
  | 0x020 => some lv
  | 0x024 => some lv
  | 0x028 => some lv
  | _ =>
    if h : 0x40 ≤ off ∧ off < 0x80 ∧ off % 4 = 0 then
      some (lv.modThread c (fun q => { q with pdata := vmod q.pdata ⟨(off - 0x40) / 4, by omega⟩ (fun _ => w) }))
    else if (0x80 ≤ off ∧ off < 0xC0 ∨ 0x100 ≤ off ∧ off < 0x200) ∧ off % 4 = 0 then some lv
    else none

/-- A write of a `FLA_` register (R471). -/
def Live.flaWrite (lv : Live) (c : Fin 128) (off : Nat) (w : Word) : Option Live :=
  match off with
  | 0x000 => some (lv.modThread c (fun q => { q with flaSyn := w }))
  | 0x004 => some (lv.modThread c (fun q => { q with flaUnit := w.setWidth 16 }))
  | 0x008 => some (lv.flaRaise c ⟨w.toNat % 8, by omega⟩)
  | 0x018 => some (lv.flaHsel c (w.toNat % 32))
  | _ =>
    if off % 4 = 0 ∧ (off = 0x0C ∨ off = 0x10 ∨ off = 0x1C ∨ (0x20 ≤ off ∧ off < 0x38) ∨ (0x40 ≤ off ∧ off < 0x5C)) then
      some lv
    else none

/-- A write at an aligned offset of the window; none where no register stands (R456, R465). -/
def Live.windowWrite (lv : Live) (c : Fin 128) (off : Nat) (w : Word) : Option Live :=
  match off / 0x1000 with
  | 0 => lv.schWrite c off w
  | 1 => lv.flwWrite c (off % 0x1000) w
  | 2 => lv.cvuWrite ⟨off / 0x100 % 16, by omega⟩ (off % 0x100) w
  | 3 => lv.jsnWrite c (off % 0x1000) w
  | 4 => some (lv.sigWrite c ⟨off % 0x1000 / 4, by omega⟩ w false)
  | 5 => lv.flaWrite c (off % 0x1000) w
  | 6 =>
    let o := off % 0x1000
    if o = 0 then some (lv.lgcTrigger c) else if o % 4 = 0 ∧ o ≤ 0x10 then some lv else none
  | _ => if off % 0x1000 % 4 = 0 ∧ off % 0x1000 ≤ 0x1C then some lv else none

/-- APP_REGISTER_WRITE: a 32-bit write of a thread (R456, R465): exception code 6 where it is misaligned, 7 outside the
three regions or at an undefined offset. A write to the code or data region reaches the application's memory. -/
def Live.appWrite (lv : Live) (c : Fin 128) (addr w : Word) : Live :=
  let a := addr.toNat
  if a % 4 ≠ 0 then lv.threadFault c 6 addr
  else if 0x40000000 ≤ a ∧ a < 0x40008000 then
    match lv.windowWrite c (a - 0x40000000) w with
    | some x => x
    | none => lv.threadFault c 7 addr
  else if 0x600000 ≤ a ∧ a < 0x800000 then
    { lv with sc := { lv.sc with code := putBytes lv.sc.code (a - 0x600000) (wordBytes w) } }
  else if 0x20000000 ≤ a ∧ a < 0x20200000 then
    { lv with sc := { lv.sc with data := putBytes lv.sc.data (a - 0x20000000) (wordBytes w) } }
  else lv.threadFault c 7 addr

def execAppRegisterWrite (l : LaneId) (caller : Fin 128) (addr : Word) (w : Word) (s : State) :
    Host.Outcome State Fault Refusal :=
  done (onLive l (fun lv => lv.byCaller caller (fun x => x.appWrite caller addr w)) s)

/-- CLEAR_APP_COUNTERS (R475). -/
def execClearAppCounters (l : LaneId) (v : Byte) (s : State) : Host.Outcome State Fault Refusal :=
  done (onLive l (fun lv => lv.onZero v (fun x =>
    { x with sc := { x.sc with refusals := 0, laneRefs := 0, drops := 0, faults := 0 } })) s)

end Sys2Proof.Machine
end

