-- ==== Sys2Proof/Machine/Dict.lean ====
section
/-!
DEFINITION. The dictionary server: checks of a write, plain writes, the commands behind the `CMD` objects, the
replication of lane-shared writes, and USDO sessions (R384 to R404).
-/

namespace Sys2Proof.Machine

/-! ### Checks of a write -/

/-- A data length that an object's range does not allow (R393, R396). -/
def lengthCode (o : Obj) (n : Nat) : Option Word :=
  let bounds (lo hi : Nat) : Option Word := if n < lo then some abortShort else if hi < n then some abortLong else none
  match o.ty, o.range with
  | .str, .len lo hi | .dom, .len lo hi => bounds lo hi
  | .dom, .lenStep lo hi st => (bounds lo hi).orElse (fun _ => if n % st = 0 then none else some abortShort)
  | .dom, .lenOr x y => if n = x ∨ n = y then none else if n < max x y then some abortShort else some abortLong
  | .str, _ | .dom, _ => none
  | t, _ => bounds t.size t.size

/-- A download of zero bytes to a command whose only value is 0 executes as if 0 were written (R397). -/
def writtenBytes (o : Obj) (bs : List Byte) : List Byte :=
  if bs.isEmpty && decide (o.acc = .cmd ∧ o.range = .nat 0 0) then leBytes o.ty.size 0 else bs

/-- The checks of a write against existence, access, type and range (R394 to R397, R404); the answer is the object and
the bytes written, or the abort code. -/
def checkWrite (idx sub : Nat) (bs : List Byte) : Except Word (Obj × List Byte) :=
  match findObj idx sub with
  | none => .error (if indexExists idx then abortNoSub else abortNoObject)
  | some o =>
    if o.acc = .ro ∨ o.acc = .img then .error abortReadOnly
    else
      let bs := writtenBytes o bs
      match lengthCode o bs.length with
      | some c => .error c
      | none =>
        if (o.ty = .f32 && !F32.finite (BitVec.ofNat 32 (leNat bs))) || !o.range.holds bs then .error abortRange
        else .ok (o, bs)

/-- The ties of a plain write to other objects in effect (R305, R395, R409, R411, R451): a capture that exists, a data
rate of the port's mode, filters without reserved bits. -/
def tied (x : LiveStore) (idx sub : Nat) (bs : List Byte) : Option Word :=
  let v := leNat bs
  let lv := x.1
  if idx = 0x4C60 ∧ sub = 0x0C ∧ x.2.captures.length < v then some abortRange
  else if 0x1F00 ≤ idx ∧ idx < 0x1F04 then
    let n := idx - 0x1F00
    if sub = 1 ∧ v ≠ 0 ∧ lv.canUnusable (idxOf 4 n) = true then some abortCheck
    else if sub = 1 ∧ v ≠ 2 ∧ 4 < lv.rcNum Obj.canDataRate n then some abortRange
    else if sub = 3 ∧ 4 < v ∧ lv.rcNum Obj.canMode n ≠ 2 then some abortRange
    else none
  else if 0x1F08 ≤ idx ∧ idx < 0x1F0C then
    let bad (e : Nat) : Bool :=
      let w (k : Nat) : Nat := natAt bs (12 * e + 4 * k) 4
      decide (bits (w 0) 30 29 ≠ 0 ∨ bits (w 1) 31 29 ≠ 0 ∨ bits (w 2) 31 8 ≠ 0 ∨ (64 ≤ w 2 % 256 ∧ w 2 % 256 < 255))
    if (List.range 16).any bad then some abortRange else none
  else none

/-! ### Plain writes -/

/-- A `RW` or `RC` object whose write has a row of its own. -/
def ownRow (idx sub : Nat) : Bool :=
  decide ((idx, sub) ∈ ([(0x5400, 2), (0x5420, 8), (0x5430, 0x1E), (0x5440, 2), (0x5440, 8)] : List (Nat × Nat)))

/-- A checked write to a `RW` or `RC` object stored (R394, R395, R433): a `RW` value at once, an `RC` value for the end of
the session that must be open on the path in STANDBY. -/
def plainWrite (path : Path) (idx sub : Nat) (o : Obj) (bs : List Byte) (x : LiveStore) : Live :=
  let lv := x.1
  let i := idx - o.idx
  let k := sub - o.sub
  if o.acc = .rc ∧ (lv.standby && lv.sessionOn path) = false then lv.abortWith (some path) abortState
  else match tied x idx sub bs with
    | some c => lv.abortWith (some path) c
    | none =>
      if o.acc = .rc then
        ({ lv with im := { lv.im with rcPending := lv.im.rcPending.insert (o.key i k) bs } }).accept (some path)
      else (lv.setRw o i k bs).accept (some path)

/-- DICTIONARY_WRITE: a write to a `RW` or `RC` object without its own row (R387, R394, R395). -/
def dictionaryWrite (path : Path) (idx sub : Nat) (bs : List Byte) (x : LiveStore) : LiveStore :=
  let lv := x.1
  if !lv.answers then x
  else if !lv.writes then (lv.abortWith (some path) abortState, x.2)
  else match checkWrite idx sub bs with
    | .error c => (lv.abortWith (some path) c, x.2)
    | .ok (o, v) => if o.acc = .cmd ∨ ownRow idx sub = true then x else (plainWrite path idx sub o v x, x.2)

def execDictionaryWrite (l : LaneId) (path : Path) (idx : Half) (sub : Byte) (data : List Byte) (s : State) :
    Host.Outcome State Fault Refusal :=
  done (onStore l (fun _ => dictionaryWrite path idx.toNat sub.toNat data) s)

/-! ### Counters of the server and of the CAN ports -/

/-- CLEAR_CAN_COUNTERS (R409): the counters of a port. -/
def CanSt.clearCounts (c : CanSt) : CanSt := { c with txErr := 0, rxErr := 0, busOffs := 0, framesRx := 0, framesTx := 0 }

def execClearCanCounters (l : LaneId) (n : Fin 4) (v : Byte) (s : State) : Host.Outcome State Fault Refusal :=
  done (onLive l (fun lv => lv.onZero v (fun x =>
    { x with di := { x.di with can := vmod x.di.can n CanSt.clearCounts } })) s)

/-- CLEAR_SERVER_COUNTERS (R412). -/
def execClearServerCounters (l : LaneId) (v : Byte) (s : State) : Host.Outcome State Fault Refusal :=
  done (onLive l (fun lv => lv.onZero v (fun x =>
    { x with di := { x.di with refusals := 0, aborts := 0, repFails := 0, ignored := 0 } })) s)

/-! ### The commands behind the `CMD` objects -/

/-- The state that a command answers, the old one where it answers none. -/
def after (o : Host.Outcome State Fault Refusal) (s : State) : State :=
  match o with
  | .next t => t
  | _ => s

/-- The state with the next free value drawn. -/
def State.drawn (s : State) : State := { s with free := s.free + 1 }

/-- A write to a lane-local `CMD` object, or to a `RW` object with a row of its own, carried out as that row. -/
def localCommand (l : LaneId) (path : Path) (idx sub : Nat) (bs : List Byte) (s : State) : State :=
  let n := leNat bs
  let v : Byte := BitVec.ofNat 8 n
  let w : Word := BitVec.ofNat 32 n
  let run (f : State → Host.Outcome State Fault Refusal) : State := after (f s) s
  if 0x1F00 ≤ idx ∧ idx < 0x1F04 then run (execClearCanCounters l (idxOf 4 (idx - 0x1F00)) v)
  else if 0x3C10 ≤ idx ∧ idx < 0x3C18 then run (execClearPortCounters l (idxOf 8 (idx - 0x3C10)) v)
  else if 0x4000 ≤ idx ∧ idx < 0x4008 then
    let p : Fin 8 := idxOf 8 (idx - 0x4000)
    if sub = 0x16 then run (execCounterPreset l p w) else run (execClearFeedbackCounters l p v)
  else match idx, sub with
    | 0x1F20, _ => run (execClearServerCounters l v)
    | 0x2430, _ => run (execClearLinkCounters l v)
    | 0x3410, _ => run (execClearPeaks l v)
    | 0x3431, _ => run (execClearPassCounters l v)
    | 0x3802, _ => run (execClearAcqFlags l v)
    | 0x3C00, _ => run (execClearGateDriveCounters l v)
    | 0x3C20, 0x0F => run (execCableTest l path v)
    | 0x3C20, _ => run (execClearWiringCounters l v)
    | 0x4020, _ => run (execClearSentCounters l v)
    | 0x4420, _ => run (execClearJalsynCounters l v)
    | 0x4830, _ => (run (execSoutUnlock l path v (Config.unlockVolts s.free).toNat)).drawn
    | 0x4840, _ => run (execClearCvuCounters l v)
    | 0x4850, _ => run (execClearSafeDataCounters l v)
    | 0x4C10, _ => run (execClearHistory l path v)
    | 0x4C20, _ => run (execClearFirst l path v)
    | 0x4C30, _ => (run (execKennelRelease l path (BitVec.ofNat 16 n) (Config.releaseTest s.free))).drawn
    | 0x4C50, _ => run (execInjectArm l path v)
    | 0x4C60, 0x07 => run (execLogTrigger l v)
    | 0x4C60, _ => run (execLogbookErase l path v)
    | 0x5000, _ => run (execClearClockCounters l v)
    | 0x5020, _ => run (execFrequencyMeterStart l v)
    | 0x5030, 0x06 => run (execLaneReset l path v)
    | 0x5030, 0x07 => run (execCrossReset l path v)
    | 0x5030, _ => run (execClearSupplyCounters l v)
    | 0x5400, _ => run (execStageData l path bs)
    | 0x5420, 0x08 => run (execLoadData l path bs)
    | 0x5420, _ => run (execFirmwareActivate l path w)
    | 0x5430, 0x1A => run (execKeyProgram l path v)
    | 0x5430, 0x1B => run (execKeyRevoke l path v)
    | 0x5430, 0x1E => run (execAttestChallenge l path bs)
    | 0x5430, _ => run (execAttestRegenerate l path v)
    | 0x5440, 0x02 => run (execSessionResponse l path bs)
    | 0x5440, 0x06 => run (execSessionClose l path v)
    | 0x5440, _ => run (execDebugResponse l path bs)
    | 0x5850, _ => run (execClearAppCounters l v)
    | _, _ => s

/-! ### Lane-shared commands -/

/-- The state conditions of a lane-shared write at a lane; `entry` is the path of the write at the entry lane (R399,
R423, R513). -/
def sharedRefusal (entry : Option Path) (idx sub : Nat) (v : Nat) (x : LiveStore) : Option Word :=
  let lv := x.1
  if !lv.joined then some abortState
  else match idx with
    | 0x5040 => if lv.powerGuard && !(decide (2 ≤ v) && lv.su.idle) then none else some abortState
    | 0x5410 => configRefusal sub entry (BitVec.ofNat 32 v) x
    | _ => none

/-- A refused `PowerRequest` shows in `LastEntryResult` (R528). -/
def Live.noteRefusal (lv : Live) (idx : Nat) : Live :=
  if idx = 0x5040 then lv.modSupply (fun u => { u with result := 3 }) else lv

/-- A lane-shared command carried out at a lane at its apply tick (R399): what the server answers is the entry lane's. -/
def applyShared (l : LaneId) (idx sub : Nat) (v : Nat) (s : State) : State :=
  let w : Word := BitVec.ofNat 32 v
  let di := (s.lane l).live.di
  let run (f : State → Host.Outcome State Fault Refusal) : State := after (f s) s
  let t := match idx, v with
    | 0x2021, 1 => run (execModeRequestStandby l)
    | 0x2021, 2 => run (execModeRequestRun l)
    | 0x2021, _ => run (execModeRequestSafe l)
    | 0x5040, 0 => run (execPowerRequestRun l)
    | 0x5040, 1 => run (execPowerRequestIdle l)
    | 0x5040, 2 => run (execPowerRequestSleep l)
    | 0x5040, _ => run (execPowerRequestDeep l)
    | _, _ => onStore l (configAct sub · w ·) s
  onLive l (fun x => { x with di := { x.di with reply := di.reply, aborts := di.aborts } }) t

/-- The lanes that must answer a replication (R398, R401). -/
def Live.mustAnswer (lv : Live) : List LaneId := lv.me.others.filter lv.sees

/-- A message joins a queue: COMMIT and CANCEL go ahead of the others (R400). -/
def enqueue (q : List DictBlock) (b : DictBlock) : List DictBlock :=
  let first (x : DictBlock) : Bool := decide (x.kind = .commit ∨ x.kind = .cancel)
  if first b then q.filter first ++ [b] ++ q.filter (fun x => !first x) else q ++ [b]

/-- A message queued on one link. -/
def Live.queueOn (lv : Live) (d : LinkDir) (b : DictBlock) : Live :=
  match d with
  | .fwd => { lv with di := { lv.di with txFwd := enqueue lv.di.txFwd b } }
  | .back => { lv with di := { lv.di with txBack := enqueue lv.di.txBack b } }

/-- A message queued on both links. -/
def Live.queueBoth (lv : Live) (b : DictBlock) : Live := (lv.queueOn .fwd b).queueOn .back b

/-- A message about a replication (R400). -/
def Replication.block (r : Replication) (me : LaneId) (k : DictKind) (arg : Word) : DictBlock :=
  { tick := 0, kind := k, seq := r.seq, origin := me, len := BitVec.ofNat 8 r.len, index := r.index, sub := r.sub,
    arg := arg, value := r.value, crc := 0 }

/-- A session of the server released. -/
def Live.release' (lv : Live) (path : Path) (sid : Byte) : Live :=
  { lv with di := { lv.di with sessions := lv.di.sessions.filter (fun q => !(decide (q.path = path ∧ q.sid = sid))) } }

/-- The session of a path and identifier (R389). -/
def Live.sessionOf (lv : Live) (path : Path) (sid : Byte) : Option UsdoSession :=
  lv.di.sessions.find? (fun q => decide (q.path = path ∧ q.sid = sid))

/-- An abort sent to the client, which ends its session (R389, R396). -/
def Live.usdoAbort (lv : Live) (path : Path) (sid : Byte) (code : Word) : Live :=
  let lv := (lv.release' path sid).respond path
    { path := some path, sid := sid, abort := some code, data := [], last := true }
  if lv.di.reply.isSome then { lv with di := { lv.di with aborts := satInc lv.di.aborts } } else lv

/-- The final response to a client, which ends its session (R389). -/
def Live.usdoDone (lv : Live) (path : Path) (sid : Byte) (data : List Byte := []) : Live :=
  (lv.release' path sid).respond path { path := some path, sid := sid, abort := none, data := data, last := true }

/-- The end of this lane's replication by an abort: CANCEL goes out unless COMMIT has (R401, R402). -/
def Live.cancelOwn (lv : Live) (r : Replication) (code : Word) : Live :=
  let lv := if r.applyAt.isNone then lv.queueBoth (r.block lv.me .cancel 0) else lv
  let lv := { lv with di := { lv.di with open' := none } }
  match lv.sessionOf r.path r.sid with
  | some _ => lv.usdoAbort r.path r.sid code
  | none => lv

/-- The start of a replication at the entry lane (R399, R401): PREPARE goes out in the next dictionary block. -/
def Live.replicate (lv : Live) (path : Path) (sid : Byte) (idx sub : Nat) (bs : List Byte) : Live :=
  let wait := max lv.di.txFwd.length lv.di.txBack.length
  let next := if lv.au.sentTick = some lv.tk.count then lv.ticks + 1 else lv.ticks
  let r : Replication :=
    { seq := lv.di.seq, index := BitVec.ofNat 16 idx, sub := BitVec.ofNat 8 sub, len := bs.length,
      value := BitVec.ofNat 64 (leNat bs), path := path, sid := sid, sentAt := next + wait, resent := false,
      accepts := [], applyAt := none }
  ({ lv with di := { lv.di with seq := lv.di.seq + 1, open' := some r } }).queueBoth (r.block lv.me .prepare 0)

/-- A received PREPARE (R399, R401, R402). A second copy of one that is held is accepted again. -/
def takePrepare (o : LaneId) (b : DictBlock) (x : LiveStore) : LiveStore :=
  let lv := x.1
  match lv.me.linkTo o with
  | none => x
  | some d =>
    let answer (lv : Live) (k : DictKind) (arg : Word) : Live := lv.queueOn d { b with kind := k, arg := arg }
    let same (q : Prepared) : Bool := decide (q.origin = o ∧ q.seq = b.seq)
    let clash (q : Prepared) : Bool := decide (q.index = b.index)
    let own : Option Replication := match lv.di.open' with
      | some r => if r.index = b.index then some r else none
      | none => none
    let loses : Bool := match own with
      | some r => r.applyAt.isNone && decide (lv.rankOf o < lv.rankOf lv.me)
      | none => true
    if lv.di.held.any same then (answer lv .accept 0, x.2)
    else if lv.di.held.any clash || !loses then (answer lv .refuse abortCheck, x.2)
    else match sharedRefusal none b.index.toNat b.sub.toNat b.value.toNat x with
      | some c => (answer (lv.noteRefusal b.index.toNat) .refuse c, x.2)
      | none =>
        let lv := match own with
          | some r => lv.cancelOwn r abortCheck
          | none => lv
        let p : Prepared :=
          { origin := o, seq := b.seq, index := b.index, sub := b.sub, value := b.value, at' := lv.ticks, applyAt := none }
        (answer { lv with di := { lv.di with held := lv.di.held ++ [p] } } .accept 0, x.2)

/-- A received answer to this lane's replication (R399, R401). -/
def Live.takeAnswer (lv : Live) (o : LaneId) (b : DictBlock) : Live :=
  match lv.di.open' with
  | some r =>
    if r.seq ≠ b.seq ∨ b.origin ≠ lv.me ∨ r.applyAt.isSome = true then lv
    else if b.kind = .refuse then lv.cancelOwn r b.arg
    else { lv with di := { lv.di with open' := some { r with accepts := if r.accepts.contains o then r.accepts else o :: r.accepts } } }
  | none => lv

/-- A received COMMIT or CANCEL (R399, R401): a copy processed after its apply tick counts as not received. -/
def Live.takeOrder (lv : Live) (o : LaneId) (b : DictBlock) : Live :=
  let mine (q : Prepared) : Bool := decide (q.origin = o ∧ q.seq = b.seq)
  if b.kind = .cancel then { lv with di := { lv.di with held := lv.di.held.filter (fun q => !mine q) } }
  else if (b.arg - lv.tickLow).toNat < 2 ^ 31 then
    let a := lv.ticks + (b.arg - lv.tickLow).toNat
    { lv with di := { lv.di with held := lv.di.held.map (fun q => if mine q then { q with applyAt := some a } else q) } }
  else lv

/-- A dictionary message processed at a tick start (R399, R400). -/
def takeMessage (o : LaneId) (b : DictBlock) (x : LiveStore) : LiveStore :=
  match b.kind with
  | .empty => x
  | .prepare => if b.origin = o then takePrepare o b x else x
  | .accept | .refuse => (x.1.takeAnswer o b, x.2)
  | .commit | .cancel => if b.origin = o then (x.1.takeOrder o b, x.2) else x

/-- The messages to process at this tick start, those of the higher-ranked lane first (R400, R402). -/
def Live.messages (lv : Live) : List (LaneId × DictBlock) :=
  let of' (d : LinkDir) : List (LaneId × DictBlock) := match (lv.rx d).dictPrev with
    | some b => [(lv.me.peer d, b)]
    | none => []
  let f := of' .fwd
  let b := of' .back
  if lv.rankOf (lv.me.peer .fwd) ≤ lv.rankOf (lv.me.peer .back) then f ++ b else b ++ f

/-- The open replication replaced. -/
def Live.withOpen (lv : Live) (r : Replication) : Live := { lv with di := { lv.di with open' := some r } }

/-- COMMIT is formed when every lane that must answer has accepted (R399): three copies that name the fourth tick from
now as the apply tick. -/
def Live.commitOwn (lv : Live) : Live :=
  match lv.di.open' with
  | some r =>
    if r.applyAt.isNone && decide (r.sentAt < lv.ticks) && lv.mustAnswer.all (fun o => r.accepts.contains o) then
      let a := lv.ticks + 4
      let b := r.block lv.me .commit (BitVec.ofNat 32 a)
      (((lv.queueBoth b).queueBoth b).queueBoth b).withOpen { r with applyAt := some a }
    else lv
  | none => lv

/-- A held PREPARE whose apply tick has come (R399). -/
def Prepared.ripe (q : Prepared) (t : Nat) : Bool := decide (q.applyAt = some t)

/-- The held PREPAREs whose apply tick is this one are carried out and leave the list (R399). -/
def applyHeld (l : LaneId) (s : State) : State :=
  let lv := (s.lane l).live
  let ripe := lv.di.held.filter (fun q => q.ripe lv.ticks)
  let s := onLive l (fun x => { x with di := { x.di with held := x.di.held.filter (fun q => !q.ripe lv.ticks) } }) s
  ripe.foldl (fun t q => applyShared l q.index.toNat q.sub.toNat q.value.toNat t) s

/-- The end of this lane's own replication (R399): the client's answer, if its session is still open. -/
def Live.endOwn (lv : Live) (r : Replication) : Live :=
  let lv := { lv with di := { lv.di with open' := none } }
  match lv.sessionOf r.path r.sid with
  | some _ => lv.usdoDone r.path r.sid
  | none => lv

/-- This lane's own replication at its apply tick: carried out, then answered (R399). -/
def applyOwn (l : LaneId) (s : State) : State :=
  let lv := (s.lane l).live
  match lv.di.open' with
  | some r =>
    if r.applyAt = some lv.ticks then
      onLive l (fun x => x.endOwn r) (applyShared l r.index.toNat r.sub.toNat r.value.toNat s)
    else s
  | none => s

/-- The dictionary at a tick start (R399, R400): the messages received two ticks ago, COMMIT, then the commands whose
apply tick this is, before any item of the tick. -/
def State.dictTick (s : State) (l : LaneId) : State :=
  let msgs := (s.lane l).live.messages
  let s := onStore l (fun _ x => msgs.foldl (fun y m => takeMessage m.1 m.2 y) x) s
  applyOwn l (applyHeld l (onLive l Live.commitOwn s))

/-! ### Limits of a replication (R401) -/

/-- REPLICATION_RESEND: an answer is missing 4 ticks after the PREPARE would have been processed. -/
def Live.resendPrepare (lv : Live) : Live :=
  match lv.di.open' with
  | some r =>
    if r.applyAt.isNone && !r.resent && decide (r.sentAt + 6 ≤ lv.ticks)
        && !lv.mustAnswer.all (fun o => r.accepts.contains o) then
      (lv.queueBoth (r.block lv.me .prepare 0)).withOpen { r with resent := true }
    else lv
  | none => lv

def execReplicationResend (l : LaneId) (s : State) : Host.Outcome State Fault Refusal :=
  done (onLive l Live.resendPrepare s)

/-- REPLICATION_FAILED: answers are missing 16 ticks after the first PREPARE; CANCEL, the abort 0x0800_0020, and a count
in `ReplicationFailures`. -/
def Live.failReplication (lv : Live) : Live :=
  match lv.di.open' with
  | some r =>
    if r.applyAt.isNone && decide (r.sentAt + 16 ≤ lv.ticks) && !lv.mustAnswer.all (fun o => r.accepts.contains o) then
      let lv := lv.cancelOwn r abortCheck
      { lv with di := { lv.di with repFails := satInc lv.di.repFails } }
    else lv
  | none => lv

def execReplicationFailed (l : LaneId) (s : State) : Host.Outcome State Fault Refusal :=
  done (onLive l Live.failReplication s)

/-- A held PREPARE without COMMIT or CANCEL 32 ticks after its ACCEPT. -/
def Prepared.lapsed (q : Prepared) (t : Nat) : Bool := q.applyAt.isNone && decide (q.at' + 32 ≤ t)

/-- PREPARE_DISCARD: every lapsed PREPARE is discarded and raises source 56 with the object index. -/
def Live.discardPrepares (lv : Live) : Live :=
  let gone := lv.di.held.filter (fun q => q.lapsed lv.ticks)
  let kept := lv.di.held.filter (fun q => !q.lapsed lv.ticks)
  gone.foldl (fun x q => x.raise 56 noUnit (q.index.setWidth 32)) { lv with di := { lv.di with held := kept } }

def execPrepareDiscard (l : LaneId) (s : State) : Host.Outcome State Fault Refusal :=
  done (onLive l Live.discardPrepares s)

end Sys2Proof.Machine
end

