-- ==== Sys2Proof/Machine/Inputs.lean ====
section
/-!
DEFINITION. The tick input frame and the agreement of inputs (R31, R32, R106, R107, R120, R168, R282 to R284).
-/

namespace Sys2Proof.Machine

/-! ### The tick input frame -/

/-- The raw value of `PSET` in its form (R107): the count, the frequency in mHz, or the duty. -/
def Live.psetRaw (lv : Live) : Word :=
  match lv.num Obj.psetForm with
  | 0 | 1 => lv.en.pset.count
  | 2 => lv.en.pset.freq
  | _ => lv.en.pset.duty

/-- The frozen conversion of `AINn`, channel `S181` + n (R159, R168). -/
def Live.ainCode (lv : Live) (n : Fin 4) : Half := lv.aq.frozen.read 0 (181 + n.val)

/-- The application entries frozen: those written before the freeze enter this tick's frame, the rest the next one's
(R120, R470). -/
def Live.freezeApp (lv : Live) : Live :=
  let lv := lv.en.appNext.foldl (fun (x : Live) p => x.setBus p.1 p.2) lv
  let next : NMap F32 := lv.en.appLate.foldl (fun (m : NMap F32) p => match p.2 with
    | some v => m.insert p.1 v
    | none => m) []
  { lv with en := { lv.en with appNext := next, appLate := [] } }

/-- One NTC temperature on the bus; out of its range it is held and stale (R180), of a kennelled channel invalid
(R293). -/
def Live.ntcEntry (lv : Live) (n : Fin 8) : Live :=
  (lv.setBus (323 + n.val) lv.aq.ntc[n]).flagBus (323 + n.val) (lv.fl.kChans.getLsbD (173 + n.val))
    (lv.aq.ntcBad.getLsbD n.val)

/-- FREEZE_INPUT_FRAME (R31, R120, R168): levels, conversions and application entries. -/
def Live.freezeInputs (lv : Live) (inp : TickInputs) : Live :=
  let lv := { lv with aq := { lv.aq with frozen := lv.aq.codes, ntc := lv.aq.ntcIn } }
  let f : TickFrame :=
    { sin := inp.sin, edm := inp.edm, whistle := inp.whistle, ain := Vector.ofFn (fun n => lv.ainCode n),
      pset := lv.psetRaw }
  let lv := { lv with tk := { lv.tk with frame := f, levels := inp } }
  let lv := forAll 8 (fun n (x : Live) => x.ntcEntry n) ((lv.setBus 321 lv.aq.vbat).flagBus 321 (lv.fl.kChans.getLsbD 169) false)
  lv.freezeApp

/-! ### Agreement rules -/

/-- An agreed input: its value, held stale or invalid, and copies that disagree (R282). -/
structure Agreed where
  value : Int
  stale : Bool := false
  bad   : Bool := false
  apart : Bool := false

/-- The previous value held stale. -/
def Agreed.held (prev : Int) : Agreed := { value := prev, stale := true }

/-- `EXACT` (R282). -/
def agreeExact (prev : Int) : List Int → Agreed
  | [] => Agreed.held prev
  | x :: xs => if xs.all (fun y => y == x) then { value := x } else { value := prev, stale := true, apart := true }

/-- `MEDIAN` (R282). -/
def agreeMedian (prev : Int) : List Int → Agreed
  | [x] => { value := x }
  | [x, y] => { value := (x + y).fdiv 2 }
  | x :: y :: z :: _ => { value := middle x y z }
  | [] => Agreed.held prev

/-- `2OO3` (R282). -/
def agreeTwo (prev : Int) (xs : List Int) : Agreed :=
  match xs.find? (fun x => decide (2 ≤ xs.count x)) with
  | some x => { value := x }
  | none => { value := prev, bad := true, apart := decide (2 ≤ xs.length) }

/-- `MIN` (R282). -/
def agreeMin (prev : Int) : List Int → Agreed
  | [] => Agreed.held prev
  | x :: xs => { value := xs.foldl min x }

/-- `MAX` (R282). -/
def agreeMax (prev : Int) : List Int → Agreed
  | [] => Agreed.held prev
  | x :: xs => { value := xs.foldl max x }

/-- An input agreed by the rule of a code (R282). -/
def agreeBy (rule : Nat) (prev : Int) (xs : List Int) : Agreed :=
  match rule with
  | 0 => agreeExact prev xs
  | 1 => agreeMedian prev xs
  | 2 => agreeTwo prev xs
  | 3 => agreeMin prev xs
  | _ => agreeMax prev xs

/-! ### Copies -/

/-- The record of a joined lane that holds its copies for this tick start, and whether it replaces a missing one
(R283). -/
def Live.copyFrom (lv : Live) (o : LaneId) : Option (TickRecord × Bool) :=
  if !lv.sees o then none
  else match lv.gotFrom o, lv.rxOf o with
    | some r, _ => some (r, false)
    | none, some q => if q.lost ∨ q.age ≠ 1 then none else q.last.map (fun r => (r, true))
    | none, none => none

/-- The records whose copies are present, the own one of the previous tick first (R31, R283). -/
def Live.copies (lv : Live) : List (TickRecord × Bool) :=
  (match lv.ownSent with
   | some r => [(r, false)]
   | none => []) ++ lv.me.others.filterMap lv.copyFrom

/-- Agreement counted and marked (R282). -/
def Live.disagree (lv : Live) (a : Agreed) : Live :=
  if a.apart then { lv with ps := { lv.ps with agreeDis := satInc lv.ps.agreeDis } } else lv

/-- The agreed levels of `SIN`, `EDM` and `WHISTLE` (R31): 1 only where every present copy reads 1. -/
def Live.agreeBits (lv : Live) (rs : List TickRecord) : Live :=
  if rs.isEmpty then
    (List.range 16).foldl (fun (x : Live) n => x.flagBus (336 + n) false true) lv
  else
    let w : Word := rs.foldl (fun v r => v &&& r.din) 0xFFFFFFFF
    let lv := { lv with ps := { lv.ps with sinPrev := w.setWidth 12, edmPrev := (w >>> 12).setWidth 4, whistle := w.getLsbD 16 } }
    (List.range 16).foldl (fun (x : Live) n => x.setBus (336 + n) (if w.getLsbD n then F32.ofNat 1 else 0)) lv

/-- An auxiliary analogue input agreed (R106): bus entry 331 + n. -/
def Live.agreeAin (lv : Live) (rs : List TickRecord) (n : Fin 4) : Live :=
  let prev : Half := lv.ps.ainPrev[n]
  let a := agreeBy (lv.num Obj.ainRule 0 n.val) prev.toInt (rs.map (fun r => (r.ain.getD n.val 0).toInt))
  let v : Half := BitVec.ofInt 16 a.value
  let lv := { lv with ps := { lv.ps with
    ainPrev := vmod lv.ps.ainPrev n (fun _ => v), ainMark := setBit lv.ps.ainMark n.val (a.stale || a.bad) } }
  let f := F32.ofRatio v.toInt 16384
  let lv := { lv with en := { lv.en with ain := vmod lv.en.ain n (fun q => { q with f := f }) } }
  ((lv.setBus (331 + n.val) f).flagBus (331 + n.val) a.bad a.stale).disagree a

/-- The agreed value of `PSET` as a bus value (R107, R118). -/
def Live.psetReal (lv : Live) (w : Word) : F32 :=
  if lv.num Obj.psetForm = 3 then w else F32.ofInt w.toInt

/-- The pulse setpoint input agreed (R107): bus entry 335; a lane that joins sets its counter to the agreed count. -/
def Live.agreePset (lv : Live) (rs : List TickRecord) : Live :=
  let a := agreeBy (lv.num Obj.psetRule) lv.ps.psetPrev.toInt (rs.map (fun r => r.psetv.toInt))
  let w : Word := BitVec.ofInt 32 a.value
  let join := lv.en.pset.join && !rs.isEmpty
  let lv := { lv with
    ps := { lv.ps with psetPrev := w, psetMark := a.stale || a.bad },
    en := { lv.en with pset := { lv.en.pset with
      agreed := w, count := if join then w else lv.en.pset.count, join := lv.en.pset.join && rs.isEmpty } } }
  ((lv.setBus 335 (lv.psetReal w)).flagBus 335 a.bad a.stale).disagree a

/-- AGREE_INPUTS (R31, R282 to R284). -/
def Live.agreeInputs (lv : Live) : Live :=
  let cs := lv.copies
  let inc := cs.any (fun p => p.2)
  let rs := cs.map (fun p => p.1)
  let lv := { lv with ps := { lv.ps with
    incNow := inc, agreeInc := if inc then satInc lv.ps.agreeInc else lv.ps.agreeInc } }
  (forAll 4 (fun n (x : Live) => x.agreeAin rs n) (lv.agreeBits rs)).agreePset rs

/-! ### Setpoints of the agreed inputs -/

/-- A setpoint that maps a fraction above `lo` linearly, over a span (R106, R107). -/
def mapSpan (x lo span a b : F32) : F32 := F32.add a (F32.mul (F32.div (F32.sub x lo) span) (F32.sub b a))

/-- An auxiliary input in its band (R106). -/
def Live.ainBand (lv : Live) (n : Fin 4) : Live :=
  let code := (lv.ps.ainPrev[n]).toNat * 100
  let q := lv.en.ain[n]
  let a := lv.real Obj.ainMin 0 n.val
  let b := lv.real Obj.ainMax 0 n.val
  let give (x : F32) (r : Bool) : AinSt := { q with value := some x, broken := none, range := r, invalid := false }
  let q' : AinSt :=
    if code < 4 * 16384 ∨ 96 * 16384 < code then { q with broken := some (q.broken.getD lv.start), range := false }
    else if code < 10 * 16384 then give a true
    else if code ≤ 90 * 16384 then give (mapSpan q.f (F32.dec 1 1) (F32.dec 8 1) a b) false
    else give b true
  { lv with en := { lv.en with ain := vmod lv.en.ain n (fun _ => q') } }

/-- The pulse input's setpoint; in the duty form a duty outside 0.05 to 0.95 is a broken wire, which for `AinFaultTime`
makes the input invalid and raises source 101 (R106, R107). -/
def Live.psetBand (lv : Live) : Live :=
  let q := lv.en.pset
  let put (x : PsetSt) (lv : Live) : Live := { lv with en := { lv.en with pset := x } }
  let v := lv.psetReal q.agreed
  let scale := lv.real Obj.psetScale
  match lv.num Obj.psetForm with
  | 0 | 1 => put { q with value := some (F32.mul v scale), broken := none, invalid := false } lv
  | 2 => put { q with value := some (F32.mul (F32.ofRatio q.agreed.toInt 1000) scale), broken := none, invalid := false } lv
  | _ =>
    if F32.ge v (F32.dec 5 2) && F32.le v (F32.dec 95 2) then
      let x := mapSpan v (F32.dec 5 2) (F32.dec 9 1) (lv.real Obj.psetPwmMin) (lv.real Obj.psetPwmMax)
      put { q with value := some x, broken := none, invalid := false } lv
    else
      let t := q.broken.getD lv.start
      let out := q.value.isNone || decide (t + ms (lv.num Obj.ainFaultTime) ≤ lv.start)
      let lv := put { q with broken := some t, invalid := q.invalid || out } lv
      if out && !q.invalid then lv.raise 101 noUnit (if q.value.isNone then 2 else 1) else lv

/-- Inputs at a tick start: agreement, setpoints, channel status, and the channel block of this tick (R282, R322). -/
def Live.inputTick (lv : Live) : Live :=
  let lv := (forAll 4 (fun n (x : Live) => x.ainBand n) lv.agreeInputs).psetBand.formStatus
  { lv with sf := { lv.sf with sinvNow := lv.verdicts, sdvNow := lv.sdv } }

end Sys2Proof.Machine
end

