-- ==== Sys2Proof/Machine/Usdo.lean ====
section
/-!
DEFINITION. The USDO transfers of the dictionary server (R385 to R392, R397), the tunnel (R386), and the CAN ports
(R408 to R411).
-/

namespace Sys2Proof.Machine

/-- The lane-shared `CMD` objects (R69, R423, R513). -/
def isShared (idx : Nat) : Bool := decide (idx = 0x2021 ∨ idx = 0x5040 ∨ idx = 0x5410)

/-- A path over which the lane serves its dictionary (R384, R387). -/
def Live.served (lv : Live) (path : Path) : Bool :=
  lv.answers && match path with
  | .can n => lv.canOn n && decide ((lv.di.can[n]).errState.toNat < 2) && decide (lv.rcNum Obj.canUsdoServer n.val = 1)
  | .tunnel _ => decide (lv.num Obj.tunnelRxBuffer < 512)

/-- An abort by the client, or a new initiate request under the same identifier (R389, R392): the session ends without
effect on the object; a replication that has not sent COMMIT is cancelled. -/
def Live.clientEnds (lv : Live) (path : Path) (sid : Byte) : Live :=
  let lv := lv.release' path sid
  match lv.di.open' with
  | some r => if r.path = path ∧ r.sid = sid ∧ r.applyAt.isNone = true then lv.cancelOwn r abortCheck else lv
  | none => lv

/-- A session opened (R389). -/
def Live.openSession (lv : Live) (q : UsdoSession) : Live :=
  { lv with di := { lv.di with sessions := lv.di.sessions ++ [q] } }

/-- An answer that leaves the session open. -/
def Live.usdoMore (lv : Live) (path : Path) (sid : Byte) (data : List Byte := []) : Live :=
  lv.respond path { path := some path, sid := sid, abort := none, data := data, last := false }

/-- An initiate request that would open a 17th session (R390). -/
def Live.usdoFull (lv : Live) (path : Path) (sid : Byte) : Live :=
  ({ lv with di := { lv.di with refusals := satInc lv.di.refusals } }).usdoAbort path sid abortSessions

/-- The answer that a command's row left goes to the client, success where it left none; a lane that no longer answers
sends nothing. -/
def Live.finish (lv : Live) (path : Path) (sid : Byte) : Live :=
  if !lv.answers then lv
  else match lv.di.reply with
    | some r => (lv.release' path sid).respond path { r with path := some path, sid := sid }
    | none => lv.usdoDone path sid

/-- No answer pending. -/
def Live.noReply (lv : Live) : Live := { lv with di := { lv.di with reply := none } }

/-- A write to a lane-shared command at its entry lane (R399, R401): the state conditions, one replication at a time,
then the replication, for which the session stays open. -/
def startShared (path : Path) (sid : Byte) (idx sub : Nat) (bs : List Byte) (x : LiveStore) : LiveStore :=
  let lv := x.1
  match sharedRefusal (some path) idx sub (leNat bs) x with
  | some c => ((lv.noteRefusal idx).usdoAbort path sid c, x.2)
  | none =>
    if lv.di.open'.isSome then (lv.usdoAbort path sid abortState, x.2)
    else
      let q : UsdoSession :=
        { path := path, sid := sid, index := BitVec.ofNat 16 idx, sub := BitVec.ofNat 8 sub, upload := false, data := [],
          size := 0, last := lv.clk }
      ((((lv.release' path sid).openSession q).noReply).replicate path sid idx sub bs, x.2)

/-- A complete download carried out (R392 to R399). -/
def usdoWrite (l : LaneId) (path : Path) (sid : Byte) (idx sub : Nat) (bs : List Byte) (s : State) : State :=
  let lv := (s.lane l).live
  if !lv.writes then onLive l (fun x => x.usdoAbort path sid abortState) s
  else match checkWrite idx sub bs with
    | .error c => onLive l (fun x => x.usdoAbort path sid c) s
    | .ok (o, v) =>
      if o.acc = .cmd ∧ isShared idx = true then onStore l (fun _ x => startShared path sid idx sub v x) s
      else
        let s := onLive l Live.noReply s
        let s := if o.acc = .cmd ∨ ownRow idx sub = true then localCommand l path idx sub v s
          else onStore l (fun _ x => (plainWrite path idx sub o v x, x.2)) s
        onLive l (fun x => x.finish path sid) s

/-- The checks that a segmented download meets when it is initiated (R394, R404). -/
def checkInitiate (idx sub size : Nat) : Option Word :=
  match findObj idx sub with
  | none => some (if indexExists idx then abortNoSub else abortNoObject)
  | some o =>
    if o.acc = .ro ∨ o.acc = .img then some abortReadOnly
    else if size = 0 ∧ o.acc = .cmd ∧ o.range = .nat 0 0 then none
    else lengthCode o size

/-- USDO_DOWNLOAD_INITIATE. -/
def downloadInit (l : LaneId) (path : Path) (sid : Byte) (idx sub : Nat) (size : Nat) (data : Option (List Byte))
    (s : State) : State :=
  if !((s.lane l).live.served path) then s
  else
    let s := onLive l (fun x => x.clientEnds path sid) s
    let lv := (s.lane l).live
    if 16 ≤ lv.di.sessions.length then onLive l (fun x => x.usdoFull path sid) s
    else match data with
      | some bs => usdoWrite l path sid idx sub bs s
      | none =>
        if !lv.writes then onLive l (fun x => x.usdoAbort path sid abortState) s
        else match checkInitiate idx sub size with
          | some c => onLive l (fun x => x.usdoAbort path sid c) s
          | none =>
            let q : UsdoSession :=
              { path := path, sid := sid, index := BitVec.ofNat 16 idx, sub := BitVec.ofNat 8 sub, upload := false,
                data := [], size := size, last := lv.clk }
            onLive l (fun x => (x.openSession q).usdoMore path sid) s

def execUsdoDownloadInitiate (l : LaneId) (path : Path) (sid : Byte) (idx : Half) (sub : Byte) (size : Nat)
    (data : Option (List Byte)) (s : State) : Host.Outcome State Fault Refusal :=
  done (downloadInit l path sid idx.toNat sub.toNat size data s)

/-- The session of a path and identifier that a segment of the given direction continues; the one of a replication takes
no segment (R391, R396). -/
def Live.segmented (lv : Live) (path : Path) (sid : Byte) (upload : Bool) : Option UsdoSession :=
  match lv.sessionOf path sid with
  | some q =>
    let own : Bool := match lv.di.open' with
      | some r => decide (r.path = path ∧ r.sid = sid)
      | none => false
    if q.upload = upload ∧ own = false then some q else none
  | none => none

/-- A segment without a session, or of the wrong kind (R391). -/
def Live.straySegment (lv : Live) (path : Path) (sid : Byte) : Live :=
  (lv.clientEnds path sid).usdoAbort path sid abortNoSession

/-- USDO_DOWNLOAD_SEGMENT: the last segment carries the write out (R392). -/
def downloadSegment (l : LaneId) (path : Path) (sid : Byte) (data : List Byte) (last : Bool) (s : State) : State :=
  let lv := (s.lane l).live
  if !lv.served path then s
  else match lv.segmented path sid false with
    | none => onLive l (fun x => x.straySegment path sid) s
    | some q =>
      let got := q.data ++ data
      if q.size < got.length then onLive l (fun x => x.usdoAbort path sid abortLong) s
      else if last then
        if got.length < q.size then onLive l (fun x => x.usdoAbort path sid abortShort) s
        else usdoWrite l path sid q.index.toNat q.sub.toNat got s
      else onLive l (fun x => ((x.release' path sid).openSession { q with data := got, last := x.clk }).usdoMore path sid) s

def execUsdoDownloadSegment (l : LaneId) (path : Path) (sid : Byte) (data : List Byte) (last : Bool) (s : State) :
    Host.Outcome State Fault Refusal :=
  done (downloadSegment l path sid data last s)

/-- Bytes in one USDO message: at least the four of an expedited transfer, at most 60 (R385, R392; log entry 58). -/
def partSize : Nat := 4 + Config.usdoPart % 57

/-- A content on its way to the client: in one message, or the first answer of a segmented upload (R392). -/
def Live.upload (lv : Live) (path : Path) (sid : Byte) (idx sub : Nat) (bs : List Byte) : Live :=
  if bs.length ≤ partSize then lv.usdoDone path sid bs
  else
    let q : UsdoSession :=
      { path := path, sid := sid, index := BitVec.ofNat 16 idx, sub := BitVec.ofNat 8 sub, upload := true, data := bs,
        size := bs.length, last := lv.clk }
    ((lv.release' path sid).openSession q).usdoMore path sid

/-- What the row of a special read answered, handed on as an upload (R432, R451). -/
def Live.uploadReply (lv : Live) (path : Path) (sid : Byte) (idx sub : Nat) : Live :=
  match lv.di.reply with
  | some r => match r.abort with
    | some _ => lv.finish path sid
    | none => lv.upload path sid idx sub r.data
  | none => lv

/-- USDO_UPLOAD_INITIATE: the content as it stands now (R392). Reading `Challenge` or `ReadData` is that row's read, and
reading `LogStatus` clears its truncation bit (R451). -/
def uploadInit (l : LaneId) (path : Path) (sid : Byte) (idx sub : Nat) (s : State) : State :=
  if !((s.lane l).live.served path) then s
  else
    let s := onLive l (fun x => x.clientEnds path sid) s
    let lv := (s.lane l).live
    if 16 ≤ lv.di.sessions.length then onLive l (fun x => x.usdoFull path sid) s
    else match findObj idx sub with
      | none => onLive l (fun x => x.usdoAbort path sid (if indexExists idx then abortNoSub else abortNoObject)) s
      | some o =>
        if o.acc = .cmd then onLive l (fun x => x.usdoAbort path sid abortWriteOnly) s
        else if idx = 0x5440 ∧ sub = 1 then
          onLive l (fun x => x.uploadReply path sid idx sub) (after (execChallengeRead l path (onLive l Live.noReply s)) s)
        else if idx = 0x4C60 ∧ sub = 0x0E then
          onLive l (fun x => x.uploadReply path sid idx sub) (after (execReadData l path (onLive l Live.noReply s)) s)
        else
          onStore l (fun p x =>
            let v := objectValue s.serial p x o idx sub
            let lv := x.1
            let lv := if idx = 0x4C60 ∧ sub = 0x10 then { lv with im := { lv.im with truncated := false } } else lv
            (lv.upload path sid idx sub v, x.2)) s

def execUsdoUploadInitiate (l : LaneId) (path : Path) (sid : Byte) (idx : Half) (sub : Byte) (s : State) :
    Host.Outcome State Fault Refusal :=
  done (uploadInit l path sid idx.toNat sub.toNat s)

/-- USDO_UPLOAD_SEGMENT: the next part of the snapshot (R392). -/
def Live.uploadSegment (lv : Live) (path : Path) (sid : Byte) : Live :=
  if !lv.served path then lv
  else match lv.segmented path sid true with
    | none => lv.straySegment path sid
    | some q =>
      let part := q.data.take partSize
      let rest := q.data.drop partSize
      if rest.isEmpty then lv.usdoDone path sid part
      else ((lv.release' path sid).openSession { q with data := rest, last := lv.clk }).usdoMore path sid part

def execUsdoUploadSegment (l : LaneId) (path : Path) (sid : Byte) (s : State) : Host.Outcome State Fault Refusal :=
  done (onLive l (fun lv => lv.uploadSegment path sid) s)

/-- USDO_ABORT: the client's abort closes its session (R389, R392). -/
def execUsdoAbort (l : LaneId) (path : Path) (sid : Byte) (s : State) : Host.Outcome State Fault Refusal :=
  done (onLive l (fun lv => if lv.served path then lv.clientEnds path sid else lv) s)

/-- USDO_TIMEOUT: a segmented transfer in which no segment came for `UsdoTimeout` (R391). -/
def Live.usdoTimeout (lv : Live) (path : Path) (sid : Byte) : Live :=
  match lv.sessionOf path sid with
  | some q =>
    if (lv.segmented path sid q.upload).isSome && lv.due (q.last + ms (lv.rcNum Obj.usdoTimeout)) then
      lv.usdoAbort path sid abortTimeout
    else lv
  | none => lv

def execUsdoTimeout (l : LaneId) (path : Path) (sid : Byte) (s : State) : Host.Outcome State Fault Refusal :=
  done (onLive l (fun lv => lv.usdoTimeout path sid) s)

/-- A request as the server takes it. -/
def usdoServe (l : LaneId) (path : Path) (req : UsdoReq) (s : State) : State :=
  match req with
  | .downloadInit sid idx sub size data => downloadInit l path sid idx.toNat sub.toNat size data s
  | .downloadSeg sid data last => downloadSegment l path sid data last s
  | .uploadInit sid idx sub => uploadInit l path sid idx.toNat sub.toNat s
  | .uploadSeg sid => onLive l (fun lv => lv.uploadSegment path sid) s
  | .abort sid => onLive l (fun lv => lv.clientEnds path sid) s

/-- TUNNEL_MESSAGE (R386): a fresh tunnel receive buffer is read; `req` is the request that its USDO message spells. -/
def tunnelMessage (l : LaneId) (req : UsdoReq) (s : State) : State :=
  let lv := (s.lane l).live
  let b := lv.num Obj.tunnelRxBuffer
  let q := lv.jn.bufs.read {} b
  if lv.answers && decide (b < 512) && q.fresh then
    let s := onLive l (fun x => { x with jn := { x.jn with bufs := x.jn.bufs.write {} b { q with fresh := false } } }) s
    let tlen := natAt q.data 2 2
    let cnode := natAt q.data 1 1
    if natAt q.data 0 1 = lv.di.nodeId ∧ cnode < 128 ∧ 8 ≤ tlen ∧ tlen ≤ 64 then
      usdoServe l (.tunnel (BitVec.ofNat 7 cnode)) req s
    else onLive l (fun x => { x with di := { x.di with ignored := satInc x.di.ignored } }) s
  else s

def execTunnelMessage (l : LaneId) (req : UsdoReq) (s : State) : Host.Outcome State Fault Refusal :=
  done (tunnelMessage l req s)

/-! ### CAN ports -/

/-- The byte of a heartbeat (R408). -/
def beatByte (m : Mode) : Byte :=
  match m with
  | .operational | .reduced | .descent => 0x05
  | .startup | .standby => 0x7F
  | .safe => 0x04

/-- HEARTBEAT (R408, R72): a port that may not transmit sends none. -/
def Live.heartbeat (lv : Live) (n : Fin 4) : Live :=
  match (lv.di.can[n]).nextBeat, lv.beatPeriod n with
  | some t, some d =>
    if lv.due t then
      let f : CanFrame :=
        { ident := BitVec.ofNat 29 (0x700 + lv.di.nodeId), ext := false, fd := false, brs := false,
          data := [beatByte lv.au.mode] }
      let send := lv.canTalks n
      { lv with di := { lv.di with can := vmod lv.di.can n (fun c =>
        { c with nextBeat := some (t + d), tx := if send then c.tx ++ [f] else c.tx }) } }
    else lv
  | _, _ => lv

def execHeartbeat (l : LaneId) (n : Fin 4) (s : State) : Host.Outcome State Fault Refusal :=
  done (onLive l (fun lv => lv.heartbeat n) s)

/-- The flow of the first filter entry that a frame matches (R411). -/
def Live.filterFlow (lv : Live) (n : Fin 4) (f : CanFrame) : Option (Fin 64) :=
  let bs := lv.rcBytes Obj.canFilters n.val
  let hit (e : Nat) : Option (Fin 64) :=
    let w0 := natAt bs (12 * e) 4
    let mask := natAt bs (12 * e + 4) 4
    let target := natAt bs (12 * e + 8) 1
    if h : target < 64 then
      if tbit w0 31 = f.ext ∧ (BitVec.ofNat 29 w0 &&& BitVec.ofNat 29 mask) = (f.ident &&& BitVec.ofNat 29 mask)
      then some ⟨target, h⟩ else none
    else none
  (List.range 16).findSome? hit

/-- The item of a received frame (R459, R463). -/
def Live.canItem (lv : Live) (n : Fin 4) (f : CanFrame) : Item :=
  let long := decide (64 < f.data.length)
  let d := f.data.take 64
  { tag := BitVec.ofNat 32 (f.ident.toNat + bitAt f.brs 29 + bitAt f.fd 30 + bitAt f.ext 31),
    info := lv.itemInfo d.length long 2 n.val, data := d }

/-- CAN_FRAME_RECEIVED (R302, R411, R463): frames for the lane's USDO server, whose requests come as rows of their own,
are never matched; an injected CRC error discards the frame. -/
def Live.canReceived (lv : Live) (n : Fin 4) (f : CanFrame) : Live :=
  if 2 ≤ (lv.di.can[n]).errState.toNat ∨ lv.canOn n = false then lv
  else
    let modCan (g : CanSt → CanSt) (x : Live) : Live := { x with di := { x.di with can := vmod x.di.can n g } }
    match lv.injected (81 + n.val) with
    | (some _, lv) => modCan (fun c => { c with rxErr := satInc c.rxErr }) lv
    | (none, lv) =>
      let lv := modCan (fun c => { c with framesRx := satInc c.framesRx, rxErr := if c.rxErr = 0 then 0 else c.rxErr - 1 }) lv
      let usdo : Bool := !f.ext && decide (f.ident.toNat = 0x600 + lv.di.nodeId) && decide (lv.rcNum Obj.canUsdoServer n.val = 1)
      match usdo, lv.filterFlow n f with
      | false, some fl => lv.hwPost fl (lv.canItem n f) 2
      | _, _ => lv

def execCanFrameReceived (l : LaneId) (n : Fin 4) (f : CanFrame) (s : State) : Host.Outcome State Fault Refusal :=
  done (onLive l (fun lv => lv.canReceived n f) s)

/-- CAN_BUS_OFF (R409, R464): the item in service with the port is discarded. -/
def Live.canBusOff (lv : Live) (n : Fin 4) : Live :=
  if 2 ≤ (lv.di.can[n]).errState.toNat then lv
  else
    let lv := { lv with di := { lv.di with can := vmod lv.di.can n (fun c => { c with errState := 2, txErr := 255, tx := [] }) } }
    let mine (f : Fin 64) : Bool := match (lv.flow f).serving with
      | some (.port p, _) => decide (p = n)
      | _ => false
    ((List.finRange 64).filter mine).foldl (fun x f => x.endService f) lv

def execCanBusOff (l : LaneId) (n : Fin 4) (s : State) : Host.Outcome State Fault Refusal :=
  done (onLive l (fun lv => lv.canBusOff n) s)

/-- CAN_BUS_OFF_RECOVERY (R409): source 296 + 4n + 3, `BusOffEvents`. -/
def Live.canRecovered (lv : Live) (n : Fin 4) : Live :=
  if (lv.di.can[n]).errState = 2 then
    let lv := { lv with di := { lv.di with can := vmod lv.di.can n (fun c =>
      { c with errState := 0, txErr := 0, rxErr := 0, busOffs := satInc c.busOffs }) } }
    lv.raise (296 + 4 * n.val + 3) n.val
  else lv

def execCanBusOffRecovery (l : LaneId) (n : Fin 4) (s : State) : Host.Outcome State Fault Refusal :=
  done (onLive l (fun lv => lv.canRecovered n) s)

end Sys2Proof.Machine
end

