-- ==== Sys2Proof/Machine/Tick.lean ====
section
/-!
DEFINITION. TICK_START (R22): the start of a tick, in the order of `Live.tickStart`.
-/

namespace Sys2Proof.Machine

/-! ### Time -/

/-- The tick start (R15, R16, R18): lane time goes on by T, the extended count by one. -/
def Live.advance (lv : Live) : Live :=
  let t := max lv.clk (lv.start + lv.tick)
  { lv with clk := t, start := t, tk := { lv.tk with count := lv.tk.count + 1 } }

/-- The watchdog served by the resident firmware (R506). -/
def Live.serveWatchdog (lv : Live) : Live :=
  { lv with su := { lv.su with wdAt := lv.su.wdAt.map (fun _ => lv.start) } }

/-- What belonged to the tick that ends: own outputs computed, records sent while in trial, converters that failed
(R52, R170, R428). -/
def Live.newTick (lv : Live) : Live :=
  let lv := lv.fillRoles
  let sent := decide (lv.au.sentTick = some lv.tk.count)
  { lv with au := { lv.au with ownAuthNow := 0, ownSfNow := false },
            im := { lv.im with trialTicks := if sent then lv.im.trialTicks else 0 } }

/-- The comparison of R421 among the live lanes; a difference that appears raises source 358. -/
def State.compareNow (s : State) (l : LaneId) (lv : Live) : Live :=
  let was := lv.im.mismatch || lv.im.fwMismatch
  let lv := s.compareLanes l lv
  if (lv.im.mismatch || lv.im.fwMismatch) && !was then lv.raise 358 noUnit else lv

/-! ### Parts of a tick start -/

/-- COMMAND_COPY of one group (R104). -/
def Live.copyCommand (lv : Live) (g : Fin 24) : Live :=
  match (lv.en.cmd[g]).due with
  | some (v, t) =>
    if t ≤ lv.start then
      let lv := { lv with en := { lv.en with cmd := vmod lv.en.cmd g (fun _ => { ever := true }) } }
      lv.setBus (216 + g.val) v
    else lv
  | none => lv

/-- FORCED_REFRESH_TICK of one leg (R193): counted, and forced in this tick. -/
def Live.refreshLeg (lv : Live) (leg : Fin 24) : Live :=
  let p := legPort leg
  match ((lv.gd.ports[p]).legs[legPhase leg]).refresh with
  | some t =>
    let now := decide ((lv.gd.ports[p]).mode = .pwm ∧ t ≤ lv.ticks ∧ (lv.ticks - t) % lv.num Obj.portRefreshTicks p.val = 0)
    let lv := lv.modLeg leg (fun g => { g with refreshNow := now })
    if now then lv.modPort p (fun q => { q with refreshes := satInc q.refreshes }) else lv
  | none => lv.modLeg leg (fun g => { g with refreshNow := false })

/-- The safety outputs at a tick start (R331, R333, R335): the contactor feedback, the demand, the deferral of a dark
pulse, the energised time. -/
def Live.outputTick (lv : Live) (n : Fin 4) : Live :=
  let lv := match lv.edmOf n with
    | some e => lv.modSout n (fun q => q.sawEdm (lv.tk.levels.edm.getLsbD e.val) lv.start)
    | none => lv
  let lv := lv.soutUpdate n
  let q := lv.sf.sout[n]
  let lv := if q.cmd && !q.dark && lv.planned false n.val && lv.inEdmTime n then lv.darkStart n else lv
  lv.modSout n (fun q => { q with onFor := if q.cmd then q.onFor + lv.tick else q.onFor })

/-- Once per Jalsyn cycle (R37, R84, R307): coverage, then the health frame. -/
def Live.cycleTick (lv : Live) (serial : List Byte) : Live :=
  if lv.ticks % lv.num Obj.cycleTicks = 0 then
    let lv := lv.updateCoverage
    { lv with au := { lv.au with health := lv.healthFrame serial } }
  else lv

/-- The part of a tick start that a lane makes only while it is joined: a lane that has withdrawn or halted within this
tick start stops here. -/
def Live.ifJoined (lv : Live) (f : Live → Live) : Live := if lv.joined then f lv else lv

/-- Lane authority at a tick start (R46 to R60, R67, R70, R73, R74, R142 to R144, R296). -/
def Live.authorityTick (lv : Live) : Live :=
  let lv := (lv.leashTick.compareTick.applyTick).pendingMode.viewTick.mirrorRole.mirrorLoad
  lv.ifJoined (fun x => x.resolveLinks.ifJoined (fun y =>
    (y.angleTick.joinTick).ifJoined (fun z => z.degreqTick.modeTick.boostTick)))

/-- The rest of a tick start. -/
def Live.closeTick (lv : Live) (serial : List Byte) : Live :=
  let lv := forAll 24 (fun g (x : Live) => x.copyCommand g) lv.rotateLinks
  let lv := (lv.writeRegen lv.regenNow).settle.slewTick
  let lv := forAll 4 (fun n (x : Live) => x.outputTick n) lv
  let lv := forAll 24 (fun g (x : Live) => x.refreshLeg g) lv
  let lv := forAll 8 (fun p (x : Live) => if (x.groupOf p).isNone then x.freezePort p x.start else x) lv
  let lv := (lv.resync.stillTick.endTick.cycleTick serial).logSample.trendSample
  lv.wakeTimed .tick

/-- Opening of a tick start of a joined lane: memory checks, signatures, inputs (R274, R276, R286, R303, R31). -/
def Live.openTick (lv : Live) (inp : TickInputs) : Live :=
  let lv := lv.exercise.ifJoined Live.passTick
  (lv.ifJoined (fun x => x.freezeInputs inp)).ifJoined (fun x => x.inputTick.ifJoined Live.authorityTick)

/-- A tick start of a lane whose firmware runs and that is not joined: time, links, the input frame, the logbook. -/
def Live.quietTick (lv : Live) (inp : TickInputs) (serial : List Byte) : Live :=
  let lv := (lv.freezeInputs inp).viewTick.rotateLinks.slewTick
  let lv := forAll 8 (fun p (x : Live) => x.freezePort p x.start) lv
  (lv.settle.cycleTick serial).logSample.trendSample

/-- TICK_START at a joined lane. -/
def State.joinedTick (s : State) (l : LaneId) (inp : TickInputs) : State :=
  let s := onLive l (fun lv => s.compareNow l (lv.newTick.advance.serveWatchdog)) s
  let s := onLive l (fun lv => lv.ifJoined (fun x => x.openTick inp)) s
  let s := if (s.lane l).live.joined then s.dictTick l else s
  onLiveR l (fun st _ lv => lv.ifJoined (fun x => (x.closeTick s.serial).evalEntry inp.quiet st.boot.trial)) s

/-- TICK_START (R22). A halted lane keeps its time and its logbook samples; a lane that is in reset, in its boot ROM,
in clock-wait or asleep has no tick. -/
def State.tickStart (s : State) (l : LaneId) (inp : TickInputs) : State :=
  match (s.lane l).live.phase with
  | .joined => s.joinedTick l inp
  | .loaded | .withdrawn | .haltedState =>
    onLive l (fun lv => (s.compareNow l (lv.newTick.advance.serveWatchdog)).quietTick inp s.serial) s
  | .halted => onLive l (fun lv => lv.advance.serveWatchdog.logSample) s
  | _ => s

def execTickStart (l : LaneId) (inp : TickInputs) (s : State) : Host.Outcome State Fault Refusal :=
  done (s.tickStart l inp)

end Sys2Proof.Machine
end

