-- ==== Sys2Proof/Machine/Dispatch.lean ====
section
/-!
DEFINITION. The dispatch: each command to its meaning. A meaning is the command's effect on everything but the
queue of waiting commands.
-/

namespace Sys2Proof.Machine

/-- The effect of a command at its lane. -/
def exec (i : Instr) (s : State) : Host.Outcome State Fault Refusal :=
  match i with
  | .tickStart l inp => Sys2Proof.Machine.execTickStart l inp s
  | .sendTickRecord l => Sys2Proof.Machine.execSendTickRecord l s
  | .receiveTickRecord l dir r arr => Sys2Proof.Machine.execReceiveTickRecord l dir r arr s
  | .receiveChannelBlock l dir b arr => Sys2Proof.Machine.execReceiveChannelBlock l dir b arr s
  | .receiveMirrorBlock l dir b arr => Sys2Proof.Machine.execReceiveMirrorBlock l dir b arr s
  | .receiveJoinBlock l dir b arr => Sys2Proof.Machine.execReceiveJoinBlock l dir b arr s
  | .receiveDictionaryBlock l dir b arr => Sys2Proof.Machine.execReceiveDictionaryBlock l dir b arr s
  | .tickMarkerReceived l dir offset => Sys2Proof.Machine.execTickMarkerReceived l dir offset s
  | .laneLinkLost l dir => Sys2Proof.Machine.execLaneLinkLost l dir s
  | .loneListenEnd l => Sys2Proof.Machine.execLoneListenEnd l s
  | .clearLinkCounters l v => Sys2Proof.Machine.execClearLinkCounters l v s
  | .leaseExpiry l => Sys2Proof.Machine.execLeaseExpiry l s
  | .heelSilentTakeover l => Sys2Proof.Machine.execHeelSilentTakeover l s
  | .demoteVote l => Sys2Proof.Machine.execDemoteVote l s
  | .demoteUnsupported l => Sys2Proof.Machine.execDemoteUnsupported l s
  | .mirrorDivergenceRepeat l => Sys2Proof.Machine.execMirrorDivergenceRepeat l s
  | .laneJoin l j => Sys2Proof.Machine.execLaneJoin l j s
  | .startupEnd l => Sys2Proof.Machine.execStartupEnd l s
  | .modeRequestStandby l => Sys2Proof.Machine.execModeRequestStandby l s
  | .modeRequestRun l => Sys2Proof.Machine.execModeRequestRun l s
  | .modeRequestSafe l => Sys2Proof.Machine.execModeRequestSafe l s
  | .standstillDetected l => Sys2Proof.Machine.execStandstillDetected l s
  | .descentLimitElapsed l => Sys2Proof.Machine.execDescentLimitElapsed l s
  | .boostEnd l p => Sys2Proof.Machine.execBoostEnd l p s
  | .engineWindow l w stall upsets => Sys2Proof.Machine.execEngineWindow l w stall upsets s
  | .commitInstant l p => Sys2Proof.Machine.execCommitInstant l p s
  | .itemDeadline l slot => Sys2Proof.Machine.execItemDeadline l slot s
  | .slotEscalation l slot => Sys2Proof.Machine.execSlotEscalation l slot s
  | .appEntryStale l e => Sys2Proof.Machine.execAppEntryStale l e s
  | .followingError l slot => Sys2Proof.Machine.execFollowingError l slot s
  | .commandTimeout l g => Sys2Proof.Machine.execCommandTimeout l g s
  | .ainFaultTimeout l n => Sys2Proof.Machine.execAinFaultTimeout l n s
  | .psetEdge l lineA lineB ph width => Sys2Proof.Machine.execPsetEdge l lineA lineB ph width s
  | .psetTimeout l => Sys2Proof.Machine.execPsetTimeout l s
  | .notchEpochEnd l slot => Sys2Proof.Machine.execNotchEpochEnd l slot s
  | .clearPeaks l v => Sys2Proof.Machine.execClearPeaks l v s
  | .sampleInstant l p smp => Sys2Proof.Machine.execSampleInstant l p smp s
  | .carrierPeakSample l p codes => Sys2Proof.Machine.execCarrierPeakSample l p codes s
  | .backgroundConversion l ch code => Sys2Proof.Machine.execBackgroundConversion l ch code s
  | .referenceCheck l adc codes => Sys2Proof.Machine.execReferenceCheck l adc codes s
  | .clearAcqFlags l v => Sys2Proof.Machine.execClearAcqFlags l v s
  | .overcurrentTrip l leg high => Sys2Proof.Machine.execOvercurrentTrip l leg high s
  | .phaseVoltageCrossing l leg rising ph => Sys2Proof.Machine.execPhaseVoltageCrossing l leg rising ph s
  | .legEvent l leg side ph => Sys2Proof.Machine.execLegEvent l leg side ph s
  | .gateRailUndervoltage l => Sys2Proof.Machine.execGateRailUndervoltage l s
  | .gateRailRecovery l => Sys2Proof.Machine.execGateRailRecovery l s
  | .gateCheck l leg side vgs atTurnOn => Sys2Proof.Machine.execGateCheck l leg side vgs atTurnOn s
  | .bootstrapUndervoltage l leg => Sys2Proof.Machine.execBootstrapUndervoltage l leg s
  | .vdsTrip l sw => Sys2Proof.Machine.execVdsTrip l sw s
  | .hardShortTrip l sw => Sys2Proof.Machine.execHardShortTrip l sw s
  | .retryWaitEnd l p offVgsBad => Sys2Proof.Machine.execRetryWaitEnd l p offVgsBad s
  | .linkConversion l c dt => Sys2Proof.Machine.execLinkConversion l c dt s
  | .linkLowRecovery l => Sys2Proof.Machine.execLinkLowRecovery l s
  | .chopperFault l cause => Sys2Proof.Machine.execChopperFault l cause s
  | .ladderAsc l => Sys2Proof.Machine.execLadderAsc l s
  | .ladderAscRelease l => Sys2Proof.Machine.execLadderAscRelease l s
  | .clearPortCounters l p v => Sys2Proof.Machine.execClearPortCounters l p v s
  | .clearGateDriveCounters l v => Sys2Proof.Machine.execClearGateDriveCounters l v s
  | .catchMeasurementEnd l p m => Sys2Proof.Machine.execCatchMeasurementEnd l p m s
  | .catchRepeat l p => Sys2Proof.Machine.execCatchRepeat l p s
  | .hfiPolarityDetect l p pos neg => Sys2Proof.Machine.execHfiPolarityDetect l p pos neg s
  | .losLimitReached l p => Sys2Proof.Machine.execLosLimitReached l p s
  | .angleVoteDisagree l g => Sys2Proof.Machine.execAngleVoteDisagree l g s
  | .controlledStopStandstill l g => Sys2Proof.Machine.execControlledStopStandstill l g s
  | .sniffStep1End l p r => Sys2Proof.Machine.execSniffStep1End l p r s
  | .sniffStep2End l p r => Sys2Proof.Machine.execSniffStep2End l p r s
  | .sniffTestResult l p => Sys2Proof.Machine.execSniffTestResult l p s
  | .sniffPostponeRepeat l p => Sys2Proof.Machine.execSniffPostponeRepeat l p s
  | .currentSumFault l p => Sys2Proof.Machine.execCurrentSumFault l p s
  | .vsensFault l kind => Sys2Proof.Machine.execVsensFault l kind s
  | .cableTest l path v => Sys2Proof.Machine.execCableTest l path v s
  | .cableDiagComplete l ch result polrev dist => Sys2Proof.Machine.execCableDiagComplete l ch result polrev dist s
  | .canBusFault l n kind => Sys2Proof.Machine.execCanBusFault l n kind s
  | .canBusFaultClear l n kind => Sys2Proof.Machine.execCanBusFaultClear l n kind s
  | .groundShift l => Sys2Proof.Machine.execGroundShift l s
  | .groundShiftRecovery l => Sys2Proof.Machine.execGroundShiftRecovery l s
  | .clearWiringCounters l v => Sys2Proof.Machine.execClearWiringCounters l v s
  | .encoderOutputFault l reel => Sys2Proof.Machine.execEncoderOutputFault l reel s
  | .encoderOutputRestore l reel => Sys2Proof.Machine.execEncoderOutputRestore l reel s
  | .feedbackTransition l p lines ph => Sys2Proof.Machine.execFeedbackTransition l p lines ph s
  | .hallIllegalTimeout l p => Sys2Proof.Machine.execHallIllegalTimeout l p s
  | .feedbackLevelFault l p => Sys2Proof.Machine.execFeedbackLevelFault l p s
  | .levelfClear l p => Sys2Proof.Machine.execLevelfClear l p s
  | .counterPreset l p v => Sys2Proof.Machine.execCounterPreset l p v s
  | .clearFeedbackCounters l p v => Sys2Proof.Machine.execClearFeedbackCounters l p v s
  | .sentFrameReceived l n f => Sys2Proof.Machine.execSentFrameReceived l n f s
  | .sentBusLow l n => Sys2Proof.Machine.execSentBusLow l n s
  | .sentTimeout l n => Sys2Proof.Machine.execSentTimeout l n s
  | .clearSentCounters l v => Sys2Proof.Machine.execClearSentCounters l v s
  | .closePortWrite l ch tail words => Sys2Proof.Machine.execClosePortWrite l ch tail words s
  | .pairCloseTimeout l ch => Sys2Proof.Machine.execPairCloseTimeout l ch s
  | .clearPassCounters l v => Sys2Proof.Machine.execClearPassCounters l v s
  | .haltRestart l => Sys2Proof.Machine.execHaltRestart l s
  | .kennelRelease l path code pass => Sys2Proof.Machine.execKennelRelease l path code pass s
  | .clearHistory l path v => Sys2Proof.Machine.execClearHistory l path v s
  | .clearFirst l path v => Sys2Proof.Machine.execClearFirst l path v s
  | .injectArm l path v => Sys2Proof.Machine.execInjectArm l path v s
  | .injectionExpired l => Sys2Proof.Machine.execInjectionExpired l s
  | .bistStart l => Sys2Proof.Machine.execBistStart l s
  | .bistComplete l failed time => Sys2Proof.Machine.execBistComplete l failed time s
  | .rotatingSelfTest l n => Sys2Proof.Machine.execRotatingSelfTest l n s
  | .selfTestComplete l n unit pass found => Sys2Proof.Machine.execSelfTestComplete l n unit pass found s
  | .referenceWindowCrossing l ch high => Sys2Proof.Machine.execReferenceWindowCrossing l ch high s
  | .safetyChannelOpen l n => Sys2Proof.Machine.execSafetyChannelOpen l n s
  | .safetyChannelClosed l n => Sys2Proof.Machine.execSafetyChannelClosed l n s
  | .tpoPulseStart l n => Sys2Proof.Machine.execTpoPulseStart l n s
  | .tpoPulseEnd l n readHigh low pulsing => Sys2Proof.Machine.execTpoPulseEnd l n readHigh low pulsing s
  | .tpoOverload l n => Sys2Proof.Machine.execTpoOverload l n s
  | .degradedTimerElapsed l n => Sys2Proof.Machine.execDegradedTimerElapsed l n s
  | .discrepancyTimeout l n => Sys2Proof.Machine.execDiscrepancyTimeout l n s
  | .darkPulseStart l n => Sys2Proof.Machine.execDarkPulseStart l n s
  | .darkPulseEnd l n mv => Sys2Proof.Machine.execDarkPulseEnd l n mv s
  | .soutOffReadbackFault l n => Sys2Proof.Machine.execSoutOffReadbackFault l n s
  | .soutOvercurrent l n => Sys2Proof.Machine.execSoutOvercurrent l n s
  | .soutOpenLoad l n => Sys2Proof.Machine.execSoutOpenLoad l n s
  | .diagIntervalOverrun l n => Sys2Proof.Machine.execDiagIntervalOverrun l n s
  | .edmCheck l n closed => Sys2Proof.Machine.execEdmCheck l n closed s
  | .soutUnlock l path v mv => Sys2Proof.Machine.execSoutUnlock l path v mv s
  | .safeDataTimeout l input copyB => Sys2Proof.Machine.execSafeDataTimeout l input copyB s
  | .clearCvuCounters l v => Sys2Proof.Machine.execClearCvuCounters l v s
  | .clearSafeDataCounters l v => Sys2Proof.Machine.execClearSafeDataCounters l v s
  | .jalsynFrameReceived l ch f => Sys2Proof.Machine.execJalsynFrameReceived l ch f s
  | .referenceDisagreement l => Sys2Proof.Machine.execReferenceDisagreement l s
  | .acceptanceWindowEnd l entry => Sys2Proof.Machine.execAcceptanceWindowEnd l entry s
  | .transmitRead l entry => Sys2Proof.Machine.execTransmitRead l entry s
  | .transmitFrame l entry => Sys2Proof.Machine.execTransmitFrame l entry s
  | .sendReference l ch => Sys2Proof.Machine.execSendReference l ch s
  | .cycleStart l => Sys2Proof.Machine.execCycleStart l s
  | .jalsynChannelLost l ch => Sys2Proof.Machine.execJalsynChannelLost l ch s
  | .jalsynChannelReturn l ch => Sys2Proof.Machine.execJalsynChannelReturn l ch s
  | .phyLinkDown l ch => Sys2Proof.Machine.execPhyLinkDown l ch s
  | .listenPeriodEnd l => Sys2Proof.Machine.execListenPeriodEnd l s
  | .launchDelayElapsed l => Sys2Proof.Machine.execLaunchDelayElapsed l s
  | .cyclePointEvent l n => Sys2Proof.Machine.execCyclePointEvent l n s
  | .clearJalsynCounters l v => Sys2Proof.Machine.execClearJalsynCounters l v s
  | .usdoDownloadInitiate l path sid idx sub size data => Sys2Proof.Machine.execUsdoDownloadInitiate l path sid idx sub size data s
  | .usdoDownloadSegment l path sid data last => Sys2Proof.Machine.execUsdoDownloadSegment l path sid data last s
  | .usdoUploadInitiate l path sid idx sub => Sys2Proof.Machine.execUsdoUploadInitiate l path sid idx sub s
  | .usdoUploadSegment l path sid => Sys2Proof.Machine.execUsdoUploadSegment l path sid s
  | .usdoAbort l path sid => Sys2Proof.Machine.execUsdoAbort l path sid s
  | .usdoTimeout l path sid => Sys2Proof.Machine.execUsdoTimeout l path sid s
  | .tunnelMessage l req => Sys2Proof.Machine.execTunnelMessage l req s
  | .dictionaryWrite l path idx sub data => Sys2Proof.Machine.execDictionaryWrite l path idx sub data s
  | .replicationResend l => Sys2Proof.Machine.execReplicationResend l s
  | .replicationFailed l => Sys2Proof.Machine.execReplicationFailed l s
  | .prepareDiscard l => Sys2Proof.Machine.execPrepareDiscard l s
  | .heartbeat l n => Sys2Proof.Machine.execHeartbeat l n s
  | .canFrameReceived l n f => Sys2Proof.Machine.execCanFrameReceived l n f s
  | .canBusOff l n => Sys2Proof.Machine.execCanBusOff l n s
  | .canBusOffRecovery l n => Sys2Proof.Machine.execCanBusOffRecovery l n s
  | .clearCanCounters l n v => Sys2Proof.Machine.execClearCanCounters l n v s
  | .clearServerCounters l v => Sys2Proof.Machine.execClearServerCounters l v s
  | .stageData l path data => Sys2Proof.Machine.execStageData l path data s
  | .configStage l entry v => Sys2Proof.Machine.execConfigStage l entry v s
  | .configVerify l entry v => Sys2Proof.Machine.execConfigVerify l entry v s
  | .configCommit l entry v => Sys2Proof.Machine.execConfigCommit l entry v s
  | .configRevert l entry v => Sys2Proof.Machine.execConfigRevert l entry v s
  | .configCommandComplete l => Sys2Proof.Machine.execConfigCommandComplete l s
  | .loadData l path data => Sys2Proof.Machine.execLoadData l path data s
  | .firmwareActivate l path v => Sys2Proof.Machine.execFirmwareActivate l path v s
  | .firmwareStart l banksBad => Sys2Proof.Machine.execFirmwareStart l banksBad s
  | .firmwareConfirm l => Sys2Proof.Machine.execFirmwareConfirm l s
  | .keyProgram l path n => Sys2Proof.Machine.execKeyProgram l path n s
  | .keyRevoke l path n => Sys2Proof.Machine.execKeyRevoke l path n s
  | .challengeRead l path => Sys2Proof.Machine.execChallengeRead l path s
  | .sessionResponse l path data => Sys2Proof.Machine.execSessionResponse l path data s
  | .sessionClose l path v => Sys2Proof.Machine.execSessionClose l path v s
  | .sessionExpiry l => Sys2Proof.Machine.execSessionExpiry l s
  | .authLockoutEnd l => Sys2Proof.Machine.execAuthLockoutEnd l s
  | .attestChallenge l path data => Sys2Proof.Machine.execAttestChallenge l path data s
  | .attestRegenerate l path v => Sys2Proof.Machine.execAttestRegenerate l path v s
  | .tamperDetected l cause => Sys2Proof.Machine.execTamperDetected l cause s
  | .debugResponse l path data => Sys2Proof.Machine.execDebugResponse l path data s
  | .logTrigger l v => Sys2Proof.Machine.execLogTrigger l v s
  | .captureWritten l => Sys2Proof.Machine.execCaptureWritten l s
  | .trendRecord l => Sys2Proof.Machine.execTrendRecord l s
  | .logbookErase l path v => Sys2Proof.Machine.execLogbookErase l path v s
  | .eraseComplete l => Sys2Proof.Machine.execEraseComplete l s
  | .readData l path => Sys2Proof.Machine.execReadData l path s
  | .schStart l caller w => Sys2Proof.Machine.execSchStart l caller w s
  | .schStop l caller w => Sys2Proof.Machine.execSchStop l caller w s
  | .schPrio l caller w => Sys2Proof.Machine.execSchPrio l caller w s
  | .schYield l caller => Sys2Proof.Machine.execSchYield l caller s
  | .schWaitTick l caller => Sys2Proof.Machine.execSchWaitTick l caller s
  | .schWaitCycle l caller => Sys2Proof.Machine.execSchWaitCycle l caller s
  | .schWaitDelay l caller us => Sys2Proof.Machine.execSchWaitDelay l caller us s
  | .waitDelayExpiry l t => Sys2Proof.Machine.execWaitDelayExpiry l t s
  | .threadFault l t code addr => Sys2Proof.Machine.execThreadFault l t code addr s
  | .flwPost l caller => Sys2Proof.Machine.execFlwPost l caller s
  | .flwTake l caller w => Sys2Proof.Machine.execFlwTake l caller w s
  | .flwDone l caller => Sys2Proof.Machine.execFlwDone l caller s
  | .canFrameTransmitted l n => Sys2Proof.Machine.execCanFrameTransmitted l n s
  | .cvuFeed l caller u w => Sys2Proof.Machine.execCvuFeed l caller u w s
  | .cvuFeedb l caller u w => Sys2Proof.Machine.execCvuFeedb l caller u w s
  | .cvuFinish l caller u w => Sys2Proof.Machine.execCvuFinish l caller u w s
  | .cvuReset l caller u => Sys2Proof.Machine.execCvuReset l caller u s
  | .cvuCtrl l caller u w => Sys2Proof.Machine.execCvuCtrl l caller u w s
  | .cvuDeferredWrite l caller u reg w => Sys2Proof.Machine.execCvuDeferredWrite l caller u reg w s
  | .jsnSel l caller w => Sys2Proof.Machine.execJsnSel l caller w s
  | .jsnMark l caller => Sys2Proof.Machine.execJsnMark l caller s
  | .sigEntryWrite l caller e w late => Sys2Proof.Machine.execSigEntryWrite l caller e w late s
  | .flaRaise l caller n => Sys2Proof.Machine.execFlaRaise l caller n s
  | .flaHsel l caller idx => Sys2Proof.Machine.execFlaHsel l caller idx s
  | .lgcTrigger l caller => Sys2Proof.Machine.execLgcTrigger l caller s
  | .timTimeloRead l caller ph => Sys2Proof.Machine.execTimTimeloRead l caller ph s
  | .appRegisterWrite l caller addr w => Sys2Proof.Machine.execAppRegisterWrite l caller addr w s
  | .clearAppCounters l v => Sys2Proof.Machine.execClearAppCounters l v s
  | .oscillatorStartDelayEnd l xtalOk => Sys2Proof.Machine.execOscillatorStartDelayEnd l xtalOk s
  | .clockMonitorTrip l monitor => Sys2Proof.Machine.execClockMonitorTrip l monitor s
  | .asyncDomainSwitch l dom => Sys2Proof.Machine.execAsyncDomainSwitch l dom s
  | .windowGateEnd l dev => Sys2Proof.Machine.execWindowGateEnd l dev s
  | .clockWaitRecovery l => Sys2Proof.Machine.execClockWaitRecovery l s
  | .gatingAbandoned l dom => Sys2Proof.Machine.execGatingAbandoned l dom s
  | .frequencyMeterStart l v => Sys2Proof.Machine.execFrequencyMeterStart l v s
  | .frequencyMeterDone l count stopped => Sys2Proof.Machine.execFrequencyMeterDone l count stopped s
  | .clearClockCounters l v => Sys2Proof.Machine.execClearClockCounters l v s
  | .powerOnRelease l oscMv idMv extOsc => Sys2Proof.Machine.execPowerOnRelease l oscMv idMv extOsc s
  | .brownOut l => Sys2Proof.Machine.execBrownOut l s
  | .overvoltageProtection l => Sys2Proof.Machine.execOvervoltageProtection l s
  | .ovpReclose l => Sys2Proof.Machine.execOvpReclose l s
  | .vbatWindowCrossing l high mv => Sys2Proof.Machine.execVbatWindowCrossing l high mv s
  | .vbatFlagClear l high => Sys2Proof.Machine.execVbatFlagClear l high s
  | .externalReset l => Sys2Proof.Machine.execExternalReset l s
  | .watchdogExpiry l => Sys2Proof.Machine.execWatchdogExpiry l s
  | .crossLaneResetRequest l => Sys2Proof.Machine.execCrossLaneResetRequest l s
  | .laneReset l path v => Sys2Proof.Machine.execLaneReset l path v s
  | .crossReset l path v => Sys2Proof.Machine.execCrossReset l path v s
  | .clearSupplyCounters l v => Sys2Proof.Machine.execClearSupplyCounters l v s
  | .powerRequestRun l => Sys2Proof.Machine.execPowerRequestRun l s
  | .powerRequestIdle l => Sys2Proof.Machine.execPowerRequestIdle l s
  | .powerRequestSleep l => Sys2Proof.Machine.execPowerRequestSleep l s
  | .powerRequestDeep l => Sys2Proof.Machine.execPowerRequestDeep l s
  | .readySymbolReceived l dir => Sys2Proof.Machine.execReadySymbolReceived l dir s
  | .powerEntryAbandon l => Sys2Proof.Machine.execPowerEntryAbandon l s
  | .wakeEvent l kind detail => Sys2Proof.Machine.execWakeEvent l kind detail s
  | .wakeTimerExpiry l => Sys2Proof.Machine.execWakeTimerExpiry l s
  | .tapBypass l => Sys2Proof.Machine.execTapBypass l s
  | .tapIdcode l => Sys2Proof.Machine.execTapIdcode l s
  | .tapSamplePreload l cells => Sys2Proof.Machine.execTapSamplePreload l cells s
  | .tapExtest l => Sys2Proof.Machine.execTapExtest l s
  | .tapClamp l => Sys2Proof.Machine.execTapClamp l s
  | .tapHighz l => Sys2Proof.Machine.execTapHighz l s
  | .tapReset l => Sys2Proof.Machine.execTapReset l s
  | .dieHot l temp => Sys2Proof.Machine.execDieHot l temp s
  | .dieHotClear l temp => Sys2Proof.Machine.execDieHotClear l temp s
  | .externalResetRelease l => Sys2Proof.Machine.execExternalResetRelease l s
  | .aonRailDrop l => Sys2Proof.Machine.execAonRailDrop l s
  | .reversePolarityFlag l => Sys2Proof.Machine.execReversePolarityFlag l s
  | .phyLinkUp l ch => Sys2Proof.Machine.execPhyLinkUp l ch s
  | .bootstrapHighCrossing l leg => Sys2Proof.Machine.execBootstrapHighCrossing l leg s

end Sys2Proof.Machine
end

