-- ==== Sys2Proof/Safety.lean ====
section
/-!
DEFINITION. What counts as a safe state of a lane, in the words of the statements: outputs that are off, gates that hold
a winding torque-free, lanes that a command leaves alone.
-/

namespace Sys2Proof.Machine

/-- Two states agree in everything but lane `l`, the queue and the counter of drawn values (log entry 1). -/
def State.sameOutside (l : LaneId) (s t : State) : Prop :=
  t.serial = s.serial ∧ ∀ o : LaneId, o ≠ l → t.lane o = s.lane o

/-- A port's protection with its gates blanked: what a change of the gate state leaves (R215). -/
def PortSt.guard (q : PortSt) : PortSt :=
  { q with mode := .off, legs := q.legs.map (fun g => { g with
      gate := .off, conductions := 0, refresh := none, refreshNow := false }) }

/-- A winding with its state and its current loop blanked: what stopping the loop leaves (R148). -/
def WindingSt.guard (w : WindingSt) : WindingSt := { stopLoop w with ws := .disabled, asc := false }

/-- A slot but for the mark that an event fell in its epoch (R114). -/
def SlotSt.guard (q : SlotSt) : SlotSt := { q with epEvent := false }

/-- A safety output but for what switching it off changes (R331, R333). -/
def SoutSt.guard (q : SoutSt) : SoutSt :=
  { q with cmd := false, readback := false, dark := false, deferred := false, darkTick := none, openload := false,
           changedAt := none, edmBadAt := none }

/-- A lane's live state with everything blanked that the raising of an event may change where no reaction makes the lane
withdraw or halt (R289 to R301): the record and the kennels, gates and current loops, the logbook's trigger and the
notification. -/
def Live.poised (lv : Live) : Live :=
  { lv with
    en := { lv.en with slots := lv.en.slots.mapDflt {} SlotSt.guard },
    fc := { lv.fc with wind := lv.fc.wind.map WindingSt.guard },
    aq := { lv.aq with roles := [] },
    gd := { lv.gd with ports := lv.gd.ports.map PortSt.guard },
    fl := { lv.fl with
      history := [], overwritten := 0, suppressed := 0, first := none, later := 0, seq := 0, kPorts := 0, kCans := 0,
      kCores := 0, kSlots := 0, kChans := 0, kAdcs := 0, kUnits := 0, degreq := 0, corrected := 0, contained := 0,
      fatal := 0 },
    di := { lv.di with can := Vector.replicate 4 {}, sessions := [] },
    im := { lv.im with markers := [], markerN := 0, pending := [], truncated := false },
    sc := {} }

/-- A lane's live state with everything blanked that the raising of an event may change, a withdrawal or a halt among its
reactions (R63, R289 to R301). Two states with one `steady` agree in every other field. -/
def Live.steady (lv : Live) : Live :=
  let x := lv.poised
  { x with
    phase := .off,
    au := { x.au with role := .none, follower := false, holding := false, noLease := false, noRejoin := false },
    fl := { x.fl with haltedAt := none },
    sf := { x.sf with sout := x.sf.sout.map SoutSt.guard, incomplete := 0 },
    jn := { x.jn with portsOff := false },
    su := { x.su with halt := false } }

/-- Command `i` completes at `s`: it answers a next state in which the queue and the other two lanes stand as before, and
lane `l` meets `P`. -/
def Runs (i : Instr) (l : LaneId) (s : State) (P : Lane → Prop) : Prop :=
  ∃ t, exec i s = .next t ∧ t.pending = s.pending ∧ s.sameOutside l t ∧ P (t.lane l)

/-- Command `i` completes at `s`, and all it changes is the live state of lane `l`, from `x` to `f x`. -/
def RunsTo (i : Instr) (l : LaneId) (s : State) (f : Live → Live) : Prop :=
  Runs i l s (fun n => n = { s.lane l with live := f (s.lane l).live })

/-- Command `i` completes at `s` with an event raised: storage and fuses of lane `l` stand, and its live state is
`f x` but for what raising an event may change; `P` says more of it. -/
def RunsEv (i : Instr) (l : LaneId) (s : State) (f : Live → Live) (P : Live → Prop := fun _ => True) : Prop :=
  Runs i l s (fun n => n.store = (s.lane l).store ∧ n.otp = (s.lane l).otp ∧
    n.live.steady = (f (s.lane l).live).steady ∧ P n.live)

/-- Every safety output of the lane is commanded off (R504). -/
def Live.outputsLow (lv : Live) : Bool := lv.sf.sout.all (fun q => !q.cmd)

/-- No gate of the lane is switched by its current loop: every port is off or in active short circuit (R148, R215). -/
def Live.noPwm (lv : Live) : Bool := lv.gd.ports.all (fun q => decide (q.mode ≠ .pwm))

/-- The retry of a recoverable fault begins (R205, R206): the fault is recorded, tries older than 10 s are dropped, the
wait of `RetryWait` runs. -/
def Live.faulted (x : Live) (p : Fin 8) (f : PortFault) (g : PortSt → PortSt) : Live :=
  x.modPort p (fun q =>
    let q := g q
    { q with fault := some f, reenable := false, tries := recentTries x.clk q.tries,
             waitEnd := some (x.clk + ms (x.num Obj.portRetryWait p.val)) })

/-- The replication that this lane may have open is not that of a session (R389, R399). -/
def Live.notOwn (lv : Live) (path : Path) (sid : Byte) : Bool :=
  match lv.di.open' with
  | some r => !(decide (r.path = path ∧ r.sid = sid))
  | none => true

/-- A lane that neither drives nor energises: what a reset, a withdrawal and a halt leave (R63, R294, R504). -/
def Live.quiet (lv : Live) : Bool := lv.outputsLow && lv.noPwm

/-- The bits of the fuses of `a` are among those of `b` (R426, R429). -/
def Otp.le (a b : Otp) : Bool :=
  decide (a.counter &&& b.counter = a.counter ∧ a.burnt &&& b.burnt = a.burnt ∧ a.revoked &&& b.revoked = a.revoked)

/-- The lane at which a command acts (R10). -/
def laneOf (i : Instr) : LaneId :=
  match i with
  | .tickStart l .. | .sendTickRecord l .. | .receiveTickRecord l .. | .receiveChannelBlock l ..
  | .receiveMirrorBlock l .. | .receiveJoinBlock l .. | .receiveDictionaryBlock l .. | .tickMarkerReceived l ..
  | .laneLinkLost l .. | .loneListenEnd l .. | .clearLinkCounters l .. | .leaseExpiry l ..
  | .heelSilentTakeover l .. | .demoteVote l .. | .demoteUnsupported l .. | .mirrorDivergenceRepeat l ..
  | .laneJoin l .. | .startupEnd l .. | .modeRequestStandby l .. | .modeRequestRun l .. | .modeRequestSafe l ..
  | .standstillDetected l .. | .descentLimitElapsed l .. | .boostEnd l .. | .engineWindow l ..
  | .commitInstant l .. | .itemDeadline l .. | .slotEscalation l .. | .appEntryStale l .. | .followingError l ..
  | .commandTimeout l .. | .ainFaultTimeout l .. | .psetEdge l .. | .psetTimeout l .. | .notchEpochEnd l ..
  | .clearPeaks l .. | .sampleInstant l .. | .carrierPeakSample l .. | .backgroundConversion l ..
  | .referenceCheck l .. | .clearAcqFlags l .. | .overcurrentTrip l .. | .phaseVoltageCrossing l ..
  | .legEvent l .. | .gateRailUndervoltage l .. | .gateRailRecovery l .. | .gateCheck l ..
  | .bootstrapUndervoltage l .. | .vdsTrip l .. | .hardShortTrip l .. | .retryWaitEnd l .. | .linkConversion l ..
  | .linkLowRecovery l .. | .chopperFault l .. | .ladderAsc l .. | .ladderAscRelease l .. | .clearPortCounters l ..
  | .clearGateDriveCounters l .. | .catchMeasurementEnd l .. | .catchRepeat l .. | .hfiPolarityDetect l ..
  | .losLimitReached l .. | .angleVoteDisagree l .. | .controlledStopStandstill l .. | .sniffStep1End l ..
  | .sniffStep2End l .. | .sniffTestResult l .. | .sniffPostponeRepeat l .. | .currentSumFault l ..
  | .vsensFault l .. | .cableTest l .. | .cableDiagComplete l .. | .canBusFault l .. | .canBusFaultClear l ..
  | .groundShift l .. | .groundShiftRecovery l .. | .clearWiringCounters l .. | .encoderOutputFault l ..
  | .encoderOutputRestore l .. | .feedbackTransition l .. | .hallIllegalTimeout l .. | .feedbackLevelFault l ..
  | .levelfClear l .. | .counterPreset l .. | .clearFeedbackCounters l .. | .sentFrameReceived l ..
  | .sentBusLow l .. | .sentTimeout l .. | .clearSentCounters l .. | .closePortWrite l .. | .pairCloseTimeout l ..
  | .clearPassCounters l .. | .haltRestart l .. | .kennelRelease l .. | .clearHistory l .. | .clearFirst l ..
  | .injectArm l .. | .injectionExpired l .. | .bistStart l .. | .bistComplete l .. | .rotatingSelfTest l ..
  | .selfTestComplete l .. | .referenceWindowCrossing l .. | .safetyChannelOpen l .. | .safetyChannelClosed l ..
  | .tpoPulseStart l .. | .tpoPulseEnd l .. | .tpoOverload l .. | .degradedTimerElapsed l ..
  | .discrepancyTimeout l .. | .darkPulseStart l .. | .darkPulseEnd l .. | .soutOffReadbackFault l ..
  | .soutOvercurrent l .. | .soutOpenLoad l .. | .diagIntervalOverrun l .. | .edmCheck l .. | .soutUnlock l ..
  | .safeDataTimeout l .. | .clearCvuCounters l .. | .clearSafeDataCounters l .. | .jalsynFrameReceived l ..
  | .referenceDisagreement l .. | .acceptanceWindowEnd l .. | .transmitRead l .. | .transmitFrame l ..
  | .sendReference l .. | .cycleStart l .. | .jalsynChannelLost l .. | .jalsynChannelReturn l ..
  | .phyLinkDown l .. | .listenPeriodEnd l .. | .launchDelayElapsed l .. | .cyclePointEvent l ..
  | .clearJalsynCounters l .. | .usdoDownloadInitiate l .. | .usdoDownloadSegment l .. | .usdoUploadInitiate l ..
  | .usdoUploadSegment l .. | .usdoAbort l .. | .usdoTimeout l .. | .tunnelMessage l .. | .dictionaryWrite l ..
  | .replicationResend l .. | .replicationFailed l .. | .prepareDiscard l .. | .heartbeat l ..
  | .canFrameReceived l .. | .canBusOff l .. | .canBusOffRecovery l .. | .clearCanCounters l ..
  | .clearServerCounters l .. | .stageData l .. | .configStage l .. | .configVerify l .. | .configCommit l ..
  | .configRevert l .. | .configCommandComplete l .. | .loadData l .. | .firmwareActivate l ..
  | .firmwareStart l .. | .firmwareConfirm l .. | .keyProgram l .. | .keyRevoke l .. | .challengeRead l ..
  | .sessionResponse l .. | .sessionClose l .. | .sessionExpiry l .. | .authLockoutEnd l .. | .attestChallenge l ..
  | .attestRegenerate l .. | .tamperDetected l .. | .debugResponse l .. | .logTrigger l .. | .captureWritten l ..
  | .trendRecord l .. | .logbookErase l .. | .eraseComplete l .. | .readData l .. | .schStart l .. | .schStop l ..
  | .schPrio l .. | .schYield l .. | .schWaitTick l .. | .schWaitCycle l .. | .schWaitDelay l ..
  | .waitDelayExpiry l .. | .threadFault l .. | .flwPost l .. | .flwTake l .. | .flwDone l ..
  | .canFrameTransmitted l .. | .cvuFeed l .. | .cvuFeedb l .. | .cvuFinish l .. | .cvuReset l .. | .cvuCtrl l ..
  | .cvuDeferredWrite l .. | .jsnSel l .. | .jsnMark l .. | .sigEntryWrite l .. | .flaRaise l .. | .flaHsel l ..
  | .lgcTrigger l .. | .timTimeloRead l .. | .appRegisterWrite l .. | .clearAppCounters l ..
  | .oscillatorStartDelayEnd l .. | .clockMonitorTrip l .. | .asyncDomainSwitch l .. | .windowGateEnd l ..
  | .clockWaitRecovery l .. | .gatingAbandoned l .. | .frequencyMeterStart l .. | .frequencyMeterDone l ..
  | .clearClockCounters l .. | .powerOnRelease l .. | .brownOut l .. | .overvoltageProtection l ..
  | .ovpReclose l .. | .vbatWindowCrossing l .. | .vbatFlagClear l .. | .externalReset l .. | .watchdogExpiry l ..
  | .crossLaneResetRequest l .. | .laneReset l .. | .crossReset l .. | .clearSupplyCounters l ..
  | .powerRequestRun l .. | .powerRequestIdle l .. | .powerRequestSleep l .. | .powerRequestDeep l ..
  | .readySymbolReceived l .. | .powerEntryAbandon l .. | .wakeEvent l .. | .wakeTimerExpiry l .. | .tapBypass l ..
  | .tapIdcode l .. | .tapSamplePreload l .. | .tapExtest l .. | .tapClamp l .. | .tapHighz l .. | .tapReset l ..
  | .dieHot l .. | .dieHotClear l .. | .externalResetRelease l .. | .aonRailDrop l .. | .reversePolarityFlag l ..
  | .phyLinkUp l .. | .bootstrapHighCrossing l .. => l

/-- The commands that may change the managed storage of their lane (R395, R422 to R428, R432, R435, R437 to R442): every
other command leaves it as it was. -/
def mayStore (i : Instr) : Bool :=
  match i with
  | .tickStart .. | .captureWritten .. | .haltRestart .. | .trendRecord .. | .logbookErase .. | .sessionResponse ..
  | .attestRegenerate .. | .tamperDetected .. | .configStage .. | .configVerify .. | .configCommit .. | .configRevert ..
  | .stageData .. | .loadData .. | .firmwareActivate .. | .firmwareConfirm .. | .firmwareStart .. | .keyProgram ..
  | .usdoDownloadInitiate .. | .usdoDownloadSegment .. | .tunnelMessage .. => true
  | _ => false

/-- The commands that may burn fuses of their lane (R426, R428, R429, R431). -/
def mayBurn (i : Instr) : Bool :=
  match i with
  | .firmwareConfirm .. | .keyProgram .. | .keyRevoke .. | .usdoDownloadInitiate .. | .usdoDownloadSegment ..
  | .tunnelMessage .. => true
  | _ => false

end Sys2Proof.Machine
end

