-- ==== Sys2Proof/Certificates/Slice0/Obligations.lean ====
section
/-!
DEFINITION. The statements for the provers. Each docstring names the rules of spec/ that a statement draws on;
a statement marked as the model's own rests on a log entry. `Runs`, `RunsTo` and `RunsEv` (Safety.lean) say that a
command completes: it answers a next state, the queue and the other lanes stand, and the lane is as stated.
-/

open Sys2Proof Sys2Proof.Machine

/-- Clock monitors and clock-wait (R484, R486, R487): a trip of a monitor of the kinds 1, 3, 5 and 6, or of the window
of `XTAL` with two gates outside, is counted, forces every output, takes the lane's role and puts it into clock-wait; a
trip of the `LPRC` window counts and moves that domain to its alternate source; a good gate counts towards the hundred
that end clock-wait, a bad one starts the count again; after them a lane that may rejoin makes a software reset.
Model's choices it rests on: log entries 30 and 114. -/
def Obligations.ClockMonitorForcesOutputs : Prop :=
  (∀ (l : LaneId) (m : Fin 8) (s : State), (s.lane l).live.clocked = true →
    (m.val ∈ [1, 3, 5, 6] ∨ (m.val = 2 ∧ (s.lane l).live.ck.outside = true)) →
    Runs (.clockMonitorTrip l m) l s (fun n =>
      n.store = (s.lane l).store ∧ n.otp = (s.lane l).otp ∧ n.live.phase = .clockWait ∧ n.live.ck.forced = true ∧
      n.live.ck.clkWait = true ∧ n.live.ck.last = BitVec.ofNat 8 m.val ∧
      n.live.ck.failures = satInc (s.lane l).live.ck.failures ∧ n.live.au.role = .none ∧ n.live.au.holding = false ∧
      n.live.gd.chOn = false ∧ n.live.jn.portsOff = true ∧ n.live.outputsLow = true ∧
      ∀ p : Fin 8, (n.live.gd.ports[p]).mode = .off)) ∧
  (∀ (l : LaneId) (s : State), (s.lane l).live.clocked = true →
    RunsEv (.clockMonitorTrip l 7) l s (fun x => { x with ck := { x.ck with
      failures := satInc x.ck.failures, last := 7, lprc := false,
      lprcLate := x.ck.lprcLate || decide (x.phase = .deep),
      altsrc := if x.phase = .deep then x.ck.altsrc else setBit x.ck.altsrc 7 true } })) ∧
  (∀ (l : LaneId) (dev : Int) (s : State), (s.lane l).live.clocked = true → (s.lane l).live.ck.clkWait = true →
    RunsTo (.windowGateEnd l dev) l s (fun x =>
      let on := decide (-1000000 < dev)
      let lock := on && decide (dev.natAbs ≤ 20000)
      let d := max (-100000) (min 100000 dev)
      { x with ck := { x.ck with
        devPrev := x.ck.devNow, devNow := d, rc40 := true, xtal := on, plla := lock, pllb := lock,
        xtalWin := decide (d.natAbs ≤ 3000 ∧ x.ck.devNow.natAbs ≤ 3000),
        good := if on && lock && decide (d.natAbs ≤ 3000) then x.ck.good + 1 else 0 } })) ∧
  (∀ (l : LaneId) (s : State), (s.lane l).live.phase = .clockWait → 100 ≤ (s.lane l).live.ck.good →
    (s.lane l).live.ck.healthy = true → (s.lane l).live.mayRejoin = true →
    Runs (.clockWaitRecovery l) l s (fun n => n.store = (s.lane l).store ∧ n.otp = (s.lane l).otp ∧
      n.live.phase = .inReset ∧ n.live.su.last = 6 ∧ n.live.au.rejoins = (s.lane l).live.au.rejoins + 1))

/-- Clock domains, gating and the frequency meter (R479, R483, R489, R492, R493, R495): a switched domain runs on its
alternate source or stands; an abandoned gate is counted; the start delay's end puts every domain on its normal source;
a measurement takes the settings as they stand and delivers the count and the frequency; `ClearCounters` clears.
Model's choices it rests on: log entry 62. -/
def Obligations.ClockDomainsAndMeter : Prop :=
  (∀ (l : LaneId) (d : Fin 8) (s : State), (s.lane l).live.clocked = true → d.val ≠ 5 →
    (s.lane l).live.ck.sourceLost d.val = true →
    RunsEv (.asyncDomainSwitch l d) l s (fun x => { x with ck := match d.val with
      | 0 => { x.ck with altsrc := setBit x.ck.altsrc 0 x.ck.rc40, domrun := setBit x.ck.domrun 0 x.ck.rc40 }
      | 6 => { x.ck with altsrc := setBit x.ck.altsrc 6 x.ck.plla, domrun := setBit x.ck.domrun 6 x.ck.plla }
      | 7 => { x.ck with altsrc := setBit x.ck.altsrc 7 x.ck.xtal, domrun := setBit x.ck.domrun 7 x.ck.xtal }
      | k => { x.ck with domrun := setBit x.ck.domrun k false } })) ∧
  (∀ (l : LaneId) (d : Fin 8) (s : State), (s.lane l).live.awake = true → (s.lane l).live.su.entry = none →
    RunsEv (.gatingAbandoned l d) l s (fun x => { x with ck := { x.ck with abandoned := satInc x.ck.abandoned } })) ∧
  (∀ (l : LaneId) (s : State), (s.lane l).live.phase = .startDelay → (s.lane l).live.su.fromSleep = false →
    Runs (.oscillatorStartDelayEnd l true) l s (fun n => n.store = (s.lane l).store ∧ n.otp = (s.lane l).otp ∧
      n.live.phase = .stagger ∧ n.live.ck.domrun = 0xFF ∧ n.live.ck.xtal = true ∧ n.live.ck.rc40 = true ∧
      n.live.ck.plla = true ∧ n.live.ck.pllb = true ∧
      (s.lane l).live.su.t0 + startDelay (s.lane l).live.mo.oscCode ≤ n.live.clk)) ∧
  (∀ (l : LaneId) (s : State), (s.lane l).live.writes = true → (s.lane l).live.ck.meter.state ≠ 1 →
    RunsTo (.frequencyMeterStart l 0) l s (fun x => ({ x with ck := { x.ck with meter := { x.ck.meter with
      state := 1, measured := x.rwNum Obj.measuredSource, ref := x.rwNum Obj.referenceSource,
      gate := x.rwNum Obj.gateCycles } } }).accept none)) ∧
  (∀ (l : LaneId) (count : Word) (s : State), (s.lane l).live.ck.meter.state = 1 →
    RunsTo (.frequencyMeterDone l count false) l s (fun x => { x with ck := { x.ck with meter := { x.ck.meter with
      state := 2, count := count,
      hz := F32.ofRatio (count.toNat * nominalHz x.ck.meter.ref) x.ck.meter.gate } } })) ∧
  (∀ (l : LaneId) (count : Word) (s : State), (s.lane l).live.ck.meter.state = 1 →
    RunsTo (.frequencyMeterDone l count true) l s (fun x => { x with ck := { x.ck with meter :=
      { x.ck.meter with state := 3 } } })) ∧
  (∀ (l : LaneId) (s : State), (s.lane l).live.writes = true →
    RunsTo (.clearClockCounters l 0) l s (fun x =>
      ({ x with ck := { x.ck with failures := 0, abandoned := 0 } }).accept none))

/-- The test access port (R541, R542; what the port's reset selects and what BYPASS captures are IEEE 1149.1's, log
entry 118): an instruction shifted into the port of a powered lane stands in its register; IDCODE selects 0xC3240A5B,
BYPASS, CLAMP and HIGHZ select the bypass bit, which captures 0; EXTEST, CLAMP and HIGHZ act as BYPASS unless the
lane's `RSTn` is held low; the port's reset selects IDCODE. No other part of the lane changes. -/
def Obligations.TestPortInstructions : Prop :=
  (∀ (l : LaneId) (s : State), (s.lane l).live.phase ≠ .off →
    RunsTo (.tapBypass l) l s (fun x => { x with mo := { x.mo with tap := { x.mo.tap with
      inReset := false, instr := .bypass, acts := .bypass, dr := 0, driving := false, floating := false } } })) ∧
  (∀ (l : LaneId) (s : State), (s.lane l).live.phase ≠ .off →
    RunsTo (.tapIdcode l) l s (fun x => { x with mo := { x.mo with tap := { x.mo.tap with
      inReset := false, instr := .idcode, acts := .idcode, dr := 0xC3240A5B, driving := false,
      floating := false } } })) ∧
  (∀ (l : LaneId) (cells : List Byte) (s : State), (s.lane l).live.phase ≠ .off →
    RunsTo (.tapSamplePreload l cells) l s (fun x => { x with mo := { x.mo with tap := { x.mo.tap with
      inReset := false, instr := .samplePreload, acts := .samplePreload, cells := cells, driving := false,
      floating := false } } })) ∧
  (∀ (l : LaneId) (s : State), (s.lane l).live.phase ≠ .off →
    RunsTo (.tapExtest l) l s (fun x => { x with mo := { x.mo with tap :=
      if x.su.rstn then { x.mo.tap with
        inReset := false, instr := .extest, acts := .extest, driving := true, floating := false }
      else { x.mo.tap with
        inReset := false, instr := .extest, acts := .bypass, dr := 0, driving := false, floating := false } } })) ∧
  (∀ (l : LaneId) (s : State), (s.lane l).live.phase ≠ .off →
    RunsTo (.tapClamp l) l s (fun x => { x with mo := { x.mo with tap := { x.mo.tap with
      inReset := false, instr := .clamp, acts := if x.su.rstn then .clamp else .bypass, dr := 0,
      driving := x.su.rstn, floating := false } } })) ∧
  (∀ (l : LaneId) (s : State), (s.lane l).live.phase ≠ .off →
    RunsTo (.tapHighz l) l s (fun x => { x with mo := { x.mo with tap := { x.mo.tap with
      inReset := false, instr := .highz, acts := if x.su.rstn then .highz else .bypass, dr := 0,
      driving := false, floating := x.su.rstn } } })) ∧
  (∀ (l : LaneId) (s : State), (s.lane l).live.phase ≠ .off →
    RunsTo (.tapReset l) l s (fun x => { x with mo := { x.mo with tap := { x.mo.tap with
      inReset := true, instr := .idcode, acts := .idcode, dr := 0xC3240A5B, driving := false, floating := false } } }))

/-- The test access port and the pins (R542): EXTEST, CLAMP and HIGHZ are accepted while the lane's `RSTn` is held low,
and act as BYPASS otherwise; no instruction of the port changes a gate output, a safety output or a test output. -/
def Obligations.TestPortLeavesOutputsAlone : Prop :=
  (∀ (l : LaneId) (s : State), (s.lane l).live.phase ≠ .off →
    ((s.lane l).live.su.rstn = true →
      Runs (.tapExtest l) l s (fun n => n.live.mo.tap.acts = .extest ∧ n.live.mo.tap.driving = true) ∧
      Runs (.tapClamp l) l s (fun n => n.live.mo.tap.acts = .clamp ∧ n.live.mo.tap.driving = true) ∧
      Runs (.tapHighz l) l s (fun n => n.live.mo.tap.acts = .highz ∧ n.live.mo.tap.floating = true)) ∧
    ((s.lane l).live.su.rstn = false →
      Runs (.tapExtest l) l s (fun n => n.live.mo.tap.acts = .bypass ∧
        n.live.mo.tap.driving = false ∧ n.live.mo.tap.floating = false) ∧
      Runs (.tapClamp l) l s (fun n => n.live.mo.tap.acts = .bypass ∧
        n.live.mo.tap.driving = false ∧ n.live.mo.tap.floating = false) ∧
      Runs (.tapHighz l) l s (fun n => n.live.mo.tap.acts = .bypass ∧
        n.live.mo.tap.driving = false ∧ n.live.mo.tap.floating = false))) ∧
  (∀ (l : LaneId) (cells : List Byte) (s : State),
    Runs (.tapBypass l) l s (fun n => n.store = (s.lane l).store ∧ n.otp = (s.lane l).otp ∧
      n.live = { (s.lane l).live with mo := { (s.lane l).live.mo with tap := n.live.mo.tap } }) ∧
    Runs (.tapIdcode l) l s (fun n => n.store = (s.lane l).store ∧ n.otp = (s.lane l).otp ∧
      n.live = { (s.lane l).live with mo := { (s.lane l).live.mo with tap := n.live.mo.tap } }) ∧
    Runs (.tapSamplePreload l cells) l s (fun n => n.store = (s.lane l).store ∧ n.otp = (s.lane l).otp ∧
      n.live = { (s.lane l).live with mo := { (s.lane l).live.mo with tap := n.live.mo.tap } }) ∧
    Runs (.tapExtest l) l s (fun n => n.store = (s.lane l).store ∧ n.otp = (s.lane l).otp ∧
      n.live = { (s.lane l).live with mo := { (s.lane l).live.mo with tap := n.live.mo.tap } }) ∧
    Runs (.tapClamp l) l s (fun n => n.store = (s.lane l).store ∧ n.otp = (s.lane l).otp ∧
      n.live = { (s.lane l).live with mo := { (s.lane l).live.mo with tap := n.live.mo.tap } }) ∧
    Runs (.tapHighz l) l s (fun n => n.store = (s.lane l).store ∧ n.otp = (s.lane l).otp ∧
      n.live = { (s.lane l).live with mo := { (s.lane l).live.mo with tap := n.live.mo.tap } }) ∧
    Runs (.tapReset l) l s (fun n => n.store = (s.lane l).store ∧ n.otp = (s.lane l).otp ∧
      n.live = { (s.lane l).live with mo := { (s.lane l).live.mo with tap := n.live.mo.tap } }))

/-- Die temperature (R546, R550): a reading above 145 °C keeps the temperature and the highest one and sets the hot
flag, with an event; a reading below 135 °C clears the flag. -/
def Obligations.DieTemperatureFlag : Prop :=
  (∀ (l : LaneId) (t : F32) (s : State), (s.lane l).live.awake = true → F32.gt t (F32.ofNat 145) = true →
    RunsEv (.dieHot l t) l s (fun x => { x with mo := { x.mo with
      die := t, dieMax := F32.max x.mo.dieMax t, dieHot := true } })) ∧
  (∀ (l : LaneId) (t : F32) (s : State), (s.lane l).live.awake = true → F32.lt t (F32.ofNat 135) = true →
    RunsTo (.dieHotClear l t) l s (fun x => { x with mo := { x.mo with
      die := t, dieMax := F32.max x.mo.dieMax t, dieHot := false } }))

/-- Resets (R499, R500, R502 to R509, R526): a power-on release starts the oscillator start delay as a power-on reset;
a brown-out, the protection switch, `RSTn`, the watchdog, a cross-lane request and a write of 0 to `LaneReset` put the
lane into reset, with the kind recorded in `LastReset` and its gates, outputs and session gone; the release of `RSTn`
starts the start delay. Storage and fuses stand throughout. Model's choices it rests on: log entries 115 and 116. -/
def Obligations.ResetsLeaveTheLaneInReset : Prop :=
  (∀ (l : LaneId) (osc idm : Half) (ext : Bool) (s : State), (s.lane l).live.phase = .off →
    (s.lane l).live.su.rstn = false →
    Runs (.powerOnRelease l osc idm ext) l s (fun n => n.store = (s.lane l).store ∧ n.otp = (s.lane l).otp ∧
      n.live.phase = .startDelay ∧ n.live.su.last = 1 ∧ n.live.su.halt = false ∧ n.live.su.aonUp = true ∧
      n.live.su.brownout = false ∧ n.live.ck.extOsc = ext ∧ n.live.ck.rc40 = true ∧ n.live.au.role = .none ∧
      n.live.mo.oscMv = osc ∧ n.live.mo.idMv = idm ∧ n.live.mo.oscErr = (strapRead osc.toNat).isNone ∧
      n.live.mo.oscCode = (strapRead osc.toNat).getD 7 ∧ n.live.mo.idCode = (strapRead idm.toNat).getD 7)) ∧
  (∀ (l : LaneId) (s : State), (s.lane l).live.phase ≠ .off → (s.lane l).live.su.brownout = false →
    Runs (.brownOut l) l s (fun n => n.store = (s.lane l).store ∧ n.otp = (s.lane l).otp ∧
      n.live.phase = .inReset ∧ n.live.su.brownout = true ∧ n.live.su.kind = 2 ∧ n.live.im.session = none ∧
      n.live.quiet = true)) ∧
  (∀ (l : LaneId) (s : State), (s.lane l).live.phase ≠ .off → (s.lane l).live.su.brownout = false →
    Runs (.overvoltageProtection l) l s (fun n => n.store = (s.lane l).store ∧ n.otp = (s.lane l).otp ∧
      n.live.phase = .inReset ∧ n.live.su.swOpen = true ∧ n.live.su.ovprot = true ∧ n.live.quiet = true)) ∧
  (∀ (l : LaneId) (s : State), (s.lane l).live.phase ≠ .off → (s.lane l).live.phase ≠ .inReset →
    Runs (.externalReset l) l s (fun n => n.store = (s.lane l).store ∧ n.otp = (s.lane l).otp ∧
      n.live.phase = .inReset ∧ n.live.su.last = 3 ∧ n.live.su.rstn = true ∧ n.live.su.halt = false ∧
      n.live.im.session = none ∧ n.live.quiet = true ∧ n.live.gd.forcedLow = true)) ∧
  (∀ (l : LaneId) (s : State), (s.lane l).live.su.rstn = true → (s.lane l).live.phase = .inReset →
    (s.lane l).live.su.brownout = false →
    RunsTo (.externalResetRelease l) l s (fun x => { x with
      phase := .startDelay, su := { x.su with rstn := false, t0 := x.clk }, mo := { x.mo with tap := x.mo.tap.release },
      ck := { x.ck with rc40 := true, lprc := true, domrun := 0xC1, altsrc := 1 } })) ∧
  (∀ (l : LaneId) (t : Nat) (s : State), (s.lane l).live.su.wdAt = some t → (s.lane l).live.firmware = true →
    Runs (.watchdogExpiry l) l s (fun n => n.store = (s.lane l).store ∧ n.otp = (s.lane l).otp ∧
      n.live.phase = .inReset ∧ n.live.su.last = 4 ∧ n.live.su.halt = (s.lane l).live.su.halt ∧
      n.live.su.wdAt = none ∧ t + ms 10 ≤ n.live.clk ∧ n.live.quiet = true)) ∧
  (∀ (l : LaneId) (s : State), (s.lane l).live.phase ∈ [.startDelay, .stagger, .bist, .boot, .loaded, .joined,
      .withdrawn, .clockWait] → (s.lane l).live.su.halt = false →
    Runs (.crossLaneResetRequest l) l s (fun n => n.store = (s.lane l).store ∧ n.otp = (s.lane l).otp ∧
      n.live.phase = .inReset ∧ n.live.su.last = 7 ∧ n.live.quiet = true)) ∧
  (∀ (l : LaneId) (path : Path) (s : State), (s.lane l).live.writes = true → (s.lane l).live.su.halt = false →
    (s.lane l).live.standby = true → (s.lane l).live.sessionOn path = true →
    Runs (.laneReset l path 0) l s (fun n => n.store = (s.lane l).store ∧ n.otp = (s.lane l).otp ∧
      n.live.phase = .inReset ∧ n.live.su.last = 6 ∧ n.live.im.session = none ∧ n.live.quiet = true))

/-- Supply monitors and small supply commands (R235, R497, R500, R501, R507, R517, R526): the window flags of `VBAT`
with their comparator flags, their clearing, the reclosed switch, the loss of the `AON` rail, the reverse-polarity
cell, the request for another lane's reset, the cleared counters. Model's choices it rests on: log entry 115. -/
def Obligations.SupplyFlagsAndCells : Prop :=
  (∀ (l : LaneId) (s : State), RunsTo (.ovpReclose l) l s (fun x => { x with su := { x.su with swOpen := false } })) ∧
  (∀ (l : LaneId) (s : State), Runs (.aonRailDrop l) l s (fun n => n.store = (s.lane l).store ∧
      n.otp = (s.lane l).otp ∧ n.live.phase = .off ∧ n.live.ck = {} ∧ n.live.tk = {} ∧ n.live.im = {} ∧
      n.live.su.aonUp = false ∧ n.live.fl.history = [] ∧ n.live.quiet = true)) ∧
  (∀ (l : LaneId) (s : State), (s.lane l).live.phase = .off →
    RunsTo (.reversePolarityFlag l) l s (fun x => { x with wi := { x.wi with revCell := true } })) ∧
  (∀ (l : LaneId) (high : Bool) (mv : Nat) (s : State), (s.lane l).live.awake = true →
    RunsEv (.vbatWindowCrossing l high mv) l s (fun x => { x with
      aq := { x.aq with cmpHigh := if high then setBit x.aq.cmpHigh 169 true else x.aq.cmpHigh,
                        cmpLow := if high then x.aq.cmpLow else setBit x.aq.cmpLow 169 true },
      su := { x.su with vHigh := x.su.vHigh || high, vLow := x.su.vLow || !high } })) ∧
  (∀ (l : LaneId) (s : State), RunsTo (.vbatFlagClear l true) l s (fun x => { x with su := { x.su with vHigh := false } })) ∧
  (∀ (l : LaneId) (s : State), RunsTo (.vbatFlagClear l false) l s (fun x => { x with su := { x.su with vLow := false } })) ∧
  (∀ (l o : LaneId) (path : Path) (s : State), (s.lane l).live.me = l → o ≠ l → (s.lane l).live.writes = true →
    (s.lane l).live.standby = true → (s.lane l).live.sessionOn path = true →
    RunsTo (.crossReset l path (BitVec.ofNat 8 o.num)) l s (fun x => (if l.peer .fwd = o
      then { x with su := { x.su with fwd := { x.su.fwd with sendReset := 3 } } }
      else { x with su := { x.su with back := { x.su.back with sendReset := 3 } } }).accept (some path))) ∧
  (∀ (l : LaneId) (s : State), (s.lane l).live.writes = true →
    RunsTo (.clearSupplyCounters l 0) l s (fun x => ({ x with su := { x.su with
      counts := Vector.replicate 6 0, vMin := F32.ofNat 90, vMax := 0, ovprot := false } }).accept none))

/-- Power states (R512 to R519): at a joined lane whose guard holds, a request enters IDLE, leaves it, or begins an
entry into SLEEP or DEEP with every vote held; a ready symbol is noted; an entry is abandoned at its time-out and
counted; an enabled wake event, and the wake timer, take a sleeping lane into the oscillator start delay. Model's
choices it rests on: log entries 116 and 117. -/
def Obligations.PowerStatesAndWake : Prop :=
  (∀ (l : LaneId) (s : State), (s.lane l).live.phase = .joined → (s.lane l).live.powerGuard = true →
    (s.lane l).live.su.idle = true →
    Runs (.powerRequestRun l) l s (fun n => n.store = (s.lane l).store ∧ n.otp = (s.lane l).otp ∧
      n.live.su.idle = false ∧ n.live.en.running = true ∧ n.live.gd.forcedLow = false ∧ n.live.phase = .joined ∧
      n.live.sf.inst = Vector.replicate 24 {} ∧ n.live.ck.domrun = setBit (s.lane l).live.ck.domrun 1 true)) ∧
  (∀ (l : LaneId) (s : State), (s.lane l).live.phase = .joined → (s.lane l).live.powerGuard = true →
    (s.lane l).live.su.idle = false →
    Runs (.powerRequestIdle l) l s (fun n => n.store = (s.lane l).store ∧ n.otp = (s.lane l).otp ∧
      n.live.su.idle = true ∧ n.live.en.running = false ∧ n.live.phase = .joined ∧
      n.live.ck.domrun = setBit (s.lane l).live.ck.domrun 1 false ∧
      ∀ p : Fin 8, (n.live.gd.ports[p]).mode = .off)) ∧
  (∀ (l : LaneId) (s : State), (s.lane l).live.phase = .joined → (s.lane l).live.powerGuard = true →
    (s.lane l).live.su.idle = false →
    RunsTo (.powerRequestSleep l) l s (fun x => ({ x with su := { x.su with
      entry := some { deep := false, apply := x.tk.count.toNat }, votes := 0x3FFF, gateHeld := 0, readySent := false,
      latched := none } }).accept none) ∧
    RunsTo (.powerRequestDeep l) l s (fun x => ({ x with su := { x.su with
      entry := some { deep := true, apply := x.tk.count.toNat }, votes := 0x3FFF, gateHeld := 0, readySent := false,
      latched := none } }).accept none)) ∧
  (∀ (l : LaneId) (s : State), (s.lane l).live.phase = .joined →
    RunsTo (.readySymbolReceived l .fwd) l s (fun x =>
      { x with su := { x.su with fwd := { x.su.fwd with readyNow := true } } }) ∧
    RunsTo (.readySymbolReceived l .back) l s (fun x =>
      { x with su := { x.su with back := { x.su.back with readyNow := true } } })) ∧
  (∀ (l : LaneId) (e : Entry) (s : State), (s.lane l).live.su.entry = some e →
    e.apply + (s.lane l).live.entryTicks ≤ (s.lane l).live.tk.count.toNat → (s.lane l).live.en.running = true →
    RunsEv (.powerEntryAbandon l) l s (fun x => { x with su := { x.su with
      entry := none, refusers := x.su.votes &&& 0x1FFF, votes := 0x3FFF, gateHeld := 0, result := 2,
      abandons := satInc x.su.abandons, readySent := false, latched := none } })) ∧
  (∀ (l : LaneId) (kind : Fin 7) (detail : Fin 16) (s : State),
    (s.lane l).live.wakeEnabled kind.val detail.val = true → (s.lane l).live.phase ∈ [.sleep, .deep] →
    Runs (.wakeEvent l kind detail) l s (fun n => n.store = (s.lane l).store ∧ n.otp = (s.lane l).otp ∧
      n.live.phase = .startDelay ∧ n.live.su.wake = BitVec.ofNat 16 (kind.val + 16 * detail.val) ∧
      n.live.su.wakePat = true ∧ n.live.su.votes = 0x3FFF ∧ n.live.au.role = .none ∧ n.live.au.epoch = 0 ∧
      n.live.su.fromDeep = decide ((s.lane l).live.phase = .deep) ∧ n.live.gd.forcedLow = true ∧
      n.live.su.t0 = (s.lane l).live.clk)) ∧
  (∀ (l : LaneId) (s : State), (s.lane l).live.wakeEnabled 3 0 = true → (s.lane l).live.phase ∈ [.sleep, .deep] →
    (s.lane l).live.rwNum Obj.wakeTimer ≠ 0 →
    Runs (.wakeTimerExpiry l) l s (fun n => n.store = (s.lane l).store ∧ n.otp = (s.lane l).otp ∧
      n.live.phase = .startDelay ∧ n.live.su.wake = 3 ∧
      (s.lane l).live.su.dropAt + (s.lane l).live.rwNum Obj.wakeTimer * perSec ≤ n.live.clk))

/-- Sending at T/2 (R24, R25, R27, R45, R321): a joined lane that has not yet sent in this tick sends on both links a
tick record with its letter, role, leash field, tick count, health and a valid CRC-32C, and a channel block; a second
command in the same tick changes nothing. Model's choices it rests on: log entry 60. -/
def Obligations.TickRecordSent : Prop :=
  (∀ (l : LaneId) (s : State), (s.lane l).live.phase = .joined →
    (s.lane l).live.au.sentTick ≠ some (s.lane l).live.tk.count →
    Runs (.sendTickRecord l) l s (fun n => n.store = (s.lane l).store ∧ n.otp = (s.lane l).otp ∧
      (∀ tx ∈ [n.live.tk.fwdTx, n.live.tk.backTx], ∃ r b, tx.record = some r ∧ tx.chan = some b ∧
        r.sender = (s.lane l).live.me ∧ r.role = (s.lane l).live.au.role ∧ r.leash = (s.lane l).live.leashWord ∧
        r.tick = (s.lane l).live.tk.count.setWidth 32 ∧ r.tickhi = ((s.lane l).live.tk.count >>> 32).setWidth 32 ∧
        r.health = (s.lane l).live.healthWord ∧ r.crc = crc32c r.body ∧ b.tick = r.tick ∧
        b.sinv = (s.lane l).live.sf.sinvNow ∧ b.sdv = (s.lane l).live.sf.sdvNow ∧ b.crc = crc32c b.body) ∧
      n.live.au.sentTick = some (s.lane l).live.tk.count ∧ n.live.tk.count = (s.lane l).live.tk.count ∧
      n.live.tk.fwd = (s.lane l).live.tk.fwd ∧ n.live.tk.back = (s.lane l).live.tk.back ∧
      n.live.au.role = (s.lane l).live.au.role ∧ n.live.au.mode = (s.lane l).live.au.mode ∧
      n.live.gd = (s.lane l).live.gd ∧ n.live.en = (s.lane l).live.en ∧ n.live.fl = (s.lane l).live.fl)) ∧
  (∀ (l : LaneId) (s : State), (s.lane l).live.au.sentTick = some (s.lane l).live.tk.count →
    RunsTo (.sendTickRecord l) l s (fun x => x))

/-- Receiving (R28, R30): a block that is complete in time and passes its checks is accepted and, if it is a record,
counted as valid; one whose CRC fails is counted and discarded; one of another tick is counted and discarded; one that
ends after the tick start is not taken. No checker injection is armed. Nothing else of the lane changes. Model's
choices it rests on: log entries 67 and 71. -/
def Obligations.LinkBlocksCheckedAndCounted : Prop :=
  (∀ (l : LaneId) (d : LinkDir) (r : TickRecord) (s : State), (s.lane l).live.phase = .joined →
    (s.lane l).live.fl.armed = none → ((s.lane l).live.rx d).inService = true → ((s.lane l).live.rx d).lost = false →
    r.crc = crc32c r.body → r.tick = (s.lane l).live.tk.count.setWidth 32 →
    RunsTo (.receiveTickRecord l d r .inTime) l s (fun x => x.modRx d (fun q =>
      { q with complete := true, valid := satInc q.valid, got := some r }))) ∧
  (∀ (l : LaneId) (d : LinkDir) (r : TickRecord) (s : State), (s.lane l).live.phase ∈ [.joined, .loaded] →
    (s.lane l).live.fl.armed = none → r.crc ≠ crc32c r.body →
    RunsTo (.receiveTickRecord l d r .inTime) l s (fun x => x.modRx d (fun q =>
      { q with complete := true, crcErr := satInc q.crcErr, badNow := true }))) ∧
  (∀ (l : LaneId) (d : LinkDir) (r : TickRecord) (s : State), (s.lane l).live.phase = .joined →
    (s.lane l).live.fl.armed = none → r.crc = crc32c r.body → r.tick ≠ (s.lane l).live.tk.count.setWidth 32 →
    RunsTo (.receiveTickRecord l d r .inTime) l s (fun x => x.modRx d (fun q =>
      { q with complete := true, tickMis := satInc q.tickMis, badNow := true }))) ∧
  (∀ (l : LaneId) (d : LinkDir) (r : TickRecord) (s : State),
    RunsTo (.receiveTickRecord l d r .late) l s (fun x => x)) ∧
  (∀ (l : LaneId) (d : LinkDir) (b : ChannelBlock) (s : State), (s.lane l).live.phase ∈ [.joined, .loaded] →
    (s.lane l).live.fl.armed = none → ((s.lane l).live.rx d).lost = false → b.crc = crc32c b.body →
    b.tick = (s.lane l).live.tk.count.setWidth 32 →
    RunsTo (.receiveChannelBlock l d b .inTime) l s (fun x => x.modRx d (fun q => { q with chan := some b }))) ∧
  (∀ (l : LaneId) (d : LinkDir) (b : DictBlock) (s : State), (s.lane l).live.phase ∈ [.joined, .loaded] →
    (s.lane l).live.fl.armed = none → ((s.lane l).live.rx d).lost = false → b.crc = crc32c b.body →
    b.tick = (s.lane l).live.tk.count.setWidth 32 →
    RunsTo (.receiveDictionaryBlock l d b .inTime) l s (fun x => x.modRx d (fun q => { q with dict := some b }))) ∧
  (∀ (l : LaneId) (d : LinkDir) (b : MirrorBlock) (s : State), (s.lane l).live.phase ∈ [.joined, .loaded] →
    (s.lane l).live.fl.armed = none → ((s.lane l).live.rx d).got.isSome = true → ((s.lane l).live.rx d).lost = false →
    b.crc = crc32c b.body → (s.lane l).live.au.role ≠ .heel →
    RunsTo (.receiveMirrorBlock l d b .inTime) l s (fun x => x.modRx d (fun q => { q with mirror := some b }))) ∧
  (∀ (l : LaneId) (d : LinkDir) (b : MirrorBlock) (s : State), (s.lane l).live.phase = .joined →
    (s.lane l).live.fl.armed = none → ((s.lane l).live.rx d).got.isSome = true → ((s.lane l).live.rx d).lost = false →
    b.crc = crc32c b.body → (s.lane l).live.au.role = .heel → (s.lane l).live.au.follower = false →
    (s.lane l).live.au.holder = some ((s.lane l).live.me.peer d) →
    (s.lane l).live.au.sentTick = some (s.lane l).live.tk.count → (s.lane l).live.au.mirFirst = true →
    RunsTo (.receiveMirrorBlock l d b .inTime) l s (fun x =>
      let y := x.modRx d (fun q => { q with mirror := some b })
      { y with au := { y.au with mirFirst := false, mirLoad := some b.words } })) ∧
  (∀ (l : LaneId) (d : LinkDir) (b : JoinBlock) (s : State), (s.lane l).live.phase ∈ [.joined, .loaded] →
    (s.lane l).live.fl.armed = none → ((s.lane l).live.rx d).got.isSome = true → ((s.lane l).live.rx d).lost = false →
    ((s.lane l).live.rx d).join = none → b.crc = crc32c b.body →
    RunsTo (.receiveJoinBlock l d b .inTime) l s (fun x =>
      let y := x.modRx d (fun q => { q with join := some b })
      { y with fc := { y.fc with groups := y.fc.groups.map (fun g => { g with steps := 0 }) } }))

/-- Links and their clocks (R29, R30, R34): the marker of the highest-ranked joined lane sets the tick phase while
Jalsyn does not; a link without a valid record for `LeaseTicks` ticks is lost and what it held is dropped; the counters
clear. -/
def Obligations.LinkMarkerLossAndCounters : Prop :=
  (∀ (l : LaneId) (d : LinkDir) (k : Int) (s : State), (s.lane l).live.phase ∈ [.joined, .loaded] →
    (s.lane l).live.tk.onJalsyn = false → (s.lane l).live.topLane = some ((s.lane l).live.me.peer d) →
    ((s.lane l).live.rx d).lost = false →
    RunsTo (.tickMarkerReceived l d k) l s (fun x => { x with tk := { x.tk with offset := k } })) ∧
  (∀ (l : LaneId) (d : LinkDir) (s : State), (s.lane l).live.phase = .joined →
    ((s.lane l).live.rx d).inService = true → ((s.lane l).live.rx d).lost = false →
    (s.lane l).live.num Obj.leaseTicks ≤ ((s.lane l).live.rx d).missRun →
    Runs (.laneLinkLost l d) l s (fun n => n.store = (s.lane l).store ∧ n.otp = (s.lane l).otp ∧
      n.live.tk = ((s.lane l).live.modRx d (fun q => { q with
        lost := true, got := none, chan := none, chanPrev := none, mirror := none, join := none, dict := none,
        dictPrev := none })).tk)) ∧
  (∀ (l : LaneId) (s : State), (s.lane l).live.writes = true →
    RunsTo (.clearLinkCounters l 0) l s (fun x => ({ x with tk := { x.tk with
      fwd := { x.tk.fwd with valid := 0, crcErr := 0, tickMis := 0, missing := 0 },
      back := { x.tk.back with valid := 0, crcErr := 0, tickMis := 0, missing := 0 } } }).accept none))

/-- Lease and takeover (R42, R46, R48, R49, R63): a Lead whose lease has run out with a link still bringing records
withdraws, its outputs off and no gate switched; Heel takes the leash with the next epoch after `LeaseTicks` + 1 silent
ticks. Model's choices it rests on: log entry 69. -/
def Obligations.LeaseExpiryAndSilentTakeover : Prop :=
  (∀ (l : LaneId) (s : State), (s.lane l).live.phase = .joined → (s.lane l).live.leaseOut = true →
    (s.lane l).live.bothSilent = false →
    Runs (.leaseExpiry l) l s (fun n => n.store = (s.lane l).store ∧ n.otp = (s.lane l).otp ∧
      n.live.phase = .withdrawn ∧ n.live.au.role = .none ∧ n.live.au.holding = false ∧
      n.live.au.expiries = satInc (s.lane l).live.au.expiries ∧ n.live.jn.portsOff = true ∧ n.live.quiet = true ∧
      n.live.tk = (s.lane l).live.tk ∧ n.live.fl = (s.lane l).live.fl)) ∧
  (∀ (l : LaneId) (s : State), (s.lane l).live.phase = .joined → (s.lane l).live.leaseOut = true →
    (s.lane l).live.bothSilent = true →
    RunsTo (.leaseExpiry l) l s (fun x => { x with au := { x.au with holding := false } })) ∧
  (∀ (l lead third : LaneId) (s : State), (s.lane l).live.me = l → lead ≠ l → third ≠ l → third ≠ lead →
    (s.lane l).live.phase = .joined → (s.lane l).live.au.role = .heel → (s.lane l).live.au.holding = false →
    (s.lane l).live.holderOf .lead = some lead → (s.lane l).live.laneRole third ≠ .lead →
    (s.lane l).live.laneRole third ≠ .heel →
    (s.lane l).live.num Obj.leaseTicks + 1 ≤ (s.lane l).live.au.silent → (s.lane l).live.upTo lead = true →
    Runs (.heelSilentTakeover l) l s (fun n => n.store = (s.lane l).store ∧ n.otp = (s.lane l).otp ∧
      n.live.au.role = .lead ∧ n.live.au.holding = true ∧ n.live.au.holder = some l ∧
      n.live.au.epoch = (s.lane l).live.au.epoch + 1 ∧ n.live.au.takeovers = satInc (s.lane l).live.au.takeovers ∧
      (n.live.au.views[lead.fin]).role = .none ∧ n.live.tk = (s.lane l).live.tk ∧ n.live.gd = (s.lane l).live.gd))

/-- Votes and mirroring (R40, R52 to R54, R66, R67): a comparing lane with a count at `CompareTicks` votes and counts
its vote; an unsupported vote makes it a follower without a role; a mirror word that differed in three blocks is
counted anew and, with a role-capable Watch, Heel and Watch change places. Model's choices it rests on: log entries 70
and 72. -/
def Obligations.VotesAndMirrorSwap : Prop :=
  (∀ (l : LaneId) (s : State), (s.lane l).live.phase = .joined → (s.lane l).live.au.role ∈ [.heel, .watch] →
    (s.lane l).live.au.demoting = false → (s.lane l).live.deviates = true → (s.lane l).live.au.mode ≠ .reduced →
    RunsTo (.demoteVote l) l s (fun x => { x with au := { x.au with
      demoting := true, demoteFor := x.au.holder, demoteTicks := 0, voteStands := false,
      demSent := satInc x.au.demSent } })) ∧
  (∀ (l : LaneId) (s : State), (s.lane l).live.phase = .joined → (s.lane l).live.au.demoting = true →
    (s.lane l).live.au.voteStands = false →
    (s.lane l).live.num Obj.compareTicks < (s.lane l).live.au.demoteTicks → (s.lane l).live.capables = 3 →
    Runs (.demoteUnsupported l) l s (fun n => n.store = (s.lane l).store ∧ n.otp = (s.lane l).otp ∧
      n.live.au.follower = true ∧ n.live.au.role = .none ∧ n.live.au.holding = false ∧ n.live.au.demoting = false ∧
      n.live.tk = (s.lane l).live.tk ∧ n.live.gd = (s.lane l).live.gd ∧ n.live.en = (s.lane l).live.en)) ∧
  (∀ (l : LaneId) (k : Nat) (s : State), (s.lane l).live.phase = .joined → (s.lane l).live.au.role = .heel →
    (s.lane l).live.au.mirRuns.findIdx? (fun n => decide (3 ≤ n)) = some k →
    Runs (.mirrorDivergenceRepeat l) l s (fun n => n.store = (s.lane l).store ∧ n.otp = (s.lane l).otp ∧
      n.live.au.mirRuns = (s.lane l).live.au.mirRuns.map (fun k => if 3 ≤ k then 0 else k) ∧
      ∀ w : LaneId, (s.lane l).live.holderOf .watch = some w → (s.lane l).live.capable w = true →
        w ≠ (s.lane l).live.me → n.live.phase = .joined →
        n.live.au.role = .watch ∧ (n.live.au.views[w.fin]).role = .heel))

/-- Joining and leaving (R29, R42, R43, R61, R63): a loaded lane that the running device admits joins and starts its
tick program; a peer that joins anew takes its link out of loss, not yet in service; the end of STARTUP brings STANDBY;
a lone lane that heard its own device withdraws, one that did not holds the leash without lease. Model's choices it
rests on: log entries 67, 69 and 71. -/
def Obligations.JoinStartupAndLoneLane : Prop :=
  (∀ (l : LaneId) (s : State), (s.lane l).live.phase = .loaded → (s.lane l).live.admits = true →
    s.levelWith l = true → (s.lane l).live.su.halt = false →
    Runs (.laneJoin l (s.lane l).live.me) l s (fun n => n.store = (s.lane l).store ∧ n.otp = (s.lane l).otp ∧
      n.live.phase = .joined ∧ n.live.en.running = true ∧ n.live.gd.forcedLow = false ∧
      n.live.sf.inst = Vector.replicate 24 {} ∧ n.live.au = (s.lane l).live.au ∧ n.live.tk = (s.lane l).live.tk)) ∧
  (∀ (l o : LaneId) (d : LinkDir) (s : State), o ≠ (s.lane l).live.me → (s.lane l).live.me.linkTo o = some d →
    (s.lane l).live.phase ∈ [.joined, .loaded] → (s.lane l).live.au.mode ≠ .descent →
    ((s.lane l).live.rx d).lost = true →
    Runs (.laneJoin l o) l s (fun n => n.store = (s.lane l).store ∧ n.otp = (s.lane l).otp ∧
      (n.live.rx d).lost = false ∧ (n.live.rx d).inService = false ∧ (n.live.rx d).missRun = 0 ∧
      (n.live.au.views[o.fin]).joined = false ∧ (n.live.au.views[o.fin]).lost = false ∧
      (n.live.au.views[o.fin]).rejoins = satInc ((s.lane l).live.au.views[o.fin]).rejoins ∧
      n.live.gd = (s.lane l).live.gd ∧ n.live.en = (s.lane l).live.en)) ∧
  (∀ (l : LaneId) (s : State), (s.lane l).live.phase = .joined → (s.lane l).live.au.mode = .startup →
    (s.lane l).live.au.startupOver = false →
    ((s.lane l).live.due ((s.lane l).live.au.startedAt + ms 400) = true ∨ allLanes.all (s.lane l).live.sees = true) →
    Runs (.startupEnd l) l s (fun n => n.store = (s.lane l).store ∧ n.otp = (s.lane l).otp ∧
      n.live.au.mode = .standby ∧ n.live.au.startupOver = true ∧ n.live.au.ownMode = .standby ∧
      n.live.sf.inst = Vector.replicate 24 {})) ∧
  (∀ (l : LaneId) (k : Nat) (s : State), (s.lane l).live.phase = .joined → (s.lane l).live.au.loneSince = some k →
    (s.lane l).live.au.noLease = false → (s.lane l).live.au.loneHeard = true →
    Runs (.loneListenEnd l) l s (fun n => n.store = (s.lane l).store ∧ n.otp = (s.lane l).otp ∧
      n.live.phase = .withdrawn ∧ n.live.au.role = .none ∧ n.live.quiet = true)) ∧
  (∀ (l : LaneId) (k : Nat) (s : State), (s.lane l).live.phase = .joined → (s.lane l).live.au.loneSince = some k →
    (s.lane l).live.au.noLease = false → (s.lane l).live.au.loneHeard = false → (s.lane l).live.integrated = true →
    (s.lane l).live.au.follower = false → k + 2 * (s.lane l).live.num Obj.cycleTicks ≤ (s.lane l).live.tk.count.toNat →
    Runs (.loneListenEnd l) l s (fun n => n.store = (s.lane l).store ∧ n.otp = (s.lane l).otp ∧
      n.live.phase = .joined ∧ n.live.au.role = .lead ∧ n.live.au.noLease = true ∧ n.live.au.holding = true ∧
      n.live.au.ownMode = (match (s.lane l).live.au.ownMode with
        | .operational | .reduced => Mode.descent | m => m)))

/-- Mode requests outside a gap (R58, R69, R70, R83): the rows of the transition table, each with its guard, give the
mode that the lane computes; a request without a row is counted as refused; in a gap a request other than SAFE waits.
Model's choices it rests on: log entry 73. -/
def Obligations.ModeRequestsFollowTheTable : Prop :=
  (∀ (l : LaneId) (s : State), (s.lane l).live.phase = .joined → (s.lane l).live.au.gap = false →
    (s.lane l).live.au.ownMode ∈ [.operational, .reduced] → (s.lane l).live.au.standstill = true →
    RunsTo (.modeRequestStandby l) l s (fun x => { x with au := { x.au with ownMode := .standby } })) ∧
  (∀ (l : LaneId) (s : State), (s.lane l).live.phase = .joined → (s.lane l).live.au.gap = false →
    (s.lane l).live.au.ownMode ∈ [.operational, .reduced] → (s.lane l).live.au.standstill = false →
    RunsTo (.modeRequestStandby l) l s (fun x => { x with au := { x.au with refused := satInc x.au.refused } })) ∧
  (∀ (l : LaneId) (k : Nat) (m : Mode) (s : State), (s.lane l).live.phase = .joined → (s.lane l).live.au.gap = false →
    (s.lane l).live.au.ownMode = .standby → (s.compareLanes l (s.lane l).live).committed = true →
    (s.lane l).live.sfTripped = false → (s.lane l).live.runCapables = k →
    ((k = 3 ∧ m = .operational) ∨ (k = 2 ∧ m = .reduced)) →
    RunsTo (.modeRequestRun l) l s (fun x =>
      let y := s.compareLanes l x
      { y with au := { y.au with ownMode := m } })) ∧
  (∀ (l : LaneId) (s : State), (s.lane l).live.phase = .joined → (s.lane l).live.au.gap = false →
    (s.lane l).live.au.ownMode = .standby → (s.compareLanes l (s.lane l).live).committed = false →
    RunsTo (.modeRequestRun l) l s (fun x =>
      let y := s.compareLanes l x
      { y with au := { y.au with refused := satInc y.au.refused } })) ∧
  (∀ (l : LaneId) (s : State), (s.lane l).live.phase = .joined → (s.lane l).live.au.gap = false →
    (s.lane l).live.au.ownMode ∈ [.operational, .reduced, .descent] →
    RunsTo (.modeRequestSafe l) l s (fun x => { x with au := { x.au with ownMode := .safe } })) ∧
  (∀ (l : LaneId) (s : State), (s.lane l).live.phase = .joined → (s.lane l).live.au.gap = true →
    RunsTo (.modeRequestStandby l) l s (fun x => { x with au := { x.au with modePending := some 1 } }) ∧
    RunsTo (.modeRequestRun l) l s (fun x =>
      let y := s.compareLanes l x
      { y with au := { y.au with modePending := some 2 } }))

/-- Standstill, the descent limit, boost and controlled stops (R70, R71, R74, R151): the flag and bus entry 377 rise
after their time; the limit of DESCENT asks for SAFE; a boost that has lasted its time begins its ramp; a stop of
category 2 has reached standstill, and after one of the group reaction the winding is torque-free. Model's choices it
rests on: log entry 78. -/
def Obligations.StandstillDescentBoostStop : Prop :=
  (∀ (l : LaneId) (t : Nat) (s : State), (s.lane l).live.phase = .joined → (s.lane l).live.au.stillSince = some t →
    (s.lane l).live.due (t + (s.lane l).live.stillCond.2) = true → (s.lane l).live.au.ownMode ≠ .descent →
    RunsTo (.standstillDetected l) l s (fun x =>
      ({ x with au := { x.au with standstill := true } } : Live).setBus 377 (F32.ofNat 1))) ∧
  (∀ (l : LaneId) (t : Nat) (s : State), (s.lane l).live.au.descentEnd = some t →
    (s.lane l).live.au.ownMode = .descent → (s.lane l).live.due t = true → (s.lane l).live.au.gap = false →
    RunsTo (.descentLimitElapsed l) l s (fun x => { x with au := { x.au with ownMode := .safe } })) ∧
  (∀ (l : LaneId) (p : Fin 8) (t : Nat) (s : State), (s.lane l).live.au.boostEnd[p] = some t →
    (s.lane l).live.due t = true →
    RunsTo (.boostEnd l p) l s (fun x => { x with au := { x.au with
      boostEnd := vmod x.au.boostEnd p (fun _ => none), boostRamp := vmod x.au.boostRamp p (fun _ => some t) } })) ∧
  (∀ (l : LaneId) (g : Fin 24) (s : State), ((s.lane l).live.fc.groups[g]).stop = some .category2 →
    ((s.lane l).live.fc.groups[g]).stopped = false → (s.lane l).live.sf.category ≠ some 1 →
    F32.lt (F32.abs ((s.lane l).live.fc.groups[g]).speed)
      (F32.mul (F32.dec 5 3) ((s.lane l).live.real Obj.groupMaxSpeed g.val)) = true →
    RunsTo (.controlledStopStandstill l g) l s (fun x => x.modGroup g (fun q => { q with stopped := true }))) ∧
  (∀ (l : LaneId) (g : Fin 24) (p : Fin 8) (s : State),
    ((s.lane l).live.fc.groups[g]).stop = some .groupReaction →
    ((s.lane l).live.fc.groups[g]).stopped = false → (s.lane l).live.sf.category ≠ some 1 →
    F32.lt (F32.abs ((s.lane l).live.fc.groups[g]).speed)
      (F32.mul (F32.dec 5 3) ((s.lane l).live.real Obj.groupMaxSpeed g.val)) = true →
    (s.lane l).live.portOf g = some p → ((s.lane l).live.fc.wind[p]).ws ∈ [.running, .stopping] →
    Runs (.controlledStopStandstill l g) l s (fun n => n.store = (s.lane l).store ∧ n.otp = (s.lane l).otp ∧
      (n.live.fc.groups[g]).stopped = true ∧ (n.live.fc.wind[p]).ws = .torqueFree ∧
      (n.live.gd.ports[p]).mode ≠ .pwm ∧ n.live.au = (s.lane l).live.au ∧ n.live.tk = (s.lane l).live.tk))

/-- Recoverable faults of a winding (R173, R190, R195, R197, R198, R200 to R201, R204 to R206): while tries are left, a
trip of a conducting switch, an over-current, a failed gate check and an armed bootstrap fault put the winding into
that fault with their counters and flags, and raise their event; a crossing of the upper bootstrap threshold is
latched. Model's choices it rests on: log entry 77. -/
def Obligations.RecoverableGateFaults : Prop :=
  (∀ (l : LaneId) (leg : Fin 24) (side : Side) (s : State), (s.lane l).live.sensing = true →
    (s.lane l).live.conducts leg side = true → (s.lane l).live.inAsc (legPort leg) = false →
    ((s.lane l).live.gd.ports[legPort leg]).fault = none →
    (recentTries (s.lane l).live.clk ((s.lane l).live.gd.ports[legPort leg]).tries).length
      < (s.lane l).live.num Obj.portRetryCount (legPort leg).val →
    RunsEv (.vdsTrip l (.bridge leg side)) l s (fun x =>
      (x.crossed ((match side with | .high => 48 | .low => 72) + leg.val) true).faulted (legPort leg) .short
        (fun q => { (q.marked x.clk) with
          trips := satInc q.trips, hard := false, scSide := otherSide side,
          legs := vmod q.legs (legPhase leg) (fun g => { g with shorted := true }) })) ∧
    RunsEv (.hardShortTrip l (.bridge leg side)) l s (fun x => x.faulted (legPort leg) .short
        (fun q => { (q.marked x.clk) with
          trips := satInc q.trips, hardTrips := satInc q.hardTrips, hard := true, scSide := otherSide side,
          legs := vmod q.legs (legPhase leg) (fun g => { g with shorted := true }) }))) ∧
  (∀ (l : LaneId) (leg : Fin 24) (high : Bool) (s : State), (s.lane l).live.sensing = true →
    (s.lane l).live.conducts leg .low = true → ((s.lane l).live.gd.ports[legPort leg]).mode = .pwm →
    (recentTries (s.lane l).live.clk ((s.lane l).live.gd.ports[legPort leg]).tries).length
      < (s.lane l).live.num Obj.portRetryCount (legPort leg).val →
    RunsEv (.overcurrentTrip l leg high) l s (fun x =>
      (x.crossed leg.val high).faulted (legPort leg) .overcurrent (fun q => q.marked x.clk))) ∧
  (∀ (l : LaneId) (leg : Fin 24) (side : Side) (vgs : F32) (atTurnOn : Bool) (s : State),
    (s.lane l).live.sensing = true → (s.lane l).live.gateOk vgs atTurnOn = false → (s.lane l).live.gd.railUv = false →
    ((s.lane l).live.gd.ports[legPort leg]).fault = none →
    (recentTries (s.lane l).live.clk ((s.lane l).live.gd.ports[legPort leg]).tries).length
      < (s.lane l).live.num Obj.portRetryCount (legPort leg).val →
    RunsEv (.gateCheck l leg side vgs atTurnOn) l s (fun x => x.faulted (legPort leg) .gate
      (fun q => { q with
        gateFaults := satInc q.gateFaults,
        legs := vmod q.legs (legPhase leg) (fun g => { g with fault := true }) }))) ∧
  (∀ (l : LaneId) (leg : Fin 24) (s : State), (s.lane l).live.sensing = true → (s.lane l).live.bootArmed leg = true →
    (s.lane l).live.inAsc (legPort leg) = false →
    (recentTries (s.lane l).live.clk ((s.lane l).live.gd.ports[legPort leg]).tries).length
      < (s.lane l).live.num Obj.portRetryCount (legPort leg).val →
    RunsEv (.bootstrapUndervoltage l leg) l s (fun x =>
      (x.crossed (144 + leg.val) false).faulted (legPort leg) .bootstrap id)) ∧
  (∀ (l : LaneId) (leg : Fin 24) (s : State), (s.lane l).live.sensing = true →
    RunsTo (.bootstrapHighCrossing l leg) l s (fun x => x.crossed (144 + leg.val) true))

/-- The double short (R202, R204): a trip in a bridge whose first short has not been cleared, or of a conducting switch
in active short circuit, is a double short, without a retry. -/
def Obligations.SecondTripIsADoubleShort : Prop :=
  ∀ (l : LaneId) (leg : Fin 24) (side : Side) (s : State), (s.lane l).live.sensing = true →
    (s.lane l).live.conducts leg side = true →
    ((s.lane l).live.gd.ports[legPort leg]).fault ≠ some .doubleShort →
    (((s.lane l).live.gd.ports[legPort leg]).fault = some .short ∨ (s.lane l).live.inAsc (legPort leg) = true) →
    Runs (.hardShortTrip l (.bridge leg side)) l s (fun n => n.store = (s.lane l).store ∧ n.otp = (s.lane l).otp ∧
      (n.live.gd.ports[legPort leg]).fault = some .doubleShort ∧ (n.live.gd.ports[legPort leg]).double = true ∧
      (n.live.gd.ports[legPort leg]).waitEnd = none ∧
      (n.live.gd.ports[legPort leg]).hardTrips = satInc ((s.lane l).live.gd.ports[legPort leg]).hardTrips ∧
      n.live.tk = (s.lane l).live.tk ∧ n.live.aq.codes = (s.lane l).live.aq.codes ∧
      ∀ p : Fin 8, p ≠ legPort leg → (n.live.gd.ports[p]).guard = ((s.lane l).live.gd.ports[p]).guard)

/-- The end of a retry wait (R206, R216): in SAFE and STANDBY the retry is abandoned; while a lane-wide cause stands
the retry waits; a gate still on counts a try and the wait begins again; else the fault is cleared, the retry is
counted and the winding that waits torque-free enters the catch procedure. Model's choices it rests on: log entry 78.
-/
def Obligations.RetryWaitEnds : Prop :=
  (∀ (l : LaneId) (p : Fin 8) (bad : Bool) (t : Nat) (s : State),
    ((s.lane l).live.gd.ports[p]).waitEnd = some t → (s.lane l).live.due t = true →
    ((s.lane l).live.au.mode = .safe ∨ (s.lane l).live.au.mode = .standby) →
    RunsTo (.retryWaitEnd l p bad) l s (fun x => x.modPort p (fun q => { q with waitEnd := none }))) ∧
  (∀ (l : LaneId) (p : Fin 8) (bad : Bool) (t : Nat) (s : State),
    ((s.lane l).live.gd.ports[p]).waitEnd = some t → (s.lane l).live.due t = true →
    (s.lane l).live.au.mode ≠ .safe → (s.lane l).live.au.mode ≠ .standby → (s.lane l).live.blocked = true →
    RunsTo (.retryWaitEnd l p bad) l s id) ∧
  (∀ (l : LaneId) (p : Fin 8) (t : Nat) (s : State),
    ((s.lane l).live.gd.ports[p]).waitEnd = some t → t ≤ (s.lane l).live.clk →
    (s.lane l).live.au.mode ≠ .safe → (s.lane l).live.au.mode ≠ .standby → (s.lane l).live.blocked = false →
    ((s.lane l).live.gd.ports[p]).fault = some .gate →
    (recentTries (s.lane l).live.clk ((s.lane l).live.gd.ports[p]).tries).length + 1
      < (s.lane l).live.num Obj.portRetryCount p.val →
    RunsTo (.retryWaitEnd l p true) l s (fun x => x.modPort p (fun q => { q with
      tries := recentTries x.clk (q.tries ++ [x.clk]),
      waitEnd := some (x.clk + ms (x.num Obj.portRetryWait p.val)) }))) ∧
  (∀ (l : LaneId) (p : Fin 8) (t : Nat) (s : State),
    ((s.lane l).live.gd.ports[p]).waitEnd = some t → (s.lane l).live.due t = true →
    (s.lane l).live.au.mode ≠ .safe → (s.lane l).live.au.mode ≠ .standby → (s.lane l).live.blocked = false →
    ((s.lane l).live.fc.wind[p]).ws = .torqueFree → (s.lane l).live.heldBack p = false →
    Runs (.retryWaitEnd l p false) l s (fun n => n.store = (s.lane l).store ∧ n.otp = (s.lane l).otp ∧
      (n.live.gd.ports[p]).fault = none ∧ (n.live.gd.ports[p]).waitEnd = none ∧
      (n.live.gd.ports[p]).retries = satInc ((s.lane l).live.gd.ports[p]).retries ∧
      (n.live.gd.ports[p]).tries = ((s.lane l).live.gd.ports[p]).tries ++ [max (s.lane l).live.clk t] ∧
      (n.live.fc.wind[p]).ws = .measuring ∧ n.live.au = (s.lane l).live.au ∧ n.live.tk = (s.lane l).live.tk ∧
      ∀ q : Fin 8, q ≠ p → n.live.gd.ports[q] = (s.lane l).live.gd.ports[q] ∧ n.live.fc.wind[q] = (s.lane l).live.fc.wind[q]))

/-- Lane-wide causes and their end (R186, R210, R211, R215, R230): the fallen gate rail and the `V_ASC` crossing
suspend the enabled windings, set their flags and raise their event; when the cause ends after its time, the windings that it
suspended measure their back-EMF anew. Model's choices it rests on: log entry 78. -/
def Obligations.LaneWideCausesSuspendAndResume : Prop :=
  (∀ (l : LaneId) (s : State), (s.lane l).live.sensing = true → (s.lane l).live.gd.railUv = false →
    RunsEv (.gateRailUndervoltage l) l s
      (fun x =>
        let y := x.suspend
        { y with gd := { y.gd with railUv := true, chOn := false } })
      (fun x => x.gd.railUv = true ∧ x.gd.chOn = false)) ∧
  (∀ (l : LaneId) (s : State), (s.lane l).live.sensing = true → (s.lane l).live.gd.ladderAsc = false →
    RunsEv (.ladderAsc l) l s
      (fun x =>
        let y := (x.crossed 168 true).suspend
        { y with gd := { y.gd with
          ladderAsc := true, ascEvents := satInc y.gd.ascEvents, belowAsc := none,
          ports := Vector.ofFn (fun p : Fin 8 => { y.gd.ports[p] with ladder := match x.groupOf p with
            | some g => (x.fc.groups[g]).enabled && !(x.fc.wind[p]).inCatch
            | none => false }) } })
      (fun x => x.gd.ladderAsc = true)) ∧
  (∀ (l : LaneId) (t : Nat) (p : Fin 8) (s : State),
    ((s.lane l).live.gd.ports[p]).reenable = true → ((s.lane l).live.fc.wind[p]).ws = .torqueFree →
    (s.lane l).live.heldBack p = false → (s.lane l).live.gd.vabs = false →
    ((s.lane l).live.sensing = true → (s.lane l).live.gd.railUv = true → (s.lane l).live.gd.ladderAsc = false →
      (s.lane l).live.wi.linkLow = false →
      Runs (.gateRailRecovery l) l s (fun n => n.store = (s.lane l).store ∧ n.otp = (s.lane l).otp ∧
        n.live.gd.railUv = false ∧ (n.live.fc.wind[p]).ws = .measuring ∧ (n.live.gd.ports[p]).reenable = false ∧
        n.live.au = (s.lane l).live.au ∧ n.live.wi = { (s.lane l).live.wi with
          sniff := n.live.wi.sniff, queue := n.live.wi.queue, postponed := n.live.wi.postponed })) ∧
    ((s.lane l).live.wi.linkBack = some t → (s.lane l).live.wi.linkLow = true → (s.lane l).live.due (t + ms 10) = true →
      (s.lane l).live.gd.railUv = false → (s.lane l).live.gd.ladderAsc = false →
      Runs (.linkLowRecovery l) l s (fun n => n.store = (s.lane l).store ∧ n.otp = (s.lane l).otp ∧
        n.live.wi.linkLow = false ∧ (n.live.fc.wind[p]).ws = .measuring ∧ (n.live.gd.ports[p]).reenable = false ∧
        n.live.au = (s.lane l).live.au)) ∧
    ((s.lane l).live.gd.belowAsc = some t → (s.lane l).live.gd.ladderAsc = true → (s.lane l).live.due (t + ms 10) = true →
      (s.lane l).live.gd.railUv = false → (s.lane l).live.wi.linkLow = false →
      Runs (.ladderAscRelease l) l s (fun n => n.store = (s.lane l).store ∧ n.otp = (s.lane l).otp ∧
        n.live.gd.ladderAsc = false ∧ (n.live.fc.wind[p]).ws = .measuring ∧ (n.live.gd.ports[p]).ladder = false ∧
        n.live.au = (s.lane l).live.au ∧ n.live.wi = { (s.lane l).live.wi with
          sniff := n.live.wi.sniff, queue := n.live.wi.queue, postponed := n.live.wi.postponed }))) ∧
  (∀ (l : LaneId) (t : Nat) (s : State), (s.lane l).live.gd.belowAsc = some t → (s.lane l).live.gd.vabs = true →
    RunsTo (.ladderAscRelease l) l s id)

/-- Leg events, the chopper, the link conversion and the counters (R95, R188, R207 to R210, R213, R217, R219): a
produced conduction interval of a switching leg takes over; a chopper fault turns the chopper off and the regeneration
limit to 0; a conversion of a link voltage between its thresholds gives the link voltage, the energy estimate and the
chopper's state; a write of 0 clears the counters. Model's choices it rests on: log entries 50 and 81. -/
def Obligations.LegEventsChopperAndLinkVoltage : Prop :=
  (∀ (l : LaneId) (leg : Fin 24) (side : Side) (ph : Nat) (s : State),
    ((s.lane l).live.gd.ports[legPort leg]).mode = .pwm → (s.lane l).live.produced leg side = true →
    RunsTo (.legEvent l leg side ph) l s (fun x => x.modLeg leg (fun q => match side with
      | .low => { q with gate := .low, fallCmd := some (x.start + ph) }
      | .high => { q with
          gate := .high, riseCmd := some (x.start + ph),
          conductions := if q.gate = .low then min 2 (q.conductions + 1) else q.conductions }))) ∧
  (∀ (l : LaneId) (c : Fin 4) (s : State), (s.lane l).live.sensing = true → (s.lane l).live.chFitted = true →
    (s.lane l).live.gd.chFault = false → (c.val = 0 → (s.lane l).live.gd.chOn = true) →
    (c.val = 2 → (s.lane l).live.gd.chOn = false) →
    RunsEv (.chopperFault l c) l s
      (fun x => ({ x with gd := { x.gd with
        chFault := true, chCause := chopCause (c.val + 1), chOn := false, chForced := false } }.writeRegen 0).countFault
          .chopper x.me 0)
      (fun x => x.gd.chFault = true ∧ x.gd.chOn = false ∧ x.gd.regen = 0)) ∧
  (∀ (l : LaneId) (code : Code) (dt t : Nat) (s : State), (s.lane l).live.sensing = true →
    (s.lane l).live.gd.linkAt = some t → code ≠ 0x3FFF →
    F32.ge (F32.ofRatio (code.toNat * 90) 16384) ((s.lane l).live.real Obj.vAsc) = false →
    F32.ge (F32.ofRatio (code.toNat * 90) 16384) ((s.lane l).live.real Obj.vAbs) = false →
    F32.lt (F32.ofRatio (code.toNat * 90) 16384) (F32.ofNat 8) = false →
    Runs (.linkConversion l { code := code, first := true, second := true } dt) l s (fun n =>
      n.store = (s.lane l).store ∧ n.otp = (s.lane l).otp ∧
      n.live.aq.vdc = F32.ofRatio (code.toNat * 90) 16384 ∧
      n.live.en = (((s.lane l).live.setBus 320 (F32.ofRatio (code.toNat * 90) 16384)).flagBus 320
        ((s.lane l).live.fl.kChans.getLsbD 168) false).en ∧
      n.live.aq.codes = (s.lane l).live.aq.codes.write 0 168 (code.setWidth 16) ∧
      n.live.gd.energy = (s.lane l).live.energyNow (F32.ofRatio (code.toNat * 90) 16384) dt ∧
      n.live.gd.linkAt = some (t + dt) ∧
      n.live.gd.regenCut = F32.ge (F32.ofRatio (code.toNat * 90) 16384) ((s.lane l).live.real Obj.vRegenCut) ∧
      n.live.gd.ports = (s.lane l).live.gd.ports ∧ n.live.fc = (s.lane l).live.fc ∧ n.live.au = (s.lane l).live.au)) ∧
  (∀ (l : LaneId) (p : Fin 8) (s : State), (s.lane l).live.writes = true →
    RunsTo (.clearPortCounters l p 0) l s (fun x => (x.modPort p (fun q => { q with
      trips := 0, hardTrips := 0, gateFaults := 0, refreshes := 0, retries := 0 })).accept none)) ∧
  (∀ (l : LaneId) (s : State), (s.lane l).live.writes = true →
    RunsTo (.clearGateDriveCounters l 0) l s (fun x =>
      ({ x with gd := { x.gd with ascEvents := 0 } } : Live).accept none))

/-- The catch procedure (R138, R146, R149, R150): a measurement of 200 µs or more at rest leads to the sniff
test; an unbalanced or too fast motor is refused, to be measured again after 20 ms; a sensorless motor that turns
starts turning after the event of the skipped sniff test; a repeat measures anew; the polarity pulses mark the north
pole; the loss limit loses the winding. Model's choices it rests on: log entries 76, 78 and 81. -/
def Obligations.CatchProcedure : Prop :=
  (∀ (l : LaneId) (p : Fin 8) (g : Fin 24) (m : CatchMeas) (s : State), (s.lane l).live.groupOf p = some g →
    ((s.lane l).live.fc.wind[p]).ws = .measuring → ((s.lane l).live.fc.wind[p]).again = none →
    (s.lane l).live.due (((s.lane l).live.fc.wind[p]).measAt + us 200) = true →
    (F32.lt m.ep ((s.lane l).live.real Obj.groupCatchRestLevel g.val) = true →
      RunsTo (.catchMeasurementEnd l p m) l s (fun x => x.sniffDue p)) ∧
    (F32.lt m.ep ((s.lane l).live.real Obj.groupCatchRestLevel g.val) = false →
      (unbalanced m = true ∨
        F32.ge m.ep (F32.mul ((s.lane l).live.real Obj.groupCatchLimit g.val) (s.lane l).live.aq.vdc) = true) →
      Runs (.catchMeasurementEnd l p m) l s (fun n => n.store = (s.lane l).store ∧ n.otp = (s.lane l).otp ∧
        (n.live.fc.wind[p]).ws = .refused ∧ (n.live.fc.wind[p]).catchCode = (if unbalanced m then 2 else 1) ∧
        (n.live.fc.wind[p]).again = some ((s.lane l).live.clk + ms 20) ∧ (n.live.gd.ports[p]).mode ≠ .pwm ∧
        (n.live.fc.wind[p]).refusals = (if unbalanced m then ((s.lane l).live.fc.wind[p]).refusals
          else satInc ((s.lane l).live.fc.wind[p]).refusals) ∧
        (∀ q : Fin 8, q ≠ p → n.live.fc.wind[q] = (s.lane l).live.fc.wind[q] ∧
          n.live.gd.ports[q] = (s.lane l).live.gd.ports[q]) ∧
        n.live.wi = (s.lane l).live.wi ∧ n.live.au = (s.lane l).live.au)) ∧
    (F32.lt m.ep ((s.lane l).live.real Obj.groupCatchRestLevel g.val) = false → unbalanced m = false →
      F32.ge m.ep (F32.mul ((s.lane l).live.real Obj.groupCatchLimit g.val) (s.lane l).live.aq.vdc) = false →
      (s.lane l).live.sourceOf p = some 3 → (s.lane l).live.blocked = false →
      F32.isZero ((s.lane l).live.bus (192 + g.val)) = true →
      Runs (.catchMeasurementEnd l p m) l s (fun n => n.store = (s.lane l).store ∧ n.otp = (s.lane l).otp ∧
        ∃ y : Live, y.steady = ({ (s.lane l).live with wi := { (s.lane l).live.wi with
            skips := satInc (s.lane l).live.wi.skips,
            results := vmod (s.lane l).live.wi.results p (fun _ => sniffWord 6 7 15) } } : Live).steady ∧
          n.live = (if (y.fc.wind[p]).ws = .measuring then
            ((y.modWind p (fun w => w.startTurning (y.real Obj.fieldFluxLinkage g.val) m false y.clk)).settlePort p).modPort p
              (fun q => { q with retrying := false })
          else y)))) ∧
  (∀ (l : LaneId) (p : Fin 8) (t : Nat) (s : State), ((s.lane l).live.fc.wind[p]).again = some t →
    ((s.lane l).live.fc.wind[p]).ws = .refused → (s.lane l).live.due t = true → (s.lane l).live.heldBack p = false →
    (s.lane l).live.gd.vabs = false → (s.lane l).live.gd.ladderAsc = false →
    ((s.lane l).live.gd.ports[p]).fault = none → (s.lane l).live.phase ≠ .halted →
    Runs (.catchRepeat l p) l s (fun n => n.store = (s.lane l).store ∧ n.otp = (s.lane l).otp ∧
      (n.live.fc.wind[p]).ws = .measuring ∧ (n.live.fc.wind[p]).again = none ∧ (n.live.gd.ports[p]).mode = .off ∧
      (n.live.fc.wind[p]).measAt = (s.lane l).live.clk ∧ n.live.au = (s.lane l).live.au ∧
      n.live.wi = ((s.lane l).live.sniffForget p).wi)) ∧
  (∀ (l : LaneId) (p : Fin 8) (t : Nat) (pos neg : F32) (s : State), ((s.lane l).live.fc.wind[p]).hfiSince = some t →
    ((s.lane l).live.fc.wind[p]).hfiOn = true → ((s.lane l).live.fc.wind[p]).hfiFound = false →
    ((s.lane l).live.fc.wind[p]).ws = .running → (s.lane l).live.due (t + ms 20) = true →
    RunsTo (.hfiPolarityDetect l p pos neg) l s (fun x => x.modWind p (fun w => { w with
      hfiFound := true,
      hfiTheta := if F32.gt (F32.abs neg) (F32.abs pos) then w.hfiTheta + 0x80000000 else w.hfiTheta }))) ∧
  (∀ (l : LaneId) (p : Fin 8) (g : Fin 24) (s : State), (s.lane l).live.groupOf p = some g →
    ((s.lane l).live.fc.wind[p]).inUse = true →
    (s.lane l).live.num Obj.groupLosLimit g.val
      ≤ (recentTries (s.lane l).live.clk ((s.lane l).live.fc.wind[p]).losAt).length →
    RunsEv (.losLimitReached l p) l s (fun x => x.countFault .winding x.me p.val))

/-- The sniff test and the angle vote (R147, R224, R225, R227, R236 to R238): the readings of both steps are kept; the
result of a test whose readings show no fault starts the winding unless a lane-wide cause holds it, counts and
reports; a result that saw motion reports
and is due again after 20 ms; a postponed test repeats; disagreeing angles change to the fallback source, or, where it
is in use already and the group names no reaction, raise the event. Model's choices it rests on: log entry 76. -/
def Obligations.SniffTestAndAngleVote : Prop :=
  (∀ (l : LaneId) (p : Fin 8) (r : SniffReading) (t : SniffRun) (s : State), (s.lane l).live.wi.sniff = some t →
    t.port = p → ((s.lane l).live.fc.wind[p]).ws = .measuring →
    ((s.lane l).live.due (t.start + us 800) = true →
      RunsTo (.sniffStep1End l p r) l s (fun x => { x with wi := { x.wi with sniff := some { t with step1 := some r } } })) ∧
    (t.step1.isSome = true → (s.lane l).live.due (t.start + us 1200) = true →
      RunsTo (.sniffStep2End l p r) l s (fun x => { x with wi := { x.wi with sniff := some { t with step2 := some r } } }))) ∧
  (∀ (l : LaneId) (p : Fin 8) (a b : SniffReading) (t : SniffRun) (s : State), (s.lane l).live.wi.sniff = some t →
    t.port = p → ((s.lane l).live.fc.wind[p]).ws = .measuring → t.step1 = some a → t.step2 = some b →
    (s.lane l).live.due (t.start + us 1300) = true → (s.lane l).live.wi.queue = [] →
    ((sniffEval a b).1 = 1 → (s.lane l).live.blocked = false →
      Runs (.sniffTestResult l p) l s (fun n => n.store = (s.lane l).store ∧ n.otp = (s.lane l).otp ∧
        (n.live.fc.wind[p]).ws = .running ∧ (n.live.gd.ports[p]).retrying = false ∧ n.live.wi.sniff = none ∧
        n.live.wi.runs = satInc (s.lane l).live.wi.runs ∧ n.live.wi.failures = (s.lane l).live.wi.failures ∧
        n.live.wi.results[p] = sniffWord 1 7 15 ∧ n.live.au = (s.lane l).live.au)) ∧
    ((sniffEval a b).1 = 8 →
      RunsTo (.sniffTestResult l p) l s (fun x =>
        ({ x with wi := { x.wi with
          sniff := none, runs := satInc x.wi.runs,
          results := vmod x.wi.results p (fun _ => sniffWord 8 (sniffEval a b).2.1 (sniffEval a b).2.2) } } : Live).modWind p
            (fun w => { w with again := some (x.clk + ms 20) })))) ∧
  (∀ (l : LaneId) (p : Fin 8) (t : Nat) (s : State), ((s.lane l).live.fc.wind[p]).again = some t →
    (s.lane l).live.wi.postponed.getLsbD p.val = true → ((s.lane l).live.fc.wind[p]).ws = .measuring →
    (s.lane l).live.due t = true →
    RunsTo (.sniffPostponeRepeat l p) l s (fun x => (x.modWind p (fun w => { w with again := none })).sniffDue p)) ∧
  (∀ (l : LaneId) (g : Fin 24) (s : State),
    (s.lane l).live.num Obj.groupAngleVoteTicks g.val ≤ ((s.lane l).live.fc.groups[g]).disagree →
    (((s.lane l).live.num Obj.groupFallbackSource g.val = 0 ∨ (s.lane l).live.num Obj.groupFallbackSource g.val = 1) →
      ((s.lane l).live.fc.groups[g]).fallback = false →
      (s.lane l).live.num Obj.groupFallbackSource g.val ≠ (s.lane l).live.num Obj.groupPositionSource g.val →
      Runs (.angleVoteDisagree l g) l s (fun n => n.store = (s.lane l).store ∧ n.otp = (s.lane l).otp ∧
        (n.live.fc.groups[g]).fallback = true ∧ (n.live.fc.groups[g]).disagree = 0 ∧
        n.live.au = (s.lane l).live.au ∧ n.live.fl = (s.lane l).live.fl)) ∧
    (((s.lane l).live.fc.groups[g]).fallback = true → (s.lane l).live.num Obj.groupGroupReaction g.val = 0 →
      RunsEv (.angleVoteDisagree l g) l s (fun x => x.modGroup g (fun q => { q with disagree := 0 }))))

/-- Wiring diagnostics (R229, R231 to R234, R237, R240, R241): a current sum out of bound in 16 runs, a fault of the
sensor supply, cable diagnostics with their results, bus faults and their end, the ground shift and its recovery, and
the write of 0 that clears the counters. Model's choices it rests on: log entries 22 and 119. -/
def Obligations.WiringDiagnostics : Prop :=
  (∀ (l : LaneId) (p : Fin 8) (s : State), 16 ≤ ((s.lane l).live.fc.wind[p]).isumRuns →
    ((s.lane l).live.fc.wind[p]).inUse = true →
    RunsEv (.currentSumFault l p) l s (fun x =>
      ({ x with wi := { x.wi with isum := setBit x.wi.isum p.val true } } : Live).countFault .winding x.me p.val)) ∧
  (∀ (l : LaneId) (kind : Fin 3) (s : State), (s.lane l).live.sensing = true →
    RunsEv (.vsensFault l kind) l s (fun x => { x with wi := { x.wi with
      vsensUv := x.wi.vsensUv || decide (kind.val = 0), vsensOv := x.wi.vsensOv || decide (kind.val = 1),
      vsensOc := x.wi.vsensOc || decide (kind.val = 2) } })) ∧
  (∀ (l : LaneId) (path : Path) (v : Byte) (s : State), (s.lane l).live.writes = true → v.toNat ≤ 2 →
    (s.lane l).live.standby = true →
    RunsTo (.cableTest l path v) l s (fun x => ({ x with wi := { x.wi with
      cableRunA := x.wi.cableRunA || decide (v ≠ 2), cableRunB := x.wi.cableRunB || decide (v ≠ 1) } } : Live).accept
        (some path))) ∧
  (∀ (l : LaneId) (result : Fin 8) (polrev : Bool) (dist : Byte) (s : State),
    ((s.lane l).live.wi.cableRunA = true →
      RunsTo (.cableDiagComplete l .a result polrev dist) l s (fun x => { x with wi := { x.wi with
        cableA := cableWord result polrev dist, cableRunA := false } })) ∧
    ((s.lane l).live.wi.cableRunB = true →
      RunsTo (.cableDiagComplete l .b result polrev dist) l s (fun x => { x with wi := { x.wi with
        cableB := cableWord result polrev dist, cableRunB := false } }))) ∧
  (∀ (l : LaneId) (n : Fin 4) (kind : Fin 3) (s : State), (s.lane l).live.sensing = true →
    RunsEv (.canBusFault l n kind) l s (fun x => { x with wi := { x.wi with
      canFaults := setBit x.wi.canFaults (4 * n.val + kind.val) true } })) ∧
  (∀ (l : LaneId) (n : Fin 4) (kind : Fin 3) (s : State),
    RunsTo (.canBusFaultClear l n kind) l s (fun x => { x with wi := { x.wi with
      canFaults := setBit x.wi.canFaults (4 * n.val + kind.val) false } })) ∧
  (∀ (l : LaneId) (s : State), (s.lane l).live.sensing = true → (s.lane l).live.wi.gndShift = false →
    RunsEv (.groundShift l) l s (fun x => { x with wi := { x.wi with gndShift := true, sniff := none, queue := [] } })) ∧
  (∀ (l : LaneId) (s : State), (s.lane l).live.wi.gndShift = true → (s.lane l).live.phase ≠ .withdrawn →
    Runs (.groundShiftRecovery l) l s (fun n => n.store = (s.lane l).store ∧ n.otp = (s.lane l).otp ∧
      n.live.wi = { (s.lane l).live.wi with gndShift := false } ∧ n.live.phase = (s.lane l).live.phase ∧
      n.live.au = (s.lane l).live.au ∧ n.live.tk = (s.lane l).live.tk)) ∧
  (∀ (l : LaneId) (s : State), (s.lane l).live.writes = true →
    RunsTo (.clearWiringCounters l 0) l s (fun x => ({ x with wi := { x.wi with
      runs := 0, failures := 0, skips := 0, revpol := false } } : Live).accept none))

/-- Windows of the engine (R90, R97, R109): an item that is alone in its window and has not completed at the commit
point is abandoned and marked, its state and its output standing; a due loop slot that completes writes its output to
its bus entry and no other entry; a missed deadline is counted; the peaks clear. Model's choices it rests on: log entry
85. -/
def Obligations.WindowsRunOrAbandonItems : Prop :=
  (∀ (l : LaneId) (w : Fin 8) (stall : Nat) (i : EItem) (s : State), (s.lane l).live.goesOn = true →
    (s.lane l).live.winItems w = [i] →
    (s.lane l).live.inTime w.val i (stall + (s.lane l).live.retryStall w + (s.lane l).live.itemCost i) = false →
    (s.lane l).live.itemDue i = true →
    RunsTo (.engineWindow l w stall []) l s (fun x => { x with en := { x.en with
      peaks := vmod x.en.peaks w (fun _ => BitVec.ofNat 16 (max (x.en.peaks[w]).toNat
        (min 8000 (x.itemCost i + (stall + x.retryStall w))))),
      late := setBit x.en.late i.num true } })) ∧
  (∀ (l : LaneId) (w : Fin 8) (stall k : Nat) (s : State), (s.lane l).live.goesOn = true →
    (s.lane l).live.winItems w = [.slot k] → k ≠ 191 → (s.lane l).live.num Obj.slotKind k ≠ 7 →
    (s.lane l).live.inTime w.val (.slot k) (stall + (s.lane l).live.retryStall w + (s.lane l).live.itemCost (.slot k)) = true →
    (s.lane l).live.slotDue k = true → (s.lane l).live.runHeld k = false → (s.lane l).live.slotGroupOf k = none →
    ((s.lane l).live.sourceNow k).1 ≠ 3 → (s.lane l).live.fl.armed = none →
    Runs (.engineWindow l w stall []) l s (fun n => n.store = (s.lane l).store ∧ n.otp = (s.lane l).otp ∧
      n.live.bus k = ((s.lane l).live.pidRun k).words.headD 0 ∧ n.live.en.late = (s.lane l).live.en.late ∧
      n.live.tk = (s.lane l).live.tk ∧ ∀ e : Nat, e ≠ k → n.live.bus e = (s.lane l).live.bus e)) ∧
  (∀ (l : LaneId) (k : Fin 192) (s : State), (s.lane l).live.en.late.getLsbD k.val = true →
    RunsTo (.itemDeadline l k) l s (fun x =>
      ({ x with en := { x.en with late := setBit x.en.late k.val false } } : Live).modSlot k.val
        (fun q => { q with misses := satInc q.misses, consec := q.consec + 1, epLimit := true }))) ∧
  (∀ (l : LaneId) (s : State), (s.lane l).live.writes = true →
    RunsTo (.clearPeaks l 0) l s (fun x =>
      ({ x with en := { x.en with peaks := Vector.replicate 8 0 } } : Live).accept none))

/-- Commit, missed runs and retunes (R95, R99, R104, R108, R110, R113, R114, R194): the commit instant takes new
compare values of a switching winding and discards those of one that does not run; `MissLimit` consecutive misses raise
the slot's event and stop it, or, for the safety evaluation, raise its own; an application entry not written goes
stale; a following error and a command timeout raise their event and the group's reaction; an epoch that ends clears
the bank, and a frozen one keeps its frequencies. Model's choices it rests on: log entry 84. -/
def Obligations.SlotEventsAndRetunes : Prop :=
  (∀ (l : LaneId) (p : Fin 8) (d c : F32 × F32 × F32) (s : State), ((s.lane l).live.fc.wind[p]).newDuty = some (d, c) →
    ((s.lane l).live.fc.wind[p]).loopOn = true → ((s.lane l).live.gd.ports[p]).mode = .pwm →
    Runs (.commitInstant l p) l s (fun n => n.store = (s.lane l).store ∧ n.otp = (s.lane l).otp ∧
      n.live.fc.wind = vmod (s.lane l).live.fc.wind p (fun w => { w with duty := d, cmp := c, newDuty := none }) ∧
      (n.live.gd.ports[p]).mode = .pwm ∧ (n.live.gd.ports[p]).fault = ((s.lane l).live.gd.ports[p]).fault ∧
      (∀ q : Fin 8, q ≠ p → n.live.gd.ports[q] = (s.lane l).live.gd.ports[q]) ∧ n.live.en = (s.lane l).live.en ∧
      n.live.au = (s.lane l).live.au)) ∧
  (∀ (l : LaneId) (p : Fin 8) (d : (F32 × F32 × F32) × (F32 × F32 × F32)) (s : State),
    ((s.lane l).live.fc.wind[p]).newDuty = some d → ((s.lane l).live.fc.wind[p]).loopOn = false →
    RunsTo (.commitInstant l p) l s (fun x => x.modWind p (fun w => { w with newDuty := none }))) ∧
  (∀ (l : LaneId) (k : Fin 192) (s : State), (s.lane l).live.num Obj.missLimit ≤ ((s.lane l).live.slot k.val).consec →
    (s.lane l).live.fl.kSlots.getLsbD k.val = false →
    (k.val = 191 → (s.lane l).live.safetySlot = true →
      RunsEv (.slotEscalation l k) l s (fun x => x.modSlot k.val (fun q => { q with consec := 0 }))) ∧
    (k.val ≠ 191 →
      Runs (.slotEscalation l k) l s (fun n => n.store = (s.lane l).store ∧ n.otp = (s.lane l).otp ∧
        ∃ y : Live, y.steady = ((s.lane l).live.modSlot k.val (fun q => { q with consec := 0 })).steady ∧
          n.live = y.kennelItem k))) ∧
  (∀ (l : LaneId) (e : Fin 256) (s : State), (s.lane l).live.num Obj.appStaleTicks ≠ 0 → (s.lane l).live.running = true →
    (s.lane l).live.en.appWritten.read 0 (768 + e.val) + (s.lane l).live.num Obj.appStaleTicks < (s.lane l).live.ticks →
    RunsTo (.appEntryStale l e) l s (fun x => x.flagBus (768 + e.val) (x.en.busBad.read false (768 + e.val)) true)) ∧
  (∀ (l : LaneId) (k : Fin 192) (s : State),
    ((s.lane l).live.num Obj.slotKind k.val = 2 ∨ (s.lane l).live.num Obj.slotKind k.val = 3) →
    ((s.lane l).live.slot k.val).fault = false →
    F32.gt ((s.lane l).live.slot k.val).ferr
      (F32.ofRatio ((s.lane l).live.num Obj.slotFollowErrTime k.val) 1000) = true →
    Runs (.followingError l k) l s (fun n => n.store = (s.lane l).store ∧ n.otp = (s.lane l).otp ∧
      ∃ y : Live, y.steady = ((s.lane l).live.modSlot k.val (fun q => { q with fault := true })).steady ∧
        n.live = (match (s.lane l).live.slotGroupOf k.val with
          | some g => y.groupReact g
          | none => y))) ∧
  (∀ (l : LaneId) (g : Fin 24) (s : State), ((s.lane l).live.en.cmd[g]).ever = true →
    ((s.lane l).live.en.cmd[g]).timeout = false →
    (s.lane l).live.num Obj.cmdStaleCycles < ((s.lane l).live.en.cmd[g]).fresh →
    Runs (.commandTimeout l g) l s (fun n => n.store = (s.lane l).store ∧ n.otp = (s.lane l).otp ∧
      ∃ y : Live, y.steady = ({ (s.lane l).live with en := { (s.lane l).live.en with
          cmd := vmod (s.lane l).live.en.cmd g (fun q => { q with timeout := true }) } } : Live).steady ∧
        n.live = y.groupReact g)) ∧
  (∀ (l : LaneId) (k : Fin 192) (s : State), (s.lane l).live.adaptive k.val = true →
    (s.lane l).live.num Obj.slotDetectorLength k.val ≤ ((s.lane l).live.slot k.val).epoch →
    (s.lane l).live.epochFrozen k.val = true →
    RunsTo (.notchEpochEnd l k) l s (fun x => x.modSlot k.val (fun q => { q with
      bank := [], epoch := 0, epochs := min 2 (q.epochs + 1), epLimit := false, epEventP := q.epEvent,
      epEvent := false }))) ∧
  (∀ (l : LaneId) (k : Fin 192) (fe : F32) (s : State), (s.lane l).live.num Obj.slotNotch1Mode k.val = 2 →
    (s.lane l).live.num Obj.slotNotch2Mode k.val ≠ 2 →
    (s.lane l).live.num Obj.slotDetectorLength k.val ≤ ((s.lane l).live.slot k.val).epoch →
    (s.lane l).live.epochFrozen k.val = false → (s.lane l).live.detected k.val = some fe →
    Runs (.notchEpochEnd l k) l s (fun n => n.store = (s.lane l).store ∧ n.otp = (s.lane l).otp ∧
      (n.live.slot k.val).f1 = some ((s.lane l).live.retuned k.val ((s.lane l).live.notchF1 k.val) fe) ∧
      (n.live.slot k.val).f2 = ((s.lane l).live.slot k.val).f2 ∧
      (n.live.slot k.val).n1s1 = ((s.lane l).live.slot k.val).n1s1 ∧
      (n.live.slot k.val).n1s2 = ((s.lane l).live.slot k.val).n1s2 ∧ (n.live.slot k.val).bank = [] ∧
      n.live.en.bus = (s.lane l).live.en.bus ∧ ∀ j : Nat, j ≠ k.val → n.live.slot j = (s.lane l).live.slot j))

/-- Setpoint inputs (R106, R107): a broken wire that lasts makes the auxiliary input invalid; a pulse shorter than
`MinPulse` is ignored; a rising edge in the step form counts one by the level of the second line, an edge in the
quadrature form counts one in its direction; no edge for `Timeout` reads as 0 Hz. Model's choices it rests on: log
entries 55 and 88. -/
def Obligations.SetpointInputs : Prop :=
  (∀ (l : LaneId) (i : Fin 4) (t : Nat) (s : State), ((s.lane l).live.en.ain[i]).broken = some t →
    ((s.lane l).live.en.ain[i]).invalid = false →
    (s.lane l).live.due (t + ms ((s.lane l).live.num Obj.ainFaultTime)) = true →
    RunsEv (.ainFaultTimeout l i) l s (fun x => { x with en := { x.en with
      ain := vmod x.en.ain i (fun q => { q with invalid := true }) } })) ∧
  (∀ (l : LaneId) (lineA lineB : Bool) (ph width : Nat) (s : State),
    width * 5 < 2 * (s.lane l).live.num Obj.psetMinPulse → RunsTo (.psetEdge l lineA lineB ph width) l s id) ∧
  (∀ (l : LaneId) (lineB : Bool) (ph width : Nat) (s : State), (s.lane l).live.awake = true →
    2 * (s.lane l).live.num Obj.psetMinPulse ≤ width * 5 → (s.lane l).live.num Obj.psetForm = 0 →
    (s.lane l).live.en.pset.lineA = false →
    Runs (.psetEdge l true lineB ph width) l s (fun n => n.store = (s.lane l).store ∧ n.otp = (s.lane l).otp ∧
      n.live.en.pset.count = (s.lane l).live.en.pset.count + BitVec.ofInt 32 (if Config.stepUp lineB then 1 else -1) ∧
      n.live.en.pset.lineA = true ∧ n.live.en.pset.lineB = lineB ∧
      n.live.en.pset.edgeAt = some ((s.lane l).live.start + ph) ∧ n.live.en.bus = (s.lane l).live.en.bus ∧
      n.live.tk = (s.lane l).live.tk)) ∧
  (∀ (l : LaneId) (up : Bool) (ph width : Nat) (s : State), (s.lane l).live.awake = true →
    2 * (s.lane l).live.num Obj.psetMinPulse ≤ width * 5 → (s.lane l).live.num Obj.psetForm = 1 →
    let q := (s.lane l).live.en.pset
    Runs (.psetEdge l (if up = (q.lineA == q.lineB) then !q.lineA else q.lineA)
        (if up = (q.lineA == q.lineB) then q.lineB else !q.lineB) ph width) l s
      (fun n => n.store = (s.lane l).store ∧ n.otp = (s.lane l).otp ∧
        n.live.en.pset.count = q.count + (if up then 1 else -1) ∧ n.live.tk = (s.lane l).live.tk)) ∧
  (∀ (l : LaneId) (t : Nat) (s : State), (s.lane l).live.en.pset.edgeAt = some t →
    (s.lane l).live.due (t + ms ((s.lane l).live.num Obj.psetTimeout)) = true →
    RunsTo (.psetTimeout l) l s (fun x => { x with en := { x.en with
      pset := { x.en.pset with freq := 0, duty := 0, riseAt := none } } }))

/-- Conversions (R165, R166, R168, R170, R171, R174, R176, R179, R183): at the sample instant of a bound winding whose
gates switch a good code becomes a current and a saturated one leaves no valid current; the peak triplet trims the
offsets by a 256th of the difference in its ticks; a background conversion is kept under its channel; a reference check
that fails for the first time marks the converter, and one that passes clears the mark; a phase-voltage crossing is
timestamped and latched; the write of 0 clears flags and counters. Model's choices it rests on: log entry 82. -/
def Obligations.ConversionsAndCrossings : Prop :=
  (∀ (l : LaneId) (p : Fin 8) (smp : Sample) (s : State), (s.lane l).live.sensing = true →
    ((s.lane l).live.groupOf p).isSome = true → ((s.lane l).live.gd.ports[p]).mode = .pwm →
    (s.lane l).live.sourceOf p ≠ some 4 →
    smp.iu.first = true → smp.iv.first = true → smp.iw.first = true → saturated smp.iu.code = false →
    saturated smp.iv.code = true →
    Runs (.sampleInstant l p smp) l s (fun n => n.store = (s.lane l).store ∧ n.otp = (s.lane l).otp ∧
      n.live.aq.codes.read 0 (3 * p.val) = smp.iu.code.setWidth 16 ∧
      n.live.aq.shuntA[portLeg p 0] = F32.mul (F32.sub (countsOf smp.iu.code) (s.lane l).live.aq.offs[portLeg p 0])
        ((s.lane l).live.ampsPerCount p) ∧
      n.live.aq.shuntOk.getLsbD (3 * p.val) = true ∧ n.live.aq.shuntOk.getLsbD (3 * p.val + 1) = false ∧
      n.live.aq.lateConv.getLsbD p.val = false ∧ n.live.aq.offs = (s.lane l).live.aq.offs ∧
      n.live.tk = (s.lane l).live.tk)) ∧
  (∀ (l : LaneId) (p : Fin 8) (cs : Vector Code 3) (s : State), (s.lane l).live.running = true →
    ((s.lane l).live.ticks % (s.lane l).live.num Obj.offsetTrimDiv ≠ 0 ∨ (s.lane l).live.peakHigh p = false) →
    RunsTo (.carrierPeakSample l p cs) l s id) ∧
  (∀ (l : LaneId) (p : Fin 8) (cs : Vector Code 3) (s : State), (s.lane l).live.running = true →
    (s.lane l).live.ticks % (s.lane l).live.num Obj.offsetTrimDiv = 0 → (s.lane l).live.peakHigh p = true →
    (∀ k : Fin 3, saturated cs[k] = false ∧ (s.lane l).live.aq.start[portLeg p k] = none) →
    Runs (.carrierPeakSample l p cs) l s (fun n => n.store = (s.lane l).store ∧ n.otp = (s.lane l).otp ∧
      (∀ k : Fin 3, n.live.aq.offs[portLeg p k] = F32.add (s.lane l).live.aq.offs[portLeg p k]
        (F32.mul (F32.sub (countsOf cs[k]) (s.lane l).live.aq.offs[portLeg p k]) (F32.ofRatio 1 256))) ∧
      (∀ g : Fin 24, legPort g ≠ p → n.live.aq.offs[g] = (s.lane l).live.aq.offs[g]) ∧
      n.live.gd = (s.lane l).live.gd ∧ n.live.fl = (s.lane l).live.fl)) ∧
  (∀ (l : LaneId) (ch : Fin 192) (code : Code) (s : State), (s.lane l).live.sensing = true →
    (ch.val ∈ List.range' 24 120 ∨ ch.val ∈ [170, 171, 172, 181, 182, 183, 184, 189, 190, 191]) →
    RunsTo (.backgroundConversion l ch code) l s (fun x => { x with aq := { x.aq with
      codes := x.aq.codes.write 0 ch.val (code.setWidth 16) } })) ∧
  (∀ (l : LaneId) (code : Code) (s : State), (s.lane l).live.sensing = true →
    (s.lane l).live.fl.kChans.getLsbD 169 = false →
    RunsTo (.backgroundConversion l 169 code) l s (fun x =>
      let v := F32.ofRatio (90 * code.toNat) 16384
      { x with aq := { x.aq with codes := x.aq.codes.write 0 169 (code.setWidth 16), vbat := v },
               su := { x.su with vMin := F32.min x.su.vMin v, vMax := F32.max x.su.vMax v } })) ∧
  (∀ (l : LaneId) (adc : Fin 16) (cs : Vector Code 3) (s : State), (s.lane l).live.sensing = true →
    (s.lane l).live.fl.kAdcs.getLsbD adc.val = false →
    (refBad cs = false ∨ (s.lane l).live.aq.badRef.getLsbD adc.val = false) →
    RunsTo (.referenceCheck l adc cs) l s (fun x => { x with aq := { x.aq with
      badRef := setBit x.aq.badRef adc.val (refBad cs),
      codes := ((x.aq.codes.write 0 189 (cs[0].setWidth 16)).write 0 190 (cs[1].setWidth 16)).write 0 191
        (cs[2].setWidth 16) } })) ∧
  (∀ (l : LaneId) (leg : Fin 24) (ph : Nat) (s : State), (s.lane l).live.sensing = true →
    (((s.lane l).live.gd.ports[legPort leg]).legs[legPhase leg]).riseCmd = none →
    RunsTo (.phaseVoltageCrossing l leg true ph) l s (fun x => { x with aq := { x.aq with
      cmpHigh := setBit x.aq.cmpHigh (24 + leg.val) true,
      crossUp := vmod x.aq.crossUp leg (fun _ => some (x.start + ph)) } })) ∧
  (∀ (l : LaneId) (leg : Fin 24) (ph r : Nat) (s : State), (s.lane l).live.sensing = true →
    (((s.lane l).live.gd.ports[legPort leg]).legs[legPhase leg]).fallCmd = some r → r ≤ (s.lane l).live.start + ph →
    RunsTo (.phaseVoltageCrossing l leg false ph) l s (fun x =>
      ({ x with aq := { x.aq with
        cmpLow := setBit x.aq.cmpLow (24 + leg.val) true,
        crossLow := vmod x.aq.crossLow leg (fun _ => some (x.start + ph)) } } : Live).modWind (legPort leg)
          (fun w => { w with dfr := vmod w.dfr (legPhase leg) (fun d => (d.1, some (x.start + ph - r))) }))) ∧
  (∀ (l : LaneId) (s : State), (s.lane l).live.writes = true →
    RunsTo (.clearAcqFlags l 0) l s (fun x =>
      ({ x with aq := { x.aq with cmpHigh := 0, cmpLow := 0, retries := 0, invalids := 0, sats := 0 } } : Live).accept
        none))

/-- Counting (R243, R246 to R249, R253, R261): with soft limits off, an accepted quadrature step of a port moves its
angle within one revolution and its position counter by one, in the direction of A against B and of `Invert`; a change
of both lines counts as illegal and moves neither; a Hall step to a neighbouring sector counts one; a silent lane takes
over the levels alone. Model's choices it rests on: log entry 40. -/
def Obligations.FeedbackCounts : Prop :=
  (∀ (l : LaneId) (p : Fin 8) (n : FbLines) (ph : Nat) (s : State), (s.lane l).live.awake = true →
    ((s.lane l).live.fbModeOf p = 1 ∨ (s.lane l).live.fbModeOf p = 2) →
    (s.lane l).live.num Obj.fbSoftLimitEnable p.val = 0 → (s.lane l).live.num Obj.reelSource ≠ p.val →
    n.i = ((s.lane l).live.fbPort p).lines.i →
    (n.a != ((s.lane l).live.fbPort p).lines.a) ≠ (n.b != ((s.lane l).live.fbPort p).lines.b) →
    let q := (s.lane l).live.fbPort p
    let step : Int := if quadUp q.lines n != decide ((s.lane l).live.num Obj.fbInvert p.val = 1) then 1 else -1
    Runs (.feedbackTransition l p n ph) l s (fun t => t.store = (s.lane l).store ∧ t.otp = (s.lane l).otp ∧
      (t.live.fbPort p).angle = (((q.angle : Int) + step) % ((s.lane l).live.fbCounts p : Int)).toNat ∧
      (t.live.fbPort p).counter = BitVec.ofInt 32 (q.counter.toInt + step) ∧ (t.live.fbPort p).lines = n ∧
      (t.live.fbPort p).down = decide (step < 0) ∧ (t.live.fbPort p).illegal = q.illegal ∧
      (∀ o : Fin 8, o ≠ p → t.live.fbPort o = (s.lane l).live.fbPort o) ∧ t.live.fc = (s.lane l).live.fc ∧
      t.live.au = (s.lane l).live.au ∧ t.live.tk = (s.lane l).live.tk)) ∧
  (∀ (l : LaneId) (p : Fin 8) (n : FbLines) (ph : Nat) (s : State), (s.lane l).live.awake = true →
    (s.lane l).live.fbModeOf p = 1 → (s.lane l).live.num Obj.reelSource ≠ p.val →
    n.i = ((s.lane l).live.fbPort p).lines.i → n.a ≠ ((s.lane l).live.fbPort p).lines.a →
    n.b ≠ ((s.lane l).live.fbPort p).lines.b → ((s.lane l).live.fbPort p).illAt.length ≤ 1 →
    RunsEv (.feedbackTransition l p n ph) l s (fun x => x.modFb p (fun q => { q with
      lines := n, illegal := satInc q.illegal, illAt := 0 :: q.illAt,
      illRun := ((0 :: q.illAt).filter (fun k => decide (k * x.fbPoles p < x.fbCounts p))).length }))) ∧
  (∀ (l : LaneId) (p : Fin 8) (n : FbLines) (ph k : Nat) (s : State), (s.lane l).live.awake = true →
    (s.lane l).live.fbModeOf p = 3 → (s.lane l).live.num Obj.fbSoftLimitEnable p.val = 0 →
    (s.lane l).live.num Obj.reelSource ≠ p.val → ((s.lane l).live.fbPort p).sector.toNat < 6 →
    hallSector n.h = some k → ((s.lane l).live.fbPort p).sector.toNat + 1 = k →
    n.h ≠ ((s.lane l).live.fbPort p).lines.h →
    Runs (.feedbackTransition l p n ph) l s (fun t => t.store = (s.lane l).store ∧ t.otp = (s.lane l).otp ∧
      (t.live.fbPort p).sector = BitVec.ofNat 3 k ∧
      (t.live.fbPort p).counter = ((s.lane l).live.fbPort p).counter + 1 ∧
      (t.live.fbPort p).hallErrs = ((s.lane l).live.fbPort p).hallErrs ∧
      (∀ o : Fin 8, o ≠ p → t.live.fbPort o = (s.lane l).live.fbPort o) ∧ t.live.au = (s.lane l).live.au)) ∧
  (∀ (l : LaneId) (p : Fin 8) (n : FbLines) (ph : Nat) (s : State), (s.lane l).live.awake = false →
    RunsTo (.feedbackTransition l p n ph) l s (fun x => x.modFb p (fun q => { q with lines := n }))) ∧
  (∀ (l : LaneId) (p : Fin 8) (v : Word) (s : State), (s.lane l).live.writes = true →
    (s.lane l).live.num Obj.fbSoftLimitEnable p.val = 0 →
    RunsTo (.counterPreset l p v) l s (fun x => (x.modFb p (fun q => { q with
      counter := v, satHi := q.satHi && decide (v.toInt = x.int Obj.fbSoftMax p.val),
      satLo := q.satLo && decide (v.toInt = x.int Obj.fbSoftMin p.val) })).accept none)) ∧
  (∀ (l : LaneId) (p : Fin 8) (v : Word) (s : State), (s.lane l).live.writes = true →
    (s.lane l).live.num Obj.fbSoftLimitEnable p.val = 1 → (s.lane l).live.int Obj.fbSoftMax p.val < v.toInt →
    RunsTo (.counterPreset l p v) l s (fun x => x.abortWith none 0x06090030)) ∧
  (∀ (l : LaneId) (p : Fin 8) (s : State), (s.lane l).live.writes = true →
    RunsTo (.clearFeedbackCounters l p 0) l s (fun x => (x.modFb p (fun q => { q with
      illegal := 0, corrections := 0, rejects := 0, hallErrs := 0 })).accept none))

/-- Failed feedback, SENT inputs and encoder outputs (R141, R222, R245, R253, R255 to R259, R264, R265): an illegal
Hall state that lasts fails the port, and a winding that uses it loses its position source; a level fault is flagged,
fails the port and holds the encoder output fed by it; an accepted SENT frame gives the fast value, one whose CRC fails
is flagged and counted; a silent line, the timeout, the outputs' faults and their restoring set their flags. Model's
choices it rests on: log entry 90. -/
def Obligations.FeedbackFaultsSentAndOutputs : Prop :=
  (∀ (l : LaneId) (p : Fin 8) (s : State), (s.lane l).live.awake = true → (s.lane l).live.fbModeOf p = 3 →
    hallSector ((s.lane l).live.fbPort p).lines.h = none → (s.lane l).live.num Obj.tetherSource ≠ p.val →
    (s.lane l).live.num Obj.reelSource ≠ p.val →
    ((s.lane l).live.sourceOf p = none →
      RunsTo (.hallIllegalTimeout l p) l s (fun x => x.modFb p (fun q => { q with failed := true }))) ∧
    ((s.lane l).live.sourceOf p = some 1 → ((s.lane l).live.fc.wind[p]).srcLost = false →
      RunsEv (.hallIllegalTimeout l p) l s (fun x =>
        ((x.modFb p (fun q => { q with failed := true })).modWind p (fun w => { w with srcLost := true })).countFault
          .positionSource x.me p.val))) ∧
  (∀ (l : LaneId) (p : Fin 8) (s : State), (s.lane l).live.awake = true → (s.lane l).live.fbModeOf p ≠ 0 →
    (s.lane l).live.num Obj.tetherSource ≠ p.val → (s.lane l).live.num Obj.reelSource = p.val →
    (s.lane l).live.sourceOf p = none →
    RunsEv (.feedbackLevelFault l p) l s (fun x =>
      let y := x.modFb p (fun q => { q with levelF := true, failed := true })
      { y with fb := { y.fb with reelHeld := true } })) ∧
  (∀ (l : LaneId) (p : Fin 8) (s : State),
    RunsTo (.levelfClear l p) l s (fun x => x.modFb p (fun q => { q with levelF := false }))) ∧
  (∀ (l : LaneId) (n : Fin 4) (f : SentFrame) (s : State), (s.lane l).live.awake = true →
    (s.lane l).live.num Obj.sentTick 0 n.val ≠ 0 → (s.lane l).live.sentChecks n f = (false, false, false, false) →
    f.slow = none →
    Runs (.sentFrameReceived l n f) l s (fun t => t.store = (s.lane l).store ∧ t.otp = (s.lane l).otp ∧
      (t.live.fb.sent[n]).fast = BitVec.ofNat 32 (nibbleValue (f.nibbles.take ((s.lane l).live.num Obj.dataNibbles 0 n.val))) ∧
      (t.live.fb.sent[n]).fastPrev = ((s.lane l).live.fb.sent[n]).fast ∧
      (t.live.fb.sent[n]).startAt = some ((s.lane l).live.start + f.startPh) ∧
      (t.live.fb.sent[n]).flags.getLsbD 0 = true ∧ (t.live.fb.sent[n]).flags.getLsbD 1 = false ∧
      (t.live.fb.sent[n]).flags.getLsbD 4 = false ∧ (t.live.fb.sent[n]).errors = ((s.lane l).live.fb.sent[n]).errors ∧
      (∀ o : Fin 4, o ≠ n → t.live.fb.sent[o] = (s.lane l).live.fb.sent[o]) ∧
      t.live.fb.ports = (s.lane l).live.fb.ports ∧ t.live.fc = (s.lane l).live.fc)) ∧
  (∀ (l : LaneId) (n : Fin 4) (f : SentFrame) (sync nib stat : Bool) (s : State), (s.lane l).live.awake = true →
    (s.lane l).live.num Obj.sentTick 0 n.val ≠ 0 → (s.lane l).live.sentChecks n f = (sync, nib, true, stat) →
    RunsEv (.sentFrameReceived l n f) l s (fun x => x.modSent n (fun q =>
      { ((((q.flag 3 sync).flag 4 true).flag 5 nib).flag 6 stat) with tick := some f.tick, errors := satInc q.errors }))) ∧
  (∀ (l : LaneId) (n : Fin 4) (s : State), (s.lane l).live.awake = true →
    (s.lane l).live.num Obj.sentTick 0 n.val ≠ 0 →
    RunsTo (.sentBusLow l n) l s (fun x => x.modSent n (fun q => { q with flags := setBit q.flags 2 true }))) ∧
  (∀ (l : LaneId) (n : Fin 4) (t : Nat) (s : State), (s.lane l).live.awake = true →
    ((s.lane l).live.fb.sent[n]).stopAt = some t → ((s.lane l).live.fb.sent[n]).flags.getLsbD 0 = true →
    (s.lane l).live.due (t + ms ((s.lane l).live.num Obj.sentTimeout 0 n.val)) = true →
    (s.lane l).live.sentUsers n = [] →
    RunsEv (.sentTimeout l n) l s (fun x => x.modSent n (fun q =>
      { q with flags := setBit (setBit q.flags 0 false) 1 true }))) ∧
  (∀ (l : LaneId) (s : State), (s.lane l).live.writes = true →
    RunsTo (.clearSentCounters l 0) l s (fun x => ({ x with fb := { x.fb with
      sent := x.fb.sent.map (fun q => { q with errors := 0 }) } } : Live).accept none)) ∧
  (∀ (l : LaneId) (s : State), (s.lane l).live.awake = true →
    ((s.lane l).live.fb.reelOn = true →
      RunsTo (.encoderOutputFault l true) l s (fun x => { x with
        wi := { x.wi with reelF := true, reelOff := some (x.clk + ms 100) }, fb := { x.fb with reelOn := false } })) ∧
    ((s.lane l).live.fb.tetherOn = true →
      RunsTo (.encoderOutputFault l false) l s (fun x => { x with
        wi := { x.wi with tetherF := true, tetherOff := some (x.clk + ms 100) },
        fb := { x.fb with tetherOn := false } }))) ∧
  (∀ (l : LaneId) (t : Nat) (s : State), (s.lane l).live.due t = true →
    ((s.lane l).live.wi.reelOff = some t →
      RunsTo (.encoderOutputRestore l true) l s (fun x => { x with
        wi := { x.wi with reelF := false, reelOff := none },
        fb := { x.fb with reelOn := true, reelAcc := 0, reelState := 0, reelIndex := false, reelCount := 0 } })) ∧
    ((s.lane l).live.wi.tetherOff = some t →
      RunsTo (.encoderOutputRestore l false) l s (fun x => { x with
        wi := { x.wi with tetherF := false, tetherOff := none }, fb := { x.fb with tetherOn := true } })))

/-- Safety channels and test pulses (R317 to R320, R336, R344): the filtered level of a terminal is taken up; a planned
pulse starts; at its end one missed pulse of a closed channel is noted and the second faults the channel; an overload
outside a pulse faults the test output and a channel that it feeds. -/
def Obligations.SafetyChannelsAndPulses : Prop :=
  (∀ (l : LaneId) (k : Fin 12) (s : State),
    RunsTo (.safetyChannelOpen l k) l s (fun x => x.modSin k (fun q => { q with
      closed := false, misses := 0, crosses := Vector.replicate 6 0 })) ∧
    RunsTo (.safetyChannelClosed l k) l s (fun x => x.modSin k (fun q => { q with closed := true }))) ∧
  (∀ (l : LaneId) (n : Fin 6) (s : State), (s.lane l).live.phase = .joined → (s.lane l).live.planned true n.val = true →
    RunsTo (.tpoPulseStart l n) l s (fun x => x.modTpo n (fun q => { q with pulsing := true }))) ∧
  (∀ (l : LaneId) (n : Fin 6) (low cross : BitVec 12) (s : State), ((s.lane l).live.sf.tpo[n]).pulsing = true →
    (∀ k : Fin 12, (s.lane l).live.num Obj.pulseSource 0 k.val = n.val ∧ ((s.lane l).live.sf.sin[k]).faulted = false ∧
      ((s.lane l).live.sf.sin[k]).closed = true ∧ low.getLsbD k.val = false ∧ ((s.lane l).live.sf.sin[k]).misses = 0 ∨
      (s.lane l).live.num Obj.pulseSource 0 k.val = 255) →
    Runs (.tpoPulseEnd l n false low cross) l s (fun t => t.store = (s.lane l).store ∧ t.otp = (s.lane l).otp ∧
      (t.live.sf.tpo[n]).pulsing = false ∧ (t.live.sf.tpo[n]).faulted = false ∧
      (∀ k : Fin 12, (t.live.sf.sin[k]).faulted = ((s.lane l).live.sf.sin[k]).faulted ∧
        ((s.lane l).live.num Obj.pulseSource 0 k.val = n.val → (t.live.sf.sin[k]).misses = 1)) ∧
      t.live.sf.sout = (s.lane l).live.sf.sout ∧ t.live.fl = (s.lane l).live.fl ∧ t.live.au = (s.lane l).live.au)) ∧
  (∀ (l : LaneId) (n : Fin 6) (low cross : BitVec 12) (k : Fin 12) (s : State),
    ((s.lane l).live.sf.tpo[n]).pulsing = true → (s.lane l).live.num Obj.pulseSource 0 k.val = n.val →
    ((s.lane l).live.sf.sin[k]).faulted = false → ((s.lane l).live.sf.sin[k]).closed = true →
    ((s.lane l).live.sf.sin[k]).misses = 1 → low.getLsbD k.val = false →
    Runs (.tpoPulseEnd l n false low cross) l s (fun t => t.store = (s.lane l).store ∧ t.otp = (s.lane l).otp ∧
      (t.live.sf.sin[k]).faulted = true ∧ (t.live.sf.tpo[n]).faulted = false ∧ t.live.tk = (s.lane l).live.tk)) ∧
  (∀ (l : LaneId) (n : Fin 6) (k : Fin 12) (s : State), (s.lane l).live.phase = .joined →
    ((s.lane l).live.sf.tpo[n]).pulsing = false → (s.lane l).live.num Obj.pulseSource 0 k.val = n.val →
    Runs (.tpoOverload l n) l s (fun t => t.store = (s.lane l).store ∧ t.otp = (s.lane l).otp ∧
      (t.live.sf.sin[k]).faulted = true ∧ (t.live.sf.tpo[n]).faulted = true ∧ t.live.tk = (s.lane l).live.tk))

/-- Safety outputs (R331 to R335, R345): a planned dark pulse starts while the output is on, or is put off within
`EdmTime`; one that reads below 2 V at its end completes, one that does not locks the output off; an output that reads
high while off, and an over-current, lock it with their cause; an open load is flagged; the diagnostic interval raises
its event; contact feedback away for `EdmTime` locks the output; in STANDBY a lock of an output that is off and reads
below 2 V is released, another is refused. Model's choices it rests on: log entries 92 and 93. -/
def Obligations.SafetyOutputs : Prop :=
  (∀ (l : LaneId) (n : Fin 4) (s : State), ((s.lane l).live.sf.sout[n]).cmd = true →
    ((s.lane l).live.sf.sout[n]).dark = false → (s.lane l).live.planned false n.val = true →
    ((s.lane l).live.inEdmTime n = false →
      RunsTo (.darkPulseStart l n) l s (fun x => x.modSout n (fun q => { q with
        dark := true, deferred := false, darkTick := none, readback := false }))) ∧
    ((s.lane l).live.inEdmTime n = true →
      RunsTo (.darkPulseStart l n) l s (fun x => x.modSout n (fun q => { q with
        deferred := true,
        darkTick := some (x.clearTick (x.num Obj.soutPulseWidth 0 n.val) (x.num Obj.tickRate) (x.afterEdm n)) })))) ∧
  (∀ (l : LaneId) (n : Fin 4) (mv : Nat) (s : State), ((s.lane l).live.sf.sout[n]).dark = true →
    (mv < 2000 → RunsTo (.darkPulseEnd l n mv) l s (fun x => x.modSout n (fun q => { q with
      dark := false, readback := true, onFor := 0, overrun := false }))) ∧
    (2000 ≤ mv → RunsEv (.darkPulseEnd l n mv) l s (fun x => x.modSout n (fun q => { q with
      dark := false, locked := true, cause := 1 })))) ∧
  (∀ (l : LaneId) (n : Fin 4) (s : State),
    (((s.lane l).live.sf.sout[n]).cmd = false →
      RunsEv (.soutOffReadbackFault l n) l s (fun x => x.modSout n (fun q => { q with locked := true, cause := 1 }))) ∧
    (((s.lane l).live.sf.sout[n]).cmd = true →
      RunsEv (.soutOvercurrent l n) l s (fun x => x.modSout n (fun q => { q with locked := true, cause := 2 })) ∧
      RunsTo (.soutOpenLoad l n) l s (fun x => x.modSout n (fun q => { q with openload := true })))) ∧
  (∀ (l : LaneId) (n : Fin 4) (s : State), ((s.lane l).live.sf.sout[n]).cmd = true →
    ((s.lane l).live.sf.sout[n]).overrun = false →
    ms ((s.lane l).live.num Obj.diagInterval 0 n.val) ≤ ((s.lane l).live.sf.sout[n]).onFor + (s.lane l).live.tick →
    RunsEv (.diagIntervalOverrun l n) l s (fun x => x.modSout n (fun q => { q with overrun := true }))) ∧
  (∀ (l : LaneId) (n : Fin 4) (closed : Bool) (s : State), (s.lane l).live.edmOf n ≠ none →
    (closed = !((s.lane l).live.sf.sout[n]).cmd →
      RunsTo (.edmCheck l n closed) l s (fun x => x.modSout n (fun q => { q with edm := closed, edmBadAt := none }))) ∧
    (∀ t : Nat, closed = ((s.lane l).live.sf.sout[n]).cmd → ((s.lane l).live.sf.sout[n]).edmBadAt = some t →
      ((s.lane l).live.sf.sout[n]).locked = false → (s.lane l).live.due ((s.lane l).live.edmLimit n t) = true →
      RunsEv (.edmCheck l n closed) l s (fun x => x.modSout n (fun q => { q with
        edm := closed, locked := true, cause := 3 })))) ∧
  (∀ (l : LaneId) (n : Fin 4) (path : Path) (mv : Nat) (s : State), (s.lane l).live.writes = true →
    (s.lane l).live.standby = true → (s.lane l).live.edmOf n = none →
    (mv < 2000 → (s.lane l).live.num Obj.standbyOn 0 n.val ≠ 1 → ((s.lane l).live.sf.sout[n]).cmd = false →
      RunsTo (.soutUnlock l path (BitVec.ofNat 8 n.val) mv) l s (fun x => (x.modSout n (fun q => { q with
        locked := false, cause := 0, readback := false })).accept (some path))) ∧
    (2000 ≤ mv →
      RunsTo (.soutUnlock l path (BitVec.ofNat 8 n.val) mv) l s (fun x => x.abortWith (some path) 0x08000020)))

/-- Timers of the safety functions and safe data (R325 to R327, R340, R342, R344, R351): a degraded timer that has run
its time and a discrepancy that has lasted lock the instance; a `TWOHAND` instance whose second hand stayed away is
disarmed; a safe-data copy without an accepted value is lost; the writes of 0 clear their counters. Model's choices it
rests on: log entry 91. -/
def Obligations.SafetyTimersAndSafeData : Prop :=
  (∀ (l : LaneId) (i : Fin 24) (s : State), (s.lane l).live.running = true → (s.lane l).live.sfOn i = true →
    isTwoHand i.val = false → ((s.lane l).live.sf.inst[i]).degRun = true → ((s.lane l).live.sf.inst[i]).state = 2 →
    (s.lane l).live.num Obj.safetyDegradedTime * (s.lane l).live.num Obj.tickRate
      ≤ ((s.lane l).live.sf.inst[i]).degTimer.toNat →
    Runs (.degradedTimerElapsed l i) l s (fun n => n.store = (s.lane l).store ∧ n.otp = (s.lane l).otp ∧
      (n.live.sf.inst[i]).state = 3 ∧ (n.live.sf.inst[i]).cause = 3 ∧ n.live.tk = (s.lane l).live.tk ∧
      n.live.fb = (s.lane l).live.fb)) ∧
  (∀ (l : LaneId) (i : Fin 24) (s : State), (s.lane l).live.running = true → (s.lane l).live.sfOn i = true →
    ((s.lane l).live.sf.inst[i]).state = 0 → ((s.lane l).live.sf.inst[i]).disc ≠ 0 →
    ((s.lane l).live.sfInput i.val).lasts (((s.lane l).live.sf.inst[i]).disc.toNat - 1)
      ((s.lane l).live.sfInput i.val).disc = true →
    (isTwoHand i.val = false →
      Runs (.discrepancyTimeout l i) l s (fun n => n.store = (s.lane l).store ∧ n.otp = (s.lane l).otp ∧
        (n.live.sf.inst[i]).state = 3 ∧ (n.live.sf.inst[i]).cause = 1 ∧ n.live.tk = (s.lane l).live.tk ∧
        n.live.fb = (s.lane l).live.fb)) ∧
    (isTwoHand i.val = true → ((s.lane l).live.sfInput i.val).c1 ≠ 1 →
      RunsTo (.discrepancyTimeout l i) l s (fun x => { x with sf := { x.sf with
        inst := vmod x.sf.inst i (fun z => { z with armed := false }) } }))) ∧
  (∀ (l : LaneId) (i : Fin 24) (b : Bool) (s : State), (s.lane l).live.sdUsed i.val = true →
    (pickCopy (s.lane l).live.sf.sd[i] b).lost = false →
    (s.lane l).live.num Obj.safeTimeout < (pickCopy (s.lane l).live.sf.sd[i] b).age →
    RunsEv (.safeDataTimeout l i b) l s (fun x =>
      (x.modCopy i b (fun c => { c with lost := true })).countFault .safeDataCopy x.me (2 * i.val + bit1 b))) ∧
  (∀ (l : LaneId) (s : State), (s.lane l).live.writes = true →
    RunsTo (.clearCvuCounters l 0) l s (fun x =>
      ({ x with sf := { x.sf with expMis := 0, aliveRej := 0 } } : Live).accept none) ∧
    RunsTo (.clearSafeDataCounters l 0) l s (fun x =>
      ({ x with sf := { x.sf with safeMis := 0 } } : Live).accept none))

/-- Fault records, kennel release and injection (R295, R299, R303): inside a session the history and the first event
are cleared; a kennelled unit whose cause is absent and whose test passes is released, and any other release is counted
as refused; an injection is armed one at a time and expires. Model's choices it rests on: log entries 80, 108 and 111.
-/
def Obligations.FaultRecordsReleaseInjection : Prop :=
  (∀ (l : LaneId) (path : Path) (s : State), (s.lane l).live.writes = true → (s.lane l).live.sessionOn path = true →
    RunsTo (.clearHistory l path 0) l s (fun x => ({ x with fl := { x.fl with history := [] } } : Live).accept (some path)) ∧
    RunsTo (.clearFirst l path 0) l s (fun x =>
      ({ x with fl := { x.fl with first := none, later := 0 } } : Live).accept (some path))) ∧
  (∀ (l : LaneId) (path : Path) (s : State), (s.lane l).live.writes = true → (s.lane l).live.sessionOn path = false →
    RunsTo (.clearHistory l path 0) l s (fun x => x.abortWith (some path) 0x08000022) ∧
    RunsTo (.clearFirst l path 0) l s (fun x => x.abortWith (some path) 0x08000022)) ∧
  (∀ (l : LaneId) (path : Path) (code : Half) (u : KennelUnit) (s : State), kennelUnit code = some u →
    (s.lane l).live.writes = true → (s.lane l).live.standby = true → (s.lane l).live.sessionOn path = true →
    ((s.lane l).live.kennelled u = true → (s.lane l).live.causeAbsent u = true →
      RunsEv (.kennelRelease l path code true) l s (fun x => (x.release u).accept (some path))) ∧
    ((s.lane l).live.kennelled u = false →
      RunsTo (.kennelRelease l path code true) l s (fun x =>
        ({ x with fl := { x.fl with refusals := satInc x.fl.refusals } } : Live).abortWith (some path) 0x08000020)) ∧
    RunsTo (.kennelRelease l path code false) l s (fun x =>
      ({ x with fl := { x.fl with refusals := satInc x.fl.refusals } } : Live).abortWith (some path) 0x08000020)) ∧
  (∀ (l : LaneId) (path : Path) (s : State), (s.lane l).live.writes = true → (s.lane l).live.standby = true →
    (s.lane l).live.sessionOn path = true →
    ((s.lane l).live.fl.armed = none →
      RunsTo (.injectArm l path 0) l s (fun x => ({ x with fl := { x.fl with
        armed := some { checker := x.rwNum Obj.injectChecker, pattern := x.rwNum Obj.injectPattern,
                        react := decide (x.rwNum Obj.injectReact = 1), until' := x.clk + perSec },
        injStatus := 1 } } : Live).accept (some path))) ∧
    ((s.lane l).live.fl.armed ≠ none →
      RunsTo (.injectArm l path 0) l s (fun x =>
        ({ x with fl := { x.fl with injStatus := 4 } } : Live).abortWith (some path) 0x08000022))) ∧
  (∀ (l : LaneId) (a : Injection) (s : State), (s.lane l).live.fl.armed = some a → (s.lane l).live.due a.until' = true →
    RunsTo (.injectionExpired l) l s (fun x => { x with fl := { x.fl with armed := none, injStatus := 3 } }))

/-- Self-tests (R171, R189, R304 to R308): BIST starts with every gate low; a BIST without a failed partition boots the
lane, one with a failed partition of P1 to P11 does not; a rotating test that is due starts, its passed outcome is
recorded and its turn passed on; a failed check-value unit and a reference crossing raise their event. Model's choices
it rests on: log entries 62, 109 and 115. -/
def Obligations.SelfTests : Prop :=
  (∀ (l : LaneId) (s : State), (s.lane l).live.phase = .stagger →
    Runs (.bistStart l) l s (fun n => n.store = (s.lane l).store ∧ n.otp = (s.lane l).otp ∧ n.live.phase = .bist ∧
      n.live.clk = max (s.lane l).live.clk ((s.lane l).live.su.t0 + startDelay (s.lane l).live.mo.oscCode +
        (s.lane l).live.me.num * ms ((s.lane l).live.num Obj.bistStagger)) ∧
      n.live.gd.forcedLow = true ∧ (∀ p : Fin 8, (n.live.gd.ports[p]).mode = .off) ∧ n.live.au = (s.lane l).live.au ∧
      n.live.su = (s.lane l).live.su ∧ n.live.ck = (s.lane l).live.ck)) ∧
  (∀ (l : LaneId) (time : Half) (s : State), (s.lane l).live.phase = .bist → (s.lane l).live.su.kind = 1 →
    RunsTo (.bistComplete l 0 time) l s (fun x => { x with
      clk := x.clk + us time.toNat, phase := .boot,
      fl := { x.fl with bistResult := 0, bistTime := time, unusable := 0 } })) ∧
  (∀ (l : LaneId) (time : Half) (s : State), (s.lane l).live.phase = .bist → (s.lane l).live.su.kind ≠ 1 →
    (s.lane l).live.su.fromDeep = false →
    RunsEv (.bistComplete l 0 time) l s
      (fun x => { x with
        clk := x.clk + us time.toNat, phase := .boot,
        fl := { x.fl with bistResult := 0, bistTime := time, unusable := 0 } })
      (fun n => n.phase = .boot)) ∧
  (∀ (l : LaneId) (failed time : Half) (s : State), (s.lane l).live.phase = .bist → failed &&& 0x07FF ≠ 0 →
    RunsTo (.bistComplete l failed time) l s (fun x => { x with
      clk := x.clk + us time.toNat, phase := .bistFailed,
      fl := { x.fl with bistResult := failed &&& 0x7FFF, bistTime := time } })) ∧
  (∀ (l : LaneId) (k : Fin 13) (s : State), k ≠ 12 → (s.lane l).live.testApplies k = true →
    ((s.lane l).live.fl.tests[k]).startedAt = none →
    RunsTo (.rotatingSelfTest l k) l s (fun x => { x with fl := { x.fl with
      tests := vmod x.fl.tests k (fun t => { t with startedAt := some x.clk }) } })) ∧
  (∀ (l : LaneId) (k : Fin 13) (unit t0 : Nat) (s : State), k ≠ 12 → ((s.lane l).live.fl.tests[k]).startedAt = some t0 →
    (s.lane l).live.due (t0 + testTime k) = true →
    RunsTo (.selfTestComplete l k unit true none) l s (fun x => { x with
      clk := max x.clk (t0 + testTime k),
      fl := { x.fl with
        lastTest := BitVec.ofNat 16 k.val,
        tests := vmod x.fl.tests k (fun t => { t with
          passedAt := some (max x.clk (t0 + testTime k)), failed := false, unit := t.unit + 1, startedAt := none }) } })) ∧
  (∀ (l : LaneId) (unit t0 : Nat) (s : State), ((s.lane l).live.fl.tests[9]).startedAt = some t0 → unit < 16 →
    (s.lane l).live.due t0 = true →
    RunsEv (.selfTestComplete l 9 unit false none) l s (fun x => { x with
      clk := max x.clk t0,
      fl := { x.fl with
        lastTest := 0x8009,
        tests := vmod x.fl.tests 9 (fun t => { t with failed := true, unit := t.unit + 1, startedAt := none }) } })) ∧
  (∀ (l : LaneId) (ch : Fin 3) (high : Bool) (s : State), (s.lane l).live.sensing = true →
    RunsEv (.referenceWindowCrossing l ch high) l s (fun x => x.crossed (189 + ch.val) high))

/-- Pass comparison of paired threads (R273, R277, R285, R288): words are fed into the register of the closing thread;
a first close waits, equal signatures forget both closes, different ones count and repeat, as a missing close does
after 2 ticks; the write of 0 clears the counters. Model's choices it rests on: log entry 112. -/
def Obligations.PairedThreads : Prop :=
  (∀ (l : LaneId) (c : Fin 16) (tail : Bool) (ws : List Word) (s : State), (s.lane l).live.awake = true →
    ((s.lane l).live.ps.pairs[c]).leadClosed = false → ((s.lane l).live.ps.pairs[c]).tailClosed = false →
    ((s.lane l).live.ps.pairs[c]).closedAt = none →
    RunsTo (.closePortWrite l c tail ws) l s (fun x => { x with ps := { x.ps with
      lead := if tail then x.ps.lead else vmod x.ps.lead (pairChan c) (fun r => crc64Feed r ws),
      tail := if tail then vmod x.ps.tail (pairChan c) (fun r => crc64Feed r ws) else x.ps.tail,
      pairs := vmod x.ps.pairs c (fun q => { q with leadClosed := !tail, tailClosed := tail, closedAt := some x.ticks }) } })) ∧
  (∀ (l : LaneId) (c : Fin 16) (ws : List Word) (s : State), (s.lane l).live.awake = true →
    ((s.lane l).live.ps.pairs[c]).leadClosed = true → ((s.lane l).live.ps.pairs[c]).tailClosed = false →
    ((s.lane l).live.ps.lead[pairChan c] = crc64Feed (s.lane l).live.ps.tail[pairChan c] ws →
      RunsTo (.closePortWrite l c true ws) l s (fun x => { x with ps := { x.ps with
        lead := vmod x.ps.lead (pairChan c) (fun _ => 0xFFFFFFFFFFFFFFFF),
        tail := vmod x.ps.tail (pairChan c) (fun _ => 0xFFFFFFFFFFFFFFFF),
        pairs := vmod x.ps.pairs c (fun _ => {}) } })) ∧
    ((s.lane l).live.ps.lead[pairChan c] ≠ crc64Feed (s.lane l).live.ps.tail[pairChan c] ws →
      (s.lane l).live.ps.stuck = false →
      Runs (.closePortWrite l c true ws) l s (fun n => n.store = (s.lane l).store ∧ n.otp = (s.lane l).otp ∧
        n.live.ps.pairs[c] = { repeats := ((s.lane l).live.ps.pairs[c]).repeats + 1 } ∧
        n.live.ps.softMis = satInc (s.lane l).live.ps.softMis ∧ n.live.ps.lead[pairChan c] = 0xFFFFFFFFFFFFFFFF ∧
        n.live.ps.tail[pairChan c] = 0xFFFFFFFFFFFFFFFF ∧ n.live.ps.lastSrc = BitVec.ofNat 8 (16 + c.val) ∧
        n.live.ps.restores = (s.lane l).live.ps.restores ∧ n.live.en.bus = (s.lane l).live.en.bus))) ∧
  (∀ (l : LaneId) (c : Fin 16) (t : Nat) (s : State), (s.lane l).live.awake = true →
    ((s.lane l).live.ps.pairs[c]).closedAt = some t → t + 2 ≤ (s.lane l).live.ticks →
    Runs (.pairCloseTimeout l c) l s (fun n => n.store = (s.lane l).store ∧ n.otp = (s.lane l).otp ∧
      n.live.ps.pairs[c] = { repeats := ((s.lane l).live.ps.pairs[c]).repeats + 1 } ∧
      n.live.ps.softMis = satInc (s.lane l).live.ps.softMis ∧ n.live.ps.lastTick = (s.lane l).live.tickLow ∧
      n.live.en.bus = (s.lane l).live.en.bus)) ∧
  (∀ (l : LaneId) (s : State), (s.lane l).live.writes = true →
    RunsTo (.clearPassCounters l 0) l s (fun x => ({ x with ps := { x.ps with
      dutyMis := 0, sigMis := 0, softMis := 0, restores := 0, tagged := 0, tagRep := 0,
      eccCorr := 0, eccUnc := 0, agreeInc := 0, agreeDis := 0 } } : Live).accept none))

/-- The logbook (R294, R437 to R442, R451): the oldest complete capture is written as the newest of the ring; a trigger
enters a capture; a halt ends with the reset of kind 5 100 ms after it; a trend record holds the means; the erase
empties both rings, its end clears `ERASING`; a read advances the offset by what it returned. Model's choices it rests
on: log entry 107. -/
def Obligations.LogbookAndHaltRestart : Prop :=
  (∀ (l : LaneId) (c : Capture) (cs : List Capture) (s : State), (s.lane l).live.im.pending = c :: cs → c.left = 0 →
    (s.lane l).store.bad = false → (s.lane l).live.fl.armed = none →
    Runs (.captureWritten l) l s (fun n => n.otp = (s.lane l).otp ∧
      n.live = { (s.lane l).live with im := { (s.lane l).live.im with pending := cs } } ∧
      n.store = { (s.lane l).store with captures := keepRing 3221225472 (c :: (s.lane l).store.captures) })) ∧
  (∀ (l : LaneId) (s : State), (s.lane l).live.writes = true → (s.lane l).live.num Obj.preTrigger ≠ 0 →
    (s.lane l).live.fl.unusable.getLsbD 3 = false → (s.lane l).live.im.erasing = false →
    (s.lane l).live.im.pending.length < 8 →
    RunsTo (.logTrigger l 0) l s (fun x => ({ x with im := { x.im with
      pending := x.im.pending ++ [x.newCapture 0xFFFF] } } : Live).accept none)) ∧
  (∀ (l : LaneId) (t : Nat) (s : State), (s.lane l).live.phase = .halted → (s.lane l).live.fl.haltedAt = some t →
    (s.lane l).live.due (t + ms 100) = true →
    Runs (.haltRestart l) l s (fun n => n.otp = (s.lane l).otp ∧ n.live.phase = .inReset ∧ n.live.su.last = 5 ∧
      n.live.su.halt = true ∧ t + ms 100 ≤ n.live.clk ∧ n.live.im.session = none ∧ n.live.quiet = true ∧
      n.store.regions = (s.lane l).store.regions ∧ n.store.boot = (s.lane l).store.boot)) ∧
  (∀ (l : LaneId) (s : State), (s.lane l).live.im.trendN ≠ 0 → (s.lane l).live.fl.unusable.getLsbD 3 = false →
    (s.lane l).live.im.erasing = false →
    Runs (.trendRecord l) l s (fun n => n.otp = (s.lane l).otp ∧
      n.live = { (s.lane l).live with im := { (s.lane l).live.im with trendSum := [], trendN := 0 } } ∧
      n.store = { (s.lane l).store with trend := (((s.lane l).live.timeStamp, (s.lane l).live.im.trendSum.map
        (fun v => F32.div v (F32.ofNat (s.lane l).live.im.trendN))) :: (s.lane l).store.trend).take 7456540 })) ∧
  (∀ (l : LaneId) (path : Path) (s : State), (s.lane l).live.writes = true → (s.lane l).live.sessionOn path = true →
    Runs (.logbookErase l path 0) l s (fun n => n.otp = (s.lane l).otp ∧
      n.live = ({ (s.lane l).live with im := { (s.lane l).live.im with erasing := true, markers := [] } } : Live).accept
        (some path) ∧
      n.store = { (s.lane l).store with captures := [], trend := [] })) ∧
  (∀ (l : LaneId) (s : State),
    RunsTo (.eraseComplete l) l s (fun x => { x with im := { x.im with erasing := false } })) ∧
  (∀ (l : LaneId) (path : Path) (s : State), (s.lane l).live.answers = true →
    Runs (.readData l path) l s (fun n => n.otp = (s.lane l).otp ∧ n.store = (s.lane l).store ∧
      let d := (((s.lane l).live.selection (s.lane l).store).drop ((s.lane l).live.rwNum Obj.readOffset)).take 32768
      n.live = ((s.lane l).live.setRw Obj.readOffset 0 0 (leBytes 4 ((s.lane l).live.rwNum Obj.readOffset + d.length))).answer
        { path := some path, sid := 0, abort := none, data := d, last := true }))

/-- Configuration storage (R387, R422 to R424): a slot command over a path without a session is aborted and changes
nothing else; a staging on failed storage reports 15; the staging of a checked image records its version and digest; a
verification that finds an error reports its code; a commit rotates the three roles and a revert exchanges two of them,
each in one write of the directory and with the image's values in effect; a command carried out counts as running until
its completion. Model's choices it rests on: log entry 103. -/
def Obligations.ConfigurationCommands : Prop :=
  (∀ (l : LaneId) (path : Path) (v : Word) (s : State), (s.lane l).live.writes = true → v ≠ 0 →
    (s.lane l).live.sessionOn path = false →
    RunsTo (.configStage l (some path) v) l s (fun x => x.abortWith (some path) 0x08000022) ∧
    RunsTo (.configVerify l (some path) v) l s (fun x => x.abortWith (some path) 0x08000022) ∧
    RunsTo (.configCommit l (some path) v) l s (fun x => x.abortWith (some path) 0x08000022) ∧
    RunsTo (.configRevert l (some path) v) l s (fun x => x.abortWith (some path) 0x08000022)) ∧
  (∀ (l : LaneId) (path : Path) (v : Word) (s : State), (s.lane l).live.writes = true → v ≠ 0 →
    (s.lane l).live.standby = true → (s.lane l).live.sessionOn path = true → (s.lane l).store.bad = true →
    configGuard 1 v ((s.lane l).live, (s.lane l).store) = true →
    Runs (.configStage l (some path) v) l s (fun n => n.otp = (s.lane l).otp ∧ n.store = (s.lane l).store ∧
      n.live.im.stStaged = 15 ∧ n.live.im.busy = (s.lane l).live.im.busy ++ [(1, v, 15)])) ∧
  (∀ (l : LaneId) (path : Path) (v : Word) (s : State), (s.lane l).live.writes = true → v ≠ 0 →
    (s.lane l).live.standby = true → (s.lane l).live.sessionOn path = true → (s.lane l).store.bad = false →
    configGuard 1 v ((s.lane l).live, (s.lane l).store) = true →
    checkStored (s.lane l).store (s.lane l).otp ((s.lane l).store.image .staged) = 1 → (s.lane l).store.dir.staged < 3 →
    Runs (.configStage l (some path) v) l s (fun n => n.otp = (s.lane l).otp ∧
      n.store.dir.vStaged = v ∧ n.store.dir.dStaged = digestOf ((s.lane l).store.image .staged) ∧
      n.store.dir.active = (s.lane l).store.dir.active ∧ n.store.boot = (s.lane l).store.boot ∧
      n.live.im.stStaged = 1 ∧ n.live.im.busy = (s.lane l).live.im.busy ++ [(1, v, 1)])) ∧
  (∀ (l : LaneId) (path : Path) (v : Word) (c : Nat) (s : State), (s.lane l).live.writes = true → v ≠ 0 →
    (s.lane l).live.standby = true → (s.lane l).live.sessionOn path = true → (s.lane l).store.bad = false →
    (s.lane l).live.fl.armed = none → (s.lane l).store.dir.vStaged = v → (s.lane l).live.im.stStaged = 1 →
    (s.lane l).store.region (2 * (s.lane l).store.dir.staged) = (s.lane l).store.region (2 * (s.lane l).store.dir.staged + 1) →
    checkStored (s.lane l).store (s.lane l).otp ((s.lane l).store.image .staged) = c → c ≠ 1 →
    Runs (.configVerify l (some path) v) l s (fun n => n.otp = (s.lane l).otp ∧ n.store = (s.lane l).store ∧
      n.live.im.stStaged = BitVec.ofNat 8 c ∧
      n.live.im.busy = (s.lane l).live.im.busy ++ [(2, v, BitVec.ofNat 8 c)])) ∧
  (∀ (l : LaneId) (path : Path) (v : Word) (s : State), (s.lane l).live.writes = true → v ≠ 0 →
    (s.lane l).live.standby = true → (s.lane l).live.sessionOn path = true →
    configGuard 3 v ((s.lane l).live, (s.lane l).store) = true →
    (s.lane l).store.region (2 * (s.lane l).store.dir.staged) = (s.lane l).store.region (2 * (s.lane l).store.dir.staged + 1) →
    Runs (.configCommit l (some path) v) l s (fun n => n.otp = (s.lane l).otp ∧
      n.store = { (s.lane l).store with dir := { (s.lane l).store.dir with
        staged := (s.lane l).store.dir.previous, active := (s.lane l).store.dir.staged,
        previous := (s.lane l).store.dir.active, vStaged := 0, vActive := v, vPrevious := (s.lane l).store.dir.vActive,
        dStaged := [], dActive := (s.lane l).store.dir.dStaged, dPrevious := (s.lane l).store.dir.dActive,
        seq := (s.lane l).store.dir.seq + 1 } } ∧
      n.live.im.stActive = 2 ∧ n.live.im.stStaged = 0 ∧
      n.live.cfg = imageValues (s.lane l).live.me ((s.lane l).store.image .staged) ∧
      n.live.im.busy = (s.lane l).live.im.busy ++ [(3, v, 2)])) ∧
  (∀ (l : LaneId) (path : Path) (v : Word) (s : State), (s.lane l).live.writes = true → v ≠ 0 →
    (s.lane l).live.standby = true → (s.lane l).live.sessionOn path = true →
    configGuard 4 v ((s.lane l).live, (s.lane l).store) = true →
    (s.lane l).store.region (2 * (s.lane l).store.dir.previous)
      = (s.lane l).store.region (2 * (s.lane l).store.dir.previous + 1) →
    Runs (.configRevert l (some path) v) l s (fun n => n.otp = (s.lane l).otp ∧
      n.store = { (s.lane l).store with dir := { (s.lane l).store.dir with
        active := (s.lane l).store.dir.previous, previous := (s.lane l).store.dir.active, vActive := v,
        vPrevious := (s.lane l).store.dir.vActive, dActive := (s.lane l).store.dir.dPrevious,
        dPrevious := (s.lane l).store.dir.dActive, seq := (s.lane l).store.dir.seq + 1 } } ∧
      n.live.im.stActive = 2 ∧
      n.live.cfg = imageValues (s.lane l).live.me ((s.lane l).store.image .previous) ∧
      n.live.im.busy = (s.lane l).live.im.busy ++ [(4, v, 2)])) ∧
  (∀ (l : LaneId) (k : Nat) (v : Word) (r : Byte) (rest : List (Nat × Word × Byte)) (s : State),
    (s.lane l).live.im.busy = (k, v, r) :: rest →
    RunsTo (.configCommandComplete l) l s (fun x => { x with im := { x.im with busy := rest, lastResult := r } }))

/-- Downloads and firmware (R422, R425 to R428): data outside STANDBY or a session is aborted; an empty write starts a
download anew; a first block of an incomplete image is stored and the role emptied or marked empty; an activated slot
is put on trial with the lane's software reset; a confirmed trial ends, raises the counter and revokes keys; the boot
ROM stays where no slot passes, and leads a lane with the halt latch into its halted state. Model's choices it rests
on: log entry 104. -/
def Obligations.DownloadsAndFirmware : Prop :=
  (∀ (l : LaneId) (path : Path) (data : List Byte) (s : State), (s.lane l).live.writes = true →
    ((s.lane l).live.standby = false ∨ (s.lane l).live.sessionOn path = false) →
    RunsTo (.stageData l path data) l s (fun x => x.abortWith (some path) 0x08000022) ∧
    RunsTo (.loadData l path data) l s (fun x => x.abortWith (some path) 0x08000022)) ∧
  (∀ (l : LaneId) (path : Path) (s : State), (s.lane l).live.writes = true → (s.lane l).live.standby = true →
    (s.lane l).live.sessionOn path = true →
    RunsTo (.stageData l path []) l s (fun x =>
      ((({ x with im := { x.im with stagingGot := 0, stagingStatus := 0 } } : Live).setRw Obj.stageOffset 0 0
        (leBytes 4 0)).setRw Obj.stageData 0 0 []).accept (some path)) ∧
    RunsTo (.loadData l path []) l s (fun x =>
      ((({ x with im := { x.im with loadGot := 0, loadStatus := 0 } } : Live).setRw Obj.fwLoadOffset 0 0
        (leBytes 4 0)).setRw Obj.fwLoadData 0 0 []).accept (some path))) ∧
  (∀ (l : LaneId) (path : Path) (data : List Byte) (s : State), (s.lane l).live.writes = true →
    (s.lane l).live.standby = true → (s.lane l).live.sessionOn path = true → (s.lane l).store.bad = false →
    (s.lane l).live.fl.armed = none → 0 < data.length → data.length < 64 →
    ((s.lane l).live.rwNum Obj.stageOffset = 0 →
      Runs (.stageData l path data) l s (fun n => n.otp = (s.lane l).otp ∧
        n.store = ({ (s.lane l).store with dir := (s.lane l).store.dir.setRole .staged 0 [] } : NvStore).setRegion
          (2 * (s.lane l).store.dir.staged) (trimZeros data) ∧
        n.live.im.stStaged = 0 ∧ n.live.im.stagingStatus = 3 ∧ n.live.im.stagingGot = data.length ∧
        n.live.au = (s.lane l).live.au ∧ n.live.fl = (s.lane l).live.fl)) ∧
    ((s.lane l).live.rwNum Obj.fwLoadOffset = 0 →
      Runs (.loadData l path data) l s (fun n => n.otp = (s.lane l).otp ∧
        n.store = ({ (s.lane l).store with boot := (s.lane l).store.boot.mark (!(s.lane l).store.boot.runningB) true } :
          NvStore).setFirmware (!(s.lane l).store.boot.runningB) (trimZeros data) ∧
        n.live.im.loadStatus = 3 ∧ n.live.im.loadGot = data.length ∧ n.live.au = (s.lane l).live.au ∧
        n.live.fl = (s.lane l).live.fl))) ∧
  (∀ (l : LaneId) (path : Path) (v : Word) (s : State), (s.lane l).live.writes = true → v ≠ 0 →
    (s.lane l).live.standby = true → (s.lane l).live.au.standstill = true → (s.lane l).live.sessionOn path = true →
    (l.others.any (fun o => (s.lane o).store.boot.trial)) = false → (s.lane l).live.im.loadStatus = 1 →
    versionOf ((s.lane l).store.firmware (!(s.lane l).store.boot.runningB)) = v →
    Runs (.firmwareActivate l path v) l s (fun n => n.otp = (s.lane l).otp ∧ n.live.phase = .inReset ∧
      n.store = { (s.lane l).store with boot := { (s.lane l).store.boot with
        runningB := !(s.lane l).store.boot.runningB, trial := true, tried := false, confirmed := false } } ∧
      n.live.im.session = none ∧ n.live.quiet = true)) ∧
  (∀ (l : LaneId) (s : State), mayConfirm (s.lane l) = true →
    Runs (.firmwareConfirm l) l s (fun n =>
      n.store = { (s.lane l).store with boot := { (s.lane l).store.boot with
        trial := false, tried := false, confirmed := true } } ∧
      n.otp = ((s.lane l).otp.raiseTo (header ((s.lane l).store.firmware (s.lane l).store.boot.runningB)).epoch).revoke
        (BitVec.ofNat 12 ((header ((s.lane l).store.firmware (s.lane l).store.boot.runningB)).revoke % 16)) ∧
      n.live.au = (s.lane l).live.au ∧ n.live.tk = (s.lane l).live.tk)) ∧
  (∀ (l : LaneId) (s : State), mayConfirm (s.lane l) = false → RunsTo (.firmwareConfirm l) l s id) ∧
  (∀ (l : LaneId) (bad : BitVec 4) (s : State), (s.lane l).live.phase = .boot → (s.lane l).store.boot.trial = false →
    bootStatus (s.lane l).store (s.lane l).otp (s.lane l).store.boot.runningB ≠ 1 →
    bootStatus (s.lane l).store (s.lane l).otp (!(s.lane l).store.boot.runningB) ≠ 1 →
    RunsTo (.firmwareStart l bad) l s (fun x => { x with phase := .bootFailed })) ∧
  (∀ (l : LaneId) (bad : BitVec 4) (b : Bool) (r : BootRecord) (s : State), (s.lane l).live.phase = .boot →
    bootChoice (s.lane l).store (s.lane l).otp = (some b, r) → (s.lane l).live.su.fromDeep = false →
    (s.lane l).live.su.halt = true →
    Runs (.firmwareStart l bad) l s (fun n => n.otp = (s.lane l).otp ∧ n.live.phase = .haltedState ∧
      n.store.boot = r ∧ n.live.su.wdAt = some (s.lane l).live.clk ∧ n.live.gd.forcedLow = (s.lane l).live.gd.forcedLow))

/-- Keys, sessions, attestation, tamper and debug (R429 to R436): an unprogrammed key slot is programmed from the
loaded key, a programmed one is refused; an unprogrammed slot that signs nothing in use is revoked; a challenge read
draws a nonce; a session response that verifies opens a session on its path and one that fails is counted; a debug
response that verifies unlocks the port; closing and expiry end the session, the lockout ends; an attestation is signed
or, after tampering, refused; a new pair is drawn, tampering zeroises it. Model's choices it rests on: log entries 23,
24 and 105. -/
def Obligations.KeysSessionsAttestation : Prop :=
  (∀ (l : LaneId) (path : Path) (k : Byte) (s : State), (s.lane l).live.writes = true → 4 ≤ k.toNat → (h : k.toNat < 12) →
    (s.lane l).live.standby = true → (s.lane l).live.sessionOn path = true → (s.lane l).otp.programmed k.toNat = false →
    ((s.lane l).live.rwBytes Obj.keyLoad).length = 1985 → ((s.lane l).live.rwBytes Obj.keyLoad).head? = some k →
    Runs (.keyProgram l path k) l s (fun n => n = { burnKeys ⟨k.toNat, h⟩ (((s.lane l).live.rwBytes Obj.keyLoad).drop 1) (s.lane l)
      with live := (s.lane l).live.accept (some path) })) ∧
  (∀ (l : LaneId) (path : Path) (k : Byte) (s : State), (s.lane l).live.writes = true → 4 ≤ k.toNat → k.toNat < 12 →
    (s.lane l).otp.programmed k.toNat = true →
    RunsTo (.keyProgram l path k) l s (fun x => x.abortWith (some path) 0x08000022)) ∧
  (∀ (l : LaneId) (path : Path) (k : Byte) (s : State), (s.lane l).live.writes = true → 4 ≤ k.toNat → k.toNat < 12 →
    (s.lane l).live.standby = true → (s.lane l).live.sessionOn path = true → (s.lane l).otp.programmed k.toNat = false →
    signsImage (s.lane l) k.toNat = false → (s.lane l).live.sessionSigned k.toNat = false →
    Runs (.keyRevoke l path k) l s (fun n => n = { s.lane l with
      otp := (s.lane l).otp.revoke (BitVec.ofNat 12 (2 ^ k.toNat)), live := (s.lane l).live.accept (some path) })) ∧
  (∀ (l : LaneId) (path : Path) (s : State), (s.lane l).live.answers = true → (s.lane l).live.im.lockout = none →
    RunsTo (.challengeRead l path) l s (fun x =>
      let c := challengeBytes s.free s.serial x.me (s.lane l).store.sessions
      ({ x with im := { x.im with nonce := some c, nonceAt := x.clk } } : Live).answer
        { path := some path, sid := 0, abort := none, data := c, last := true })) ∧
  (∀ (l : LaneId) (path : Path) (r : List Byte) (s : State), (s.lane l).live.writes = true → r.length = 3377 →
    respDamaged 8 r (s.lane l).otp (s.lane l).store = [] → respDamaged 0 r (s.lane l).otp (s.lane l).store = [] →
    ((s.lane l).live.sessionOpen = false →
      responseGood 8 r (s.lane l).otp ((s.lane l).live.setRw Obj.response 0 0 r, (s.lane l).store) = true →
      Runs (.sessionResponse l path r) l s (fun n => n.otp = (s.lane l).otp ∧
        n.store = { (s.lane l).store with sessions := (s.lane l).store.sessions + 1 } ∧
        n.live.im.session = some (path, (s.lane l).live.clk + respMinutes r * 60 * perSec, respEd r, respMl r) ∧
        n.live.im.nonce = none ∧ n.live.im.authFails = (s.lane l).live.im.authFails ∧ n.live.fl = (s.lane l).live.fl)) ∧
    ((s.lane l).live.sessionOpen = false →
      responseGood 8 r (s.lane l).otp ((s.lane l).live.setRw Obj.response 0 0 r, (s.lane l).store) = false →
      Runs (.sessionResponse l path r) l s (fun n => n.otp = (s.lane l).otp ∧ n.store = (s.lane l).store ∧
        n.live.im.session = none ∧ n.live.im.authFails = satInc (s.lane l).live.im.authFails ∧
        n.live.tk = (s.lane l).live.tk)) ∧
    ((s.lane l).live.sessionOn path = true →
      responseGood 0 r (s.lane l).otp ((s.lane l).live.setRw Obj.debugResponse 0 0 r, (s.lane l).store) = true →
      Runs (.debugResponse l path r) l s (fun n => n.otp = (s.lane l).otp ∧ n.store = (s.lane l).store ∧
        n.live.im.debug = true ∧ n.live.im.nonce = none ∧ n.live.im.session = (s.lane l).live.im.session ∧
        n.live.fl = (s.lane l).live.fl))) ∧
  (∀ (l : LaneId) (path : Path) (s : State), (s.lane l).live.writes = true →
    RunsTo (.sessionClose l path 0) l s (fun x => x.closeSession.accept (some path))) ∧
  (∀ (l : LaneId) (q : Path) (e a b : Nat) (s : State), (s.lane l).live.im.session = some (q, e, a, b) →
    (s.lane l).live.due e = true →
    Runs (.sessionExpiry l) l s (fun n => n.store = (s.lane l).store ∧ n.otp = (s.lane l).otp ∧
      n.live.im.session = none ∧ n.live.im.rcPending = [] ∧ n.live.clk = max (s.lane l).live.clk e ∧
      n.live.tk = (s.lane l).live.tk ∧ n.live.gd = (s.lane l).live.gd)) ∧
  (∀ (l : LaneId) (e : Nat) (s : State), (s.lane l).live.im.lockout = some e → (s.lane l).live.due e = true →
    RunsTo (.authLockoutEnd l) l s (fun x => { x with im := { x.im with lockout := none } })) ∧
  (∀ (l : LaneId) (path : Path) (data : List Byte) (s : State), (s.lane l).live.writes = true → data.length = 32 →
    (s.lane l).store.attestOk = true →
    ((s.lane l).store.attestZero = false →
      RunsTo (.attestChallenge l path data) l s (fun x =>
        (({ x with im := { x.im with signature := leBytes 3373 (Config.attestSign (s.lane l).store.attestId
          (attestMessage data s.serial x.me (s.lane l).store)).toNat } } : Live).setRw Obj.attestChallenge 0 0 data).accept
            (some path))) ∧
    ((s.lane l).store.attestZero = true →
      RunsTo (.attestChallenge l path data) l s (fun x => x.abortWith (some path) 0x08000022))) ∧
  (∀ (l : LaneId) (path : Path) (s : State), (s.lane l).live.writes = true → (s.lane l).live.sessionOn path = true →
    Runs (.attestRegenerate l path 0) l s (fun n => n.otp = (s.lane l).otp ∧
      n.live = (s.lane l).live.accept (some path) ∧
      n.store = { (s.lane l).store with attestOk := true, attestId := s.free, attestZero := false })) ∧
  (∀ (l : LaneId) (cause : Byte) (s : State), (s.lane l).live.phase ≠ .off →
    Runs (.tamperDetected l cause) l s (fun n => n.otp = (s.lane l).otp ∧
      n.store = { (s.lane l).store with attestZero := true } ∧ n.live.steady = (s.lane l).live.steady))

/-- Writes of objects (R387, R393 to R396): a halted lane aborts them; a write to an object that does not exist, that
is read-only, whose length does not fit or whose value lies outside the range is aborted with its code; a `RW` value is
live at once; an `RC` value needs STANDBY and a session on the path and waits for the end of that session; four
commands clear their counters. Model's choices it rests on: log entry 98. -/
def Obligations.DictionaryWrites : Prop :=
  (∀ (l : LaneId) (path : Path) (idx : Half) (sub : Byte) (bs : List Byte) (s : State),
    (s.lane l).live.phase = .halted ∨ (s.lane l).live.phase = .haltedState →
    RunsTo (.dictionaryWrite l path idx sub bs) l s (fun x => x.abortWith (some path) 0x08000022)) ∧
  (∀ (l : LaneId) (path : Path) (idx : Half) (sub : Byte) (bs : List Byte) (s : State), (s.lane l).live.writes = true →
    findObj idx.toNat sub.toNat = none →
    (indexExists idx.toNat = false →
      RunsTo (.dictionaryWrite l path idx sub bs) l s (fun x => x.abortWith (some path) 0x06020000)) ∧
    (indexExists idx.toNat = true →
      RunsTo (.dictionaryWrite l path idx sub bs) l s (fun x => x.abortWith (some path) 0x06090011))) ∧
  (∀ (l : LaneId) (path : Path) (idx : Half) (sub : Byte) (bs : List Byte) (o : Obj) (s : State),
    (s.lane l).live.writes = true → findObj idx.toNat sub.toNat = some o → o.acc = .ro ∨ o.acc = .img →
    RunsTo (.dictionaryWrite l path idx sub bs) l s (fun x => x.abortWith (some path) 0x06010002)) ∧
  (∀ (l : LaneId) (path : Path) (idx : Half) (sub : Byte) (bs : List Byte) (o : Obj) (s : State),
    (s.lane l).live.writes = true → findObj idx.toNat sub.toNat = some o → ownRow idx.toNat sub.toNat = false →
    lengthCode o bs.length = none → o.range.holds bs = true →
    (o.ty = .f32 → F32.finite (BitVec.ofNat 32 (leNat bs)) = true) →
    tied ((s.lane l).live, (s.lane l).store) idx.toNat sub.toNat bs = none →
    (o.acc = .rw → RunsTo (.dictionaryWrite l path idx sub bs) l s (fun x =>
      (x.setRw o (idx.toNat - o.idx) (sub.toNat - o.sub) bs).accept (some path))) ∧
    (o.acc = .rc → (s.lane l).live.standby = true → (s.lane l).live.sessionOn path = true →
      RunsTo (.dictionaryWrite l path idx sub bs) l s (fun x => ({ x with im := { x.im with
        rcPending := x.im.rcPending.insert (o.key (idx.toNat - o.idx) (sub.toNat - o.sub)) bs } } : Live).accept
          (some path))) ∧
    (o.acc = .rc → (s.lane l).live.standby = false ∨ (s.lane l).live.sessionOn path = false →
      RunsTo (.dictionaryWrite l path idx sub bs) l s (fun x => x.abortWith (some path) 0x08000022))) ∧
  (∀ (l : LaneId) (path : Path) (idx : Half) (sub : Byte) (bs : List Byte) (o : Obj) (c : Word) (s : State),
    (s.lane l).live.writes = true → findObj idx.toNat sub.toNat = some o → o.acc = .rw ∨ o.acc = .rc →
    lengthCode o bs.length = some c →
    RunsTo (.dictionaryWrite l path idx sub bs) l s (fun x => x.abortWith (some path) c)) ∧
  (∀ (l : LaneId) (path : Path) (idx : Half) (sub : Byte) (bs : List Byte) (o : Obj) (s : State),
    (s.lane l).live.writes = true → findObj idx.toNat sub.toNat = some o → o.acc = .rw ∨ o.acc = .rc →
    lengthCode o bs.length = none →
    o.range.holds bs = false ∨ (o.ty = .f32 ∧ F32.finite (BitVec.ofNat 32 (leNat bs)) = false) →
    RunsTo (.dictionaryWrite l path idx sub bs) l s (fun x => x.abortWith (some path) 0x06090030)) ∧
  (∀ (l : LaneId) (n : Fin 4) (s : State), (s.lane l).live.writes = true →
    RunsTo (.clearCanCounters l n 0) l s (fun x => ({ x with di := { x.di with can := vmod x.di.can n (fun c => { c with
      txErr := 0, rxErr := 0, busOffs := 0, framesRx := 0, framesTx := 0 }) } } : Live).accept none) ∧
    RunsTo (.clearServerCounters l 0) l s (fun x => ({ x with di := { x.di with
      refusals := 0, aborts := 0, repFails := 0, ignored := 0 } } : Live).accept none) ∧
    RunsTo (.clearAppCounters l 0) l s (fun x => ({ x with sc := { x.sc with
      refusals := 0, laneRefs := 0, drops := 0, faults := 0 } } : Live).accept none) ∧
    RunsTo (.clearJalsynCounters l 0) l s (fun x => ({ x with jn := { x.jn with
      chA := { x.jn.chA with cnt := {} }, chB := { x.jn.chB with cnt := {} }, unequal := 0, refDis := 0, reint := 0 } } :
        Live).accept none))

/-- The limits of a replication (R401): with an answer missing 6 ticks after the first PREPARE it goes out once more
under the same `SEQ`; 16 ticks after, the replication ends with CANCEL, the failure counted; a PREPARE held 32 ticks
after its ACCEPT without an order is discarded with an event. Model's choices it rests on: log entry 100. -/
def Obligations.ReplicationLimits : Prop :=
  (∀ (l o : LaneId) (r : Replication) (s : State), (s.lane l).live.di.open' = some r → r.applyAt = none →
    o ∈ (s.lane l).live.mustAnswer → o ∉ r.accepts →
    (r.resent = false → r.sentAt + 6 ≤ (s.lane l).live.ticks →
      RunsTo (.replicationResend l) l s (fun x => { x with di := { x.di with
        txFwd := x.di.txFwd ++ [r.block x.me .prepare 0], txBack := x.di.txBack ++ [r.block x.me .prepare 0],
        open' := some { r with resent := true } } })) ∧
    (r.resent = true ∨ (s.lane l).live.ticks < r.sentAt + 6 → RunsTo (.replicationResend l) l s id) ∧
    (r.sentAt + 16 ≤ (s.lane l).live.ticks →
      Runs (.replicationFailed l) l s (fun n => n.store = (s.lane l).store ∧ n.otp = (s.lane l).otp ∧
        n.live.di.open' = none ∧ n.live.di.repFails = satInc (s.lane l).live.di.repFails ∧
        n.live.di.txFwd = enqueue (s.lane l).live.di.txFwd (r.block (s.lane l).live.me .cancel 0) ∧
        n.live.di.txBack = enqueue (s.lane l).live.di.txBack (r.block (s.lane l).live.me .cancel 0) ∧
        n.live.di.sessions = (s.lane l).live.di.sessions.filter (fun q => !(decide (q.path = r.path ∧ q.sid = r.sid))) ∧
        n.live.di.held = (s.lane l).live.di.held ∧ n.live.au = (s.lane l).live.au ∧ n.live.fl = (s.lane l).live.fl)) ∧
    ((s.lane l).live.ticks < r.sentAt + 16 → RunsTo (.replicationFailed l) l s id)) ∧
  (∀ (l : LaneId) (s : State), RunsEv (.prepareDiscard l) l s (fun x => { x with di := { x.di with
    held := x.di.held.filter (fun q => !(q.applyAt.isNone && decide (q.at' + 32 ≤ x.ticks))) } })) ∧
  (∀ (q : List DictBlock) (b : DictBlock) (x : DictBlock),
    (x ∈ enqueue q b ↔ x ∈ q ∨ x = b) ∧
    (b.kind = .commit ∨ b.kind = .cancel →
      ∃ u v, enqueue q b = u ++ b :: v ∧ ∀ y ∈ v, y.kind ≠ .commit ∧ y.kind ≠ .cancel))

/-- Transfers (R387, R389 to R392, R396): a path that is not served has no effect; a 17th session is refused and
counted; a read of what does not exist or of a command is aborted with its code, a read of at most four bytes is
answered in one message; a longer content goes out in parts of the snapshot; a segmented download takes effect with its
last segment only; the client's abort ends the session. Model's choices it rests on: log entries 58 and 99. -/
def Obligations.UsdoTransfers : Prop :=
  (∀ (l : LaneId) (path : Path) (sid : Byte) (idx : Half) (sub : Byte) (size : Nat) (data : Option (List Byte))
      (seg : List Byte) (last : Bool) (s : State), (s.lane l).live.served path = false →
    RunsTo (.usdoDownloadInitiate l path sid idx sub size data) l s id ∧
    RunsTo (.usdoDownloadSegment l path sid seg last) l s id ∧
    RunsTo (.usdoUploadInitiate l path sid idx sub) l s id ∧
    RunsTo (.usdoUploadSegment l path sid) l s id ∧
    RunsTo (.usdoAbort l path sid) l s id) ∧
  (∀ (l : LaneId) (path : Path) (sid : Byte) (idx : Half) (sub : Byte) (size : Nat) (data : Option (List Byte))
      (s : State), (s.lane l).live.served path = true → (s.lane l).live.sessionOf path sid = none →
    (s.lane l).live.notOwn path sid = true → (s.lane l).live.di.sessions.length = 16 →
    RunsTo (.usdoDownloadInitiate l path sid idx sub size data) l s (fun x =>
      ({ x with di := { x.di with refusals := satInc x.di.refusals } } : Live).usdoAbort path sid 0x05040005) ∧
    RunsTo (.usdoUploadInitiate l path sid idx sub) l s (fun x =>
      ({ x with di := { x.di with refusals := satInc x.di.refusals } } : Live).usdoAbort path sid 0x05040005)) ∧
  (∀ (l : LaneId) (path : Path) (sid : Byte) (idx : Half) (sub : Byte) (s : State),
    (s.lane l).live.served path = true → (s.lane l).live.sessionOf path sid = none → (s.lane l).live.notOwn path sid = true →
    (s.lane l).live.di.sessions.length < 16 →
    (findObj idx.toNat sub.toNat = none → indexExists idx.toNat = false →
      RunsTo (.usdoUploadInitiate l path sid idx sub) l s (fun x => x.usdoAbort path sid 0x06020000)) ∧
    (findObj idx.toNat sub.toNat = none → indexExists idx.toNat = true →
      RunsTo (.usdoUploadInitiate l path sid idx sub) l s (fun x => x.usdoAbort path sid 0x06090011)) ∧
    (∀ o : Obj, findObj idx.toNat sub.toNat = some o →
      (o.acc = .cmd → RunsTo (.usdoUploadInitiate l path sid idx sub) l s (fun x => x.usdoAbort path sid 0x06010001)) ∧
      (o.acc ≠ .cmd → ¬(idx = 0x5440 ∧ sub = 1) → ¬(idx = 0x4C60 ∧ (sub = 0x0E ∨ sub = 0x10)) →
        ∀ bs : List Byte,
        objectValue s.serial (s.lane l).otp ((s.lane l).live, (s.lane l).store) o idx.toNat sub.toNat = bs →
        (bs.length ≤ 4 →
          RunsTo (.usdoUploadInitiate l path sid idx sub) l s (fun x => x.usdoDone path sid bs)) ∧
        (60 < bs.length →
          RunsTo (.usdoUploadInitiate l path sid idx sub) l s (fun x => (x.openSession
            { path := path, sid := sid, index := idx, sub := sub, upload := true, data := bs, size := bs.length,
              last := x.clk }).usdoMore path sid))))) ∧
  (∀ (l : LaneId) (path : Path) (sid : Byte) (q : UsdoSession) (s : State), (s.lane l).live.served path = true →
    (s.lane l).live.sessionOf path sid = some q → (s.lane l).live.notOwn path sid = true →
    (q.upload = true →
      (q.data.length ≤ 4 → RunsTo (.usdoUploadSegment l path sid) l s (fun x => x.usdoDone path sid q.data)) ∧
      (60 < q.data.length → ∃ k, 4 ≤ k ∧ k ≤ 60 ∧ RunsTo (.usdoUploadSegment l path sid) l s (fun x =>
        ((x.release' path sid).openSession { q with data := q.data.drop k, last := x.clk }).usdoMore path sid
          (q.data.take k)))) ∧
    (q.upload = false → ∀ seg : List Byte,
      (q.size < q.data.length + seg.length → ∀ last : Bool,
        RunsTo (.usdoDownloadSegment l path sid seg last) l s (fun x => x.usdoAbort path sid 0x06070012)) ∧
      (q.data.length + seg.length < q.size →
        RunsTo (.usdoDownloadSegment l path sid seg true) l s (fun x => x.usdoAbort path sid 0x06070013)) ∧
      (q.data.length + seg.length ≤ q.size →
        RunsTo (.usdoDownloadSegment l path sid seg false) l s (fun x =>
          ((x.release' path sid).openSession { q with data := q.data ++ seg, last := x.clk }).usdoMore path sid)) ∧
      (q.data.length + seg.length = q.size → (s.lane l).live.writes = true → ∀ o : Obj,
        findObj q.index.toNat q.sub.toNat = some o → o.acc = .rw → ownRow q.index.toNat q.sub.toNat = false →
        lengthCode o q.size = none → o.range.holds (q.data ++ seg) = true →
        (o.ty = .f32 → F32.finite (BitVec.ofNat 32 (leNat (q.data ++ seg))) = true) →
        tied ((s.lane l).live.noReply, (s.lane l).store) q.index.toNat q.sub.toNat (q.data ++ seg) = none →
        Runs (.usdoDownloadSegment l path sid seg true) l s (fun n => n.store = (s.lane l).store ∧
          n.otp = (s.lane l).otp ∧
          n.live.di.rw = ((s.lane l).live.setRw o (q.index.toNat - o.idx) (q.sub.toNat - o.sub) (q.data ++ seg)).di.rw ∧
          n.live.sessionOf path sid = none ∧ n.live.au = (s.lane l).live.au ∧ n.live.im = (s.lane l).live.im))) ∧
    RunsTo (.usdoAbort l path sid) l s (fun x => x.release' path sid)) ∧
  (∀ (l : LaneId) (path : Path) (sid : Byte) (idx : Half) (sub : Byte) (size : Nat) (o : Obj) (s : State),
    (s.lane l).live.served path = true → (s.lane l).live.writes = true → (s.lane l).live.sessionOf path sid = none →
    (s.lane l).live.notOwn path sid = true → (s.lane l).live.di.sessions.length < 16 →
    findObj idx.toNat sub.toNat = some o → o.acc = .rw ∨ o.acc = .rc → lengthCode o size = none →
    RunsTo (.usdoDownloadInitiate l path sid idx sub size none) l s (fun x => (x.openSession
      { path := path, sid := sid, index := idx, sub := sub, upload := false, data := [], size := size,
        last := x.clk }).usdoMore path sid) ∧
    (∀ bs : List Byte, o.acc = .rw → ownRow idx.toNat sub.toNat = false → lengthCode o bs.length = none →
      o.range.holds bs = true → (o.ty = .f32 → F32.finite (BitVec.ofNat 32 (leNat bs)) = true) →
      tied ((s.lane l).live.noReply, (s.lane l).store) idx.toNat sub.toNat bs = none →
      Runs (.usdoDownloadInitiate l path sid idx sub size (some bs)) l s (fun n => n.store = (s.lane l).store ∧
        n.otp = (s.lane l).otp ∧
        n.live.di.rw = ((s.lane l).live.setRw o (idx.toNat - o.idx) (sub.toNat - o.sub) bs).di.rw ∧
        n.live.sessionOf path sid = none ∧ n.live.au = (s.lane l).live.au ∧ n.live.im = (s.lane l).live.im))) ∧
  (∀ (x : Live) (path : Path) (sid : Byte) (bs : List Byte) (code : Word),
    ((x.usdoDone path sid bs).sessionOf path sid = none ∧ (x.usdoAbort path sid code).sessionOf path sid = none))

/-- The end of a segmented transfer (R391): where no segment has arrived for `UsdoTimeout`, the transfer is aborted
with 0x0504_0000 and its session released, and before that time nothing happens; a segment for a session that does not
exist is answered with the abort 0x0504_0001. The answers go out where the path's port can send. -/
def Obligations.SegmentedTransfersEnd : Prop :=
  (∀ (l : LaneId) (path : Path) (sid : Byte) (q : UsdoSession) (s : State),
    (s.lane l).live.sessionOf path sid = some q → (s.lane l).live.notOwn path sid = true →
    ((s.lane l).live.due (q.last + ms ((s.lane l).live.rcNum Obj.usdoTimeout)) = true →
      (∀ n : Fin 4, path = .can n → (s.lane l).live.portSends n = true ∧ ((s.lane l).live.di.can[n]).errState ≠ 2) →
      Runs (.usdoTimeout l path sid) l s (fun n => n.store = (s.lane l).store ∧ n.otp = (s.lane l).otp ∧
        n.live.di.reply = some { path := some path, sid := sid, abort := some 0x05040000, data := [], last := true } ∧
        n.live.di.aborts = satInc (s.lane l).live.di.aborts ∧ n.live.sessionOf path sid = none ∧
        (∀ z : UsdoSession, z ∈ n.live.di.sessions ↔ z ∈ (s.lane l).live.di.sessions ∧ ¬(z.path = path ∧ z.sid = sid)) ∧
        n.live.di.rw = (s.lane l).live.di.rw ∧ n.live.au = (s.lane l).live.au ∧ n.live.im = (s.lane l).live.im)) ∧
    ((s.lane l).live.due (q.last + ms ((s.lane l).live.rcNum Obj.usdoTimeout)) = false →
      RunsTo (.usdoTimeout l path sid) l s id)) ∧
  (∀ (l : LaneId) (path : Path) (sid : Byte) (seg : List Byte) (last : Bool) (s : State),
    (s.lane l).live.sessionOf path sid = none →
    RunsTo (.usdoTimeout l path sid) l s id ∧
    ((s.lane l).live.served path = true → (s.lane l).live.notOwn path sid = true →
      (∀ n : Fin 4, path = .can n → (s.lane l).live.portSends n = true ∧ ((s.lane l).live.di.can[n]).errState ≠ 2) →
      Runs (.usdoDownloadSegment l path sid seg last) l s (fun n => n.store = (s.lane l).store ∧ n.otp = (s.lane l).otp ∧
        n.live.di.reply = some { path := some path, sid := sid, abort := some 0x05040001, data := [], last := true } ∧
        n.live.di.aborts = satInc (s.lane l).live.di.aborts ∧ n.live.di.sessions = (s.lane l).live.di.sessions ∧
        n.live.di.rw = (s.lane l).live.di.rw ∧ n.live.au = (s.lane l).live.au ∧ n.live.im = (s.lane l).live.im) ∧
      Runs (.usdoUploadSegment l path sid) l s (fun n => n.store = (s.lane l).store ∧ n.otp = (s.lane l).otp ∧
        n.live.di.reply = some { path := some path, sid := sid, abort := some 0x05040001, data := [], last := true } ∧
        n.live.di.aborts = satInc (s.lane l).live.di.aborts ∧ n.live.di.sessions = (s.lane l).live.di.sessions ∧
        n.live.di.rw = (s.lane l).live.di.rw ∧ n.live.au = (s.lane l).live.au ∧ n.live.im = (s.lane l).live.im)))

/-- The tunnel and the CAN ports (R386, R408 to R411, R464): a tunnel message for another node, or malformed, is
counted and ignored, an abort for this node ends its session; a heartbeat is sent on its grid with the byte of the
mode, or skipped while the port cannot send; a received frame is counted and posted to the flow of its filter; a frame
sent is counted and ends the service of its item; bus-off empties the port, its end is counted. Model's choices it
rests on: log entries 58, 101 and 102. -/
def Obligations.TunnelAndCanPorts : Prop :=
  (∀ (l : LaneId) (req : UsdoReq) (q : BufSt) (s : State), (s.lane l).live.answers = true →
    (s.lane l).live.num Obj.tunnelRxBuffer < 512 →
    (s.lane l).live.jn.bufs.read {} ((s.lane l).live.num Obj.tunnelRxBuffer) = q → q.fresh = true →
    (natAt q.data 0 1 ≠ (s.lane l).live.di.nodeId ∨ 128 ≤ natAt q.data 1 1 ∨
        natAt q.data 2 2 < 8 ∨ 64 < natAt q.data 2 2 →
      RunsTo (.tunnelMessage l req) l s (fun x => { x with
        jn := { x.jn with bufs := x.jn.bufs.write {} (x.num Obj.tunnelRxBuffer) { q with fresh := false } },
        di := { x.di with ignored := satInc x.di.ignored } })) ∧
    (∀ sid : Byte, req = .abort sid → natAt q.data 0 1 = (s.lane l).live.di.nodeId → natAt q.data 1 1 < 128 →
      8 ≤ natAt q.data 2 2 → natAt q.data 2 2 ≤ 64 → (s.lane l).live.notOwn (.tunnel (BitVec.ofNat 7 (natAt q.data 1 1))) sid = true →
      RunsTo (.tunnelMessage l req) l s (fun x => { x with
        jn := { x.jn with bufs := x.jn.bufs.write {} (x.num Obj.tunnelRxBuffer) { q with fresh := false } },
        di := { x.di with sessions := x.di.sessions.filter (fun z =>
          !(decide (z.path = .tunnel (BitVec.ofNat 7 (natAt q.data 1 1)) ∧ z.sid = sid))) } }))) ∧
  (∀ (l : LaneId) (n : Fin 4) (t d : Nat) (s : State), ((s.lane l).live.di.can[n]).nextBeat = some t →
    (s.lane l).live.beatPeriod n = some d → (s.lane l).live.due t = true →
    ((s.lane l).live.canTalks n = true →
      RunsTo (.heartbeat l n) l s (fun x => { x with di := { x.di with can := vmod x.di.can n (fun c => { c with
        nextBeat := some (t + d),
        tx := c.tx ++ [⟨BitVec.ofNat 29 (0x700 + x.di.nodeId), false, false, false, [match x.au.mode with
          | .operational | .reduced | .descent => 0x05
          | .startup | .standby => 0x7F
          | .safe => 0x04]⟩] }) } })) ∧
    ((s.lane l).live.canTalks n = false →
      RunsTo (.heartbeat l n) l s (fun x => { x with di := { x.di with can := vmod x.di.can n (fun c => { c with
        nextBeat := some (t + d) }) } }))) ∧
  (∀ (l : LaneId) (n : Fin 4) (f : CanFrame) (s : State), ((s.lane l).live.di.can[n]).errState.toNat < 2 →
    (s.lane l).live.canOn n = true → (s.lane l).live.fl.armed = none →
    (f.ext = true ∨ f.ident.toNat ≠ 0x600 + (s.lane l).live.di.nodeId ∨
      (s.lane l).live.rcNum Obj.canUsdoServer n.val ≠ 1) →
    ((s.lane l).live.filterFlow n f = none →
      RunsTo (.canFrameReceived l n f) l s (fun x => { x with di := { x.di with can := vmod x.di.can n (fun c => { c with
        framesRx := satInc c.framesRx, rxErr := if c.rxErr = 0 then 0 else c.rxErr - 1 }) } })) ∧
    (∀ (e : Fin 64), (s.lane l).live.filterFlow n f = some e → (s.lane l).live.flowPort e = none →
      (s.lane l).live.pendingItems < 1024 → ((s.lane l).live.flow e).queue.length < (s.lane l).live.flowDepth e →
      ((s.lane l).live.flow e).serving ≠ none →
      Runs (.canFrameReceived l n f) l s (fun t => t.store = (s.lane l).store ∧ t.otp = (s.lane l).otp ∧
        (t.live.di.can[n]).framesRx = satInc ((s.lane l).live.di.can[n]).framesRx ∧
        ∃ it : Item, (t.live.flow e).queue = ((s.lane l).live.flow e).queue ++ [it] ∧ it.data = f.data.take 64 ∧
          it.tag = BitVec.ofNat 32 (f.ident.toNat + bitAt f.brs 29 + bitAt f.fd 30 + bitAt f.ext 31)))) ∧
  (∀ (l : LaneId) (n : Fin 4) (fr : CanFrame) (rest : List CanFrame) (s : State), (s.lane l).live.canTalks n = true →
    ((s.lane l).live.di.can[n]).tx = fr :: rest →
    (∀ f : Fin 64, ∀ it : Item, ((s.lane l).live.flow f).serving ≠ some (.port n, it)) →
    RunsTo (.canFrameTransmitted l n) l s (fun x => { x with di := { x.di with can := vmod x.di.can n (fun c => { c with
      tx := rest, framesTx := satInc c.framesTx, txErr := if c.txErr = 0 then 0 else c.txErr - 1 }) } })) ∧
  (∀ (l : LaneId) (n : Fin 4) (fr : CanFrame) (rest : List CanFrame) (f : Fin 64) (it : Item) (s : State),
    (s.lane l).live.canTalks n = true → ((s.lane l).live.di.can[n]).tx = fr :: rest → itemFrame it = fr →
    ((s.lane l).live.flow f).serving = some (.port n, it) → ((s.lane l).live.flow f).queue = [] →
    (∀ g : Fin 64, ∀ j : Item, g ≠ f → ((s.lane l).live.flow g).serving ≠ some (.port n, j)) →
    Runs (.canFrameTransmitted l n) l s (fun t => t.store = (s.lane l).store ∧ t.otp = (s.lane l).otp ∧
      (t.live.di.can[n]).tx = rest ∧ (t.live.di.can[n]).framesTx = satInc ((s.lane l).live.di.can[n]).framesTx ∧
      (t.live.flow f).serving = none ∧ t.live.steady = (s.lane l).live.steady)) ∧
  (∀ (l : LaneId) (n : Fin 4) (s : State), ((s.lane l).live.di.can[n]).errState.toNat < 2 →
    (∀ f : Fin 64, ∀ it : Item, ((s.lane l).live.flow f).serving ≠ some (.port n, it)) →
    RunsTo (.canBusOff l n) l s (fun x => { x with di := { x.di with can := vmod x.di.can n (fun c => { c with
      errState := 2, txErr := 255, tx := [] }) } })) ∧
  (∀ (l : LaneId) (n : Fin 4) (s : State), ((s.lane l).live.di.can[n]).errState = 2 →
    RunsTo (.canBusOffRecovery l n) l s (fun x => ({ x with di := { x.di with can := vmod x.di.can n (fun c => { c with
      errState := 0, txErr := 0, rxErr := 0, busOffs := satInc c.busOffs }) } } : Live).raise (296 + 4 * n.val + 3) n.val))

/-- Received frames (R358, R366, R371, R375, R382): the checks in their order, each with its counter; the first valid
copy of a `FIRST` entry is delivered, the later one counted; the first reference heard in LISTEN is held. Model's
choices it rests on: log entry 95. -/
def Obligations.FramesReceived : Prop :=
  (∀ (l : LaneId) (c : Chan) (f : JalsynFrame) (s : State), (s.lane l).live.netOn = true →
    (s.lane l).live.fl.armed = none →
    (f.fcsOk = false → (s.lane l).live.jn.sync ≠ .launch →
      RunsTo (.jalsynFrameReceived l c f) l s (fun x => x.countOn c (fun n => { n with fcs := satInc n.fcs }))) ∧
    (f.fcsOk = true → f.headerOk = false ∨ 1400 < f.payload.length →
      RunsTo (.jalsynFrameReceived l c f) l s (fun x => x.countOn c (fun n => { n with unknown := satInc n.unknown }))) ∧
    (f.fcsOk = true → f.headerOk = true → f.payload.length ≤ 1400 → f.slot ≠ 0 →
      ((s.lane l).live.entryFor c f = none → RunsTo (.jalsynFrameReceived l c f) l s (fun x =>
        x.countOn c (fun n => { n with unknown := satInc n.unknown }))) ∧
      (∀ e : Nat, (s.lane l).live.entryFor c f = some e →
        (f.cycle ≠ (s.lane l).live.jn.cycle → RunsTo (.jalsynFrameReceived l c f) l s (fun x =>
          x.countOn c (fun n => { n with cycMis := satInc n.cycMis }))) ∧
        (f.cycle = (s.lane l).live.jn.cycle → (s.lane l).live.inWindows e f = false →
          RunsTo (.jalsynFrameReceived l c f) l s (fun x =>
            (x.countOn c (fun n => { n with window := satInc n.window })).countEnt e 2)) ∧
        (f.cycle = (s.lane l).live.jn.cycle → (s.lane l).live.inWindows e f = true →
          (s.lane l).live.entMax e < f.payload.length → RunsTo (.jalsynFrameReceived l c f) l s (fun x =>
            x.countOn c (fun n => { n with unknown := satInc n.unknown }))) ∧
        (f.cycle = (s.lane l).live.jn.cycle → (s.lane l).live.inWindows e f = true →
          f.payload.length ≤ (s.lane l).live.entMax e → (s.lane l).live.entBoth e = false →
          (s.lane l).live.au.loneSince = none → f.node.toNat ≠ (s.lane l).live.num Obj.nodeId →
          (((s.lane l).live.entCyc e).gotA = false → ((s.lane l).live.entCyc e).gotB = false →
            Runs (.jalsynFrameReceived l c f) l s (fun n => n.store = (s.lane l).store ∧ n.otp = (s.lane l).otp ∧
              n.live.buf ((s.lane l).live.entBuf e) = { (s.lane l).live.buf ((s.lane l).live.entBuf e) with
                page := ((s.lane l).live.buf ((s.lane l).live.entBuf e)).data, data := f.payload,
                slen := f.payload.length, fresh := true, chanB := decide (c = .b), cycle := f.cycle } ∧
              (∀ b : Nat, b ≠ (s.lane l).live.entBuf e → n.live.buf b = (s.lane l).live.buf b) ∧
              (n.live.chan c).cnt.framesRx = satInc ((s.lane l).live.chan c).cnt.framesRx ∧
              (n.live.chan c).heard = true ∧ n.live.fl = (s.lane l).live.fl ∧ n.live.au = (s.lane l).live.au)) ∧
          (c = .b → ((s.lane l).live.entCyc e).gotA = true → ((s.lane l).live.entCyc e).gotB = false →
            Runs (.jalsynFrameReceived l c f) l s (fun n => n.store = (s.lane l).store ∧ n.otp = (s.lane l).otp ∧
              n.live.jn.bufs = (s.lane l).live.jn.bufs ∧
              n.live.jn.chB.cnt.second = satInc (s.lane l).live.jn.chB.cnt.second ∧
              n.live.jn.chB.cnt.differ = (if f.payload ≠ ((s.lane l).live.entCyc e).dataA
                then satInc (s.lane l).live.jn.chB.cnt.differ else (s.lane l).live.jn.chB.cnt.differ)))))) ∧
    (∀ r : RefFrame, f.fcsOk = true → f.headerOk = true → f.slot = 0 → asRef f = some r →
      f.node.toNat ≠ (s.lane l).live.num Obj.nodeId →
      (s.lane l).live.jn.sync = .listen ∨ (s.lane l).live.jn.sync = .wait →
      Runs (.jalsynFrameReceived l c f) l s (fun n => n.store = (s.lane l).store ∧ n.otp = (s.lane l).otp ∧
        n.live.jn.sync = .integrating ∧ n.live.jn.firstRef = some r ∧ (n.live.chan c).refHere = true ∧
        (n.live.chan c).cnt.framesRx = satInc ((s.lane l).live.chan c).cnt.framesRx ∧
        n.live.tk = (s.lane l).live.tk))) ∧
  (∀ (l : LaneId) (c : Chan) (f : JalsynFrame) (x r : RefFrame) (s : State), (s.lane l).live.netOn = true →
    (s.lane l).live.fl.armed = none → f.fcsOk = true → f.headerOk = true → f.slot = 0 → asRef f = some r →
    f.node.toNat ≠ (s.lane l).live.num Obj.nodeId → (s.lane l).live.jn.sync = .integrating →
    (s.lane l).live.jn.firstRef = some x → (s.lane l).live.consistent x r = true →
    Runs (.jalsynFrameReceived l c f) l s (fun n => n.store = (s.lane l).store ∧ n.otp = (s.lane l).otp ∧
      n.live.jn.sync = .sync ∧ n.live.jn.cycle = r.cycle ∧ n.live.jn.grid = r.cycleStart.toNat ∧
      n.live.tk.onJalsyn = true ∧ n.live.jn.firstRef = none))

/-- Acceptance windows, channels and links (R366, R367, R369, R104, R374, R381): a window ends once in a cycle; a
`FIRST` entry without a copy counts an empty slot on each channel of its mask; an equal `BOTH` pair marks both buffers
COMPLETE; a command value is due 1 µs after the window; a channel whose link was down for 10 ms, or on which nothing
was heard for `LossCycles`, is lost, and returns after as many cycles with references. Model's choices it rests on: log
entry 95. -/
def Obligations.WindowsAndChannels : Prop :=
  (∀ (l : LaneId) (e : Fin 2048) (s : State),
    ((s.lane l).live.entActive e.val = false ∨ (s.lane l).live.entRx e.val = false ∨
      ((s.lane l).live.entCyc e.val).ended = true → RunsTo (.acceptanceWindowEnd l e) l s id) ∧
    ((s.lane l).live.netOn = true → (s.lane l).live.entActive e.val = true → (s.lane l).live.entRx e.val = true →
      ((s.lane l).live.entCyc e.val).ended = false →
      ((s.lane l).live.entBoth e.val = false → ((s.lane l).live.entCyc e.val).gotA = false →
        ((s.lane l).live.entCyc e.val).gotB = false → (s.lane l).live.entEvent e.val = false →
        Runs (.acceptanceWindowEnd l e) l s (fun n => n.store = (s.lane l).store ∧ n.otp = (s.lane l).otp ∧
          (n.live.entCyc e.val).ended = true ∧ n.live.jn.bufs = (s.lane l).live.jn.bufs ∧
          n.live.jn.chA.cnt.emptyRx = (if (s.lane l).live.entOn e.val .a then satInc (s.lane l).live.jn.chA.cnt.emptyRx
            else (s.lane l).live.jn.chA.cnt.emptyRx) ∧
          n.live.jn.chB.cnt.emptyRx = (if (s.lane l).live.entOn e.val .b then satInc (s.lane l).live.jn.chB.cnt.emptyRx
            else (s.lane l).live.jn.chB.cnt.emptyRx))) ∧
      ((s.lane l).live.entBoth e.val = true → ((s.lane l).live.entCyc e.val).gotA = true →
        ((s.lane l).live.entCyc e.val).gotB = true →
        ((s.lane l).live.entCyc e.val).dataA = ((s.lane l).live.entCyc e.val).dataB →
        Runs (.acceptanceWindowEnd l e) l s (fun n => n.store = (s.lane l).store ∧ n.otp = (s.lane l).otp ∧
          (n.live.buf ((s.lane l).live.entBuf e.val)).pair = 1 ∧
          (n.live.buf ((s.lane l).live.entBuf e.val + 1)).pair = 1 ∧
          n.live.jn.chA = (s.lane l).live.jn.chA ∧ n.live.jn.chB = (s.lane l).live.jn.chB ∧
          n.live.jn.unequal = (s.lane l).live.jn.unequal)) ∧
      (∀ g : Fin 24, (s.lane l).live.entBoth e.val = false → ((s.lane l).live.entCyc e.val).gotA = true →
        (s.lane l).live.cmdMap g.val 0 = (s.lane l).live.entBuf e.val →
        (s.lane l).live.cmdMap g.val 2 + 4 ≤ ((s.lane l).live.buf ((s.lane l).live.entBuf e.val)).data.length →
        Runs (.acceptanceWindowEnd l e) l s (fun n => n.store = (s.lane l).store ∧ n.otp = (s.lane l).otp ∧
          (n.live.en.cmd[g]).due = some (BitVec.ofNat 32 (natAt
            ((s.lane l).live.buf ((s.lane l).live.entBuf e.val)).data ((s.lane l).live.cmdMap g.val 2) 4),
            (s.lane l).live.jn.cbase + 4 * (s.lane l).live.entEnd e.val + us 1))))) ∧
  (∀ (l : LaneId) (c : Chan) (s : State), (s.lane l).live.netOn = true →
    (((s.lane l).live.chan c).lost = false →
      (∃ t, ((s.lane l).live.chan c).downAt = some t ∧ (s.lane l).live.due (t + ms 10) = true) ∨
        (s.lane l).live.num Obj.lossCycles ≤ ((s.lane l).live.chan c).quiet →
      (((s.lane l).live.chan (otherChan c)).lost = false →
        RunsEv (.jalsynChannelLost l c) l s (fun x => (x.modChan c (fun q => { q with
          lost := true, quiet := 0, refRun := 0 })).countFault .jalsynChannel x.me c.num)) ∧
      (((s.lane l).live.chan (otherChan c)).lost = true → (s.lane l).live.jn.sync ≠ .refused →
        Runs (.jalsynChannelLost l c) l s (fun n => n.store = (s.lane l).store ∧ n.otp = (s.lane l).otp ∧
          (n.live.chan c).lost = true ∧ n.live.jn.sync = .listen ∧ n.live.jn.listenLeft = 3 ∧
          n.live.au.follower = true))) ∧
    (((s.lane l).live.chan c).lost = true → (s.lane l).live.num Obj.lossCycles ≤ ((s.lane l).live.chan c).refRun →
      RunsTo (.jalsynChannelReturn l c) l s (fun x => x.modChan c (fun q => { q with lost := false, quiet := 0 }))) ∧
    (((s.lane l).live.chan c).refRun < (s.lane l).live.num Obj.lossCycles →
      RunsTo (.jalsynChannelReturn l c) l s id) ∧
    (((s.lane l).live.chan c).linkUp = true →
      RunsTo (.phyLinkDown l c) l s (fun x => ((x.modChan c (fun q => { q with
        linkUp := false, downAt := some x.clk, cnt := { q.cnt with downs := satInc q.cnt.downs } })).cableRun c))) ∧
    RunsTo (.phyLinkUp l c) l s (fun x => x.modChan c (fun q => { q with linkUp := true, downAt := none })))

/-- Synchronisation (R364, R365, R371, R372, R375, R377): a listen period without a reference ends in WAIT at a master-
capable lane and in LISTEN at any other; LAUNCH begins with a launch reference on both channels; a rank-0 lane sends
its reference in every cycle, a backup only where none was heard; a captured page goes out at its offset; a cycle start
counts the cycle; a cycle-point event fires once in a cycle. Model's choices it rests on: log entry 96. -/
def Obligations.SynchronisationAndTransmission : Prop :=
  (∀ (l : LaneId) (s : State), (s.lane l).live.netOn = true → 3 ≤ (s.lane l).live.jn.disagree →
    RunsEv (.referenceDisagreement l) l s (fun x => { x with jn := { x.jn with disagree := 0 } })) ∧
  (∀ (l : LaneId) (s : State), (s.lane l).live.netOn = true → (s.lane l).live.jn.sync = .listen →
    ((s.lane l).live.jn.listenLeft = 0 →
      ((s.lane l).live.num Obj.masterRank < 4 → RunsTo (.listenPeriodEnd l) l s (fun x => { x with jn := { x.jn with
        sync := .wait, listenLeft := 0 } })) ∧
      (4 ≤ (s.lane l).live.num Obj.masterRank → RunsTo (.listenPeriodEnd l) l s (fun x => { x with jn := { x.jn with
        sync := .listen, listenLeft := 2 } }))) ∧
    ((s.lane l).live.jn.listenLeft ≠ 0 → RunsTo (.listenPeriodEnd l) l s id)) ∧
  (∀ (l : LaneId) (s : State), (s.lane l).live.netOn = true → (s.lane l).live.jn.sync = .wait →
    (s.lane l).live.num Obj.masterRank < 4 → (s.lane l).live.refSent .a = false → (s.lane l).live.refSent .b = false →
    Runs (.launchDelayElapsed l) l s (fun n => n.store = (s.lane l).store ∧ n.otp = (s.lane l).otp ∧
      n.live.jn.sync = .launch ∧ n.live.refSent .a = true ∧ n.live.refSent .b = true ∧
      n.live.jn.chA.cnt.framesTx = satInc (s.lane l).live.jn.chA.cnt.framesTx ∧
      n.live.jn.chB.cnt.framesTx = satInc (s.lane l).live.jn.chB.cnt.framesTx ∧ n.live.tk = (s.lane l).live.tk)) ∧
  (∀ (l : LaneId) (c : Chan) (s : State), (s.lane l).live.netOn = true → (s.lane l).live.jn.sync = .sync →
    (s.lane l).live.refSent c = false → (s.lane l).live.num Obj.masterRank < 4 →
    ((s.lane l).live.num Obj.masterRank = 0 ∨ ((s.lane l).live.chan c).refHere = false →
      Runs (.sendReference l c) l s (fun n => n.store = (s.lane l).store ∧ n.otp = (s.lane l).otp ∧
        (n.live.chan c).cnt.framesTx = satInc ((s.lane l).live.chan c).cnt.framesTx ∧ n.live.refSent c = true ∧
        ∃ f : JalsynFrame, n.live.jn.sent = (c, f) :: (s.lane l).live.jn.sent ∧ f.ref = true ∧ f.launch = false ∧
          f.slot = 0 ∧ f.payload.length = 24 ∧
          f.start = (s.lane l).live.num Obj.masterRank * (s.lane l).live.num Obj.backupDelay * 100)) ∧
    ((s.lane l).live.num Obj.masterRank ≠ 0 → ((s.lane l).live.chan c).refHere = true →
      RunsTo (.sendReference l c) l s id)) ∧
  (∀ (l : LaneId) (c : Chan) (s : State), (s.lane l).live.jn.sync = .silent → RunsTo (.sendReference l c) l s id) ∧
  (∀ (l : LaneId) (e : Fin 2048) (s : State), (s.lane l).live.fl.armed = none → (s.lane l).live.transmits = true →
    (s.lane l).live.entActive e.val = true → (s.lane l).live.entRx e.val = false →
    ((s.lane l).live.entCyc e.val).read = false →
    (((s.lane l).live.buf ((s.lane l).live.entBuf e.val)).fresh = true →
      ((s.lane l).live.sendContent e.val).length ≤ (s.lane l).live.entMax e.val →
      Runs (.transmitRead l e) l s (fun n => n.store = (s.lane l).store ∧ n.otp = (s.lane l).otp ∧
        (n.live.buf ((s.lane l).live.entBuf e.val)).fresh = false ∧ (n.live.entCyc e.val).read = true ∧
        (∃ p, (n.live.entCyc e.val).captured = some p ∧ p = (s.lane l).live.sendContent e.val) ∧
        n.live.jn.chA = (s.lane l).live.jn.chA ∧ n.live.jn.chB = (s.lane l).live.jn.chB)) ∧
    (((s.lane l).live.buf ((s.lane l).live.entBuf e.val)).fresh = false →
      RunsTo (.transmitRead l e) l s (fun x =>
        let y := x.modEnt e.val (fun z => { z with read := true })
        if x.entEvent e.val then y else y.emptyTx e.val))) ∧
  (∀ (l : LaneId) (e : Fin 2048) (p : List Byte) (s : State), (s.lane l).live.transmits = true →
    (s.lane l).live.entActive e.val = true → ((s.lane l).live.entCyc e.val).captured = some p →
    Runs (.transmitFrame l e) l s (fun n => n.store = (s.lane l).store ∧ n.otp = (s.lane l).otp ∧
      (n.live.entCyc e.val).captured = none ∧
      (∀ c : Chan, (s.lane l).live.entOn e.val c = true →
        (n.live.chan c).cnt.framesTx = satInc ((s.lane l).live.chan c).cnt.framesTx ∧
        ∃ f : JalsynFrame, (c, f) ∈ n.live.jn.sent ∧ f.payload = p ∧ f.start = (s.lane l).live.entOffset e.val ∧
          f.slot = BitVec.ofNat 16 ((s.lane l).live.entFrame e.val) ∧ f.cycle = (s.lane l).live.jn.cycle) ∧
      (∀ c : Chan, (s.lane l).live.entOn e.val c = false → n.live.chan c = (s.lane l).live.chan c))) ∧
  (∀ (l : LaneId) (s : State), (s.lane l).live.netOn = true →
    (s.lane l).live.synced = true ∨ (s.lane l).live.ticks % (s.lane l).live.num Obj.cycleTicks = 0 →
    Runs (.cycleStart l) l s (fun n => n.store = (s.lane l).store ∧ n.otp = (s.lane l).otp ∧
      n.live.jn.cycle = (s.lane l).live.jn.cycle + 1 ∧ n.live.jn.entries = [] ∧ n.live.jn.sent = [] ∧
      n.live.jn.cpeSeen = 0 ∧ n.live.jn.chA.taken = none ∧ n.live.jn.chB.taken = none ∧
      ((s.lane l).live.synced = true → n.live.jn.grid = (s.lane l).live.jn.grid + (s.lane l).live.cycleNs) ∧
      (∀ g : Fin 24, (s.lane l).live.cmdMap g.val 0 ≠ 0xFFFF →
        (n.live.en.cmd[g]).fresh = ((s.lane l).live.en.cmd[g]).fresh + 1))) ∧
  (∀ (l : LaneId) (n : Fin 16) (s : State), (s.lane l).live.netOn = true →
    ((s.lane l).live.num Obj.cycleTarget 0 n.val = 255 ∨ (s.lane l).live.jn.cpeSeen.getLsbD n.val = true →
      RunsTo (.cyclePointEvent l n) l s id) ∧
    ((s.lane l).live.num Obj.cycleTarget 0 n.val ≠ 255 → (s.lane l).live.jn.cpeSeen.getLsbD n.val = false →
      (s.lane l).live.jn.cycle.toNat % (bits ((s.lane l).live.num Obj.cyclePoint 0 n.val) 31 26 + 1) =
        bits ((s.lane l).live.num Obj.cyclePoint 0 n.val) 25 20 →
      RunsEv (.cyclePointEvent l n) l s (fun x => { x with jn := { x.jn with
        cpeSeen := setBit x.jn.cpeSeen n.val true } })))

/-- Threads (R452, R454 to R457, R466): a register names an application thread or gives result 1; a start makes the
thread ready with cleared registers, a stop makes it dormant, a priority is set, a wait blocks the caller until its
event; a thread fault stops the thread and raises source 369. A command of a thread that does not run has no effect.
Model's choices it rests on: log entry 112. -/
def Obligations.ThreadCommands : Prop :=
  (∀ (l : LaneId) (c : Fin 128) (w : Word) (s : State), (s.lane l).live.calls c = false →
    RunsTo (.schStart l c w) l s id ∧ RunsTo (.schStop l c w) l s id ∧ RunsTo (.schPrio l c w) l s id ∧
    RunsTo (.schYield l c) l s id ∧ RunsTo (.schWaitTick l c) l s id) ∧
  (∀ (l : LaneId) (c : Fin 128) (w : Word) (s : State), (s.lane l).live.calls c = true → w.toNat % 256 < 128 →
    RunsTo (.schStart l c w) l s (fun x => x.modThread c (fun q => { q with schRes := 1 })) ∧
    RunsTo (.schStop l c w) l s (fun x => x.modThread c (fun q => { q with schRes := 1 })) ∧
    RunsTo (.schPrio l c w) l s (fun x => x.modThread c (fun q => { q with schRes := 1 }))) ∧
  (∀ (l : LaneId) (c t : Fin 128) (w : Word) (s : State), (s.lane l).live.calls c = true →
    w.toNat % 256 = 128 + t.val →
    ((s.lane l).live.startable t = true → (s.lane l).live.partner t = none →
      Runs (.schStart l c w) l s (fun n => n.store = (s.lane l).store ∧ n.otp = (s.lane l).otp ∧
        ((n.live.thread t).run = .ready ∨ ∃ b, (n.live.thread t).run = .running b) ∧ (n.live.thread t).cleared = true ∧
        (n.live.thread t).held = none ∧ (n.live.thread c).schRes = 0 ∧ n.live.poised = (s.lane l).live.poised)) ∧
    ((s.lane l).live.startable t = false →
      RunsTo (.schStart l c w) l s (fun x => x.modThread c (fun q => { q with schRes := 2 }))) ∧
    (((s.lane l).live.thread t).run ≠ .dormant → ((s.lane l).live.thread t).held = none →
      (s.lane l).live.partner t = none →
      Runs (.schStop l c w) l s (fun n => n.store = (s.lane l).store ∧ n.otp = (s.lane l).otp ∧
        (n.live.thread t).run = .dormant ∧ (n.live.thread c).schRes = 0 ∧ n.live.poised = (s.lane l).live.poised)) ∧
    (((s.lane l).live.thread t).run = .dormant →
      RunsTo (.schStop l c w) l s (fun x => x.modThread c (fun q => { q with schRes := 2 }))) ∧
    ((s.lane l).live.hasThread t = true →
      Runs (.schPrio l c w) l s (fun n => n.store = (s.lane l).store ∧ n.otp = (s.lane l).otp ∧
        (n.live.thread t).prio.map Fin.val = some (w.toNat / 256 % 16) ∧ (n.live.thread c).schRes = 0 ∧
        n.live.poised = (s.lane l).live.poised)) ∧
    ((s.lane l).live.hasThread t = false →
      RunsTo (.schPrio l c w) l s (fun x => x.modThread c (fun q => { q with schRes := 2 })))) ∧
  (∀ (l : LaneId) (c : Fin 128) (s : State), (s.lane l).live.calls c = true →
    Runs (.schYield l c) l s (fun n => n.store = (s.lane l).store ∧ n.otp = (s.lane l).otp ∧
      ((n.live.thread c).run = .ready ∨ ∃ b, (n.live.thread c).run = .running b) ∧ (n.live.thread c).schRes = 0 ∧
      n.live.poised = (s.lane l).live.poised) ∧
    Runs (.schWaitTick l c) l s (fun n => n.store = (s.lane l).store ∧ n.otp = (s.lane l).otp ∧
      (n.live.thread c).run = .waiting .tick ∧ (n.live.thread c).schRes = 0 ∧
      n.live.poised = (s.lane l).live.poised) ∧
    Runs (.schWaitCycle l c) l s (fun n => n.store = (s.lane l).store ∧ n.otp = (s.lane l).otp ∧
      (n.live.thread c).run = .waiting .cycle ∧ (n.live.thread c).schRes = 0 ∧
      n.live.poised = (s.lane l).live.poised) ∧
    RunsTo (.schWaitDelay l c 0) l s (fun x => x.modThread c (fun q => { q with schRes := 3 })) ∧
    (∀ d : BitVec 24, d ≠ 0 →
      Runs (.schWaitDelay l c d) l s (fun n => n.store = (s.lane l).store ∧ n.otp = (s.lane l).otp ∧
        (n.live.thread c).run = .waiting (.delay ((s.lane l).live.clk + us d.toNat)) ∧
        (n.live.thread c).schRes = 0 ∧ n.live.poised = (s.lane l).live.poised))) ∧
  (∀ (l : LaneId) (t : Fin 128) (u : Nat) (s : State), ((s.lane l).live.thread t).run = .waiting (.delay u) →
    ((s.lane l).live.due u = true →
      Runs (.waitDelayExpiry l t) l s (fun n => n.store = (s.lane l).store ∧ n.otp = (s.lane l).otp ∧
        ((n.live.thread t).run = .ready ∨ ∃ b, (n.live.thread t).run = .running b) ∧
        n.live.poised = (s.lane l).live.poised)) ∧
    ((s.lane l).live.due u = false → RunsTo (.waitDelayExpiry l t) l s id)) ∧
  (∀ (l : LaneId) (t : Fin 128) (code : Byte) (addr : Word) (s : State), (s.lane l).live.calls t = true →
    ((s.lane l).live.thread t).held = none → (s.lane l).live.partner t = none →
    ∃ x : Live, RunsTo (.threadFault l t code addr) l s (fun _ =>
        x.raise 369 (128 + t.val) (BitVec.ofNat 32 (code.toNat * 2 ^ 24 + addr.toNat % 2 ^ 24))) ∧
      (x.thread t).run = .faulted ∧ x.sc.faults = satInc (s.lane l).live.sc.faults ∧
      x.poised = (s.lane l).live.poised)

/-- Flows (R458, R460 to R462, R464, R467): a post joins the queue, goes into service with a waiting thread, or is
refused with the code of its reason; a take gives the oldest item, or a code, or waits; the end of service idles the
flow. Model's choices it rests on: log entries 112 and 113. -/
def Obligations.FlowCommands : Prop :=
  (∀ (l : LaneId) (c : Fin 128) (f : Fin 64) (s : State), (s.lane l).live.calls c = true →
    ((s.lane l).live.thread c).pflow.toNat = f.val →
    ((s.lane l).live.flowDepth f = 0 →
      RunsTo (.flwPost l c) l s (fun x => (x.modFlow f (fun q => { q with refused := q.refused + 1 })).modThread c
        (fun q => { q with presult := 3 }))) ∧
    ((s.lane l).live.flowDepth f ≠ 0 → (s.lane l).live.flowPort f = none →
      64 < ((s.lane l).live.thread c).plen.toNat →
      RunsTo (.flwPost l c) l s (fun x => x.modThread c (fun q => { q with presult := 4 }))) ∧
    ((s.lane l).live.flowDepth f ≠ 0 → (s.lane l).live.flowPort f = none →
      ((s.lane l).live.thread c).plen.toNat ≤ 64 →
      ((s.lane l).live.flowDepth f ≤ ((s.lane l).live.flow f).queue.length →
        Runs (.flwPost l c) l s (fun n => n.store = (s.lane l).store ∧ n.otp = (s.lane l).otp ∧
          (n.live.thread c).presult = 1 ∧ n.live.sc.refusals = satInc (s.lane l).live.sc.refusals ∧
          n.live.sc.laneRefs = (s.lane l).live.sc.laneRefs ∧
          n.live.flow f = { (s.lane l).live.flow f with refused := ((s.lane l).live.flow f).refused + 1 } ∧
          n.live.poised = (s.lane l).live.poised)) ∧
      (((s.lane l).live.flow f).queue.length < (s.lane l).live.flowDepth f → 1024 ≤ (s.lane l).live.pendingItems →
        Runs (.flwPost l c) l s (fun n => n.store = (s.lane l).store ∧ n.otp = (s.lane l).otp ∧
          (n.live.thread c).presult = 2 ∧ n.live.sc.laneRefs = satInc (s.lane l).live.sc.laneRefs ∧
          n.live.sc.refusals = (s.lane l).live.sc.refusals ∧
          n.live.flow f = { (s.lane l).live.flow f with refused := ((s.lane l).live.flow f).refused + 1 } ∧
          n.live.poised = (s.lane l).live.poised)) ∧
      (((s.lane l).live.flow f).queue.length < (s.lane l).live.flowDepth f → (s.lane l).live.pendingItems < 1024 →
        ((s.lane l).live.flow f).serving ≠ none →
        Runs (.flwPost l c) l s (fun n => n.store = (s.lane l).store ∧ n.otp = (s.lane l).otp ∧
          (n.live.thread c).presult = 0 ∧ (n.live.flow f).serving = ((s.lane l).live.flow f).serving ∧
          (∃ it : Item, (n.live.flow f).queue = ((s.lane l).live.flow f).queue ++ [it] ∧
            it.tag = ((s.lane l).live.thread c).ptag ∧ it.data.length = ((s.lane l).live.thread c).plen.toNat) ∧
          n.live.poised = (s.lane l).live.poised)) ∧
      (∀ t : Fin 128, t ≠ c → ((s.lane l).live.flow f).queue = [] → ((s.lane l).live.flow f).serving = none →
        ((s.lane l).live.flow f).waiters = [t] → (s.lane l).live.pendingItems < 1024 →
        Runs (.flwPost l c) l s (fun n => n.store = (s.lane l).store ∧ n.otp = (s.lane l).otp ∧
          (n.live.thread c).presult = 0 ∧ (n.live.flow f).queue = [] ∧
          (∃ it : Item, (n.live.flow f).serving = some (.thread t, it) ∧ (n.live.thread t).held = some (f, it) ∧
            it.tag = ((s.lane l).live.thread c).ptag) ∧
          ((n.live.thread t).run = .ready ∨ ∃ b, (n.live.thread t).run = .running b) ∧
          n.live.poised = (s.lane l).live.poised)))) ∧
  (∀ (l : LaneId) (c : Fin 128) (f : Fin 64) (w : Word) (s : State), (s.lane l).live.calls c = true →
    w.toNat % 64 = f.val →
    ((s.lane l).live.flowDepth f = 0 ∨ (s.lane l).live.flowPort f ≠ none →
      RunsTo (.flwTake l c w) l s (fun x => x.modThread c (fun q => { q with tresult := 3 }))) ∧
    ((s.lane l).live.flowDepth f ≠ 0 → (s.lane l).live.flowPort f = none →
      (((s.lane l).live.thread c).held ≠ none →
        RunsTo (.flwTake l c w) l s (fun x => x.modThread c (fun q => { q with tresult := 4 }))) ∧
      (((s.lane l).live.thread c).held = none →
        (∀ (it : Item) (rest : List Item), ((s.lane l).live.flow f).serving = none →
          ((s.lane l).live.flow f).queue = it :: rest →
          RunsTo (.flwTake l c w) l s (fun x => (x.modFlow f (fun z => { z with
            queue := rest, serving := some (.thread c, it) })).modThread c (fun q => { q with
            held := some (f, it), tresult := 0 }))) ∧
        (w.getLsbD 8 = false → ((s.lane l).live.flow f).serving = none → ((s.lane l).live.flow f).queue = [] →
          RunsTo (.flwTake l c w) l s (fun x => x.modThread c (fun q => { q with tresult := 1 }))) ∧
        (w.getLsbD 8 = false → ((s.lane l).live.flow f).serving ≠ none →
          RunsTo (.flwTake l c w) l s (fun x => x.modThread c (fun q => { q with tresult := 2 }))) ∧
        (w.getLsbD 8 = true → ((s.lane l).live.flow f).serving ≠ none ∨ ((s.lane l).live.flow f).queue = [] →
          Runs (.flwTake l c w) l s (fun n => n.store = (s.lane l).store ∧ n.otp = (s.lane l).otp ∧
            (n.live.thread c).run = .waiting (.item f) ∧ c ∈ (n.live.flow f).waiters ∧
            n.live.poised = (s.lane l).live.poised))))) ∧
  (∀ (l : LaneId) (c : Fin 128) (s : State), (s.lane l).live.calls c = true →
    (((s.lane l).live.thread c).held = none → RunsTo (.flwDone l c) l s id) ∧
    (∀ (f : Fin 64) (it : Item), ((s.lane l).live.thread c).held = some (f, it) → ((s.lane l).live.flow f).queue = [] →
      RunsTo (.flwDone l c) l s (fun x => (x.modThread c (fun q => { q with held := none })).modFlow f (fun q => { q with
        serving := none })))) ∧
  (∀ (l : LaneId) (c : Fin 128) (w : Word) (s : State), (s.lane l).live.calls c = false →
    RunsTo (.flwPost l c) l s id ∧ RunsTo (.flwTake l c w) l s id ∧ RunsTo (.flwDone l c) l s id)

/-- Check-value units (R341, R342, R468): a unit of the resident firmware, or one kennelled, ignores every write; bytes
feed the running CRC-32; a finish compares its complement with the expected value, counts and keeps the mismatch, and
checks the alive value; a control write that names a closed flow is refused and shown. Model's choices it rests on: log
entry 97. -/
def Obligations.CheckValueUnits : Prop :=
  (∀ (l : LaneId) (c : Fin 128) (u : Fin 16) (w : Word) (s : State),
    u.val < (s.lane l).live.num Obj.residentUnits ∨ (s.lane l).live.fl.kUnits.getLsbD u.val = true →
    RunsTo (.cvuFeed l c u w) l s id ∧ RunsTo (.cvuFeedb l c u w) l s id ∧ RunsTo (.cvuFinish l c u w) l s id ∧
    RunsTo (.cvuReset l c u) l s id ∧ RunsTo (.cvuCtrl l c u w) l s id ∧
    (∀ reg : Byte, RunsTo (.cvuDeferredWrite l c u reg w) l s id)) ∧
  (∀ (l : LaneId) (c : Fin 128) (u : Fin 16) (w : Word) (s : State), (s.lane l).live.calls c = true →
    (s.lane l).live.num Obj.residentUnits ≤ u.val → (s.lane l).live.fl.kUnits.getLsbD u.val = false →
    RunsTo (.cvuFeed l c u w) l s (fun x => x.modCvu u (fun q => { q with
      running := crc32Feed q.running [w.setWidth 8, (w >>> 8).setWidth 8, (w >>> 16).setWidth 8, (w >>> 24).setWidth 8] })) ∧
    RunsTo (.cvuFeedb l c u w) l s (fun x => x.modCvu u (fun q => { q with
      running := crc32Feed q.running [w.setWidth 8] })) ∧
    RunsTo (.cvuReset l c u) l s (fun x => x.modCvu u (fun q => { q with
      running := 0xFFFFFFFF, mismatch := false, skip := false, reject := false, ctrlRef := false, first := true })) ∧
    (∀ f : Fin 64, w.getLsbD 31 = false → w.toNat / 256 % 64 = f.val →
      (w.getLsbD 14 = true → (s.lane l).live.flowDepth f = 0 →
        RunsTo (.cvuCtrl l c u w) l s (fun x => x.modCvu u (fun q => { q with
          aliveSkip := w.setWidth 4, ctrlRef := true }))) ∧
      (w.getLsbD 14 = false ∨ (s.lane l).live.flowDepth f ≠ 0 →
        RunsTo (.cvuCtrl l c u w) l s (fun x => x.modCvu u (fun q => { q with
          aliveSkip := w.setWidth 4, postFlow := (w >>> 8).setWidth 6, postEn := w.getLsbD 14 })))) ∧
    (∀ r : Word, (s.lane l).live.fl.armed = none →
      crc32Feed ((s.lane l).live.sf.cvu[u]).running ((bytesOf ((s.lane l).live.sf.cvu[u]).buf).take
        (min 64 (w.toNat % 128))) = r →
      (w.getLsbD 8 = false → ~~~r = ((s.lane l).live.sf.cvu[u]).expect →
        RunsTo (.cvuFinish l c u w) l s (fun x => x.modCvu u (fun q => { q with running := r, result := ~~~r }))) ∧
      (w.getLsbD 8 = false → ~~~r ≠ ((s.lane l).live.sf.cvu[u]).expect →
        ((s.lane l).live.sf.cvu[u]).postEn = false →
        RunsTo (.cvuFinish l c u w) l s (fun x =>
          let y := x.modCvu u (fun q => { q with running := r, result := ~~~r, mismatch := true })
          { y with sf := { y.sf with expMis := satInc y.sf.expMis } })) ∧
      (w.getLsbD 8 = true → ~~~r = ((s.lane l).live.sf.cvu[u]).expect →
        ((s.lane l).live.sf.cvu[u]).first = true →
        RunsTo (.cvuFinish l c u w) l s (fun x => x.modCvu u (fun q => { q with
          running := r, result := ~~~r, last := (w >>> 16).setWidth 8, first := false }))) ∧
      (w.getLsbD 8 = true → ~~~r = ((s.lane l).live.sf.cvu[u]).expect →
        ((s.lane l).live.sf.cvu[u]).first = false → (w >>> 16).setWidth 8 = ((s.lane l).live.sf.cvu[u]).last →
        RunsTo (.cvuFinish l c u w) l s (fun x =>
          let y := x.modCvu u (fun q => { q with running := r, result := ~~~r, reject := true })
          { y with sf := { y.sf with aliveRej := satInc y.sf.aliveRej } }))) ∧
    exec (.cvuDeferredWrite l c u 0x04 w) s = exec (.cvuFeed l c u w) s ∧
    exec (.cvuDeferredWrite l c u 0x10 w) s = exec (.cvuFinish l c u w) s ∧
    exec (.cvuDeferredWrite l c u 0x1C w) s = exec (.cvuCtrl l c u w) s ∧
    RunsTo (.cvuDeferredWrite l c u 0x00 w) l s (fun x => x.modCvu u (fun q => { q with running := w })) ∧
    RunsTo (.cvuDeferredWrite l c u 0x0C w) l s (fun x => x.modCvu u (fun q => { q with expect := w }))) ∧
  ~~~(crc32Feed 0xFFFFFFFF [0x31, 0x32, 0x33, 0x34, 0x35, 0x36, 0x37, 0x38, 0x39]) = 0xE3069283

/-- The application window (R120, R456, R465, R469 to R473): the buffer commands answer with their codes and exchange
the pages; a bus entry from 768 on takes the value, one below is a thread fault; a raise within 1 ms of the last
accepted one is refused; a history record is copied; a trigger enters a capture; a time read latches the upper word; a
register write is the command of its register, a fault where it is misaligned or outside the regions. Model's choices
it rests on: log entry 113. -/
def Obligations.ApplicationWindow : Prop :=
  (∀ (l : LaneId) (c : Fin 128) (w : Word) (s : State), (s.lane l).live.calls c = true →
    ((s.lane l).live.granted (w.toNat % 512) = true →
      RunsTo (.jsnSel l c w) l s (fun x => x.modThread c (fun q => { q with
        jsnSel := w.setWidth 9, jsnPage := (x.buf (w.toNat % 512)).data, jsnSince := 0, jsnRes := 0 }))) ∧
    ((s.lane l).live.granted (w.toNat % 512) = false →
      RunsTo (.jsnSel l c w) l s (fun x => x.modThread c (fun q => { q with
        jsnSel := w.setWidth 9, jsnPage := [], jsnSince := 0, jsnRes := 1 })))) ∧
  (∀ (l : LaneId) (c : Fin 128) (b : Nat) (s : State), (s.lane l).live.calls c = true →
    ((s.lane l).live.thread c).jsnSel.toNat = b →
    ((s.lane l).live.granted b = false →
      RunsTo (.jsnMark l c) l s (fun x => x.modThread c (fun q => { q with jsnRes := 1 }))) ∧
    ((s.lane l).live.granted b = true → (s.lane l).live.bufSends b = false →
      RunsTo (.jsnMark l c) l s (fun x => x.modThread c (fun q => { q with jsnRes := 3 }))) ∧
    ((s.lane l).live.granted b = true → (s.lane l).live.bufSends b = true →
      (1400 < ((s.lane l).live.thread c).jsnLen.toNat →
        RunsTo (.jsnMark l c) l s (fun x => x.modThread c (fun q => { q with jsnRes := 2 }))) ∧
      (((s.lane l).live.thread c).jsnLen.toNat ≤ 1400 →
        RunsTo (.jsnMark l c) l s (fun x => (x.modBuf b (fun q => { q with
          data := q.page, page := q.data, slen := (x.thread c).jsnLen.toNat, fresh := true })).modThread c
            (fun q => { q with jsnRes := 0 }))))) ∧
  (∀ (l : LaneId) (c : Fin 128) (e : Fin 1024) (w : Word) (s : State), (s.lane l).live.calls c = true →
    (768 ≤ e.val →
      RunsTo (.sigEntryWrite l c e w false) l s (fun x => { x with en := { x.en with
        appNext := x.en.appNext.write 0 e.val w, appLate := x.en.appLate.write none e.val none,
        appWritten := x.en.appWritten.write 0 e.val x.ticks } }) ∧
      RunsTo (.sigEntryWrite l c e w true) l s (fun x => { x with en := { x.en with
        appLate := x.en.appLate.write none e.val (some w),
        appWritten := x.en.appWritten.write 0 e.val x.ticks } })) ∧
    (e.val < 768 → ∀ late : Bool, exec (.sigEntryWrite l c e w late) s =
      exec (.threadFault l c 7 (BitVec.ofNat 32 (0x40004000 + 4 * e.val))) s)) ∧
  (∀ (l : LaneId) (c : Fin 128) (n : Fin 8) (s : State), (s.lane l).live.calls c = true →
    ((∃ t, (s.lane l).live.sc.flaAt[n] = some t ∧ (s.lane l).live.clk < t + ms 1) →
      RunsTo (.flaRaise l c n) l s (fun x => { x with sc := { x.sc with flaRef := true } })) ∧
    ((∀ t, (s.lane l).live.sc.flaAt[n] = some t → t + ms 1 ≤ (s.lane l).live.clk) →
      RunsTo (.flaRaise l c n) l s (fun x => ({ x with sc := { x.sc with
        flaRef := false, flaAt := vmod x.sc.flaAt n (fun _ => some x.clk) } } : Live).raise (376 + n.val)
          (x.thread c).flaUnit.toNat (x.thread c).flaSyn))) ∧
  (∀ (l : LaneId) (c : Fin 128) (k : Fin 32) (s : State), (s.lane l).live.calls c = true →
    RunsTo (.flaHsel l c k) l s (fun x => x.modThread c (fun q => { q with
      hrec := if k.val < x.fl.history.length then x.fl.history[x.fl.history.length - 1 - k.val]? else none }))) ∧
  (∀ (l : LaneId) (c : Fin 128) (s : State), (s.lane l).live.calls c = true →
    ((s.lane l).live.num Obj.preTrigger = 0 ∧ (s.lane l).live.num Obj.postTrigger = 0 ∨
        (s.lane l).live.fl.unusable.getLsbD 3 = true →
      Runs (.lgcTrigger l c) l s (fun n => n.store = (s.lane l).store ∧ n.otp = (s.lane l).otp ∧
        (n.live.thread c).lgcRes = 2 ∧ n.live.im.pending = (s.lane l).live.im.pending ∧
        n.live.fl = (s.lane l).live.fl)) ∧
    ((s.lane l).live.num Obj.preTrigger ≠ 0 ∨ (s.lane l).live.num Obj.postTrigger ≠ 0 →
      (s.lane l).live.fl.unusable.getLsbD 3 = false → (s.lane l).live.im.erasing = false →
      (s.lane l).live.im.pending.length < 8 →
      RunsTo (.lgcTrigger l c) l s (fun x => ({ x with im := { x.im with
        pending := x.im.pending ++ [x.newCapture 0xFFFE] } } : Live).modThread c (fun q => { q with lgcRes := 0 })))) ∧
  (∀ (l : LaneId) (c : Fin 128) (ph : Nat) (s : State), (s.lane l).live.calls c = true →
    RunsTo (.timTimeloRead l c ph) l s (fun x => x.modThread c (fun q => { q with
      timeHi := (({ x with clk := x.start + ph } : Live).timeStamp >>> 32).setWidth 32 }))) ∧
  (∀ (l : LaneId) (c : Fin 128) (addr w : Word) (s : State), (s.lane l).live.calls c = true →
    (addr.toNat % 4 ≠ 0 → exec (.appRegisterWrite l c addr w) s = exec (.threadFault l c 6 addr) s) ∧
    (addr.toNat % 4 = 0 → (addr.toNat < 0x600000 ∨ (0x800000 ≤ addr.toNat ∧ addr.toNat < 0x20000000) ∨
        (0x20200000 ≤ addr.toNat ∧ addr.toNat < 0x40000000) ∨ 0x40008000 ≤ addr.toNat) →
      exec (.appRegisterWrite l c addr w) s = exec (.threadFault l c 7 addr) s) ∧
    (addr.toNat % 4 = 0 → (0x600000 ≤ addr.toNat ∧ addr.toNat < 0x800000) ∨
        (0x20000000 ≤ addr.toNat ∧ addr.toNat < 0x20200000) → RunsTo (.appRegisterWrite l c addr w) l s id)) ∧
  (∀ (l : LaneId) (c : Fin 128) (w : Word) (s : State), (s.lane l).live.calls c = true →
    exec (.appRegisterWrite l c 0x40000004 w) s = exec (.schStart l c w) s ∧
    exec (.appRegisterWrite l c 0x40000008 w) s = exec (.schStop l c w) s ∧
    exec (.appRegisterWrite l c 0x4000100C w) s = exec (.flwPost l c) s ∧
    exec (.appRegisterWrite l c 0x40001014 w) s = exec (.flwTake l c w) s ∧
    (∀ u : Fin 16, exec (.appRegisterWrite l c (BitVec.ofNat 32 (0x40002004 + 0x100 * u.val)) w) s =
      exec (.cvuFeed l c u w) s) ∧
    exec (.appRegisterWrite l c 0x40003010 w) s = exec (.jsnMark l c) s ∧
    (∀ e : Fin 1024, exec (.appRegisterWrite l c (BitVec.ofNat 32 (0x40004000 + 4 * e.val)) w) s =
      exec (.sigEntryWrite l c e w false) s) ∧
    exec (.appRegisterWrite l c 0x40006000 w) s = exec (.lgcTrigger l c) s) ∧
  (∀ (l : LaneId) (c : Fin 128) (addr w : Word) (s : State), (s.lane l).live.calls c = false →
    RunsTo (.appRegisterWrite l c addr w) l s id ∧ RunsTo (.jsnSel l c w) l s id ∧ RunsTo (.jsnMark l c) l s id ∧
    RunsTo (.lgcTrigger l c) l s id)

/-- TICK_START (R15, R16, R22, R294, R502): a lane whose firmware runs counts the tick and sets the tick start one tick
period on; a halted lane keeps its time; a lane in reset, in its boot ROM, in clock-wait or asleep has no tick. At a
joined lane the tick completes and leaves the fuses as they were. Model's choices it rests on: log entries 62 to 64. -/
def Obligations.TickStartCounts : Prop :=
  (∀ (l : LaneId) (inp : TickInputs) (s : State),
    (s.lane l).live.phase = .loaded ∨ (s.lane l).live.phase = .withdrawn ∨ (s.lane l).live.phase = .haltedState →
    Runs (.tickStart l inp) l s (fun n => n.store = (s.lane l).store ∧ n.otp = (s.lane l).otp ∧
      n.live.tk.count = (s.lane l).live.tk.count + 1 ∧
      n.live.start = max (s.lane l).live.clk ((s.lane l).live.start + (s.lane l).live.tick) ∧
      n.live.clk = n.live.start)) ∧
  (∀ (l : LaneId) (inp : TickInputs) (s : State), (s.lane l).live.phase = .halted →
    Runs (.tickStart l inp) l s (fun n => n.store = (s.lane l).store ∧ n.otp = (s.lane l).otp ∧
      n.live.tk.count = (s.lane l).live.tk.count + 1 ∧
      n.live.start = max (s.lane l).live.clk ((s.lane l).live.start + (s.lane l).live.tick) ∧
      n.live.phase = .halted ∧ n.live.fl = (s.lane l).live.fl ∧ n.live.gd = (s.lane l).live.gd ∧
      n.live.sf = (s.lane l).live.sf ∧ n.live.au = (s.lane l).live.au)) ∧
  (∀ (l : LaneId) (inp : TickInputs) (s : State), (s.lane l).live.awake = false → (s.lane l).live.phase ≠ .halted →
    (s.lane l).live.phase ≠ .haltedState → RunsTo (.tickStart l inp) l s id) ∧
  (∀ (l : LaneId) (inp : TickInputs) (s : State), (s.lane l).live.phase = .joined →
    Runs (.tickStart l inp) l s (fun n => n.otp = (s.lane l).otp))

/-- Every event is recorded (R298, R299): it enters the history queue of 32 records, the oldest overwritten and
counted; a CORRECTED event whose source has a record younger than `CoalesceTime` is counted and suppressed; the first
CONTAINED or FATAL event is kept, the later ones counted. The record of an event that is raised is in the queue
whatever events follow from it (a bound of the logbook, a dropped notification, a kennelled core). -/
def Obligations.EventsAreRecorded : Prop :=
  (∀ (x n : Live) (src : Nat) (cls : FaultClass) (e : EventRec), x.record src cls e = n →
    (cls ≠ .corrected ∨ x.coalesced src = false →
      n.fl.seq = x.fl.seq + 1 ∧ n.fl.suppressed = x.fl.suppressed ∧
      (x.fl.history.length < 32 → n.fl.history = x.fl.history ++ [e] ∧ n.fl.overwritten = x.fl.overwritten) ∧
      (x.fl.history.length = 32 → n.fl.history = x.fl.history.drop 1 ++ [e] ∧
        n.fl.overwritten = satInc x.fl.overwritten)) ∧
    (cls = .corrected → n.fl.corrected = satInc x.fl.corrected ∧ n.fl.first = x.fl.first ∧ n.fl.later = x.fl.later) ∧
    (cls = .corrected → x.coalesced src = true →
      n.fl.history = x.fl.history ∧ n.fl.overwritten = x.fl.overwritten ∧ n.fl.suppressed = satInc x.fl.suppressed) ∧
    (cls ≠ .corrected → n.fl.corrected = x.fl.corrected ∧
      (x.fl.first = none → n.fl.first = some e ∧ n.fl.later = x.fl.later) ∧
      (∀ f, x.fl.first = some f → n.fl.first = some f ∧ n.fl.later = satInc x.fl.later))) ∧
  (∀ (x : Live) (src : Nat), x.coalesced src = true ↔ x.num Obj.coalesceTime ≠ 0 ∧
    ∃ e ∈ x.fl.history, e.src.toNat % 512 = src ∧ x.clk < e.at' + ms (x.num Obj.coalesceTime)) ∧
  (∀ (x : Live) (src unit : Nat) (syn : Word),
    entryClass (x.mapEntry src) ≠ .corrected ∨ x.coalesced src = false →
    x.eventRec src unit syn (entryClass (x.mapEntry src)) (entryReaction (x.mapEntry src)) false ∈
      (x.raise src unit syn).fl.history)

/-- An event, whatever its reaction, leaves lane time, configuration and the values of the control engine, of the
feedback and of the network alone (R291): what it may change is the record, the kennels, the gates and current loops,
the authority of a lane that withdraws or halts, the safety outputs, the logbook's triggers and the notification. -/
def Obligations.EventsLeaveTheRest : Prop :=
  ∀ (x : Live) (src unit : Nat) (syn : Word),
    (x.raise src unit syn).steady = x.steady ∧
    (x.raise src unit syn).me = x.me ∧ (x.raise src unit syn).clk = x.clk ∧ (x.raise src unit syn).start = x.start ∧
    (x.raise src unit syn).cfg = x.cfg ∧ (x.raise src unit syn).rc = x.rc ∧ (x.raise src unit syn).tk = x.tk ∧
    (x.raise src unit syn).fb = x.fb ∧ (x.raise src unit syn).ps = x.ps ∧ (x.raise src unit syn).wi = x.wi ∧
    (x.raise src unit syn).ck = x.ck ∧ (x.raise src unit syn).mo = x.mo ∧
    (x.raise src unit syn).en.bus = x.en.bus ∧ (x.raise src unit syn).au.mode = x.au.mode ∧
    (x.raise src unit syn).di.rw = x.di.rw ∧ (x.raise src unit syn).jn.sync = x.jn.sync

/-- A step runs the command at the front of the queue with the queue's rest; with no command waiting the module idles
(the model's own, log entries 1 and 4). -/
def Obligations.StepRunsTheFrontCommand : Prop :=
  (∀ (c : Instr) (rest : List Instr) (s : State), s.pending = c :: rest →
    step s = exec c { s with pending := rest }) ∧
  (∀ (c : Instr) (s : State), step { s with pending := c :: s.pending } = exec c s) ∧
  (∀ s : State, s.pending = [] → step s = .next s)

/-- Every command completes, and acts on the lane it names alone (R10): the queue, the manufacturer's identity and the
other two lanes stand as before. Model's choices it rests on: log entry 60. -/
def Obligations.EveryCommandActsOnItsLane : Prop :=
  ∀ (i : Instr) (s : State), ∃ t, exec i s = .next t ∧ t.pending = s.pending ∧ s.sameOutside (laneOf i) t

/-- Fuses are only ever burnt (R426, R429, R431): at every step, in every state, the security counter of each lane only
rises, burnt and revoked key slots stay so, and the fingerprint of a burnt slot never changes. -/
def Obligations.FusesAreOnlyBurnt : Prop :=
  ∀ (s t : State), step s = .next t → ∀ l : LaneId, (s.lane l).otp.le (t.lane l).otp = true ∧
    ∀ k : Fin 12, (s.lane l).otp.burnt.getLsbD k.val = true → (t.lane l).otp.prints[k] = (s.lane l).otp.prints[k]

/-- Managed storage and fuses change only by the commands that write them (R395, R422 to R435, R437 to R442). -/
def Obligations.StorageChangesByItsCommands : Prop :=
  ∀ (i : Instr) (s t : State), exec i s = .next t →
    (mayStore i = false → ∀ l : LaneId, (t.lane l).store = (s.lane l).store) ∧
    (mayBurn i = false → ∀ l : LaneId, (t.lane l).otp = (s.lane l).otp)

/-- The machine right after reset (R10, R502): three lanes under their letters, without power, no output on, no gate
switched, no fuse burnt, no event recorded, no command waiting. Model's choices it rests on: log entries 2 and 3. -/
def Obligations.ResetState : Prop :=
  State.reset.pending = [] ∧
  ∀ l : LaneId, (State.reset.lane l).live.me = l ∧ (State.reset.lane l).live.phase = .off ∧
    (State.reset.lane l).live.quiet = true ∧ (State.reset.lane l).otp = {} ∧
    (State.reset.lane l).live.fl.history = [] ∧ (State.reset.lane l).live.cfg = [] ∧
    (State.reset.lane l).live.tk.count = 0
end

