-- ==== Sys2Proof/Laws/Events.lean ====
section
/-!
SUPPORT. What the raising of an event may change, said once per operation: every operation that a raised event calls
leaves the `steady` part of a lane as it was, and those that neither
withdraw nor halt the lane its `poised` part (R289 to R301).
-/

namespace Sys2Proof.Machine

theorem foldl_poised {α : Type} (f : Live → α → Live) (h : ∀ x a, (f x a).poised = x.poised) (l : List α) (x : Live) :
    (l.foldl f x).poised = x.poised := by
  induction l generalizing x with
  | nil => rfl
  | cons a l ih => rw [List.foldl_cons, ih, h]

theorem forAll_poised {n : Nat} (f : Fin n → Live → Live) (h : ∀ i x, (f i x).poised = x.poised) (x : Live) :
    (forAll n f x).poised = x.poised := foldl_poised _ (fun x i => h i x) _ x

theorem map_vmod {α β : Type} {n : Nat} (v : Vector α n) (i : Fin n) (f : α → α) (g : α → β)
    (h : g (f v[i]) = g v[i]) : (vmod v i f).map g = v.map g := by
  apply Vector.ext
  intro k hk
  by_cases e : i.val = k
  · subst e; simpa [vmod] using h
  · simp [vmod, e]
theorem guard_idem (w : WindingSt) (b : Bool) : ({ w with asc := b } : WindingSt).guard = w.guard := rfl
theorem modWind_poised (lv : Live) (p : Fin 8) (f : WindingSt → WindingSt) (h : ∀ w, (f w).guard = w.guard) :
    (lv.modWind p f).poised = lv.poised := by
  have e : (vmod lv.fc.wind p f).map WindingSt.guard = lv.fc.wind.map WindingSt.guard := map_vmod _ _ _ _ (h _)
  unfold Live.poised Live.modWind
  dsimp only
  rw [e]
theorem modPort_poised (lv : Live) (p : Fin 8) (f : PortSt → PortSt) (h : ∀ q, (f q).guard = q.guard) :
    (lv.modPort p f).poised = lv.poised := by
  have e : (vmod lv.gd.ports p f).map PortSt.guard = lv.gd.ports.map PortSt.guard := map_vmod _ _ _ _ (h _)
  unfold Live.poised Live.modPort
  dsimp only
  rw [e]
@[simp] theorem settlePort_poised (lv : Live) (p : Fin 8) : (lv.settlePort p).poised = lv.poised := by
  unfold Live.settlePort
  dsimp only
  rw [modPort_poised, modWind_poised]
  · intro w; rfl
  · intro q
    simp only [PortSt.guard, Vector.map_map]
    congr 1
@[simp] theorem settle_poised (lv : Live) : lv.settle.poised = lv.poised :=
  forAll_poised _ (fun p x => settlePort_poised x p) lv
@[simp] theorem park_poised (lv : Live) (p : Fin 8) (ws : WState) : (lv.park p ws).poised = lv.poised := by
  unfold Live.park; rw [modWind_poised]; intro w; rfl
@[simp] theorem addMarker_poised (lv : Live) (m : Marker) : (lv.addMarker m).poised = lv.poised := by unfold Live.poised; rfl
@[simp] theorem markOnly_poised (lv : Live) (src : Half) : (lv.markOnly src).poised = lv.poised := by unfold Live.poised; rfl
@[simp] theorem trigger_poised (lv : Live) (src : Half) (b : Bool) : (lv.trigger src b).2.poised = lv.poised := by
  unfold Live.trigger; (repeat' split) <;> (unfold Live.poised; rfl)
@[simp] theorem modThread_poised (lv : Live) (t : Fin 128) (f) : (lv.modThread t f).poised = lv.poised := by unfold Live.poised; rfl
@[simp] theorem modFlow_poised (lv : Live) (t : Fin 64) (f) : (lv.modFlow t f).poised = lv.poised := by unfold Live.poised; rfl
@[simp] theorem setCore_poised (lv : Live) (b : Bool) (t) : (lv.setCore b t).poised = lv.poised := by
  cases b <;> (unfold Live.poised; rfl)

@[simp] theorem dispatch_poised (lv : Live) (t : Fin 128) (b : Bool) : (lv.dispatch t b).poised = lv.poised := by
  unfold Live.dispatch
  rw [setCore_poised, modThread_poised]
  split <;> (unfold Live.poised; rfl)
@[simp] theorem reschedule_poised (k : Nat) (lv : Live) : (lv.reschedule k).poised = lv.poised := by
  induction k generalizing lv with
  | zero => rfl
  | succ k ih =>
    unfold Live.reschedule
    split
    · rfl
    · rw [ih, dispatch_poised]
@[simp] theorem schedule_poised (lv : Live) : lv.schedule.poised = lv.poised := reschedule_poised 40 lv

/-- The scheduler's part of a lane is not poised. -/
theorem sc_poised (lv : Live) (sc : SchedSt) : ({ lv with sc := sc } : Live).poised = lv.poised := by unfold Live.poised; rfl

@[simp] theorem unplace_poised (lv : Live) (t : Fin 128) : (lv.unplace t).poised = lv.poised := by
  unfold Live.unplace
  rw [sc_poised]
  (repeat' split) <;> simp only [setCore_poised]
@[simp] theorem makeReady_poised (lv : Live) (t : Fin 128) : (lv.makeReady t).poised = lv.poised := by
  unfold Live.makeReady
  simp only [schedule_poised, sc_poised, modThread_poised, unplace_poised]
@[simp] theorem giveTo_poised (lv : Live) (f : Fin 64) (t : Fin 128) (it : Item) :
    (lv.giveTo f t it).poised = lv.poised := by
  unfold Live.giveTo
  simp only [makeReady_poised, modThread_poised, modFlow_poised]
theorem can_poised (lv : Live) (c : Vector CanSt 4) : ({ lv with di := { lv.di with can := c } } : Live).poised = lv.poised := by unfold Live.poised; rfl
@[simp] theorem giveToPort_poised (lv : Live) (f : Fin 64) (n : Fin 4) (it : Item) :
    (lv.giveToPort f n it).poised = lv.poised := by
  unfold Live.giveToPort
  simp only [can_poised, modFlow_poised]
@[simp] theorem serveNext_poised (lv : Live) (f : Fin 64) : (lv.serveNext f).poised = lv.poised := by
  unfold Live.serveNext
  (repeat' split) <;> simp only [giveToPort_poised, giveTo_poised, modFlow_poised]
@[simp] theorem post_poised (lv : Live) (f : Fin 64) (it : Item) : (lv.post f it).2.poised = lv.poised := by
  unfold Live.post
  simp only [apply_ite Prod.snd, apply_ite Live.poised, serveNext_poised, modFlow_poised, ite_self]
@[simp] theorem endService_poised (lv : Live) (f : Fin 64) : (lv.endService f).poised = lv.poised := by
  unfold Live.endService
  simp only [serveNext_poised, modFlow_poised]
@[simp] theorem discardHeld_poised (lv : Live) (t : Fin 128) : (lv.discardHeld t).poised = lv.poised := by
  unfold Live.discardHeld
  split <;> simp only [endService_poised, modThread_poised]
@[simp] theorem haltThread_poised (lv : Live) (t : Fin 128) (r : RunState) : (lv.haltThread t r).poised = lv.poised := by
  unfold Live.haltThread
  simp only [schedule_poised, discardHeld_poised, modThread_poised, unplace_poised]
@[simp] theorem stopPartner_poised (lv : Live) (t : Fin 128) : (lv.stopPartner t).poised = lv.poised := by
  unfold Live.stopPartner
  (repeat' split) <;> simp only [haltThread_poised]
@[simp] theorem faultThread_poised (lv : Live) (t : Fin 128) : (lv.faultThread t).poised = lv.poised := by
  unfold Live.faultThread
  simp only [stopPartner_poised, haltThread_poised, sc_poised]
@[simp] theorem stopAllThreads_poised (lv : Live) : lv.stopAllThreads.poised = lv.poised := by
  unfold Live.stopAllThreads
  refine (foldl_poised _ (fun x a => ?_) _ _).trans (sc_poised lv _)
  split <;> simp only [haltThread_poised]

/-! ### The collector -/

theorem mapWith_mapDflt {α : Type} [DecidableEq α] (m : NMap α) (d : α) (f : Nat → α → α) (g : α → α) (hd : g d = d)
    (h : ∀ k q, g (f k q) = g q) : (m.mapWith d f).mapDflt d g = m.mapDflt d g := by
  unfold NMap.mapWith NMap.mapDflt
  induction m with
  | nil => rfl
  | cons a m ih =>
    simp only [List.map_cons, List.filter_cons]
    by_cases e : f a.1 a.2 = d
    · have e2 : g a.2 = d := by rw [← h a.1 a.2, e, hd]
      simp only [e, e2, ne_eq, not_true_eq_false, decide_false, Bool.false_eq_true, if_false]
      exact ih
    · simp only [e, ne_eq, not_false_eq_true, decide_true, if_true, List.map_cons, List.filter_cons, h]
      rw [ih]
@[simp] theorem markEpochs_poised (lv : Live) (a b : Nat) (c : FaultClass) : (lv.markEpochs a b c).poised = lv.poised := by
  unfold Live.markEpochs Live.poised
  dsimp only
  rw [mapWith_mapDflt _ _ _ _ rfl]
  intro k q
  split <;> rfl
theorem enterHistory_frame (f : FaultSt) (e : EventRec) :
    ∃ h o, enterHistory f e = { f with history := h, overwritten := o } := by
  unfold enterHistory
  split
  · exact ⟨_, _, rfl⟩
  · exact ⟨_, f.overwritten, rfl⟩
theorem enterFirst_frame (f : FaultSt) (e : EventRec) : ∃ o n, enterFirst f e = { f with first := o, later := n } := by
  unfold enterFirst
  split
  · exact ⟨_, f.later, rfl⟩
  · exact ⟨f.first, _, rfl⟩
theorem countClass_frame (f : FaultSt) (c : FaultClass) :
    ∃ x y z, countClass f c = { f with corrected := x, contained := y, fatal := z } := by
  cases c
  · exact ⟨_, f.contained, f.fatal, rfl⟩
  · exact ⟨f.corrected, _, f.fatal, rfl⟩
  · exact ⟨f.corrected, f.contained, _, rfl⟩
@[simp] theorem record_poised (lv : Live) (src : Nat) (c : FaultClass) (e : EventRec) :
    (lv.record src c e).poised = lv.poised := by
  obtain ⟨x, y, z, hc⟩ := countClass_frame lv.fl c
  unfold Live.record
  simp only [hc]
  obtain ⟨h, o, he⟩ := enterHistory_frame { lv.fl with corrected := x, contained := y, fatal := z, seq := lv.fl.seq + 1 } e
  obtain ⟨p, q, hf⟩ := enterFirst_frame { lv.fl with corrected := x, contained := y, fatal := z, seq := lv.fl.seq + 1, history := h, overwritten := o } e
  have hm := markEpochs_poised lv src e.unit.toNat c
  have hl : (lv.markEpochs src e.unit.toNat c).fl = lv.fl := rfl
  cases c <;> simp only [he, hf] <;> (try split) <;> refine Eq.trans ?_ hm <;> revert hl <;>
    (generalize lv.markEpochs src e.unit.toNat _ = y; intro hl; rw [← hl]; unfold Live.poised; rfl)

@[simp] theorem kennelPort_poised (lv : Live) (p : Fin 8) : (lv.kennelPort p).poised = lv.poised := by
  unfold Live.kennelPort
  simp only [settlePort_poised, park_poised]
  unfold Live.poised; rfl
theorem kChans_poised (lv : Live) (v) : ({ lv with fl := { lv.fl with kChans := v } } : Live).poised = lv.poised := by
  unfold Live.poised; rfl
@[simp] theorem kennelChannel_poised (lv : Live) (c : Nat) : (lv.kennelChannel c).poised = lv.poised := by
  unfold Live.kennelChannel
  dsimp only
  split
  · split
    · rw [kennelPort_poised, kChans_poised]
    · rw [kChans_poised]
  · rw [kChans_poised]
@[simp] theorem kennelAdc_poised (lv : Live) (n : Fin 16) : (lv.kennelAdc n).2.poised = lv.poised := by
  unfold Live.kennelAdc Live.poised
  rfl
theorem kCores_poised (lv : Live) (v) : ({ lv with fl := { lv.fl with kCores := v } } : Live).poised = lv.poised := by
  unfold Live.poised; rfl
@[simp] theorem kennelCore_poised (lv : Live) (b : Bool) : (lv.kennelCore b).poised = lv.poised := by
  unfold Live.kennelCore
  dsimp only
  split
  · rw [schedule_poised, kCores_poised]
  · rw [faultThread_poised, kCores_poised]
@[simp] theorem kennelCan_poised (lv : Live) (n : Fin 4) : (lv.kennelCan n).poised = lv.poised := by
  unfold Live.poised; rfl
theorem kSlots_poised (lv : Live) (v) : ({ lv with fl := { lv.fl with kSlots := v } } : Live).poised = lv.poised := by
  unfold Live.poised; rfl
theorem kUnits_poised (lv : Live) (v) : ({ lv with fl := { lv.fl with kUnits := v } } : Live).poised = lv.poised := by
  unfold Live.poised; rfl
theorem degreq_poised (lv : Live) (v) : ({ lv with fl := { lv.fl with degreq := v } } : Live).poised = lv.poised := by
  unfold Live.poised; rfl
@[simp] theorem fence_poised (lv : Live) (src unit : Nat) : (lv.fence src unit).poised = lv.poised := by
  unfold Live.fence
  (repeat' split) <;> simp only [kennelPort_poised, kennelChannel_poised, kennelAdc_poised, kennelCore_poised,
    kennelCan_poised, kSlots_poised, kUnits_poised]
theorem posted_poised (lv : Live) (f : Fin 64) (it : Item) :
    (match lv.post f it with
      | (0, l2) => ((none : Option (Fin 64)), l2)
      | (_, l2) => (some f, { l2 with sc := { l2.sc with drops := satInc l2.sc.drops } })).2.poised = lv.poised := by
  have h := post_poised lv f it
  generalize lv.post f it = r at h ⊢
  split
  · exact h
  · exact (sc_poised _ _).trans h
@[simp] theorem notify_poised (lv : Live) (src : Nat) (e : EventRec) : (lv.notify src e).2.poised = lv.poised := by
  have h0 := sc_poised lv { lv.sc with flaSeq := e.seq, flaCount := lv.sc.flaCount + 1 }
  unfold Live.notify
  generalize ({ lv with sc := { lv.sc with flaSeq := e.seq, flaCount := lv.sc.flaCount + 1 } } : Live) = x at h0 ⊢
  dsimp only
  split
  · exact (posted_poised ..).trans h0
  · exact h0

@[simp] theorem freeWinding_poised (lv : Live) (p : Fin 8) : (lv.freeWinding p).poised = lv.poised := by
  unfold Live.freeWinding
  split <;> simp only [settlePort_poised, park_poised]

/-! ### Withdrawal and halt -/

/-- What leaves the poised part of a lane leaves its steady part. -/
theorem poised_steady {x y : Live} (h : x.poised = y.poised) : x.steady = y.steady := by
  unfold Live.steady; rw [h]

theorem forAll_steady {n : Nat} (f : Fin n → Live → Live) (h : ∀ i x, (f i x).steady = x.steady) (x : Live) :
    (forAll n f x).steady = x.steady := by
  unfold forAll
  generalize List.finRange n = l
  induction l generalizing x with
  | nil => rfl
  | cons a l ih => rw [List.foldl_cons, ih, h]
theorem modWind_steady (lv : Live) (p : Fin 8) (f : WindingSt → WindingSt) (h : ∀ w, (f w).guard = w.guard) :
    (lv.modWind p f).steady = lv.steady := poised_steady (modWind_poised lv p f h)
theorem modPort_steady (lv : Live) (p : Fin 8) (f : PortSt → PortSt) (h : ∀ q, (f q).guard = q.guard) :
    (lv.modPort p f).steady = lv.steady := poised_steady (modPort_poised lv p f h)
@[simp] theorem settlePort_steady (lv : Live) (p : Fin 8) : (lv.settlePort p).steady = lv.steady := poised_steady (settlePort_poised lv p)
@[simp] theorem settle_steady (lv : Live) : lv.settle.steady = lv.steady := poised_steady (settle_poised lv)
@[simp] theorem park_steady (lv : Live) (p : Fin 8) (ws : WState) : (lv.park p ws).steady = lv.steady := poised_steady (park_poised lv p ws)
@[simp] theorem trigger_steady (lv : Live) (a : Half) (b : Bool) : ((lv.trigger a b).2).steady = lv.steady := poised_steady (trigger_poised lv a b)
@[simp] theorem record_steady (lv : Live) (a : Nat) (c : FaultClass) (e : EventRec) : (lv.record a c e).steady = lv.steady := poised_steady (record_poised lv a c e)
@[simp] theorem kennelPort_steady (lv : Live) (p : Fin 8) : (lv.kennelPort p).steady = lv.steady := poised_steady (kennelPort_poised lv p)
@[simp] theorem kennelChannel_steady (lv : Live) (c : Nat) : (lv.kennelChannel c).steady = lv.steady := poised_steady (kennelChannel_poised lv c)
@[simp] theorem kennelAdc_steady (lv : Live) (n : Fin 16) : ((lv.kennelAdc n).2).steady = lv.steady := poised_steady (kennelAdc_poised lv n)
@[simp] theorem kennelCore_steady (lv : Live) (b : Bool) : (lv.kennelCore b).steady = lv.steady := poised_steady (kennelCore_poised lv b)
@[simp] theorem kennelCan_steady (lv : Live) (n : Fin 4) : (lv.kennelCan n).steady = lv.steady := poised_steady (kennelCan_poised lv n)
@[simp] theorem fence_steady (lv : Live) (a b : Nat) : (lv.fence a b).steady = lv.steady := poised_steady (fence_poised lv a b)
@[simp] theorem notify_steady (lv : Live) (a : Nat) (e : EventRec) : ((lv.notify a e).2).steady = lv.steady := poised_steady (notify_poised lv a e)
@[simp] theorem stopAllThreads_steady (lv : Live) : lv.stopAllThreads.steady = lv.steady := poised_steady (stopAllThreads_poised lv)
@[simp] theorem schedule_steady (lv : Live) : lv.schedule.steady = lv.steady := poised_steady (schedule_poised lv)
@[simp] theorem post_steady (lv : Live) (f : Fin 64) (it : Item) : ((lv.post f it).2).steady = lv.steady := poised_steady (post_poised lv f it)
@[simp] theorem endService_steady (lv : Live) (f : Fin 64) : (lv.endService f).steady = lv.steady := poised_steady (endService_poised lv f)
@[simp] theorem faultThread_steady (lv : Live) (t : Fin 128) : (lv.faultThread t).steady = lv.steady := poised_steady (faultThread_poised lv t)
@[simp] theorem makeReady_steady (lv : Live) (t : Fin 128) : (lv.makeReady t).steady = lv.steady := poised_steady (makeReady_poised lv t)
@[simp] theorem freeWinding_steady (lv : Live) (p : Fin 8) : (lv.freeWinding p).steady = lv.steady := poised_steady (freeWinding_poised lv p)
theorem degreq_steady (lv : Live) (v) : ({ lv with fl := { lv.fl with degreq := v } } : Live).steady = lv.steady :=
  poised_steady (degreq_poised lv v)
theorem modSout_steady (lv : Live) (n : Fin 4) (f : SoutSt → SoutSt) (h : ∀ q, (f q).guard = q.guard) :
    (lv.modSout n f).steady = lv.steady := by
  have e : (vmod lv.sf.sout n f).map SoutSt.guard = lv.sf.sout.map SoutSt.guard := map_vmod _ _ _ _ (h _)
  have frame : ∀ v : Vector SoutSt 4, ({ lv with sf := { lv.sf with sout := v } } : Live).steady =
      { lv.steady with sf := { lv.steady.sf with sout := v.map SoutSt.guard } } := by
    intro v; unfold Live.steady Live.poised; rfl
  have h1 := frame (vmod lv.sf.sout n f)
  rw [e] at h1
  exact h1.trans (frame lv.sf.sout).symm

@[simp] theorem soutOff_steady (lv : Live) (n : Fin 4) : (lv.soutOff n).steady = lv.steady := by
  unfold Live.soutOff
  dsimp only
  refine (modSout_steady _ n _ (by intro q; rfl)).trans ?_
  split
  · unfold Live.steady; rfl
  · rfl
@[simp] theorem outputsOff_steady (lv : Live) : lv.outputsOff.steady = lv.steady :=
  forAll_steady _ (fun n x => by split <;> simp only [soutOff_steady]) lv
@[simp] theorem windingsFree_steady (lv : Live) : lv.windingsFree.steady = lv.steady :=
  forAll_steady _ (fun p x => by
    split <;> first | exact modWind_steady _ _ _ (fun _ => rfl) | exact park_steady _ _ _ | rfl) lv
theorem leave_steady (lv : Live) (p : Phase) (x : Role) (a b c d e : Bool) : ({ lv with
    phase := p,
    au := { lv.au with role := x, follower := a, holding := b, noLease := c, noRejoin := d },
    jn := { lv.jn with portsOff := e } } : Live).steady = lv.steady := by
  unfold Live.steady; rfl
theorem leave2_steady (lv : Live) (p : Phase) (x : Role) (a b c e h : Bool) (q : Option Nat) : ({ lv with
    phase := p,
    au := { lv.au with role := x, follower := a, holding := b, noLease := c, noRejoin := e },
    jn := { lv.jn with portsOff := true },
    su := { lv.su with halt := h },
    fl := { lv.fl with haltedAt := q } } : Live).steady = lv.steady := by
  unfold Live.steady; rfl
@[simp] theorem withdraw_steady (lv : Live) : lv.withdraw.steady = lv.steady := by
  unfold Live.withdraw
  split
  · dsimp only
    rw [settle_steady]
    have h := (outputsOff_steady lv.windingsFree).trans (windingsFree_steady lv)
    generalize lv.windingsFree.outputsOff = x at h ⊢
    exact (leave_steady x _ _ _ _ _ _ _).trans h
  · rfl
@[simp] theorem halt_steady (lv : Live) : lv.halt.steady = lv.steady := by
  unfold Live.halt
  split
  · dsimp only
    rw [settle_steady]
    have h := (stopAllThreads_steady _).trans ((outputsOff_steady lv.windingsFree).trans (windingsFree_steady lv))
    generalize lv.windingsFree.outputsOff.stopAllThreads = x at h ⊢
    exact (leave2_steady x _ _ _ _ _ _ _ _).trans h
  · rfl
@[simp] theorem react_steady (lv : Live) (src unit entry : Nat) : (lv.react src unit entry).steady = lv.steady := by
  unfold Live.react
  dsimp only
  generalize entryReaction entry = r
  cases r <;> dsimp only <;> (try rw [withdraw_steady]) <;> (try rw [halt_steady]) <;> (try rw [degreq_steady]) <;>
    (try rw [fence_steady])
/-- Raising an event leaves the steady part of a lane (R289 to R301). -/
theorem raiseN_steady (k : Nat) (lv : Live) (src unit : Nat) (syn : Word) (inj : Option Bool) (entry : Nat) :
    (Live.raiseN k lv src unit syn inj entry).steady = lv.steady := by
  induction k generalizing lv src unit syn inj entry with
  | zero => rfl
  | succ k ih =>
    unfold Live.raiseN
    dsimp only
    generalize h1 : lv.record src _ _ = l1
    have e1 : l1.steady = lv.steady := by rw [← h1, record_steady]
    generalize h2 : (if l1.triggers (entryClass entry) = true then
      l1.trigger (BitVec.ofNat 16 src) (decide (entryClass entry = FaultClass.fatal)) else (false, l1)) = r
    have e2 : r.2.steady = lv.steady := by
      rw [← h2, ← e1]
      split
      · exact trigger_steady _ _ _
      · rfl
    generalize h3 : (if r.1 = true then Live.raiseN k r.2 360 noUnit 0 none (r.2.mapEntry 360) else r.2) = l2
    have e3 : l2.steady = lv.steady := by
      rw [← h3, ← e2]
      split
      · exact ih ..
      · rfl
    generalize h4 : (if entryReaction entry = Reaction.log then (none, l2) else l2.notify src _) = n
    have e4 : n.2.steady = lv.steady := by
      rw [← h4, ← e3]
      split
      · rfl
      · exact notify_steady _ _ _
    have fin : ∀ l3 : Live, l3.steady = lv.steady →
        (if inj = some false then l3 else match l3.coreThread src unit with
          | none => l3.react src unit entry
          | some t =>
            if ((l3.react src unit entry).thread t).run = .faulted then
              Live.raiseN k (l3.react src unit entry) 369 (128 + t.val)
                (0xFF000000 ||| (Config.openSyndrome 1 &&& 0xFFFFFF)) none ((l3.react src unit entry).mapEntry 369)
            else l3.react src unit entry).steady = lv.steady := by
      intro l3 e5
      have e6 : (l3.react src unit entry).steady = lv.steady := by rw [react_steady, e5]
      split
      · exact e5
      · split
        · exact e6
        · split
          · rw [ih, e6]
          · exact e6
    cases hn : n.1 with
    | none => exact fin n.2 e4
    | some f => exact fin _ ((ih ..).trans e4)

@[simp] theorem raise_steady (lv : Live) (src unit : Nat) (syn : Word) : (lv.raise src unit syn).steady = lv.steady :=
  raiseN_steady ..
@[simp] theorem raiseOpen_steady (lv : Live) (tag : Nat) (c : FaultClass) (unit : Nat) (syn : Word) :
    (lv.raiseOpen tag c unit syn).steady = lv.steady := raiseN_steady ..
@[simp] theorem raiseBy_steady (lv : Live) (src unit : Nat) (syn : Word) (inj : Option Bool) :
    (lv.raiseBy src unit syn inj).steady = lv.steady := raiseN_steady ..
@[simp] theorem logTriggerNow_steady (lv : Live) (src : Half) : (lv.logTriggerNow src).steady = lv.steady := by
  have h := trigger_steady lv src false
  unfold Live.logTriggerNow
  split
  · rename_i l2 e
    rw [raise_steady, ← h, e]
  · rename_i l2 e
    rw [← h, e]
@[simp] theorem failAdc_steady (lv : Live) (n : Fin 16) : (lv.failAdc n).steady = lv.steady := by
  unfold Live.failAdc
  dsimp only
  split <;> simp only [raise_steady]

/-- A lane that takes no part: an event makes it neither withdraw nor halt. -/
def Live.aside (lv : Live) : Prop := lv.phase ≠ .joined ∧ lv.phase ≠ .loaded ∧ lv.phase ≠ .withdrawn

theorem poised_phase {x y : Live} (h : x.poised = y.poised) : x.phase = y.phase := by
  have e := congrArg Live.phase h
  exact e
theorem react_poised (lv : Live) (src unit entry : Nat) (h : lv.aside) : (lv.react src unit entry).poised = lv.poised := by
  have key : ∀ x : Live, x.poised = lv.poised → x.withdraw.poised = lv.poised ∧ x.halt.poised = lv.poised := by
    intro x e
    have hp := poised_phase e
    obtain ⟨h1, h2, h3⟩ := h
    rw [← hp] at h1 h2 h3
    constructor
    · unfold Live.withdraw; rw [if_neg (by simp [h1, h2])]; exact e
    · unfold Live.halt; rw [if_neg (by simp [h1, h2, h3])]; exact e
  unfold Live.react
  dsimp only
  generalize entryReaction entry = r
  cases r <;> dsimp only
  · exact fence_poised ..
  · exact degreq_poised ..
  · exact (key _ ((degreq_poised _ _).trans (fence_poised ..))).1
  · exact (key _ ((degreq_poised _ _).trans (fence_poised ..))).2

theorem aside_of {x y : Live} (e : x.poised = y.poised) (h : y.aside) : x.aside := by
  unfold Live.aside at *; rw [poised_phase e]; exact h

/-- Raising an event while the lane takes no part leaves its poised part (R289 to R301). -/
theorem raiseN_poised (k : Nat) (lv : Live) (src unit : Nat) (syn : Word) (inj : Option Bool) (entry : Nat)
    (ha : lv.aside) : (Live.raiseN k lv src unit syn inj entry).poised = lv.poised := by
  induction k generalizing lv src unit syn inj entry with
  | zero => rfl
  | succ k ih =>
    have again : ∀ (x : Live) (a b : Nat) (w : Word) (i : Option Bool) (n : Nat), x.poised = lv.poised →
        (Live.raiseN k x a b w i n).poised = lv.poised := fun x a b w i n e => (ih x a b w i n (aside_of e ha)).trans e
    unfold Live.raiseN
    dsimp only
    generalize h1 : lv.record src _ _ = l1
    have e1 : l1.poised = lv.poised := by rw [← h1, record_poised]
    generalize h2 : (if l1.triggers (entryClass entry) = true then
      l1.trigger (BitVec.ofNat 16 src) (decide (entryClass entry = FaultClass.fatal)) else (false, l1)) = r
    have e2 : r.2.poised = lv.poised := by
      rw [← h2]
      split
      · exact (trigger_poised _ _ _).trans e1
      · exact e1
    generalize h3 : (if r.1 = true then Live.raiseN k r.2 360 noUnit 0 none (r.2.mapEntry 360) else r.2) = l2
    have e3 : l2.poised = lv.poised := by
      rw [← h3]
      split
      · exact again _ _ _ _ _ _ e2
      · exact e2
    generalize h4 : (if entryReaction entry = Reaction.log then (none, l2) else l2.notify src _) = n
    have e4 : n.2.poised = lv.poised := by
      rw [← h4]
      split
      · exact e3
      · exact (notify_poised _ _ _).trans e3
    have fin : ∀ l3 : Live, l3.poised = lv.poised →
        (if inj = some false then l3 else match l3.coreThread src unit with
          | none => l3.react src unit entry
          | some t =>
            if ((l3.react src unit entry).thread t).run = .faulted then
              Live.raiseN k (l3.react src unit entry) 369 (128 + t.val)
                (0xFF000000 ||| (Config.openSyndrome 1 &&& 0xFFFFFF)) none ((l3.react src unit entry).mapEntry 369)
            else l3.react src unit entry).poised = lv.poised := by
      intro l3 e5
      have e6 : (l3.react src unit entry).poised = lv.poised := (react_poised _ _ _ _ (aside_of e5 ha)).trans e5
      split
      · exact e5
      · split
        · exact e6
        · split
          · exact again _ _ _ _ _ _ e6
          · exact e6
    cases hn : n.1 with
    | none => exact fin n.2 e4
    | some f => exact fin _ (again _ _ _ _ _ _ e4)

theorem raise_poised (lv : Live) (src unit : Nat) (syn : Word) (h : lv.aside) :
    (lv.raise src unit syn).poised = lv.poised := raiseN_poised _ _ _ _ _ _ _ h
theorem raiseOpen_poised (lv : Live) (tag : Nat) (c : FaultClass) (unit : Nat) (syn : Word) (h : lv.aside) :
    (lv.raiseOpen tag c unit syn).poised = lv.poised := raiseN_poised _ _ _ _ _ _ _ h

end Sys2Proof.Machine
end

