-- ==== Sys2Proof/Laws/Gates.lean ====
section
/-!
SUPPORT. What `settle` does, said once: it gives every port the gate state that its conditions ask for (R215), and
changes nothing but the windings and the ports.
-/

namespace Sys2Proof.Machine

@[simp] theorem vmod_self {α : Type} {n : Nat} (v : Vector α n) (i : Fin n) (f : α → α) : (vmod v i f)[i] = f v[i] := by
  simp [vmod]
theorem vmod_other {α : Type} {n : Nat} (v : Vector α n) (i j : Fin n) (f : α → α) (h : i ≠ j) : (vmod v i f)[j] = v[j] := by
  have : i.val ≠ j.val := fun e => h (Fin.ext e)
  simp [vmod, this]

/-- What holds of a value and is kept by a change at every index holds after all the changes. -/
theorem forAll_keeps {α : Type} {n : Nat} (f : Fin n → α → α) (P : α → Prop) (h : ∀ i x, P x → P (f i x)) (x : α)
    (hx : P x) : P (forAll n f x) := by
  unfold forAll
  generalize List.finRange n = l
  induction l generalizing x with
  | nil => exact hx
  | cons a l ih => exact ih _ (h a x hx)

/-- What a change at index `i` makes true and every other change keeps holds after all the changes. -/
theorem forAll_makes {α : Type} {n : Nat} (f : Fin n → α → α) (i : Fin n) (P : α → Prop) (hi : ∀ x, P (f i x))
    (ho : ∀ j x, j ≠ i → P x → P (f j x)) (x : α) : P (forAll n f x) := by
  unfold forAll
  have hm : i ∈ List.finRange n := List.mem_finRange i
  revert hm
  generalize List.finRange n = l
  intro hm
  have key : ∀ (l : List (Fin n)) (x : α), P x → P (l.foldl (fun y j => f j y) x) := by
    intro l
    induction l with
    | nil => intro x hx; exact hx
    | cons a l ih =>
      intro x hx
      apply ih
      by_cases e : a = i
      · subst e; exact hi x
      · exact ho a x e hx
  induction l generalizing x with
  | nil => cases hm
  | cons a l ih =>
    by_cases e : a = i
    · subst e; exact key l _ (hi x)
    · exact ih _ ((List.mem_cons.mp hm).resolve_left (fun h => e h.symm))

/-- Settling a port changes its winding and the ports alone. -/
theorem settlePort_frame (lv : Live) (p : Fin 8) : ∃ w q, lv.settlePort p =
    { lv with fc := { lv.fc with wind := w }, gd := { lv.gd with ports := q } } := ⟨_, _, rfl⟩

/-- Settling changes the windings and the ports alone. -/
theorem settle_frame (lv : Live) : ∃ w q, lv.settle =
    { lv with fc := { lv.fc with wind := w }, gd := { lv.gd with ports := q } } := by
  refine forAll_keeps _ (fun x => ∃ w q, x = { lv with fc := { lv.fc with wind := w }, gd := { lv.gd with ports := q } })
    ?_ lv ⟨lv.fc.wind, lv.gd.ports, rfl⟩
  rintro p x ⟨w, q, rfl⟩
  exact settlePort_frame _ p

@[simp] theorem settle_phase (lv : Live) : lv.settle.phase = lv.phase := by
  obtain ⟨w, q, h⟩ := settle_frame lv; rw [h]
@[simp] theorem settle_me (lv : Live) : lv.settle.me = lv.me := by
  obtain ⟨w, q, h⟩ := settle_frame lv; rw [h]
@[simp] theorem settle_clk (lv : Live) : lv.settle.clk = lv.clk := by
  obtain ⟨w, q, h⟩ := settle_frame lv; rw [h]
@[simp] theorem settle_start (lv : Live) : lv.settle.start = lv.start := by
  obtain ⟨w, q, h⟩ := settle_frame lv; rw [h]
@[simp] theorem settle_cfg (lv : Live) : lv.settle.cfg = lv.cfg := by
  obtain ⟨w, q, h⟩ := settle_frame lv; rw [h]
@[simp] theorem settle_rc (lv : Live) : lv.settle.rc = lv.rc := by
  obtain ⟨w, q, h⟩ := settle_frame lv; rw [h]
@[simp] theorem settle_tk (lv : Live) : lv.settle.tk = lv.tk := by
  obtain ⟨w, q, h⟩ := settle_frame lv; rw [h]
@[simp] theorem settle_au (lv : Live) : lv.settle.au = lv.au := by
  obtain ⟨w, q, h⟩ := settle_frame lv; rw [h]
@[simp] theorem settle_en (lv : Live) : lv.settle.en = lv.en := by
  obtain ⟨w, q, h⟩ := settle_frame lv; rw [h]
@[simp] theorem settle_groups (lv : Live) : lv.settle.fc.groups = lv.fc.groups := by
  obtain ⟨w, q, h⟩ := settle_frame lv; rw [h]
@[simp] theorem settle_aq (lv : Live) : lv.settle.aq = lv.aq := by
  obtain ⟨w, q, h⟩ := settle_frame lv; rw [h]
@[simp] theorem settle_wi (lv : Live) : lv.settle.wi = lv.wi := by
  obtain ⟨w, q, h⟩ := settle_frame lv; rw [h]
@[simp] theorem settle_fb (lv : Live) : lv.settle.fb = lv.fb := by
  obtain ⟨w, q, h⟩ := settle_frame lv; rw [h]
@[simp] theorem settle_ps (lv : Live) : lv.settle.ps = lv.ps := by
  obtain ⟨w, q, h⟩ := settle_frame lv; rw [h]
@[simp] theorem settle_fl (lv : Live) : lv.settle.fl = lv.fl := by
  obtain ⟨w, q, h⟩ := settle_frame lv; rw [h]
@[simp] theorem settle_sf (lv : Live) : lv.settle.sf = lv.sf := by
  obtain ⟨w, q, h⟩ := settle_frame lv; rw [h]
@[simp] theorem settle_jn (lv : Live) : lv.settle.jn = lv.jn := by
  obtain ⟨w, q, h⟩ := settle_frame lv; rw [h]
@[simp] theorem settle_di (lv : Live) : lv.settle.di = lv.di := by
  obtain ⟨w, q, h⟩ := settle_frame lv; rw [h]
@[simp] theorem settle_im (lv : Live) : lv.settle.im = lv.im := by
  obtain ⟨w, q, h⟩ := settle_frame lv; rw [h]
@[simp] theorem settle_sc (lv : Live) : lv.settle.sc = lv.sc := by
  obtain ⟨w, q, h⟩ := settle_frame lv; rw [h]
@[simp] theorem settle_ck (lv : Live) : lv.settle.ck = lv.ck := by
  obtain ⟨w, q, h⟩ := settle_frame lv; rw [h]
@[simp] theorem settle_su (lv : Live) : lv.settle.su = lv.su := by
  obtain ⟨w, q, h⟩ := settle_frame lv; rw [h]
@[simp] theorem settle_mo (lv : Live) : lv.settle.mo = lv.mo := by
  obtain ⟨w, q, h⟩ := settle_frame lv; rw [h]
@[simp] theorem settle_railUv (lv : Live) : lv.settle.gd.railUv = lv.gd.railUv := by
  obtain ⟨w, q, h⟩ := settle_frame lv; rw [h]
@[simp] theorem settle_chOn (lv : Live) : lv.settle.gd.chOn = lv.gd.chOn := by
  obtain ⟨w, q, h⟩ := settle_frame lv; rw [h]
@[simp] theorem settle_chSince (lv : Live) : lv.settle.gd.chSince = lv.gd.chSince := by
  obtain ⟨w, q, h⟩ := settle_frame lv; rw [h]
@[simp] theorem settle_chFault (lv : Live) : lv.settle.gd.chFault = lv.gd.chFault := by
  obtain ⟨w, q, h⟩ := settle_frame lv; rw [h]
@[simp] theorem settle_chCause (lv : Live) : lv.settle.gd.chCause = lv.gd.chCause := by
  obtain ⟨w, q, h⟩ := settle_frame lv; rw [h]
@[simp] theorem settle_chEnergy (lv : Live) : lv.settle.gd.chEnergy = lv.gd.chEnergy := by
  obtain ⟨w, q, h⟩ := settle_frame lv; rw [h]
@[simp] theorem settle_energy (lv : Live) : lv.settle.gd.energy = lv.gd.energy := by
  obtain ⟨w, q, h⟩ := settle_frame lv; rw [h]
@[simp] theorem settle_chForced (lv : Live) : lv.settle.gd.chForced = lv.gd.chForced := by
  obtain ⟨w, q, h⟩ := settle_frame lv; rw [h]
@[simp] theorem settle_ladderAsc (lv : Live) : lv.settle.gd.ladderAsc = lv.gd.ladderAsc := by
  obtain ⟨w, q, h⟩ := settle_frame lv; rw [h]
@[simp] theorem settle_belowAsc (lv : Live) : lv.settle.gd.belowAsc = lv.gd.belowAsc := by
  obtain ⟨w, q, h⟩ := settle_frame lv; rw [h]
@[simp] theorem settle_vabs (lv : Live) : lv.settle.gd.vabs = lv.gd.vabs := by
  obtain ⟨w, q, h⟩ := settle_frame lv; rw [h]
@[simp] theorem settle_regenCut (lv : Live) : lv.settle.gd.regenCut = lv.gd.regenCut := by
  obtain ⟨w, q, h⟩ := settle_frame lv; rw [h]
@[simp] theorem settle_regen (lv : Live) : lv.settle.gd.regen = lv.gd.regen := by
  obtain ⟨w, q, h⟩ := settle_frame lv; rw [h]
@[simp] theorem settle_ascEvents (lv : Live) : lv.settle.gd.ascEvents = lv.gd.ascEvents := by
  obtain ⟨w, q, h⟩ := settle_frame lv; rw [h]
@[simp] theorem settle_pumpF (lv : Live) : lv.settle.gd.pumpF = lv.gd.pumpF := by
  obtain ⟨w, q, h⟩ := settle_frame lv; rw [h]
@[simp] theorem settle_linkAt (lv : Live) : lv.settle.gd.linkAt = lv.gd.linkAt := by
  obtain ⟨w, q, h⟩ := settle_frame lv; rw [h]
@[simp] theorem settle_forcedLow (lv : Live) : lv.settle.gd.forcedLow = lv.gd.forcedLow := by
  obtain ⟨w, q, h⟩ := settle_frame lv; rw [h]

/-- Settling a port leaves the winding state of every port. -/
theorem settlePort_ws (lv : Live) (p q : Fin 8) : ((lv.settlePort p).fc.wind[q]).ws = (lv.fc.wind[q]).ws := by
  unfold Live.settlePort
  by_cases h : p = q
  · subst h
    show ((vmod lv.fc.wind p _)[p]).ws = _
    rw [vmod_self]
  · show ((vmod lv.fc.wind p _)[q]).ws = _
    rw [vmod_other _ _ _ _ h]
@[simp] theorem settle_ws (lv : Live) (q : Fin 8) : (lv.settle.fc.wind[q]).ws = (lv.fc.wind[q]).ws :=
  forAll_keeps _ (fun x => (x.fc.wind[q]).ws = (lv.fc.wind[q]).ws) (fun p x h => (settlePort_ws x p q).trans h) lv rfl

/-- While every gate of the lane is forced low, every port is off after settling (R189, R215, R486). -/
theorem settle_forced (lv : Live) (h : lv.gd.forcedLow = true ∨ lv.ck.forced = true) (p : Fin 8) :
    (lv.settle.gd.ports[p]).mode = .off := by
  have key : ∀ x : Live, (x.gd.forcedLow = true ∨ x.ck.forced = true) → ((x.settlePort p).gd.ports[p]).mode = .off := by
    intro x hx
    unfold Live.settlePort
    show ((vmod x.gd.ports p _)[p]).mode = _
    rw [vmod_self]
    unfold Live.gateMode
    rcases hx with hx | hx <;> simp [Live.modWind, hx]
  have both := forAll_makes (fun p x => Live.settlePort x p) p
    (fun x => (x.gd.forcedLow = true ∨ x.ck.forced = true) → (x.gd.ports[p]).mode = .off) key
    (fun j x hj hx hf => by
      have e : ((x.settlePort j).gd.ports[p]).mode = (x.gd.ports[p]).mode := by
        unfold Live.settlePort
        show ((vmod x.gd.ports j _)[p]).mode = _
        rw [vmod_other _ _ _ _ hj]
      rw [e]; exact hx hf) lv
  have e1 := settle_forcedLow lv
  have e2 := settle_ck lv
  unfold Live.settle at e1 e2 ⊢
  exact both (by rw [e1, e2]; exact h)

/-- A lane that is not joined switches no gate by a current loop (R148, R215). -/
theorem gateMode_noPwm (lv : Live) (p : Fin 8) (h : lv.phase ≠ .joined) : lv.gateMode p ≠ .pwm := by
  have tf : ∀ b, torqueFree b ≠ .pwm := by intro b; cases b <;> simp [torqueFree]
  have calm : lv.calmMode p ≠ .pwm := by
    unfold Live.calmMode
    simp only [h, if_false]
    (repeat' split) <;> first | exact tf _ | simp
  unfold Live.gateMode
  dsimp only
  (repeat' split) <;> first | exact tf _ | exact calm | simp

theorem settle_port_ne (lv : Live) (m : GateMode)
    (h : ∀ (x : Live) (p : Fin 8), x.phase = lv.phase → x.gateMode p ≠ m) (p : Fin 8) :
    (lv.settle.gd.ports[p]).mode ≠ m := by
  have both := forAll_makes (fun p x => Live.settlePort x p) p
    (fun x => x.phase = lv.phase → (x.gd.ports[p]).mode ≠ m)
    (fun x hx => by
      unfold Live.settlePort
      show ((vmod x.gd.ports p _)[p]).mode ≠ _
      rw [vmod_self]
      exact h _ p hx)
    (fun j x hj hx hf => by
      have e : ((x.settlePort j).gd.ports[p]).mode = (x.gd.ports[p]).mode := by
        unfold Live.settlePort
        show ((vmod x.gd.ports j _)[p]).mode = _
        rw [vmod_other _ _ _ _ hj]
      rw [e]; exact hx hf) lv
  exact both (settle_phase lv)

theorem noPwm_of {lv : Live} (h : ∀ p : Fin 8, (lv.gd.ports[p]).mode ≠ .pwm) : lv.noPwm = true := by
  unfold Live.noPwm
  rw [Vector.all_eq_true]
  intro i hi
  have := h ⟨i, hi⟩
  simp_all

/-- Settling a lane that is not joined leaves no gate switched by a current loop. -/
theorem settle_noPwm (lv : Live) (h : lv.phase ≠ .joined) : lv.settle.noPwm = true :=
  noPwm_of (settle_port_ne lv .pwm (fun x p e => gateMode_noPwm x p (e ▸ h)))

end Sys2Proof.Machine
end

