-- ==== Sys2Proof/Laws/Drive.lean ====
section
/-!
SUPPORT. Faults of a winding (R205, R206): what entering a fault changes, said once, and changes of a port under the
`steady` part of a lane.
-/

namespace Sys2Proof.Machine

theorem countFault_frame (lv : Live) (k : FaultKind) (o : LaneId) (n : Nat) :
    ∃ a, lv.countFault k o n = { lv with au := a } := by
  unfold Live.countFault
  dsimp only
  split
  · exact ⟨_, rfl⟩
  · exact ⟨lv.au, rfl⟩

theorem modPort_modPort (x : Live) (p : Fin 8) (f g : PortSt → PortSt) :
    (x.modPort p f).modPort p g = x.modPort p (fun q => g (f q)) := by
  unfold Live.modPort
  have : vmod (vmod x.gd.ports p f) p g = vmod x.gd.ports p (fun q => g (f q)) := by
    simp [vmod]
  dsimp only
  rw [this]

/-- The protection of the ports that the steady part keeps. -/
theorem steady_ports {x y : Live} (h : x.steady = y.steady) (p : Fin 8) :
    (x.gd.ports[p]).guard = (y.gd.ports[p]).guard := by
  have hp : x.gd.ports.map PortSt.guard = y.gd.ports.map PortSt.guard := congrArg (fun z : Live => z.gd.ports) h
  have := congrArg (fun v : Vector PortSt 8 => v[p]) hp
  simpa using this

theorem modPort_same (x y : Live) (p : Fin 8) (f g : PortSt → PortSt) (h : x.steady = y.steady)
    (hf : ∀ q q' : PortSt, q.guard = q'.guard → (f q).guard = (g q').guard) :
    (x.modPort p f).steady = (y.modPort p g).steady := by
  have key : (x.modPort p f).gd.ports.map PortSt.guard = (y.modPort p g).gd.ports.map PortSt.guard := by
    unfold Live.modPort
    apply Vector.ext
    intro k hk
    have hk' := steady_ports h ⟨k, hk⟩
    by_cases e : p.val = k
    · subst e; simpa [vmod] using hf _ _ hk'
    · simpa [vmod, e] using hk'
  have frame : ∀ (z : Live) (f : PortSt → PortSt), (z.modPort p f).steady =
      { z.steady with gd := { z.steady.gd with ports := (z.modPort p f).gd.ports.map PortSt.guard } } := by
    intro z f; unfold Live.steady Live.poised Live.modPort; rfl
  rw [frame, frame, h, key]

theorem steady_tries {x y : Live} (h : x.steady = y.steady) (p : Fin 8) :
    (x.gd.ports[p]).tries = (y.gd.ports[p]).tries := by
  have e := congrArg PortSt.tries (steady_ports h p)
  exact e
theorem steady_cfg {x y : Live} (h : x.steady = y.steady) : x.cfg = y.cfg := by
  have e := congrArg Live.cfg h
  exact e
theorem steady_clk {x y : Live} (h : x.steady = y.steady) : x.clk = y.clk := by
  have e := congrArg Live.clk h
  exact e
theorem steady_num {x y : Live} (h : x.steady = y.steady) (o : Obj) (i k : Nat) : x.num o i k = y.num o i k := by
  unfold Live.num Live.bytes
  rw [steady_cfg h]

theorem settlePort_tries (x : Live) (p : Fin 8) : ((x.settlePort p).gd.ports[p]).tries = (x.gd.ports[p]).tries :=
  steady_tries (settlePort_steady x p) p

theorem park_ports (x : Live) (p : Fin 8) (w : WState) : (x.park p w).gd.ports = x.gd.ports := rfl

/-- Entering a recoverable fault while tries are left (R205, R206). -/
theorem enterFault_steady (x : Live) (p : Fin 8) (f : PortFault)
    (h : (recentTries x.clk (x.gd.ports[p]).tries).length < x.num Obj.portRetryCount p.val) :
    (x.enterFault p f).steady = (x.faulted p f id).steady := by
  unfold Live.enterFault
  dsimp only
  generalize hy : (if ((x.modPort p _).fc.wind[p]).inUse = true then (x.modPort p _).park p .torqueFree
    else x.modPort p _) = y
  have e1 : y.steady = (x.modPort p (fun q => { q with fault := some f, reenable := false })).steady := by
    rw [← hy]; split
    · exact park_steady ..
    · rfl
  have e2 : (y.gd.ports[p]).tries = (x.gd.ports[p]).tries := by
    rw [steady_tries e1 p]
    show ((vmod x.gd.ports p _)[p]).tries = _
    rw [vmod_self]
  have e3 : y.cfg = x.cfg := (steady_cfg e1).trans rfl
  have e4 : y.clk = x.clk := (steady_clk e1).trans rfl
  have hz := settlePort_steady y p
  have t1 : ((y.settlePort p).gd.ports[p]).tries = (x.gd.ports[p]).tries := (settlePort_tries y p).trans e2
  have t2 : (y.settlePort p).num Obj.portRetryCount p.val = x.num Obj.portRetryCount p.val := by
    unfold Live.num Live.bytes; rw [show (y.settlePort p).cfg = x.cfg from e3]
  have t3 : (y.settlePort p).num Obj.portRetryWait p.val = x.num Obj.portRetryWait p.val := by
    unfold Live.num Live.bytes; rw [show (y.settlePort p).cfg = x.cfg from e3]
  have t4 : (y.settlePort p).clk = x.clk := e4
  generalize y.settlePort p = z at hz t1 t2 t3 t4 ⊢
  unfold Live.retryHead
  dsimp only
  rw [t1, t2, e4, if_neg (by omega)]
  unfold Live.faulted
  have e5 := hz.trans e1
  refine (modPort_same z _ p _ (fun q => { q with
      tries := recentTries x.clk (x.gd.ports[p]).tries, waitEnd := some (x.clk + ms (x.num Obj.portRetryWait p.val)) }) e5 ?_).trans ?_
  · intro q q' hq
    rw [t3]
    have := congrArg (fun r : PortSt => { r with tries := recentTries x.clk (x.gd.ports[p]).tries, waitEnd := some (x.clk + ms (x.num Obj.portRetryWait p.val)) }) hq
    exact this
  · rw [modPort_modPort]
    apply congrArg Live.steady
    unfold Live.modPort
    have : vmod x.gd.ports p (fun q => { q with fault := some f, reenable := false, tries := recentTries x.clk (x.gd.ports[p]).tries, waitEnd := some (x.clk + ms (x.num Obj.portRetryWait p.val)) })
       = vmod x.gd.ports p (fun q => { id q with fault := some f, reenable := false, tries := recentTries x.clk (id q).tries, waitEnd := some (x.clk + ms (x.num Obj.portRetryWait p.val)) }) := by
      simp [vmod]
    dsimp only
    rw [this]

end Sys2Proof.Machine
end

