-- ==== Sys2Proof/Laws/NMap.lean ====
section
/-!
SUPPORT. Sparse tables: a read after a write, and that every operation keeps the canonical form.
-/

namespace Sys2Proof.Machine

variable {α : Type}

theorem NMap.find_drop_self (m : NMap α) (n : Nat) : NMap.find (NMap.drop m n) n = none := by
  induction m with
  | nil => rfl
  | cons a m ih =>
    obtain ⟨k, v⟩ := a
    by_cases h : k = n
    · simp [NMap.drop, h, ih]
    · simp [NMap.drop, NMap.find, h, ih]

theorem NMap.find_drop_other (m : NMap α) (n e : Nat) (h : e ≠ n) : NMap.find (NMap.drop m n) e = NMap.find m e := by
  induction m with
  | nil => rfl
  | cons a m ih =>
    obtain ⟨k, v⟩ := a
    by_cases hk : k = n
    · subst hk
      simp [NMap.drop, NMap.find, Ne.symm h, ih]
    · by_cases he : k = e
      · simp [NMap.drop, NMap.find, he, h]
      · simp [NMap.drop, NMap.find, hk, he, ih]

theorem NMap.find_insert_self (m : NMap α) (n : Nat) (x : α) : NMap.find (NMap.insert m n x) n = some x := by
  induction m with
  | nil => simp [NMap.insert, NMap.find]
  | cons a m ih =>
    obtain ⟨k, v⟩ := a
    by_cases h1 : n < k
    · simp [NMap.insert, NMap.find, h1]
    · by_cases h2 : n = k
      · simp [NMap.insert, NMap.find, h2]
      · simp [NMap.insert, NMap.find, h1, h2, Ne.symm h2, ih]

theorem NMap.find_insert_other (m : NMap α) (n e : Nat) (x : α) (h : e ≠ n) :
    NMap.find (NMap.insert m n x) e = NMap.find m e := by
  induction m with
  | nil => simp [NMap.insert, NMap.find, Ne.symm h]
  | cons a m ih =>
    obtain ⟨k, v⟩ := a
    by_cases h1 : n < k
    · simp [NMap.insert, NMap.find, h1, Ne.symm h]
    · by_cases h2 : n = k
      · subst h2; simp [NMap.insert, NMap.find, Ne.symm h]
      · simp only [NMap.insert, if_neg h1, if_neg h2, NMap.find, ih]

/-- A key reads as what was written to it. -/
@[simp] theorem NMap.read_write_self [DecidableEq α] (m : NMap α) (d : α) (n : Nat) (x : α) :
    NMap.read (NMap.write m d n x) d n = x := by
  unfold NMap.write NMap.read
  by_cases h : x = d
  · rw [if_pos h, NMap.find_drop_self]; exact h.symm
  · rw [if_neg h, NMap.find_insert_self]

/-- A write leaves every other key as it was. -/
theorem NMap.read_write_other [DecidableEq α] (m : NMap α) (d : α) (n e : Nat) (x : α) (h : e ≠ n) :
    NMap.read (NMap.write m d n x) d e = NMap.read m d e := by
  unfold NMap.write NMap.read
  by_cases hx : x = d
  · rw [if_pos hx, NMap.find_drop_other m n e h]
  · rw [if_neg hx, NMap.find_insert_other m n e x h]

theorem NMap.sortedFrom_mono {lo lo' : Nat} (m : NMap α) (h : lo' ≤ lo) (hs : NMap.sortedFrom lo m = true) :
    NMap.sortedFrom lo' m = true := by
  cases m with
  | nil => rfl
  | cons a m => obtain ⟨k, v⟩ := a; simp [NMap.sortedFrom] at hs ⊢; exact ⟨by omega, hs.2⟩

theorem NMap.sortedFrom_drop (m : NMap α) (lo n : Nat) (hs : NMap.sortedFrom lo m = true) :
    NMap.sortedFrom lo (NMap.drop m n) = true := by
  induction m generalizing lo with
  | nil => rfl
  | cons a m ih =>
    obtain ⟨k, v⟩ := a
    simp [NMap.sortedFrom] at hs
    by_cases h : k = n
    · simp only [NMap.drop, if_pos h]
      exact ih lo (NMap.sortedFrom_mono m (by omega) hs.2)
    · simp [NMap.drop, h, NMap.sortedFrom]
      exact ⟨hs.1, ih _ hs.2⟩

theorem NMap.sortedFrom_insert (m : NMap α) (lo n : Nat) (x : α) (hn : lo ≤ n) (hs : NMap.sortedFrom lo m = true) :
    NMap.sortedFrom lo (NMap.insert m n x) = true := by
  induction m generalizing lo with
  | nil => simp [NMap.insert, NMap.sortedFrom, hn]
  | cons a m ih =>
    obtain ⟨k, v⟩ := a
    simp [NMap.sortedFrom] at hs
    by_cases h1 : n < k
    · simp [NMap.insert, h1, NMap.sortedFrom, hn, hs.2]
    · by_cases h2 : n = k
      · simp [NMap.insert, h2, NMap.sortedFrom, hs]
      · simp [NMap.insert, h1, h2, NMap.sortedFrom, hs.1]
        exact ih _ (by omega) hs.2

theorem NMap.sortedFrom_filter (m : NMap α) (lo : Nat) (f : Nat → α → α) (p : Nat × α → Bool)
    (hs : NMap.sortedFrom lo m = true) :
    NMap.sortedFrom lo ((m.map (fun a => (a.1, f a.1 a.2))).filter p) = true := by
  induction m generalizing lo with
  | nil => rfl
  | cons a m ih =>
    obtain ⟨k, v⟩ := a
    simp [NMap.sortedFrom] at hs
    rw [List.map_cons, List.filter_cons]
    split
    · simp only [NMap.sortedFrom, Bool.and_eq_true, decide_eq_true_eq]
      exact ⟨hs.1, ih _ hs.2⟩
    · exact ih lo (NMap.sortedFrom_mono m (by omega) hs.2)

theorem NMap.all_drop (m : NMap α) (n : Nat) (p : Nat × α → Bool) (h : m.all p = true) : (NMap.drop m n).all p = true := by
  induction m with
  | nil => rfl
  | cons a m ih =>
    obtain ⟨k, v⟩ := a
    rw [List.all_cons, Bool.and_eq_true] at h
    by_cases hk : k = n
    · simp only [NMap.drop, if_pos hk]; exact ih h.2
    · simp only [NMap.drop, if_neg hk, List.all_cons, h.1, ih h.2, Bool.and_self]

theorem NMap.all_insert (m : NMap α) (n : Nat) (x : α) (p : Nat × α → Bool) (hx : p (n, x) = true) (h : m.all p = true) :
    (NMap.insert m n x).all p = true := by
  induction m with
  | nil => simp [NMap.insert, hx]
  | cons a m ih =>
    obtain ⟨k, v⟩ := a
    rw [List.all_cons, Bool.and_eq_true] at h
    by_cases h1 : n < k
    · simp only [NMap.insert, if_pos h1, List.all_cons, hx, h.1, h.2, Bool.and_self]
    · by_cases h2 : n = k
      · simp only [NMap.insert, if_neg h1, if_pos h2, List.all_cons, hx, h.2, Bool.and_self]
      · simp only [NMap.insert, if_neg h1, if_neg h2, List.all_cons, h.1, ih h.2, Bool.and_self]

/-- A write keeps the canonical form. -/
theorem NMap.wf_write [DecidableEq α] (m : NMap α) (d : α) (n : Nat) (x : α) (h : NMap.wf d m = true) :
    NMap.wf d (NMap.write m d n x) = true := by
  unfold NMap.wf at *
  rw [Bool.and_eq_true] at *
  unfold NMap.write
  split
  · exact ⟨NMap.sortedFrom_drop m 0 n h.1, NMap.all_drop m n _ h.2⟩
  · rename_i hx
    exact ⟨NMap.sortedFrom_insert m 0 n x (Nat.zero_le _) h.1, NMap.all_insert m n x _ (by simpa using hx) h.2⟩

/-- Removing a key keeps the canonical form. -/
theorem NMap.wf_drop [DecidableEq α] (m : NMap α) (d : α) (n : Nat) (h : NMap.wf d m = true) :
    NMap.wf d (NMap.drop m n) = true := by
  unfold NMap.wf at *
  rw [Bool.and_eq_true] at *
  exact ⟨NMap.sortedFrom_drop m 0 n h.1, NMap.all_drop m n _ h.2⟩

/-- Changing the listed values keeps the canonical form. -/
theorem NMap.wf_mapWith [DecidableEq α] (m : NMap α) (d : α) (f : Nat → α → α) (h : NMap.wf d m = true) :
    NMap.wf d (NMap.mapWith m d f) = true := by
  unfold NMap.wf at *
  rw [Bool.and_eq_true] at *
  unfold NMap.mapWith
  refine ⟨NMap.sortedFrom_filter m 0 f _ h.1, ?_⟩
  rw [List.all_eq_true]
  intro a ha
  exact (List.mem_filter.mp ha).2

/-- Changing the listed values without their keys keeps the canonical form. -/
theorem NMap.wf_mapDflt [DecidableEq α] (m : NMap α) (d : α) (f : α → α) (h : NMap.wf d m = true) :
    NMap.wf d (NMap.mapDflt m d f) = true := NMap.wf_mapWith m d (fun _ => f) h

end Sys2Proof.Machine
end

