-- ==== Sys2Proof/Laws/Reset.lean ====
section
/-!
SUPPORT. What the end of a session, a reset and the switching off of the outputs change, said once each.
-/

namespace Sys2Proof.Machine

/-! ### The end of a session -/

theorem tunnelPlace_frame (lv : Live) : ∃ jn di, lv.tunnelPlace = { lv with jn := { lv.jn with bufs := jn }, di := di } := by
  unfold Live.tunnelPlace
  dsimp only
  split
  · split
    · exact ⟨_, _, rfl⟩
    · exact ⟨lv.jn.bufs, lv.di, rfl⟩
  · exact ⟨lv.jn.bufs, lv.di, rfl⟩

theorem respond_frame (lv : Live) (path : Path) (r : UsdoReply) : ∃ jn di, lv.respond path r = { lv with jn := { lv.jn with bufs := jn }, di := di } := by
  unfold Live.respond
  dsimp only
  cases path with
  | can n =>
    dsimp only
    split
    · exact ⟨lv.jn.bufs, _, rfl⟩
    · exact ⟨lv.jn.bufs, _, rfl⟩
  | tunnel c =>
    obtain ⟨jn, di, h⟩ := tunnelPlace_frame { lv with di := { lv.di with
      reply := some r,
      tunnelQ := lv.di.tunnelQ ++ [leBytes 1 c.toNat ++ leBytes 1 lv.di.nodeId ++
        leBytes 2 (Config.usdoMessage r.sid.toNat r.abort r.data).length ++
        Config.usdoMessage r.sid.toNat r.abort r.data] } }
    exact ⟨jn, di, h⟩

theorem dropRc_frame (lv : Live) (q : UsdoSession) : ∃ jn di, lv.dropRc q = { lv with jn := { lv.jn with bufs := jn }, di := di } := by
  obtain ⟨jn, di, h⟩ := respond_frame { lv with di := { lv.di with
    aborts := satInc lv.di.aborts, sessions := lv.di.sessions.erase q } } q.path
    { path := some q.path, sid := q.sid, abort := some 0x08000022, data := [], last := true }
  unfold Live.dropRc
  dsimp only
  (repeat' split) <;> first | exact ⟨lv.jn.bufs, lv.di, rfl⟩ | exact ⟨jn, di, h⟩

theorem canInit_frame (lv : Live) (n : Fin 4) : ∃ di, lv.canInit n = { lv with di := di } := ⟨_, rfl⟩

/-- The end of a session closes it, puts the `RC` writes into effect, and touches no other part of the lane than the
server, the tunnel buffer and an armed injection (R433, R303). -/
theorem closeSession_frame (lv : Live) (deep : Bool) : ∃ rc jn di p a i, lv.closeSession deep =
    { lv with rc := rc, jn := { lv.jn with bufs := jn }, di := di, im := { lv.im with session := none, rcPending := p },
              fl := { lv.fl with armed := a, injStatus := i } } := by
  unfold Live.closeSession
  split
  · rename_i h
    refine ⟨lv.rc, lv.jn.bufs, lv.di, lv.im.rcPending, lv.fl.armed, lv.fl.injStatus, ?_⟩
    rw [← h]
  · dsimp only
    have h1 : ∃ jn di, lv.di.sessions.foldl Live.dropRc lv = { lv with jn := { lv.jn with bufs := jn }, di := di } := by
      have key : ∀ (q : List UsdoSession) (x : Live), (∃ jn di, x = { lv with jn := { lv.jn with bufs := jn }, di := di }) →
          ∃ jn di, q.foldl Live.dropRc x = { lv with jn := { lv.jn with bufs := jn }, di := di } := by
        intro q
        induction q with
        | nil => intro x h; exact h
        | cons a q ih =>
          rintro x ⟨jn, di, rfl⟩
          exact ih _ (dropRc_frame _ a)
      exact key _ lv ⟨lv.jn.bufs, lv.di, rfl⟩
    obtain ⟨jn, di, h1⟩ := h1
    rw [h1]
    refine forAll_keeps _ (fun x => ∃ rc jn di p a i, x = { lv with
      rc := rc, jn := { lv.jn with bufs := jn }, di := di, im := { lv.im with session := none, rcPending := p },
      fl := { lv.fl with armed := a, injStatus := i } }) ?_ _ ?_
    · rintro n x ⟨rc, jn, di, p, a, i, rfl⟩
      dsimp only
      split
      · exact ⟨_, _, _, _, _, _, rfl⟩
      · exact ⟨_, _, _, _, _, _, rfl⟩
    · dsimp only
      split
      · exact ⟨_, _, _, _, lv.fl.armed, lv.fl.injStatus, rfl⟩
      · split
        · exact ⟨_, _, _, _, lv.fl.armed, lv.fl.injStatus, rfl⟩
        · exact ⟨_, _, _, _, _, _, rfl⟩

/-! ### Outputs -/

theorem soutOff_frame (lv : Live) (n : Fin 4) : ∃ o i, lv.soutOff n =
    { lv with sf := { lv.sf with sout := o, incomplete := i } } := by
  unfold Live.soutOff
  dsimp only
  split
  · exact ⟨_, _, rfl⟩
  · exact ⟨_, lv.sf.incomplete, rfl⟩

/-- Switching the safety outputs off changes them and the count of incomplete pulses alone. -/
theorem outputsOff_frame (lv : Live) : ∃ o i, lv.outputsOff =
    { lv with sf := { lv.sf with sout := o, incomplete := i } } := by
  refine forAll_keeps _ (fun x => ∃ o i, x = { lv with sf := { lv.sf with sout := o, incomplete := i } }) ?_ lv
    ⟨lv.sf.sout, lv.sf.incomplete, rfl⟩
  rintro n x ⟨o, i, rfl⟩
  dsimp only
  split
  · exact soutOff_frame _ n
  · exact ⟨_, _, rfl⟩

/-- Every safety output is off after it (R63, R294, R504). -/
theorem outputsOff_cmd (lv : Live) (n : Fin 4) : (lv.outputsOff.sf.sout[n]).cmd = false := by
  have cmdOff : ∀ x : Live, ((x.soutOff n).sf.sout[n]).cmd = false := by
    intro x
    unfold Live.soutOff Live.modSout
    dsimp only
    rw [vmod_self]
  refine forAll_makes (fun n x => if (Live.sf x).sout[n].cmd then x.soutOff n else x) n
    (fun x => (x.sf.sout[n]).cmd = false) ?_ ?_ lv
  · intro x
    split
    · exact cmdOff x
    · rename_i h; exact Bool.not_eq_true _ ▸ h
  · intro j x hj hx
    split
    · unfold Live.soutOff Live.modSout
      dsimp only
      rw [vmod_other _ _ _ _ hj]
      split <;> exact hx
    · exact hx

theorem outputsLow_of {lv : Live} (h : ∀ n : Fin 4, (lv.sf.sout[n]).cmd = false) : lv.outputsLow = true := by
  unfold Live.outputsLow
  rw [Vector.all_eq_true]
  intro i hi
  have := h ⟨i, hi⟩
  simp_all

/-! ### Withdrawal and halt -/

/-- Parking every winding changes the windings alone. -/
theorem windingsFree_frame (lv : Live) : ∃ w, lv.windingsFree = { lv with fc := { lv.fc with wind := w } } := by
  refine forAll_keeps _ (fun x => ∃ w, x = { lv with fc := { lv.fc with wind := w } }) ?_ lv ⟨lv.fc.wind, rfl⟩
  rintro p x ⟨w, rfl⟩
  dsimp only
  split <;> exact ⟨_, rfl⟩

theorem outputsLow_settle (lv : Live) : lv.settle.outputsLow = lv.outputsLow := by
  unfold Live.outputsLow; rw [settle_sf]

/-- What a withdrawal leaves (R63). -/
theorem withdraw_spec (lv : Live) (h : lv.phase = .joined ∨ lv.phase = .loaded) : ∃ w q o i, lv.withdraw =
    { lv with
      phase := .withdrawn, fc := { lv.fc with wind := w }, gd := { lv.gd with ports := q },
      sf := { lv.sf with sout := o, incomplete := i },
      au := { lv.au with role := .none, follower := false, holding := false, noLease := false },
      jn := { lv.jn with portsOff := true } } ∧ lv.withdraw.quiet = true := by
  unfold Live.withdraw
  rw [if_pos h]
  dsimp only
  obtain ⟨w, hw⟩ := windingsFree_frame lv
  rw [hw]
  have oc := outputsOff_cmd { lv with fc := { lv.fc with wind := w } }
  obtain ⟨o, i, ho⟩ := outputsOff_frame { lv with fc := { lv.fc with wind := w } }
  rw [ho] at oc ⊢
  generalize hx : ({ lv with
      phase := Phase.withdrawn, fc := { lv.fc with wind := w }, sf := { lv.sf with sout := o, incomplete := i },
      au := { lv.au with role := Role.none, follower := false, holding := false, noLease := false },
      jn := { lv.jn with portsOff := true } } : Live) = x
  obtain ⟨w2, q, hs⟩ := settle_frame x
  refine ⟨w2, q, o, i, ?_, ?_⟩
  · rw [hs, ← hx]
  · have hp : x.phase ≠ .joined := by rw [← hx]; simp
    have h1 : x.settle.outputsLow = true := by
      rw [outputsLow_settle, ← hx]; exact outputsLow_of oc
    unfold Live.quiet
    rw [h1, settle_noPwm x hp]; rfl

/-! ### Resets -/

/-- A lane at its gate drive's and safety functions' reset values neither switches nor energises. -/
theorem quiet_of_default {lv : Live} (h1 : lv.gd = {}) (h2 : lv.sf = {}) : lv.quiet = true := by
  unfold Live.quiet Live.outputsLow Live.noPwm
  rw [h1, h2]
  decide +kernel

/-- A restart depends on a lane only through what it keeps; the end of a session before it changes none of that but the
session and the `RC` store (R509). -/
theorem closed_restart (lv : Live) (deep keep : Bool) (p : Phase) : ∃ rc m, (lv.closeSession deep).restart keep p =
    { lv.restart keep p with rc := rc, im := m } ∧ m.session = none := by
  obtain ⟨rc, jn, di, q, a, i, h⟩ := closeSession_frame lv deep
  rw [h]
  refine ⟨rc, _, rfl, ?_⟩
  unfold Live.imageAfterReset
  split <;> rfl

/-- What a reset leaves (R503, R504, R508, R509). -/
theorem reset_spec (lv : Live) (k : ResetKind) :
    (lv.reset k).phase = .inReset ∧ (lv.reset k).me = lv.me ∧ (lv.reset k).clk = lv.clk ∧ (lv.reset k).gd = {} ∧
    (lv.reset k).sf = {} ∧ (lv.reset k).fc = {} ∧ (lv.reset k).jn = lv.ownTime ∧ (lv.reset k).sc = {} ∧ (lv.reset k).di = {} ∧
    (lv.reset k).cfg = [] ∧ (lv.reset k).mo = lv.mo ∧ (lv.reset k).ck = lv.ck.afterReset ∧
    (lv.reset k).im.session = none ∧ (lv.reset k).au.role = .none ∧ (lv.reset k).au.holding = false ∧
    (lv.reset k).su.last = BitVec.ofNat 8 (lv.recordedKind k) ∧ (lv.reset k).su.wdAt = none ∧
    (lv.reset k).su.rstn = lv.su.rstn ∧ (lv.reset k).su.swOpen = lv.su.swOpen ∧
    (lv.reset k).su.brownout = lv.su.brownout := by
  unfold Live.reset
  dsimp only
  generalize keepsBanks k lv.su.aonHeld = keep
  obtain ⟨rc, m, h, hs⟩ := closed_restart lv false keep .inReset
  rw [h]
  have hu : ∀ b, (lv.su.afterReset b).wdAt = none ∧ (lv.su.afterReset b).rstn = lv.su.rstn ∧
      (lv.su.afterReset b).swOpen = lv.su.swOpen ∧ (lv.su.afterReset b).brownout = lv.su.brownout := by
    intro b; cases b <;> exact ⟨rfl, rfl, rfl, rfl⟩
  have ha : ∀ b, (lv.au.afterReset b).role = .none ∧ (lv.au.afterReset b).holding = false := by
    intro b; cases b <;> exact ⟨rfl, rfl⟩
  have hc : ∀ (u : SupplySt) c, (countReset u c).last = u.last ∧ (countReset u c).wdAt = u.wdAt ∧
      (countReset u c).rstn = u.rstn ∧ (countReset u c).swOpen = u.swOpen ∧ (countReset u c).brownout = u.brownout := by
    intro u c; unfold countReset; split <;> exact ⟨rfl, rfl, rfl, rfl, rfl⟩
  refine ⟨rfl, rfl, rfl, rfl, rfl, rfl, rfl, rfl, rfl, rfl, rfl, rfl, hs, ?_, ?_, ?_, ?_, ?_, ?_, ?_⟩
  · cases k <;> exact (ha keep).1
  · cases k <;> exact (ha keep).2
  · exact (hc _ _).1
  · exact (hc _ _).2.1.trans (hu keep).1
  · exact (hc _ _).2.2.1.trans (hu keep).2.1
  · exact (hc _ _).2.2.2.1.trans (hu keep).2.2.1
  · exact (hc _ _).2.2.2.2.trans (hu keep).2.2.2

/-- The halt latch after a reset: cleared by a power-on and an external reset, set by a HALT-restart, kept by the others
(R508). -/
theorem reset_halt (lv : Live) (k : ResetKind) : (lv.reset k).su.halt =
    match k with | .powerOn | .external => false | .haltRestart => true | _ => lv.su.halt := by
  have hc : ∀ (u : SupplySt) c, (countReset u c).halt = u.halt := by
    intro u c; unfold countReset; split <;> rfl
  have hu : ∀ (u : SupplySt) b, (u.afterReset b).halt = u.halt := by
    intro u b; cases b <;> rfl
  unfold Live.reset
  dsimp only
  rw [hc]
  generalize keepsBanks k lv.su.aonHeld = keep
  obtain ⟨rc, m, h, hs⟩ := closed_restart lv false keep .inReset
  rw [h]
  cases k <;> first | rfl | exact hu ..

theorem reset_quiet (lv : Live) (k : ResetKind) : (lv.reset k).quiet = true :=
  quiet_of_default (reset_spec lv k).2.2.2.1 (reset_spec lv k).2.2.2.2.1

end Sys2Proof.Machine
end

