-- ==== Sys2Proof/Laws/Roles.lean ====
section
/-!
SUPPORT. Roles and the leash (R40 to R49): what giving a role, moving up, taking the leash and becoming a follower
change, said once each.
-/

namespace Sys2Proof.Machine

theorem fin_inj {x y : LaneId} (h : x ≠ y) : x.fin ≠ y.fin := by cases x <;> cases y <;> first | exact absurd rfl h | decide

theorem setRole_frame (lv : Live) (o : LaneId) (r : Role) : ∃ a b, lv.setRole o r =
    { lv with au := { lv.au with role := a, views := b } } := by
  unfold Live.setRole Live.modView
  split
  · exact ⟨_, lv.au.views, rfl⟩
  · exact ⟨lv.au.role, _, rfl⟩

/-- A lane's role after one lane was given a role. -/
theorem setRole_laneRole (lv : Live) (o x : LaneId) (r : Role) :
    (lv.setRole o r).laneRole x = if x = o then r else lv.laneRole x := by
  unfold Live.setRole Live.laneRole Live.modView
  by_cases ho : o = lv.me
  · rw [if_pos ho]
    by_cases hx : x = lv.me
    · rw [if_pos hx, if_pos (hx.trans ho.symm)]
    · have e : x ≠ o := fun h => hx (h.trans ho)
      rw [if_neg hx, if_neg e, if_neg hx]
  · rw [if_neg ho]
    by_cases hx : x = lv.me
    · have e : x ≠ o := fun h => ho (h ▸ hx)
      rw [if_pos hx, if_neg e, if_pos hx]
    · rw [if_neg hx]
      by_cases e : x = o
      · subst e; rw [if_pos rfl]
        show ((vmod lv.au.views x.fin _)[x.fin]).role = r
        rw [vmod_self]
      · rw [if_neg e, if_neg hx]
        show ((vmod lv.au.views o.fin _)[x.fin]).role = _
        rw [vmod_other _ _ _ _ (fin_inj (Ne.symm e))]

theorem closeRanks_frame (lv : Live) : ∃ a b, lv.closeRanks = { lv with au := { lv.au with role := a, views := b } } := by
  have step : ∀ (o : LaneId) (x : Live), (∃ a b, x = { lv with au := { lv.au with role := a, views := b } }) →
      ∃ a b, (if lv.laneRole o = .none then x else x.setRole o (Role.ofCode (lv.ahead o))) =
        { lv with au := { lv.au with role := a, views := b } } := by
    rintro o x ⟨a, b, rfl⟩
    split
    · exact ⟨a, b, rfl⟩
    · obtain ⟨a', b', h⟩ := setRole_frame { lv with au := { lv.au with role := a, views := b } } o
        (Role.ofCode (lv.ahead o))
      exact ⟨a', b', h⟩
  exact step .c _ (step .b _ (step .a _ ⟨lv.au.role, lv.au.views, rfl⟩))

/-- The roles after the ranks have closed (R42). -/
theorem closeRanks_laneRole (lv : Live) (x : LaneId) : lv.closeRanks.laneRole x =
    if lv.laneRole x = .none then .none else Role.ofCode (lv.ahead x) := by
  have step : ∀ (o : LaneId) (y : Live),
      (if lv.laneRole o = .none then y else y.setRole o (Role.ofCode (lv.ahead o))).laneRole x =
        if x = o ∧ lv.laneRole o ≠ .none then Role.ofCode (lv.ahead o) else y.laneRole x := by
    intro o y
    by_cases h : lv.laneRole o = .none
    · simp [h]
    · simp [h, setRole_laneRole]
  show (if lv.laneRole .c = .none then
      (if lv.laneRole .b = .none then
        (if lv.laneRole .a = .none then lv else lv.setRole .a (Role.ofCode (lv.ahead .a)))
        else (if lv.laneRole .a = .none then lv else lv.setRole .a (Role.ofCode (lv.ahead .a))).setRole .b
          (Role.ofCode (lv.ahead .b)))
      else (if lv.laneRole .b = .none then
        (if lv.laneRole .a = .none then lv else lv.setRole .a (Role.ofCode (lv.ahead .a)))
        else (if lv.laneRole .a = .none then lv else lv.setRole .a (Role.ofCode (lv.ahead .a))).setRole .b
          (Role.ofCode (lv.ahead .b))).setRole .c (Role.ofCode (lv.ahead .c))).laneRole x = _
  rw [step, step, step]
  cases x
  · by_cases h : lv.laneRole .a = .none <;> simp [h]
  · by_cases h : lv.laneRole .b = .none <;> simp [h]
  · by_cases h : lv.laneRole .c = .none <;> simp [h]

theorem takeLeash_frame (lv : Live) : ∃ a, lv.takeLeash = { lv with au := a } := by
  unfold Live.takeLeash
  split
  · exact ⟨lv.au, rfl⟩
  · exact ⟨_, rfl⟩

/-- Moving up changes lane authority alone (R42). -/
theorem moveUp_frame (lv : Live) : ∃ a, lv.moveUp = { lv with au := a } := by
  obtain ⟨a, b, h⟩ := closeRanks_frame lv
  unfold Live.moveUp
  dsimp only
  rw [h]
  split
  · obtain ⟨c, hc⟩ := takeLeash_frame { lv with au := { lv.au with role := a, views := b } }
    rw [hc]
    exact ⟨_, rfl⟩
  · exact ⟨_, rfl⟩

theorem me_role (lv : Live) : lv.laneRole lv.me = lv.au.role := by unfold Live.laneRole; rw [if_pos rfl]

/-- This lane's role after the roles have moved up (R42). -/
theorem moveUp_role (lv : Live) : lv.moveUp.au.role =
    if lv.au.role = .none then .none else Role.ofCode (lv.ahead lv.me) := by
  obtain ⟨a, b, h⟩ := closeRanks_frame lv
  have hr := closeRanks_laneRole lv lv.me
  have hm : lv.closeRanks.me = lv.me := by rw [h]
  rw [← hm, me_role, hm, me_role] at hr
  unfold Live.moveUp
  dsimp only
  split
  · rename_i hc
    have hl : lv.closeRanks.au.role = .lead := by simp at hc; exact hc.1.1
    rw [← hr, hl]
    unfold Live.takeLeash
    split
    · exact hl
    · rfl
  · exact hr

/-- A lane that moves up to Lead with a link up takes the leash with the next epoch (R42, R46). -/
theorem moveUp_lead (lv : Live) (h1 : lv.au.role ≠ .lead) (h2 : lv.au.role ≠ .none) (h3 : lv.ahead lv.me = 0)
    (h4 : lv.linkUp = true) (h5 : lv.au.holding = false) :
    lv.moveUp.au.role = .lead ∧ lv.moveUp.au.holding = true ∧ lv.moveUp.au.holder = some lv.me ∧
      lv.moveUp.au.epoch = lv.au.epoch + 1 ∧ lv.moveUp.au.takeovers = satInc lv.au.takeovers ∧
      lv.moveUp.au.views = lv.closeRanks.au.views := by
  have hr := moveUp_role lv
  rw [if_neg h2, h3] at hr
  obtain ⟨a, b, h⟩ := closeRanks_frame lv
  have hl : lv.closeRanks.au.role = .lead := by
    have := closeRanks_laneRole lv lv.me
    have hm : lv.closeRanks.me = lv.me := by rw [h]
    rw [← hm, me_role, hm, me_role, if_neg h2, h3] at this
    exact this
  have hu : lv.closeRanks.linkUp = true := by rw [h]; exact h4
  have hh : lv.closeRanks.au.holding = false := by rw [h]; exact h5
  have hc : (decide (lv.closeRanks.au.role = .lead) && lv.au.role != .lead && lv.closeRanks.linkUp) = true := by
    simp [hl, hu, h1]
  unfold Live.moveUp
  dsimp only
  rw [if_pos hc]
  unfold Live.takeLeash
  rw [if_neg (by simp [hh])]
  rw [h]
  exact ⟨rfl, rfl, rfl, rfl, rfl, rfl⟩

end Sys2Proof.Machine
end

