-- ==== Sys2Proof/Laws/State.lean ====
section
/-!
SUPPORT. The lanes of a state under the updates that every command is built from, and how a command of each form
completes.
-/

namespace Sys2Proof.Machine

@[simp] theorem setLane_lane (s : State) (l : LaneId) (n : Lane) : (s.setLane l n).lane l = n := by cases l <;> rfl
theorem setLane_other (s : State) (l o : LaneId) (n : Lane) (h : o ≠ l) : (s.setLane l n).lane o = s.lane o := by
  cases l <;> cases o <;> first | rfl | exact absurd rfl h
@[simp] theorem setLane_pending (s : State) (l : LaneId) (n : Lane) : (s.setLane l n).pending = s.pending := by
  cases l <;> rfl
@[simp] theorem setLane_serial (s : State) (l : LaneId) (n : Lane) : (s.setLane l n).serial = s.serial := by
  cases l <;> rfl
@[simp] theorem setLane_free (s : State) (l : LaneId) (n : Lane) : (s.setLane l n).free = s.free := by
  cases l <;> rfl

theorem setLane_sameOutside (s : State) (l : LaneId) (n : Lane) : s.sameOutside l (s.setLane l n) :=
  ⟨setLane_serial s l n, fun o h => setLane_other s l o n h⟩

@[simp] theorem onLane_lane (s : State) (l : LaneId) (f) : (onLane l f s).lane l = f (s.lane l) := setLane_lane ..
@[simp] theorem onLane_pending (s : State) (l : LaneId) (f) : (onLane l f s).pending = s.pending := setLane_pending ..
theorem onLane_sameOutside (s : State) (l : LaneId) (f) : s.sameOutside l (onLane l f s) := setLane_sameOutside ..

/-- A command that changes one lane completes with what it makes of that lane. -/
theorem runs_onLane {i : Instr} {l : LaneId} {s : State} {f : Lane → Lane} {P : Lane → Prop}
    (e : exec i s = .next (onLane l f s)) (h : P (f (s.lane l))) : Runs i l s P :=
  ⟨_, e, onLane_pending .., onLane_sameOutside .., by rw [onLane_lane]; exact h⟩

/-- A command on a lane's live state alone. -/
theorem runs_onLive {i : Instr} {l : LaneId} {s : State} {f : Live → Live} {P : Lane → Prop}
    (e : exec i s = .next (onLive l f s)) (h : P { s.lane l with live := f (s.lane l).live }) : Runs i l s P :=
  runs_onLane e h

/-- A command on a lane's live state that reads its storage and fuses. -/
theorem runs_onLiveR {i : Instr} {l : LaneId} {s : State} {f : NvStore → Otp → Live → Live} {P : Lane → Prop}
    (e : exec i s = .next (onLiveR l f s))
    (h : P { s.lane l with live := f (s.lane l).store (s.lane l).otp (s.lane l).live }) : Runs i l s P :=
  runs_onLane e h

/-- A command on a lane's live state and its storage. -/
theorem runs_onStore {i : Instr} {l : LaneId} {s : State} {f : Otp → Live × NvStore → Live × NvStore} {P : Lane → Prop}
    (e : exec i s = .next (onStore l f s))
    (h : P { s.lane l with live := (f (s.lane l).otp ((s.lane l).live, (s.lane l).store)).1,
                           store := (f (s.lane l).otp ((s.lane l).live, (s.lane l).store)).2 }) : Runs i l s P :=
  runs_onLane e h

/-- A command that also draws a free value. -/
theorem runs_onFree {i : Instr} {l : LaneId} {s : State} {f : Nat → Otp → Live × NvStore → Live × NvStore}
    {P : Lane → Prop} (e : exec i s = .next (onFree l f s))
    (h : P { s.lane l with live := (f s.free (s.lane l).otp ((s.lane l).live, (s.lane l).store)).1,
                           store := (f s.free (s.lane l).otp ((s.lane l).live, (s.lane l).store)).2 }) : Runs i l s P :=
  ⟨_, e, onLane_pending .., ⟨(onLane_sameOutside s l _).1, fun o ho => by
      have := (onLane_sameOutside s l (fun n => { n with
        live := (f s.free n.otp (n.live, n.store)).1, store := (f s.free n.otp (n.live, n.store)).2 })).2 o ho
      cases o <;> exact this⟩, by
    have := onLane_lane s l (fun n => { n with
        live := (f s.free n.otp (n.live, n.store)).1, store := (f s.free n.otp (n.live, n.store)).2 })
    cases l <;> (rw [← this] at h; exact h)⟩

/-- All that a command on a live state changes is that live state. -/
theorem runsTo_onLive {i : Instr} {l : LaneId} {s : State} {f g : Live → Live}
    (e : exec i s = .next (onLive l f s)) (h : f (s.lane l).live = g (s.lane l).live) : RunsTo i l s g :=
  runs_onLive e (by rw [h])

/-- A command on a live state whose steady part it makes `g`. -/
theorem runsEv_onLive {i : Instr} {l : LaneId} {s : State} {f g : Live → Live} {P : Live → Prop}
    (e : exec i s = .next (onLive l f s)) (h : (f (s.lane l).live).steady = (g (s.lane l).live).steady)
    (hp : P (f (s.lane l).live)) : RunsEv i l s g P :=
  runs_onLive e ⟨rfl, rfl, h, hp⟩

/-! ### Storage and fuses under each way to reach a lane -/

theorem onLive_store (l o : LaneId) (f) (s : State) : ((onLive l f s).lane o).store = (s.lane o).store := by
  cases l <;> cases o <;> rfl
theorem onLiveR_store (l o : LaneId) (f) (s : State) : ((onLiveR l f s).lane o).store = (s.lane o).store := by
  cases l <;> cases o <;> rfl
theorem onLive_otp (l o : LaneId) (f) (s : State) : ((onLive l f s).lane o).otp = (s.lane o).otp := by
  cases l <;> cases o <;> rfl
theorem onLiveR_otp (l o : LaneId) (f) (s : State) : ((onLiveR l f s).lane o).otp = (s.lane o).otp := by
  cases l <;> cases o <;> rfl
theorem onStore_otp (l o : LaneId) (f) (s : State) : ((onStore l f s).lane o).otp = (s.lane o).otp := by
  cases l <;> cases o <;> rfl
theorem onFree_otp (l o : LaneId) (f) (s : State) : ((onFree l f s).lane o).otp = (s.lane o).otp := by
  cases l <;> cases o <;> rfl

end Sys2Proof.Machine
end

