-- ==== Sys2Proof/Laws/Threads.lean ====
section
/-!
SUPPORT. What the hardware scheduler can do to the threads: placing threads on the cores changes where a thread runs and
its counts of dispatches and pre-emptions, and touches no thread that is neither ready nor on a core.
-/

namespace Sys2Proof.Machine

theorem thread_modThread (x : Live) (t : Fin 128) (f : ThreadSt → ThreadSt) : (x.modThread t f).thread t = f (x.thread t) :=
  NMap.read_write_self ..

theorem thread_modThread_ne (x : Live) (t u : Fin 128) (f : ThreadSt → ThreadSt) (h : u ≠ t) :
    (x.modThread t f).thread u = x.thread u :=
  NMap.read_write_other _ _ _ _ _ (fun e => h (Fin.ext e))

theorem thread_setCore (x : Live) (b : Bool) (o : Option (Fin 128)) (t : Fin 128) : (x.setCore b o).thread t = x.thread t := by
  cases b <;> rfl

theorem thread_modFlow (x : Live) (f : Fin 64) (g : FlowSt → FlowSt) (t : Fin 128) : (x.modFlow f g).thread t = x.thread t := rfl

theorem thread_unplace (x : Live) (t u : Fin 128) : (x.unplace t).thread u = x.thread u := by
  have h : (x.unplace t).sc.threads = x.sc.threads := by
    unfold Live.unplace
    by_cases h1 : x.sc.core2 = some t
    · by_cases h2 : (x.setCore false none).sc.core3 = some t
      · rw [if_pos h1]; dsimp only; rw [if_pos h2]; rfl
      · rw [if_pos h1]; dsimp only; rw [if_neg h2]; rfl
    · by_cases h2 : x.sc.core3 = some t
      · rw [if_neg h1]; dsimp only; rw [if_pos h2]; rfl
      · rw [if_neg h1]; dsimp only; rw [if_neg h2]
  unfold Live.thread; rw [h]

/-- A thread but for what placing it changes: where it runs, and its counts. -/
def ThreadSt.rest (q : ThreadSt) : ThreadSt := { q with run := .dormant, core3 := none, dispatches := 0, preempts := 0 }

/-- A thread is off the cores and in no ready list. -/
def Live.idleThread (x : Live) (t : Fin 128) : Prop := t ∉ x.sc.ready ∧ x.sc.core2 ≠ some t ∧ x.sc.core3 ≠ some t

/-- A thread is ready or runs. -/
def ThreadSt.placed (q : ThreadSt) : Prop := q.run = .ready ∨ ∃ b, q.run = .running b

/-- A thread after a core gave up what ran on it. -/
def Live.given (x : Live) (b : Bool) (t : Fin 128) : ThreadSt :=
  if x.onCore b = some t then { x.thread t with run := .ready, preempts := (x.thread t).preempts + 1 } else x.thread t

/-- A dispatch of `r`: the thread it pre-empts is ready, `r` runs, every other thread stands. -/
theorem dispatch_eq (x : Live) (r : Fin 128) (b : Bool) (t : Fin 128) :
    (x.dispatch r b).thread t = if t = r then
      { x.given b t with run := .running b, core3 := some b, dispatches := (x.given b t).dispatches + 1 }
      else x.given b t := by
  have hc : ∀ (y : Live), y.thread t = x.given b t →
      ((({ y with sc := { y.sc with ready := y.sc.ready.filter (fun x => x != r) } } : Live).modThread r
        (fun q => { q with run := .running b, core3 := some b, dispatches := q.dispatches + 1 })).setCore b
          (some r)).thread t
      = if t = r then
        { x.given b t with run := .running b, core3 := some b, dispatches := (x.given b t).dispatches + 1 }
        else x.given b t := by
    intro y e
    rw [thread_setCore, ← e]
    by_cases h : t = r
    · subst h; rw [thread_modThread, if_pos rfl]; rfl
    · rw [thread_modThread_ne _ _ _ _ h, if_neg h]; rfl
  unfold Live.dispatch
  cases e : x.onCore b with
  | none => exact hc x (by unfold Live.given; rw [e, if_neg nofun])
  | some p =>
    refine hc _ ?_
    unfold Live.given
    rw [e]
    by_cases h : t = p
    · subst h; rw [if_pos rfl]
      exact thread_modThread x t (fun q => { q with run := .ready, preempts := q.preempts + 1 })
    · rw [if_neg (fun k => h (Option.some.inj k).symm)]
      exact thread_modThread_ne x p t (fun q => { q with run := .ready, preempts := q.preempts + 1 }) h

/-- What a dispatch of `r` can do to a thread. -/
theorem dispatch_thread (x : Live) (r : Fin 128) (b : Bool) (t : Fin 128) :
    ((x.dispatch r b).thread t).rest = (x.thread t).rest ∧
    ((x.thread t).placed → ((x.dispatch r b).thread t).placed) ∧
    (t ≠ r → x.onCore b ≠ some t → (x.dispatch r b).thread t = x.thread t) := by
  rw [dispatch_eq]
  unfold Live.given
  by_cases h : t = r
  · rw [if_pos h]
    refine ⟨?_, fun _ => .inr ⟨_, rfl⟩, fun k => absurd h k⟩
    by_cases k : x.onCore b = some t
    · rw [if_pos k]; rfl
    · rw [if_neg k]; rfl
  · rw [if_neg h]
    by_cases k : x.onCore b = some t
    · rw [if_pos k]; exact ⟨rfl, fun _ => .inl rfl, fun _ n => absurd k n⟩
    · rw [if_neg k]; exact ⟨rfl, id, fun _ _ => rfl⟩

/-- The lists and cores after a dispatch of `r`: nothing but `r` and the pre-empted thread moves. -/
theorem dispatch_idle (x : Live) (r : Fin 128) (b : Bool) (t : Fin 128) (h : x.idleThread t) (hr : t ≠ r) :
    (x.dispatch r b).idleThread t := by
  obtain ⟨h1, h2, h3⟩ := h
  have hs : some r ≠ some t := fun e => hr (Option.some.inj e).symm
  unfold Live.dispatch Live.idleThread
  cases b
  · cases e : x.onCore false with
    | none =>
      refine ⟨?_, hs, h3⟩
      intro m; exact h1 (List.mem_filter.mp m).1
    | some p =>
      refine ⟨?_, hs, h3⟩
      intro m
      have m := (List.mem_filter.mp m).1
      rcases List.mem_cons.mp m with m | m
      · exact h2 (by rw [m]; exact e)
      · exact h1 m
  · cases e : x.onCore true with
    | none =>
      refine ⟨?_, h2, hs⟩
      intro m; exact h1 (List.mem_filter.mp m).1
    | some p =>
      refine ⟨?_, h2, hs⟩
      intro m
      have m := (List.mem_filter.mp m).1
      rcases List.mem_cons.mp m with m | m
      · exact h3 (by rw [m]; exact e)
      · exact h1 m

/-- The next thread to be placed is one of the ready list. -/
theorem nextReady_mem (x : Live) (t : Fin 128) (b : Bool) (h : x.nextReady = some (t, b)) : t ∈ x.sc.ready := by
  have key : ∀ (l : List (Fin 128)) (best : Option (Fin 128 × Bool)),
      l.foldl (fun best t => match x.pickCore t with
        | none => best
        | some c => match best with
          | none => some (t, c)
          | some (b, bc) => if x.threadPrio b < x.threadPrio t then some (t, c) else some (b, bc)) best = some (t, b) →
      t ∈ l ∨ best = some (t, b) := by
    intro l
    induction l with
    | nil => intro best h; exact .inr h
    | cons u l ih =>
      intro best h
      rw [List.foldl_cons] at h
      rcases ih _ h with h | h
      · exact .inl (List.mem_cons_of_mem _ h)
      · revert h
        cases x.pickCore u with
        | none => exact fun h => .inr h
        | some c =>
          cases best with
          | none => intro h; cases h; exact .inl List.mem_cons_self
          | some p =>
            obtain ⟨p, pc⟩ := p
            dsimp only
            split
            · intro h; cases h; exact .inl List.mem_cons_self
            · exact fun h => .inr h
  rcases key _ _ h with h | h
  · exact h
  · cases h

/-- Placing threads leaves the rest of every thread, keeps what is ready or running so, and does not touch a thread that
is neither in a ready list nor on a core. -/
theorem reschedule_thread (k : Nat) (x : Live) (t : Fin 128) :
    ((x.reschedule k).thread t).rest = (x.thread t).rest ∧
    ((x.thread t).placed → ((x.reschedule k).thread t).placed) ∧
    (x.idleThread t → (x.reschedule k).thread t = x.thread t ∧ (x.reschedule k).idleThread t) := by
  induction k generalizing x with
  | zero => exact ⟨rfl, id, fun h => ⟨rfl, h⟩⟩
  | succ k ih =>
    unfold Live.reschedule
    cases e : x.nextReady with
    | none => exact ⟨rfl, id, fun h => ⟨rfl, h⟩⟩
    | some p =>
      obtain ⟨r, b⟩ := p
      dsimp only
      obtain ⟨d1, d2, d4⟩ := dispatch_thread x r b t
      obtain ⟨i1, i2, i3⟩ := ih (x.dispatch r b)
      refine ⟨i1.trans d1, fun h => i2 (d2 h), fun h => ?_⟩
      have hr : t ≠ r := fun q => h.1 (q ▸ nextReady_mem x r b e)
      have hc : x.onCore b ≠ some t := by
        cases b
        · exact h.2.1
        · exact h.2.2
      have j := i3 (dispatch_idle x r b t h hr)
      exact ⟨j.1.trans (d4 hr hc), j.2⟩

theorem schedule_thread (x : Live) (t : Fin 128) :
    (x.schedule.thread t).rest = (x.thread t).rest ∧ ((x.thread t).placed → (x.schedule.thread t).placed) ∧
    (x.idleThread t → x.schedule.thread t = x.thread t ∧ x.schedule.idleThread t) := reschedule_thread 40 x t

/-- A thread taken off its core and its lists is idle. -/
theorem unplace_idle (x : Live) (t : Fin 128) : (x.unplace t).idleThread t := by
  have hf : ∀ l : List (Fin 128), t ∉ l.filter (fun x => x != t) := by
    intro l h; simpa using (List.mem_filter.mp h).2
  unfold Live.unplace Live.idleThread
  by_cases h1 : x.sc.core2 = some t
  · by_cases h2 : (x.setCore false none).sc.core3 = some t
    · rw [if_pos h1]; dsimp only; rw [if_pos h2]; exact ⟨hf _, nofun, nofun⟩
    · rw [if_pos h1]; dsimp only; rw [if_neg h2]; exact ⟨hf _, nofun, h2⟩
  · by_cases h2 : x.sc.core3 = some t
    · rw [if_neg h1]; dsimp only; rw [if_pos h2]; exact ⟨hf _, h1, nofun⟩
    · rw [if_neg h1]; dsimp only; rw [if_neg h2]; exact ⟨hf _, h1, h2⟩

/-- A thread made ready is ready or runs, and nothing else of it changes. -/
theorem makeReady_thread (x : Live) (t u : Fin 128) :
    ((x.makeReady t).thread u).rest = (x.thread u).rest ∧ ((x.makeReady t).thread t).placed := by
  unfold Live.makeReady
  obtain ⟨a1, _, _⟩ := schedule_thread ({ ((x.unplace t).modThread t (fun q => { q with run := .ready })) with
    sc := { ((x.unplace t).modThread t (fun q => { q with run := .ready })).sc with
      ready := ((x.unplace t).modThread t (fun q => { q with run := .ready })).sc.ready ++ [t] } }) u
  obtain ⟨_, b2, _⟩ := schedule_thread ({ ((x.unplace t).modThread t (fun q => { q with run := .ready })) with
    sc := { ((x.unplace t).modThread t (fun q => { q with run := .ready })).sc with
      ready := ((x.unplace t).modThread t (fun q => { q with run := .ready })).sc.ready ++ [t] } }) t
  refine ⟨a1.trans ?_, b2 (.inl ?_)⟩
  · have h : ((x.unplace t).modThread t (fun q => { q with run := .ready })).thread u =
        if u = t then { x.thread u with run := .ready } else x.thread u := by
      by_cases k : u = t
      · subst k; rw [if_pos rfl, thread_modThread, thread_unplace]
      · rw [if_neg k, thread_modThread_ne _ _ _ _ k, thread_unplace]
    refine (congrArg ThreadSt.rest h).trans ?_
    split <;> rfl
  · have e := congrArg ThreadSt.run (thread_modThread (x.unplace t) t (fun q => { q with run := .ready }))
    exact e

/-- A thread made to wait, waits; nothing else of it changes. -/
theorem makeWait_thread (x : Live) (t : Fin 128) (w : WaitFor) :
    (x.makeWait t w).thread t = { x.thread t with run := .waiting w } := by
  unfold Live.makeWait
  obtain ⟨_, _, h⟩ := schedule_thread ((x.unplace t).modThread t (fun q => { q with run := .waiting w })) t
  have i := unplace_idle x t
  rw [(h i).1, thread_modThread, thread_unplace]

end Sys2Proof.Machine
end

