-- ==== Sys2Proof/WellFormed.lean ====
section
/-!
DEFINITION. Well-formed commands: the operands that the outside world can deliver at all (the shapes of blocks and
frames, the position of an edge in its tick, numbers that the manual counts from 1). The meanings are total and do not
ask for it.
-/

namespace Sys2Proof

/-- A tick record has 4 analogue inputs, 16 currents, 8 angles and 8 setpoints (R25). -/
def TickRecord.wf (r : TickRecord) : Bool :=
  decide (r.ain.length = 4 ∧ r.idq.length = 16 ∧ r.angle.length = 8 ∧ r.auth.length = 8)

/-- A CAN frame carries at most 64 bytes, in CAN XL frames at most 2048, and a base identifier has 11 bits (R409, R411,
R463). -/
def CanFrame.wf (f : CanFrame) : Bool :=
  decide (f.data.length ≤ 2048) && (f.ext || decide (f.ident.toNat < 2048))

/-- A Jalsyn frame carries at most 1400 bytes and ends after it starts (R356). -/
def JalsynFrame.wf (f : JalsynFrame) : Bool := decide (f.payload.length ≤ 1400 ∧ f.start < f.stop)

/-- A SENT frame carries 1 to 6 data nibbles and ends after it starts (R257). -/
def SentFrame.wf (f : SentFrame) : Bool :=
  decide (1 ≤ f.nibbles.length ∧ f.nibbles.length ≤ 6 ∧ f.startPh < f.stopPh)

/-- A time since the tick start lies within the longest tick, 100 µs (R15). -/
def inTick (ph : Nat) : Bool := decide (ph < 40000)

/-- An expedited transfer announces the length of its data (R385, R392). -/
def sized (size : Nat) : Option (List Byte) → Bool
  | some bs => decide (bs.length = size)
  | none => true

/-- A request of the tunnel. -/
def UsdoReq.wf : UsdoReq → Bool
  | .downloadInit _ _ _ size data => sized size data
  | .downloadSeg _ _ _ | .uploadInit _ _ _ | .uploadSeg _ | .abort _ => true

/-- The operands of a command are such as the outside world can deliver. -/
def Instr.wf (i : Instr) : Bool :=
  match i with
  | .receiveTickRecord _ _ r _ => r.wf
  | .receiveMirrorBlock _ _ b _ => decide (b.words.length = 64)
  | .receiveJoinBlock _ _ b _ => decide (b.accs.length = 24)
  | .receiveDictionaryBlock _ _ b _ => decide (b.len.toNat ≤ 8)
  | .psetEdge _ _ _ ph _ => inTick ph
  | .phaseVoltageCrossing _ _ _ ph => inTick ph
  | .legEvent _ _ _ ph => inTick ph
  | .feedbackTransition _ _ _ ph => inTick ph
  | .sentFrameReceived _ _ f => f.wf
  | .bistComplete _ failed _ => !failed.getLsbD 15
  | .rotatingSelfTest _ n => decide (n ≠ 0)
  | .selfTestComplete _ n unit _ _ => decide (n ≠ 0 ∧ unit < 192)
  | .jalsynFrameReceived _ _ f => f.wf
  | .usdoDownloadInitiate _ _ _ _ _ size data => sized size data
  | .tunnelMessage _ req => req.wf
  | .canFrameReceived _ _ f => f.wf
  | .timTimeloRead _ _ ph => inTick ph
  | .clockMonitorTrip _ monitor => decide (monitor ≠ 0)
  | .wakeEvent _ kind _ => decide (kind ≠ 0)
  | .tapSamplePreload _ cells => cells.all (fun c => decide (c.toNat ≤ 3))
  | .tickStart .. | .sendTickRecord .. | .receiveChannelBlock .. | .tickMarkerReceived ..
  | .laneLinkLost .. | .loneListenEnd .. | .clearLinkCounters .. | .leaseExpiry ..
  | .heelSilentTakeover .. | .demoteVote .. | .demoteUnsupported .. | .mirrorDivergenceRepeat ..
  | .laneJoin .. | .startupEnd .. | .modeRequestStandby .. | .modeRequestRun ..
  | .modeRequestSafe .. | .standstillDetected .. | .descentLimitElapsed .. | .boostEnd ..
  | .engineWindow .. | .commitInstant .. | .itemDeadline .. | .slotEscalation ..
  | .appEntryStale .. | .followingError .. | .commandTimeout .. | .ainFaultTimeout ..
  | .psetTimeout .. | .notchEpochEnd .. | .clearPeaks .. | .sampleInstant ..
  | .carrierPeakSample .. | .backgroundConversion .. | .referenceCheck .. | .clearAcqFlags ..
  | .overcurrentTrip .. | .gateRailUndervoltage .. | .gateRailRecovery .. | .gateCheck ..
  | .bootstrapUndervoltage .. | .vdsTrip .. | .hardShortTrip .. | .retryWaitEnd ..
  | .linkConversion .. | .linkLowRecovery .. | .chopperFault .. | .ladderAsc ..
  | .ladderAscRelease .. | .clearPortCounters .. | .clearGateDriveCounters .. | .catchMeasurementEnd ..
  | .catchRepeat .. | .hfiPolarityDetect .. | .losLimitReached .. | .angleVoteDisagree ..
  | .controlledStopStandstill .. | .sniffStep1End .. | .sniffStep2End .. | .sniffTestResult ..
  | .sniffPostponeRepeat .. | .currentSumFault .. | .vsensFault .. | .cableTest ..
  | .cableDiagComplete .. | .canBusFault .. | .canBusFaultClear .. | .groundShift ..
  | .groundShiftRecovery .. | .clearWiringCounters .. | .encoderOutputFault .. | .encoderOutputRestore ..
  | .hallIllegalTimeout .. | .feedbackLevelFault .. | .levelfClear .. | .counterPreset ..
  | .clearFeedbackCounters .. | .sentBusLow .. | .sentTimeout .. | .clearSentCounters ..
  | .closePortWrite .. | .pairCloseTimeout .. | .clearPassCounters .. | .haltRestart ..
  | .kennelRelease .. | .clearHistory .. | .clearFirst .. | .injectArm ..
  | .injectionExpired .. | .bistStart .. | .referenceWindowCrossing .. | .safetyChannelOpen ..
  | .safetyChannelClosed .. | .tpoPulseStart .. | .tpoPulseEnd .. | .tpoOverload ..
  | .degradedTimerElapsed .. | .discrepancyTimeout .. | .darkPulseStart .. | .darkPulseEnd ..
  | .soutOffReadbackFault .. | .soutOvercurrent .. | .soutOpenLoad .. | .diagIntervalOverrun ..
  | .edmCheck .. | .soutUnlock .. | .safeDataTimeout .. | .clearCvuCounters ..
  | .clearSafeDataCounters .. | .referenceDisagreement .. | .acceptanceWindowEnd .. | .transmitRead ..
  | .transmitFrame .. | .sendReference .. | .cycleStart .. | .jalsynChannelLost ..
  | .jalsynChannelReturn .. | .phyLinkDown .. | .listenPeriodEnd .. | .launchDelayElapsed ..
  | .cyclePointEvent .. | .clearJalsynCounters .. | .usdoDownloadSegment .. | .usdoUploadInitiate ..
  | .usdoUploadSegment .. | .usdoAbort .. | .usdoTimeout .. | .dictionaryWrite ..
  | .replicationResend .. | .replicationFailed .. | .prepareDiscard .. | .heartbeat ..
  | .canBusOff .. | .canBusOffRecovery .. | .clearCanCounters .. | .clearServerCounters ..
  | .stageData .. | .configStage .. | .configVerify .. | .configCommit ..
  | .configRevert .. | .configCommandComplete .. | .loadData .. | .firmwareActivate ..
  | .firmwareStart .. | .firmwareConfirm .. | .keyProgram .. | .keyRevoke ..
  | .challengeRead .. | .sessionResponse .. | .sessionClose .. | .sessionExpiry ..
  | .authLockoutEnd .. | .attestChallenge .. | .attestRegenerate .. | .tamperDetected ..
  | .debugResponse .. | .logTrigger .. | .captureWritten .. | .trendRecord ..
  | .logbookErase .. | .eraseComplete .. | .readData .. | .schStart ..
  | .schStop .. | .schPrio .. | .schYield .. | .schWaitTick ..
  | .schWaitCycle .. | .schWaitDelay .. | .waitDelayExpiry .. | .threadFault ..
  | .flwPost .. | .flwTake .. | .flwDone .. | .canFrameTransmitted ..
  | .cvuFeed .. | .cvuFeedb .. | .cvuFinish .. | .cvuReset ..
  | .cvuCtrl .. | .cvuDeferredWrite .. | .jsnSel .. | .jsnMark ..
  | .sigEntryWrite .. | .flaRaise .. | .flaHsel .. | .lgcTrigger ..
  | .appRegisterWrite .. | .clearAppCounters .. | .oscillatorStartDelayEnd .. | .asyncDomainSwitch ..
  | .windowGateEnd .. | .clockWaitRecovery .. | .gatingAbandoned .. | .frequencyMeterStart ..
  | .frequencyMeterDone .. | .clearClockCounters .. | .powerOnRelease .. | .brownOut ..
  | .overvoltageProtection .. | .ovpReclose .. | .vbatWindowCrossing .. | .vbatFlagClear ..
  | .externalReset .. | .watchdogExpiry .. | .crossLaneResetRequest .. | .laneReset ..
  | .crossReset .. | .clearSupplyCounters .. | .powerRequestRun .. | .powerRequestIdle ..
  | .powerRequestSleep .. | .powerRequestDeep .. | .readySymbolReceived .. | .powerEntryAbandon ..
  | .wakeTimerExpiry .. | .tapBypass .. | .tapIdcode .. | .tapExtest ..
  | .tapClamp .. | .tapHighz .. | .tapReset .. | .dieHot ..
  | .dieHotClear .. | .externalResetRelease .. | .aonRailDrop .. | .reversePolarityFlag ..
  | .phyLinkUp .. | .bootstrapHighCrossing .. => true

end Sys2Proof
end

