-- ==== Sys2Proof/Tests/Slice0.lean ====
section
/-!
SUPPORT. The witnesses that the hypotheses of the statements can be met together, and small tests of single commands.
-/

namespace Sys2Proof.Tests

open Sys2Proof Sys2Proof.Machine

set_option Elab.async false

/-! ### States for the witnesses -/

/-- The reset state with lane A's live state changed. -/
def on (f : Live → Live) : State := onLive .a f State.reset

def ph (p : Phase) (x : Live) : Live := { x with phase := p }
def au (f : AuthSt → AuthSt) (x : Live) : Live := { x with au := f x.au }
def tk (f : TickSt → TickSt) (x : Live) : Live := { x with tk := f x.tk }
def en (f : EngineSt → EngineSt) (x : Live) : Live := { x with en := f x.en }
def fc (f : FieldSt → FieldSt) (x : Live) : Live := { x with fc := f x.fc }
def aq (f : AcqSt → AcqSt) (x : Live) : Live := { x with aq := f x.aq }
def gd (f : GateSt → GateSt) (x : Live) : Live := { x with gd := f x.gd }
def wi (f : WiringSt → WiringSt) (x : Live) : Live := { x with wi := f x.wi }
def fb (f : FeedbackSt → FeedbackSt) (x : Live) : Live := { x with fb := f x.fb }
def ps (f : PassSt → PassSt) (x : Live) : Live := { x with ps := f x.ps }
def fl (f : FaultSt → FaultSt) (x : Live) : Live := { x with fl := f x.fl }
def sf (f : SafetySt → SafetySt) (x : Live) : Live := { x with sf := f x.sf }
def jn (f : NetSt → NetSt) (x : Live) : Live := { x with jn := f x.jn }
def di (f : DictSt → DictSt) (x : Live) : Live := { x with di := f x.di }
def im (f : ImageSt → ImageSt) (x : Live) : Live := { x with im := f x.im }
def sc (f : SchedSt → SchedSt) (x : Live) : Live := { x with sc := f x.sc }
def ck (f : ClockSt → ClockSt) (x : Live) : Live := { x with ck := f x.ck }
def su (f : SupplySt → SupplySt) (x : Live) : Live := { x with su := f x.su }

/-- A device mode applied, with a valid renewed Lead record. -/
def md (m : Mode) (x : Live) : Live := { x with au := { x.au with mode := m, ownMode := m, gap := false } }

/-- A configured `IMG` value of instance `i`. -/
def put (o : Obj) (i n : Nat) (x : Live) : Live := { x with cfg := x.cfg.insert (o.key i 0) (leBytes o.ty.size n) }

/-- A configured `IMG` value at sub-index `k`. -/
def putk (o : Obj) (k n : Nat) (x : Live) : Live := { x with cfg := x.cfg.insert (o.key 0 k) (leBytes o.ty.size n) }

/-- An `RC` value in effect. -/
def putRc (o : Obj) (i n : Nat) (x : Live) : Live := { x with rc := x.rc.insert (o.key i 0) (leBytes o.ty.size n) }

/-- A written `RW` value. -/
def putRw (o : Obj) (i n : Nat) (x : Live) : Live :=
  { x with di := { x.di with rw := x.di.rw.insert (o.key i 0) (leBytes o.ty.size n) } }

/-- A service session on `CAN0`. -/
def ses (x : Live) : Live := { x with im := { x.im with session := some (.can 0, 0, 0, 0) } }

/-- The state of the winding on `MP0`. -/
def ws (w : WState) (x : Live) : Live := x.modWind 0 (fun q => { q with ws := w })

/-- Motor port `MP0` of lane A is bound to drive group 0. -/
def bound (x : Live) : Live := put Obj.groupPortA 0 0 x

/-- Changes of port 0, leg 0 and group 0. -/
def port (f : PortSt → PortSt) (x : Live) : Live := x.modPort 0 f
def leg (f : LegSt → LegSt) (x : Live) : Live := x.modLeg 0 f
def group (f : GroupSt → GroupSt) (x : Live) : Live := x.modGroup 0 f
def wnd (f : WindingSt → WindingSt) (x : Live) : Live := x.modWind 0 f
def rx (f : LinkRx → LinkRx) (x : Live) : Live := x.modRx .fwd f

/-- A tick record of lane B in tick 0, and one as sent, with its CRC. -/
def rec0 : TickRecord :=
  { sender := .b, role := .heel, devmode := 1, leash := 0, tick := 0, health := 0, din := 0, ain := [0, 0, 0, 0], psetv := 0,
    idq := List.replicate 16 0, angle := List.replicate 8 0, auth := List.replicate 8 0, sfstate := 0, mirhdr := 0,
    tickhi := 0, crc := 0 }
def recOk (r : TickRecord) : TickRecord := { r with crc := crc32c r.body }

theorem recOk_crc (r : TickRecord) : (recOk r).crc = crc32c (recOk r).body := rfl

/-- A record whose CRC is wrong. -/
def recBad (r : TickRecord) : TickRecord := { r with crc := crc32c r.body + 1 }
theorem recBad_crc (r : TickRecord) : (recBad r).crc ≠ crc32c (recBad r).body := by
  intro h
  have e : crc32c r.body + 1 = crc32c r.body := h
  bv_omega

/-- The other blocks of a tick, with their CRC. -/
def chanOk (sinv : Word) : ChannelBlock :=
  { tick := 0, sinv := sinv, sdv := 0, crc := crc32c (ChannelBlock.body { tick := 0, sinv := sinv, sdv := 0, crc := 0 }) }
theorem chanOk_crc (w : Word) : (chanOk w).crc = crc32c (chanOk w).body := rfl
def mirOk (ws : List Word) : MirrorBlock :=
  { words := ws, crc := crc32c (MirrorBlock.body { words := ws, crc := 0 }) }
theorem mirOk_crc (ws : List Word) : (mirOk ws).crc = crc32c (mirOk ws).body := rfl
def joinOk (as : List Long) : JoinBlock :=
  { accs := as, crc := crc32c (JoinBlock.body { accs := as, crc := 0 }) }
theorem joinOk_crc (as : List Long) : (joinOk as).crc = crc32c (joinOk as).body := rfl
def dict0 : DictBlock :=
  { tick := 0, kind := .empty, seq := 0, origin := .b, len := 0, index := 0, sub := 0, arg := 0, value := 0, crc := 0 }
def dictOk (b : DictBlock) : DictBlock := { b with crc := crc32c b.body }
theorem dictOk_crc (b : DictBlock) : (dictOk b).crc = crc32c (dictOk b).body := rfl

/-- The view of the lane at the far end of the forward link. -/
def view (o : LaneId) (f : LaneView → LaneView) (x : Live) : Live := x.modView o f

/-- Sniff readings: no voltage, all phases driven, one phase driven. -/
def sniffA : SniffReading := { u := 0, v := 0, w := 0, others := [] }
def sniffB : SniffReading := { u := F32.ofNat 10, v := F32.ofNat 10, w := F32.ofNat 10, others := [] }
def sniffC : SniffReading := { u := F32.ofNat 10, v := 0, w := 0, others := [] }

/-- The reset state with lane A's live state and managed storage changed. -/
def onSt (g : NvStore → NvStore) (f : Live → Live) : State :=
  onLane .a (fun n => { n with live := f n.live, store := g n.store }) State.reset

/-- The reset state with lane A's live state and fuses changed. -/
def onOtp (g : Otp → Otp) (f : Live → Live) : State :=
  onLane .a (fun n => { n with live := f n.live, otp := g n.otp }) State.reset

/-- Lane A joined, in STANDBY, with a service session. -/
def serviced (x : Live) : Live := ses (md .standby (ph .joined x))

/-- Conversions of a sample instant with the current codes given. -/
def smp (u v w : Code) : Sample :=
  { iu := { code := u }, iv := { code := v }, iw := { code := w }, link := { code := 8738 }, phases := (0, 0, 0),
    sin := { code := 0 }, cos := { code := 0 } }

/-- Levels of a feedback port. -/
def lines (a b i : Bool) (h : BitVec 3) : FbLines := { a := a, b := b, i := i, h := h }

/-- A SENT frame of one nibble. -/
def sent (crcOk : Bool) : SentFrame :=
  { tick := 3000, status := 0, nibbles := [(12 * 64, 0)], crcOk := crcOk, slow := none, startPh := 0, stopPh := 1 }

/-- Slot `k` of the engine changed. -/
def slot (k : Nat) (f : SlotSt → SlotSt) (x : Live) : Live := x.modSlot k f

/-- A capture of no samples. -/
def cap0 : Capture :=
  { time := 0, tick := 0, source := 0, trunc := false, pre := 0, post := 0, left := 0, age := 0, divider := 1, signals := [],
    samples := [], fatal := false }

/-- The first bytes of an image of version 1. -/
def image1 : List Byte := List.replicate 0x14 0 ++ [1]

/-- A `DOMAIN` of the configuration. -/
def dom (o : Obj) (bs : List Byte) (x : Live) : Live := { x with cfg := x.cfg.insert (o.key 0 0) bs }

/-- One schedule entry at 10 µs with slot 7, buffer 5, guard 10 and the flags given, in every cycle; and a schedule of it. -/
def schedEntry (flags : Byte) : List Byte :=
  leBytes 4 1000 ++ leBytes 2 100 ++ leBytes 2 7 ++ leBytes 2 5 ++ [10, flags, 0, 1] ++ leBytes 2 46
def sched (flags : Byte) (x : Live) : Live := dom Obj.scheduleTable (schedEntry flags) x

/-- Joined with the Jalsyn ports on. -/
def net (x : Live) : Live := jn (fun y => { y with portsOff := false }) (ph .joined x)

/-- A frame of slot 7 in the window of `schedEntry`. -/
def frame : JalsynFrame :=
  { fcsOk := true, headerOk := true, cycle := 0, slot := 7, node := 9, ref := false, launch := false, event := false,
    payload := [1, 2, 3, 4], start := 1000, stop := 1050, gstart := 0 }

/-- A reference frame of cycle `n`, whose fields are 0 but for the cycle length given in 10 ns units. -/
def refFrame (n : Half) (len : Nat) : JalsynFrame :=
  { frame with slot := 0, ref := true, cycle := n,
               payload := leBytes 8 (n.toNat * len * 10) ++ leBytes 4 0 ++ leBytes 4 len ++ List.replicate 8 0 }
def refOf (n : Half) (len : Nat) : RefFrame :=
  { cycleStart := BitVec.ofNat 64 (n.toNat * len * 10), txOffset := 0, cycleLen := BitVec.ofNat 32 len, schedId := 0, rank := 0,
    node := 9, cycle := n, launch := false, start := 0 }

/-- Joined with `CAN0` error active. -/
def canUp (x : Live) : Live := di (fun y => { y with can := Vector.replicate 4 { errState := 0 } }) (ph .joined x)

/-- An open session on `CAN0`, session 1, for `WakeTimer`. -/
def usdo (upload : Bool) (data : List Byte) : UsdoSession :=
  { path := .can 0, sid := 1, index := 0x5040, sub := 7, upload := upload, data := data, size := 4, last := 0 }
def withUsdo (upload : Bool) (data : List Byte) (x : Live) : Live :=
  di (fun y => { y with sessions := [usdo upload data] }) (canUp x)

/-- A replication that lane B has not yet accepted. -/
def repl (resent : Bool) : Replication :=
  { seq := 0, index := 0x5000, sub := 1, len := 1, value := 0, path := .can 0, sid := 1, sentAt := 0, resent := resent,
    accepts := [], applyAt := none }
def replOpen (resent : Bool) (x : Live) : Live :=
  di (fun y => { y with open' := some (repl resent) }) (view .b (fun v => { v with joined := true }) (ph .joined x))

/-- An item and a CAN frame of no content. -/
def item0 : Item := { tag := 0, info := 0, data := [] }

/-- Thread 128 runs on core 2, and threads 128 to 130 are configured without a partner. -/
def runs (x : Live) : Live :=
  dom Obj.appThreads (List.replicate 3 (List.replicate 11 (0 : Byte) ++ [255, 0, 0, 0, 0])).flatten
    (sc (fun y => { y with threads := [(0, { run := .running false })], core2 := some 0 }) (ph .joined x))
def th (f : ThreadSt → ThreadSt) (x : Live) : Live := x.modThread 0 f

/-- Every application flow holds up to `n` items; flow 16 changed. -/
def depth (n : Byte) (x : Live) : Live := dom Obj.flowDepth (List.replicate 64 n) x
def flow (f : FlowSt → FlowSt) (x : Live) : Live := x.modFlow 16 f

/-- An event record. -/
def event0 : EventRec := { time := 0, tick := 0, src := 0, mode := 0, role := 0, syn := 0, unit := 0, seq := 0, at' := 0 }
def lane0 : Live := State.reset.a.live

/-- A lane whose history is full, one whose first record is taken, one whose last record coalesces the next. -/
def fullLane : Live := fl (fun y => { y with history := List.replicate 32 event0 }) lane0
def firstLane : Live := fl (fun y => { y with first := some event0 }) lane0
def cutLane : Live := fl (fun y => { y with history := [{ event0 with src := 1 }] }) lane0

/-- With flow 16 alone in use, no other flow serves. -/
theorem idle_flows (x : Live) (it : Item) (n : Fin 4) (h : x.sc.flows = [(16, { serving := some (.port n, it) })]) :
    ∀ g : Fin 64, ∀ j : Item, g ≠ 16 → (x.flow g).serving ≠ some (.port n, j) := by
  intro g j hg
  have e : (16 : Nat) ≠ g.val := fun k => hg (Fin.ext k.symm)
  simp [Live.flow, h, NMap.read, NMap.find, e]

/-- Without a flow in use, no flow serves. -/
theorem no_service (x : Live) (n : Fin 4) (h : x.sc.flows = []) :
    ∀ f : Fin 64, ∀ it : Item, (x.flow f).serving ≠ some (.port n, it) := by
  intro f it
  simp [Live.flow, h, NMap.read, NMap.find]

/-! ### Witnesses -/

/-- `Obligations.ClockMonitorForcesOutputs`. -/
theorem witness_ClockMonitorForcesOutputs :
    (∃ (l : LaneId) (m : Fin 8) (s : State), (s.lane l).live.clocked = true ∧ (m.val ∈ [1, 3, 5, 6] ∨ (m.val = 2 ∧
      (s.lane l).live.ck.outside = true))) ∧
    (∃ (l : LaneId) (s : State), (s.lane l).live.clocked = true) ∧
    (∃ (l : LaneId) (_dev : Int) (s : State), (s.lane l).live.clocked = true ∧ (s.lane l).live.ck.clkWait = true) ∧
    (∃ (l : LaneId) (s : State), (s.lane l).live.phase = .clockWait ∧ 100 ≤ (s.lane l).live.ck.good ∧ (s.lane
      l).live.ck.healthy = true ∧ (s.lane l).live.mayRejoin = true) :=
  ⟨
    ⟨.a, 1, on (fun x => x |> ph .joined), by decide +kernel⟩,
    ⟨.a, on (fun x => x |> ph .joined), by decide +kernel⟩,
    ⟨.a, -1000000, on (fun x => x |> ph .joined |> ck (fun y => { y with clkWait := true })), by decide +kernel⟩,
    ⟨.a, on (fun x => x |> ph .clockWait |> ck (fun y =>
      { y with good := 100, xtal := true, rc40 := true, plla := true, pllb := true, devNow := 3000 })),
      by decide +kernel⟩⟩

/-- `Obligations.ClockDomainsAndMeter`. -/
theorem witness_ClockDomainsAndMeter :
    (∃ (l : LaneId) (d : Fin 8) (s : State), (s.lane l).live.clocked = true ∧ d.val ≠ 5 ∧ (s.lane
      l).live.ck.sourceLost d.val = true) ∧
    (∃ (l : LaneId) (_d : Fin 8) (s : State), (s.lane l).live.awake = true ∧ (s.lane l).live.su.entry = none) ∧
    (∃ (l : LaneId) (s : State), (s.lane l).live.phase = .startDelay ∧ (s.lane l).live.su.fromSleep = false) ∧
    (∃ (l : LaneId) (s : State), (s.lane l).live.writes = true ∧ (s.lane l).live.ck.meter.state ≠ 1) ∧
    (∃ (l : LaneId) (_count : Word) (s : State), (s.lane l).live.ck.meter.state = 1) ∧
    (∃ (l : LaneId) (s : State), (s.lane l).live.writes = true) :=
  ⟨
    ⟨.a, 7, on (fun x => x |> ph .joined), by decide +kernel⟩,
    ⟨.a, 0, on (fun x => x |> ph .joined), by decide +kernel⟩,
    ⟨.a, on (fun x => x |> ph .startDelay), by decide +kernel⟩,
    ⟨.a, on (fun x => x |> ph .joined), by decide +kernel⟩,
    ⟨.a, 4294967295, on (fun x => x |> ph .joined |> ck (fun y => { y with meter := { state := 1 } })),
      by decide +kernel⟩,
    ⟨.a, on (fun x => x |> ph .joined), by decide +kernel⟩⟩

/-- `Obligations.TestPortInstructions`. -/
theorem witness_TestPortInstructions :
    (∃ (l : LaneId) (s : State), (s.lane l).live.phase ≠ .off) ∧
    (∃ (l : LaneId) (_cells : List Byte) (s : State), (s.lane l).live.phase ≠ .off) :=
  ⟨
    ⟨.a, on (fun x => x |> ph .joined), by decide +kernel⟩,
    ⟨.a, [1, 2], on (fun x => x |> ph .joined), by decide +kernel⟩⟩

/-- `Obligations.TestPortLeavesOutputsAlone`. -/
theorem witness_TestPortLeavesOutputsAlone :
    (∃ (l : LaneId) (s : State), (s.lane l).live.phase ≠ .off ∧ (s.lane l).live.su.rstn = true) ∧
    (∃ (l : LaneId) (s : State), (s.lane l).live.phase ≠ .off ∧ (s.lane l).live.su.rstn = false) :=
  ⟨
    ⟨.a, on (fun x => x |> ph .joined |> su (fun y => { y with rstn := true })), by decide +kernel⟩,
    ⟨.a, on (fun x => x |> ph .joined), by decide +kernel⟩⟩

/-- `Obligations.DieTemperatureFlag`. -/
theorem witness_DieTemperatureFlag :
    (∃ (l : LaneId) (t : F32) (s : State), (s.lane l).live.awake = true ∧ F32.gt t (F32.ofNat 145) = true) ∧
    (∃ (l : LaneId) (t : F32) (s : State), (s.lane l).live.awake = true ∧ F32.lt t (F32.ofNat 135) = true) :=
  ⟨
    ⟨.a, F32.ofNat 146, on (fun x => x |> ph .joined), by decide +kernel⟩,
    ⟨.a, F32.ofNat 134, on (fun x => x |> ph .joined), by decide +kernel⟩⟩

/-- `Obligations.ResetsLeaveTheLaneInReset`. -/
theorem witness_ResetsLeaveTheLaneInReset :
    (∃ (l : LaneId) (_osc _idm : Half) (_ext : Bool) (s : State), (s.lane l).live.phase = .off ∧ (s.lane
      l).live.su.rstn = false) ∧
    (∃ (l : LaneId) (s : State), (s.lane l).live.phase ≠ .off ∧ (s.lane l).live.su.brownout = false) ∧
    (∃ (l : LaneId) (s : State), (s.lane l).live.phase ≠ .off ∧ (s.lane l).live.phase ≠ .inReset) ∧
    (∃ (l : LaneId) (s : State), (s.lane l).live.su.rstn = true ∧ (s.lane l).live.phase = .inReset ∧ (s.lane
      l).live.su.brownout = false) ∧
    (∃ (l : LaneId) (t : Nat) (s : State), (s.lane l).live.su.wdAt = some t ∧ (s.lane l).live.firmware = true) ∧
    (∃ (l : LaneId) (s : State), (s.lane l).live.phase ∈ [.startDelay, .stagger, .bist, .boot, .loaded, .joined,
      .withdrawn, .clockWait] ∧ (s.lane l).live.su.halt = false) ∧
    (∃ (l : LaneId) (path : Path) (s : State), (s.lane l).live.writes = true ∧ (s.lane l).live.su.halt = false ∧
      (s.lane l).live.standby = true ∧ (s.lane l).live.sessionOn path = true) :=
  ⟨
    ⟨.a, 0, 0, false, on (fun x => x |> ph .off), by decide +kernel⟩,
    ⟨.a, on (fun x => x |> ph .joined |> su (fun y => { y with brownout := false })), by decide +kernel⟩,
    ⟨.a, on (fun x => x |> ph .joined), by decide +kernel⟩,
    ⟨.a, on (fun x => x |> ph .inReset |> su (fun y => { y with rstn := true, brownout := false })),
      by decide +kernel⟩,
    ⟨.a, 0, on (fun x => x |> ph .joined |> su (fun y => { y with wdAt := some 0 })), by decide +kernel⟩,
    ⟨.a, on (fun x => x |> ph .boot), by decide +kernel⟩,
    ⟨.a, .can 0, on (fun x => x |> ph .joined |> md .standby |> ses), by decide +kernel⟩⟩

/-- `Obligations.SupplyFlagsAndCells`. -/
theorem witness_SupplyFlagsAndCells :
    (∃ (l : LaneId) (s : State), (s.lane l).live.phase = .off) ∧
    (∃ (l : LaneId) (_high : Bool) (_mv : Nat) (s : State), (s.lane l).live.awake = true) ∧
    (∃ (l o : LaneId) (path : Path) (s : State), (s.lane l).live.me = l ∧ o ≠ l ∧ (s.lane l).live.writes = true ∧
      (s.lane l).live.standby = true ∧ (s.lane l).live.sessionOn path = true) ∧
    (∃ (l : LaneId) (s : State), (s.lane l).live.writes = true) :=
  ⟨
    ⟨.a, on (fun x => x |> ph .off), by decide +kernel⟩,
    ⟨.a, true, 60000, on (fun x => x |> ph .joined), by decide +kernel⟩,
    ⟨.a, .b, .can 0, on (fun x => x |> ph .joined |> md .standby |> ses), by decide +kernel⟩,
    ⟨.a, on (fun x => x |> ph .joined), by decide +kernel⟩⟩

/-- `Obligations.PowerStatesAndWake`. -/
theorem witness_PowerStatesAndWake :
    (∃ (l : LaneId) (s : State), (s.lane l).live.phase = .joined ∧ (s.lane l).live.powerGuard = true ∧ (s.lane
      l).live.su.idle = true) ∧
    (∃ (l : LaneId) (s : State), (s.lane l).live.phase = .joined ∧ (s.lane l).live.powerGuard = true ∧ (s.lane
      l).live.su.idle = false) ∧
    (∃ (l : LaneId) (s : State), (s.lane l).live.phase = .joined) ∧
    (∃ (l : LaneId) (e : Entry) (s : State), (s.lane l).live.su.entry = some e ∧ e.apply + (s.lane
      l).live.entryTicks ≤ (s.lane l).live.tk.count.toNat ∧ (s.lane l).live.en.running = true) ∧
    (∃ (l : LaneId) (kind : Fin 7) (detail : Fin 16) (s : State), (s.lane l).live.wakeEnabled kind.val detail.val =
      true ∧ (s.lane l).live.phase ∈ [.sleep, .deep]) ∧
    (∃ (l : LaneId) (s : State), (s.lane l).live.wakeEnabled 3 0 = true ∧ (s.lane l).live.phase ∈ [.sleep, .deep] ∧
      (s.lane l).live.rwNum Obj.wakeTimer ≠ 0) :=
  ⟨
    ⟨.a, on (fun x => x |> ph .joined |> md .standby |> put Obj.parkingEntry 0 65535 |> au (fun y =>
      { y with standstill := true }) |> su (fun y => { y with idle := true })), by decide +kernel⟩,
    ⟨.a, on (fun x => x |> ph .joined |> md .standby |> put Obj.parkingEntry 0 65535 |> au (fun y =>
      { y with standstill := true })), by decide +kernel⟩,
    ⟨.a, on (fun x => x |> ph .joined), by decide +kernel⟩,
    ⟨.a, { deep := false, apply := 0 }, on (fun x => x |> ph .joined |> tk (fun y => { y with count := 100000 }) |>
      su (fun y => { y with entry := some { deep := false, apply := 0 } }) |> en (fun y =>
      { y with running := true })), by decide +kernel⟩,
    ⟨.a, 2, 0, on (fun x => x |> ph .deep |> put Obj.wakeEnable 0 16), by decide +kernel⟩,
    ⟨.a, on (fun x => x |> ph .sleep |> put Obj.wakeEnable 0 32 |> putRw Obj.wakeTimer 0 10), by decide +kernel⟩⟩

/-- `Obligations.TickRecordSent`. -/
theorem witness_TickRecordSent :
    (∃ (l : LaneId) (s : State), (s.lane l).live.phase = .joined ∧ (s.lane l).live.au.sentTick ≠ some (s.lane
      l).live.tk.count) ∧
    (∃ (l : LaneId) (s : State), (s.lane l).live.au.sentTick = some (s.lane l).live.tk.count) :=
  ⟨
    ⟨.a, on (fun x => x |> ph .joined), by decide +kernel⟩,
    ⟨.a, on (fun x => x |> ph .joined |> au (fun y => { y with sentTick := some 0 })), by decide +kernel⟩⟩

/-- `Obligations.LinkBlocksCheckedAndCounted`. -/
theorem witness_LinkBlocksCheckedAndCounted :
    (∃ (l : LaneId) (d : LinkDir) (r : TickRecord) (s : State), (s.lane l).live.phase = .joined ∧ (s.lane
      l).live.fl.armed = none ∧ ((s.lane l).live.rx d).inService = true ∧ ((s.lane l).live.rx d).lost = false ∧
      r.crc = crc32c r.body ∧ r.tick = (s.lane l).live.tk.count.setWidth 32) ∧
    (∃ (l : LaneId) (_d : LinkDir) (r : TickRecord) (s : State), (s.lane l).live.phase ∈ [.joined, .loaded] ∧
      (s.lane l).live.fl.armed = none ∧ r.crc ≠ crc32c r.body) ∧
    (∃ (l : LaneId) (_d : LinkDir) (r : TickRecord) (s : State), (s.lane l).live.phase = .joined ∧ (s.lane
      l).live.fl.armed = none ∧ r.crc = crc32c r.body ∧ r.tick ≠ (s.lane l).live.tk.count.setWidth 32) ∧
    (∃ (l : LaneId) (d : LinkDir) (b : ChannelBlock) (s : State), (s.lane l).live.phase ∈ [.joined, .loaded] ∧
      (s.lane l).live.fl.armed = none ∧ ((s.lane l).live.rx d).lost = false ∧ b.crc = crc32c b.body ∧ b.tick =
      (s.lane l).live.tk.count.setWidth 32) ∧
    (∃ (l : LaneId) (d : LinkDir) (b : DictBlock) (s : State), (s.lane l).live.phase ∈ [.joined, .loaded] ∧ (s.lane
      l).live.fl.armed = none ∧ ((s.lane l).live.rx d).lost = false ∧ b.crc = crc32c b.body ∧ b.tick = (s.lane
      l).live.tk.count.setWidth 32) ∧
    (∃ (l : LaneId) (d : LinkDir) (b : MirrorBlock) (s : State), (s.lane l).live.phase ∈ [.joined, .loaded] ∧
      (s.lane l).live.fl.armed = none ∧ ((s.lane l).live.rx d).got.isSome = true ∧
      ((s.lane l).live.rx d).lost = false ∧ b.crc = crc32c b.body ∧ (s.lane l).live.au.role ≠ .heel) ∧
    (∃ (l : LaneId) (d : LinkDir) (b : MirrorBlock) (s : State), (s.lane l).live.phase = .joined ∧ (s.lane
      l).live.fl.armed = none ∧ ((s.lane l).live.rx d).got.isSome = true ∧ ((s.lane l).live.rx d).lost = false ∧
      b.crc = crc32c b.body ∧ (s.lane l).live.au.role = .heel ∧ (s.lane l).live.au.follower = false ∧ (s.lane l).live.au.holder = some ((s.lane
      l).live.me.peer d) ∧ (s.lane l).live.au.sentTick = some (s.lane l).live.tk.count ∧ (s.lane l).live.au.mirFirst
      = true) ∧
    (∃ (l : LaneId) (d : LinkDir) (b : JoinBlock) (s : State), (s.lane l).live.phase ∈ [.joined, .loaded] ∧ (s.lane
      l).live.fl.armed = none ∧ ((s.lane l).live.rx d).got.isSome = true ∧ ((s.lane l).live.rx d).lost = false ∧
      ((s.lane l).live.rx d).join = none ∧ b.crc = crc32c b.body) :=
  ⟨
    ⟨.a, .fwd, recOk rec0, on (fun x => x |> ph .joined |> rx (fun y => { y with inService := true })),
      ⟨by decide +kernel, by decide +kernel, by decide +kernel, by decide +kernel, recOk_crc _, by decide +kernel⟩⟩,
    ⟨.a, .fwd, recBad rec0, on (fun x => x |> ph .joined), ⟨by decide +kernel, by decide +kernel, recBad_crc _⟩⟩,
    ⟨.a, .fwd, recOk rec0, on (fun x => x |> ph .joined |> tk (fun y => { y with count := 1 })), ⟨by decide +kernel,
      by decide +kernel, recOk_crc _, by decide +kernel⟩⟩,
    ⟨.a, .fwd, chanOk 0, on (fun x => x |> ph .joined), ⟨by decide +kernel, by decide +kernel, by decide +kernel,
      chanOk_crc _, by decide +kernel⟩⟩,
    ⟨.a, .fwd, dictOk dict0, on (fun x => x |> ph .joined), ⟨by decide +kernel, by decide +kernel,
      by decide +kernel, dictOk_crc _, by decide +kernel⟩⟩,
    ⟨.a, .fwd, mirOk (List.replicate 64 0), on (fun x => x |> ph .joined |> rx (fun y =>
      { y with got := some rec0 })), ⟨by decide +kernel, by decide +kernel, by decide +kernel, by decide +kernel,
      mirOk_crc _, by decide +kernel⟩⟩,
    ⟨.a, .fwd, mirOk (List.replicate 64 0), on (fun x => x |> ph .joined |> rx (fun y =>
      { y with got := some rec0 }) |> au (fun y =>
      { y with role := .heel, holder := some .b, sentTick := some 0 })), ⟨by decide +kernel, by decide +kernel,
      by decide +kernel, by decide +kernel, mirOk_crc _, by decide +kernel, by decide +kernel, by decide +kernel, by decide +kernel,
      by decide +kernel⟩⟩,
    ⟨.a, .fwd, joinOk (List.replicate 24 0), on (fun x => x |> ph .joined |> rx (fun y =>
      { y with got := some rec0 })), ⟨by decide +kernel, by decide +kernel, by decide +kernel, by decide +kernel,
      by decide +kernel, joinOk_crc _⟩⟩⟩

/-- `Obligations.LinkMarkerLossAndCounters`. -/
theorem witness_LinkMarkerLossAndCounters :
    (∃ (l : LaneId) (d : LinkDir) (_k : Int) (s : State), (s.lane l).live.phase ∈ [.joined, .loaded] ∧ (s.lane
      l).live.tk.onJalsyn = false ∧ (s.lane l).live.topLane = some ((s.lane l).live.me.peer d) ∧ ((s.lane l).live.rx
      d).lost = false) ∧
    (∃ (l : LaneId) (d : LinkDir) (s : State), (s.lane l).live.phase = .joined ∧ ((s.lane l).live.rx d).inService =
      true ∧ ((s.lane l).live.rx d).lost = false ∧ (s.lane l).live.num Obj.leaseTicks ≤ ((s.lane l).live.rx
      d).missRun) ∧
    (∃ (l : LaneId) (s : State), (s.lane l).live.writes = true) :=
  ⟨
    ⟨.a, .fwd, 5, on (fun x => x |> ph .joined |> view .b (fun v => { v with joined := true, role := .lead }) |>
      putk Obj.laneAtRank 0 1 |> putk Obj.laneAtRank 1 0), by decide +kernel⟩,
    ⟨.a, .fwd, on (fun x => x |> ph .joined |> rx (fun y => { y with inService := true, missRun := 100 })),
      by decide +kernel⟩,
    ⟨.a, on (fun x => x |> ph .joined), by decide +kernel⟩⟩

/-- `Obligations.LeaseExpiryAndSilentTakeover`. -/
theorem witness_LeaseExpiryAndSilentTakeover :
    (∃ (l : LaneId) (s : State), (s.lane l).live.phase = .joined ∧ (s.lane l).live.leaseOut = true ∧ (s.lane
      l).live.bothSilent = false) ∧
    (∃ (l : LaneId) (s : State), (s.lane l).live.phase = .joined ∧ (s.lane l).live.leaseOut = true ∧ (s.lane
      l).live.bothSilent = true) ∧
    (∃ (l lead third : LaneId) (s : State), (s.lane l).live.me = l ∧ lead ≠ l ∧ third ≠ l ∧ third ≠ lead ∧ (s.lane
      l).live.phase = .joined ∧ (s.lane l).live.au.role = .heel ∧ (s.lane l).live.au.holding = false ∧ (s.lane
      l).live.holderOf .lead = some lead ∧ (s.lane l).live.laneRole third ≠ .lead ∧ (s.lane l).live.laneRole third ≠
      .heel ∧ (s.lane l).live.num Obj.leaseTicks + 1 ≤ (s.lane l).live.au.silent ∧ (s.lane l).live.upTo lead = true) :=
  ⟨
    ⟨.a, on (fun x => x |> ph .joined |> tk (fun y => { y with count := 10 }) |> put Obj.leaseTicks 0 3 |> au (fun y
      => { y with role := .lead }) |> rx (fun y => { y with inService := true })), by decide +kernel⟩,
    ⟨.a, on (fun x => x |> ph .joined |> tk (fun y => { y with count := 10 }) |> put Obj.leaseTicks 0 3 |> au (fun y
      => { y with role := .lead }) |> rx (fun y => { y with inService := true, missRun := 2 })), by decide +kernel⟩,
    ⟨.a, .b, .c, on (fun x => x |> ph .joined |> au (fun y => { y with role := .heel, silent := 100 }) |> rx (fun y
      => { y with inService := true }) |> view .b (fun v => { v with joined := true, role := .lead })),
      by decide +kernel⟩⟩

/-- `Obligations.VotesAndMirrorSwap`. -/
theorem witness_VotesAndMirrorSwap :
    (∃ (l : LaneId) (s : State), (s.lane l).live.phase = .joined ∧ (s.lane l).live.au.role ∈ [.heel, .watch] ∧
      (s.lane l).live.au.demoting = false ∧ (s.lane l).live.deviates = true ∧ (s.lane l).live.au.mode ≠ .reduced) ∧
    (∃ (l : LaneId) (s : State), (s.lane l).live.phase = .joined ∧ (s.lane l).live.au.demoting = true ∧ (s.lane
      l).live.au.voteStands = false ∧ (s.lane l).live.num Obj.compareTicks < (s.lane l).live.au.demoteTicks ∧
      (s.lane l).live.capables = 3) ∧
    (∃ (l : LaneId) (k : Nat) (s : State), (s.lane l).live.phase = .joined ∧ (s.lane l).live.au.role = .heel ∧
      (s.lane l).live.au.mirRuns.findIdx? (fun n => decide (3 ≤ n)) = some k) :=
  ⟨
    ⟨.a, on (fun x => x |> ph .joined |> md .operational |> au (fun y => { y with role := .heel, devMode := 100 })),
      by decide +kernel⟩,
    ⟨.a, on (fun x => x |> ph .joined |> au (fun y => { y with demoting := true, demoteTicks := 100 }) |> view .b
      (fun v => { v with joined := true }) |> view .c (fun v => { v with joined := true })), by decide +kernel⟩,
    ⟨.a, 0, on (fun x => x |> ph .joined |> au (fun y => { y with role := .heel, mirRuns := [3] })),
      by decide +kernel⟩⟩

/-- `Obligations.JoinStartupAndLoneLane`. -/
theorem witness_JoinStartupAndLoneLane :
    (∃ (l : LaneId) (s : State), (s.lane l).live.phase = .loaded ∧ (s.lane l).live.admits = true ∧ s.levelWith l =
      true ∧ (s.lane l).live.su.halt = false) ∧
    (∃ (l o : LaneId) (d : LinkDir) (s : State), o ≠ (s.lane l).live.me ∧ (s.lane l).live.me.linkTo o = some d ∧
      (s.lane l).live.phase ∈ [.joined, .loaded] ∧ (s.lane l).live.au.mode ≠ .descent ∧ ((s.lane l).live.rx d).lost
      = true) ∧
    (∃ (l : LaneId) (s : State), (s.lane l).live.phase = .joined ∧ (s.lane l).live.au.mode = .startup ∧ (s.lane
      l).live.au.startupOver = false ∧ ((s.lane l).live.due ((s.lane l).live.au.startedAt + ms 400) = true ∨
      allLanes.all (s.lane l).live.sees = true)) ∧
    (∃ (l : LaneId) (k : Nat) (s : State), (s.lane l).live.phase = .joined ∧ (s.lane l).live.au.loneSince = some k ∧
      (s.lane l).live.au.noLease = false ∧ (s.lane l).live.au.loneHeard = true) ∧
    (∃ (l : LaneId) (k : Nat) (s : State), (s.lane l).live.phase = .joined ∧ (s.lane l).live.au.loneSince = some k ∧
      (s.lane l).live.au.noLease = false ∧ (s.lane l).live.au.loneHeard = false ∧ (s.lane l).live.integrated = true
      ∧ (s.lane l).live.au.follower = false ∧ k + 2 * (s.lane l).live.num Obj.cycleTicks ≤ (s.lane
      l).live.tk.count.toNat) :=
  ⟨
    ⟨.a, on (fun x => x |> ph .loaded), by decide +kernel⟩,
    ⟨.a, .b, .fwd, on (fun x => x |> ph .joined |> rx (fun y => { y with lost := true })), by decide +kernel⟩,
    ⟨.a, on (fun x => x |> ph .joined |> md .startup |> (fun y => { y with clk := ms 400 })), by decide +kernel⟩,
    ⟨.a, 0, on (fun x => x |> ph .joined |> au (fun y => { y with loneSince := some 0, loneHeard := true })),
      by decide +kernel⟩,
    ⟨.a, 0, on (fun x => x |> ph .joined |> tk (fun y => { y with count := 100000 }) |> au (fun y =>
      { y with loneSince := some 0 }) |> jn (fun y => { y with sync := .sync })), by decide +kernel⟩⟩

/-- `Obligations.ModeRequestsFollowTheTable`. -/
theorem witness_ModeRequestsFollowTheTable :
    (∃ (l : LaneId) (s : State), (s.lane l).live.phase = .joined ∧ (s.lane l).live.au.gap = false ∧ (s.lane
      l).live.au.ownMode ∈ [.operational, .reduced] ∧ (s.lane l).live.au.standstill = true) ∧
    (∃ (l : LaneId) (s : State), (s.lane l).live.phase = .joined ∧ (s.lane l).live.au.gap = false ∧ (s.lane
      l).live.au.ownMode ∈ [.operational, .reduced] ∧ (s.lane l).live.au.standstill = false) ∧
    (∃ (l : LaneId) (k : Nat) (m : Mode) (s : State), (s.lane l).live.phase = .joined ∧ (s.lane l).live.au.gap =
      false ∧ (s.lane l).live.au.ownMode = .standby ∧ (s.compareLanes l (s.lane l).live).committed = true ∧ (s.lane
      l).live.sfTripped = false ∧ (s.lane l).live.runCapables = k ∧ ((k = 3 ∧ m = .operational) ∨ (k = 2 ∧ m =
      .reduced))) ∧
    (∃ (l : LaneId) (s : State), (s.lane l).live.phase = .joined ∧ (s.lane l).live.au.gap = false ∧ (s.lane
      l).live.au.ownMode = .standby ∧ (s.compareLanes l (s.lane l).live).committed = false) ∧
    (∃ (l : LaneId) (s : State), (s.lane l).live.phase = .joined ∧ (s.lane l).live.au.gap = false ∧ (s.lane
      l).live.au.ownMode ∈ [.operational, .reduced, .descent]) ∧
    (∃ (l : LaneId) (s : State), (s.lane l).live.phase = .joined ∧ (s.lane l).live.au.gap = true) :=
  ⟨
    ⟨.a, on (fun x => x |> ph .joined |> md .operational |> au (fun y => { y with standstill := true })),
      by decide +kernel⟩,
    ⟨.a, on (fun x => x |> ph .joined |> md .operational), by decide +kernel⟩,
    ⟨.a, 2, .reduced, on (fun x => x |> ph .joined |> md .standby |> jn (fun y => { y with sync := .sync }) |> im
      (fun y => { y with stActive := 1 }) |> view .b (fun v => { v with joined := true, netOk := true })),
      by decide +kernel⟩,
    ⟨.a, on (fun x => x |> ph .joined |> md .standby), by decide +kernel⟩,
    ⟨.a, on (fun x => x |> ph .joined |> md .descent), by decide +kernel⟩,
    ⟨.a, on (fun x => x |> ph .joined), by decide +kernel⟩⟩

/-- `Obligations.StandstillDescentBoostStop`. -/
theorem witness_StandstillDescentBoostStop :
    (∃ (l : LaneId) (t : Nat) (s : State), (s.lane l).live.phase = .joined ∧ (s.lane l).live.au.stillSince = some t
      ∧ (s.lane l).live.due (t + (s.lane l).live.stillCond.2) = true ∧ (s.lane l).live.au.ownMode ≠ .descent) ∧
    (∃ (l : LaneId) (t : Nat) (s : State), (s.lane l).live.au.descentEnd = some t ∧ (s.lane l).live.au.ownMode =
      .descent ∧ (s.lane l).live.due t = true ∧ (s.lane l).live.au.gap = false) ∧
    (∃ (l : LaneId) (p : Fin 8) (t : Nat) (s : State), (s.lane l).live.au.boostEnd[p] = some t ∧ (s.lane l).live.due
      t = true) ∧
    (∃ (l : LaneId) (g : Fin 24) (s : State), ((s.lane l).live.fc.groups[g]).stop = some .category2 ∧ ((s.lane
      l).live.fc.groups[g]).stopped = false ∧ (s.lane l).live.sf.category ≠ some 1 ∧ F32.lt (F32.abs ((s.lane
      l).live.fc.groups[g]).speed) (F32.mul (F32.dec 5 3) ((s.lane l).live.real Obj.groupMaxSpeed g.val)) = true) ∧
    (∃ (l : LaneId) (g : Fin 24) (p : Fin 8) (s : State), ((s.lane l).live.fc.groups[g]).stop = some .groupReaction
      ∧ ((s.lane l).live.fc.groups[g]).stopped = false ∧ (s.lane l).live.sf.category ≠ some 1 ∧ F32.lt (F32.abs
      ((s.lane l).live.fc.groups[g]).speed) (F32.mul (F32.dec 5 3) ((s.lane l).live.real Obj.groupMaxSpeed g.val)) =
      true ∧ (s.lane l).live.portOf g = some p ∧ ((s.lane l).live.fc.wind[p]).ws ∈ [.running, .stopping]) :=
  ⟨
    ⟨.a, 0, on (fun x => x |> ph .joined |> md .operational |> au (fun y => { y with stillSince := some 0 }) |> (fun
      y => { y with clk := ms 200 })), by decide +kernel⟩,
    ⟨.a, 0, on (fun x => x |> ph .joined |> md .descent |> au (fun y => { y with descentEnd := some 0 })),
      by decide +kernel⟩,
    ⟨.a, 0, 7, on (fun x => x |> ph .joined |> au (fun y => { y with boostEnd := Vector.replicate 8 (some 7) })),
      by decide +kernel⟩,
    ⟨.a, 0, on (fun x => x |> ph .joined |> group (fun y => { y with stop := some .category2 }) |> put
      Obj.groupMaxSpeed 0 0x41200000), by decide +kernel⟩,
    ⟨.a, 0, 0, on (fun x => x |> ph .joined |> group (fun y => { y with stop := some .groupReaction }) |> put
      Obj.groupMaxSpeed 0 0x41200000 |> bound |> ws .stopping), by decide +kernel⟩⟩

/-- `Obligations.RecoverableGateFaults`. -/
theorem witness_RecoverableGateFaults :
    (∃ (l : LaneId) (leg : Fin 24) (side : Side) (s : State), (s.lane l).live.sensing = true ∧ (s.lane
      l).live.conducts leg side = true ∧ (s.lane l).live.inAsc (legPort leg) = false ∧ ((s.lane
      l).live.gd.ports[legPort leg]).fault = none ∧ (recentTries (s.lane l).live.clk ((s.lane
      l).live.gd.ports[legPort leg]).tries).length < (s.lane l).live.num Obj.portRetryCount (legPort leg).val) ∧
    (∃ (l : LaneId) (leg : Fin 24) (_high : Bool) (s : State), (s.lane l).live.sensing = true ∧ (s.lane
      l).live.conducts leg .low = true ∧ ((s.lane l).live.gd.ports[legPort leg]).mode = .pwm ∧ (recentTries (s.lane
      l).live.clk ((s.lane l).live.gd.ports[legPort leg]).tries).length < (s.lane l).live.num Obj.portRetryCount
      (legPort leg).val) ∧
    (∃ (l : LaneId) (leg : Fin 24) (_side : Side) (vgs : F32) (atTurnOn : Bool) (s : State), (s.lane l).live.sensing
      = true ∧ (s.lane l).live.gateOk vgs atTurnOn = false ∧ (s.lane l).live.gd.railUv = false ∧ ((s.lane
      l).live.gd.ports[legPort leg]).fault = none ∧ (recentTries (s.lane l).live.clk ((s.lane
      l).live.gd.ports[legPort leg]).tries).length < (s.lane l).live.num Obj.portRetryCount (legPort leg).val) ∧
    (∃ (l : LaneId) (leg : Fin 24) (s : State), (s.lane l).live.sensing = true ∧ (s.lane l).live.bootArmed leg =
      true ∧ (s.lane l).live.inAsc (legPort leg) = false ∧ (recentTries (s.lane l).live.clk ((s.lane
      l).live.gd.ports[legPort leg]).tries).length < (s.lane l).live.num Obj.portRetryCount (legPort leg).val) ∧
    (∃ (l : LaneId) (_leg : Fin 24) (s : State), (s.lane l).live.sensing = true) :=
  ⟨
    ⟨.a, 0, .low, on (fun x => x |> ph .joined |> leg (fun y => { y with gate := .low }) |> put Obj.portRetryCount 0
      3), by decide +kernel⟩,
    ⟨.a, 0, true, on (fun x => x |> ph .joined |> leg (fun y => { y with gate := .low }) |> port (fun y =>
      { y with mode := .pwm }) |> put Obj.portRetryCount 0 3), by decide +kernel⟩,
    ⟨.a, 0, .low, F32.ofNat 2, false, on (fun x => x |> ph .joined |> put Obj.portRetryCount 0 3),
      by decide +kernel⟩,
    ⟨.a, 0, on (fun x => x |> ph .joined |> leg (fun y => { y with conductions := 2 }) |> port (fun y =>
      { y with mode := .pwm }) |> put Obj.portRetryCount 0 3), by decide +kernel⟩,
    ⟨.a, 23, on (fun x => x |> ph .joined), by decide +kernel⟩⟩

/-- `Obligations.SecondTripIsADoubleShort`. -/
theorem witness_SecondTripIsADoubleShort :
    (∃ (l : LaneId) (leg : Fin 24) (side : Side) (s : State), (s.lane l).live.sensing = true ∧ (s.lane
      l).live.conducts leg side = true ∧ ((s.lane l).live.gd.ports[legPort leg]).fault ≠ some .doubleShort ∧
      (((s.lane l).live.gd.ports[legPort leg]).fault = some .short ∨ (s.lane l).live.inAsc (legPort leg) = true)) :=
    ⟨.a, 0, .low, on (fun x => x |> ph .joined |> leg (fun y => { y with gate := .low }) |> port (fun y =>
      { y with fault := some .short })), by decide +kernel⟩

/-- `Obligations.RetryWaitEnds`. -/
theorem witness_RetryWaitEnds :
    (∃ (l : LaneId) (p : Fin 8) (_bad : Bool) (t : Nat) (s : State), ((s.lane l).live.gd.ports[p]).waitEnd = some t
      ∧ (s.lane l).live.due t = true ∧ ((s.lane l).live.au.mode = .safe ∨ (s.lane l).live.au.mode = .standby)) ∧
    (∃ (l : LaneId) (p : Fin 8) (_bad : Bool) (t : Nat) (s : State), ((s.lane l).live.gd.ports[p]).waitEnd = some t
      ∧ (s.lane l).live.due t = true ∧ (s.lane l).live.au.mode ≠ .safe ∧ (s.lane l).live.au.mode ≠ .standby ∧
      (s.lane l).live.blocked = true) ∧
    (∃ (l : LaneId) (p : Fin 8) (t : Nat) (s : State), ((s.lane l).live.gd.ports[p]).waitEnd = some t ∧ t ≤ (s.lane
      l).live.clk ∧ (s.lane l).live.au.mode ≠ .safe ∧ (s.lane l).live.au.mode ≠ .standby ∧ (s.lane l).live.blocked =
      false ∧ ((s.lane l).live.gd.ports[p]).fault = some .gate ∧ (recentTries (s.lane l).live.clk ((s.lane
      l).live.gd.ports[p]).tries).length + 1 < (s.lane l).live.num Obj.portRetryCount p.val) ∧
    (∃ (l : LaneId) (p : Fin 8) (t : Nat) (s : State), ((s.lane l).live.gd.ports[p]).waitEnd = some t ∧ (s.lane
      l).live.due t = true ∧ (s.lane l).live.au.mode ≠ .safe ∧ (s.lane l).live.au.mode ≠ .standby ∧ (s.lane
      l).live.blocked = false ∧ ((s.lane l).live.fc.wind[p]).ws = .torqueFree ∧ (s.lane l).live.heldBack p = false) :=
  ⟨
    ⟨.a, 0, true, 0, on (fun x => x |> ph .joined |> md .safe |> port (fun y => { y with waitEnd := some 0 })),
      by decide +kernel⟩,
    ⟨.a, 0, true, 0, on (fun x => x |> ph .joined |> md .operational |> gd (fun y => { y with railUv := true }) |>
      port (fun y => { y with waitEnd := some 0 })), by decide +kernel⟩,
    ⟨.a, 0, 0, on (fun x => x |> ph .joined |> md .operational |> port (fun y =>
      { y with waitEnd := some 0, fault := some .gate }) |> put Obj.portRetryCount 0 3), by decide +kernel⟩,
    ⟨.a, 0, 0, on (fun x => x |> ph .joined |> md .operational |> port (fun y => { y with waitEnd := some 0 }) |> ws
      .torqueFree), by decide +kernel⟩⟩

/-- `Obligations.LaneWideCausesSuspendAndResume`. -/
theorem witness_LaneWideCausesSuspendAndResume :
    (∃ (l : LaneId) (s : State), (s.lane l).live.sensing = true ∧ (s.lane l).live.gd.railUv = false) ∧
    (∃ (l : LaneId) (s : State), (s.lane l).live.sensing = true ∧ (s.lane l).live.gd.ladderAsc = false) ∧
    (∃ (l : LaneId) (_t : Nat) (p : Fin 8) (s : State), ((s.lane l).live.gd.ports[p]).reenable = true ∧ ((s.lane
      l).live.fc.wind[p]).ws = .torqueFree ∧ (s.lane l).live.heldBack p = false ∧ (s.lane l).live.gd.vabs = false ∧
      (s.lane l).live.sensing = true ∧ (s.lane l).live.gd.railUv = true ∧ (s.lane l).live.gd.ladderAsc = false ∧
      (s.lane l).live.wi.linkLow = false) ∧
    (∃ (l : LaneId) (t : Nat) (p : Fin 8) (s : State), ((s.lane l).live.gd.ports[p]).reenable = true ∧ ((s.lane
      l).live.fc.wind[p]).ws = .torqueFree ∧ (s.lane l).live.heldBack p = false ∧ (s.lane l).live.gd.vabs = false ∧
      (s.lane l).live.wi.linkBack = some t ∧ (s.lane l).live.wi.linkLow = true ∧ (s.lane l).live.due (t + ms 10) =
      true ∧ (s.lane l).live.gd.railUv = false ∧ (s.lane l).live.gd.ladderAsc = false) ∧
    (∃ (l : LaneId) (t : Nat) (p : Fin 8) (s : State), ((s.lane l).live.gd.ports[p]).reenable = true ∧ ((s.lane
      l).live.fc.wind[p]).ws = .torqueFree ∧ (s.lane l).live.heldBack p = false ∧ (s.lane l).live.gd.vabs = false ∧
      (s.lane l).live.gd.belowAsc = some t ∧ (s.lane l).live.gd.ladderAsc = true ∧ (s.lane l).live.due (t + ms 10) =
      true ∧ (s.lane l).live.gd.railUv = false ∧ (s.lane l).live.wi.linkLow = false) ∧
    (∃ (l : LaneId) (t : Nat) (s : State), (s.lane l).live.gd.belowAsc = some t ∧ (s.lane l).live.gd.vabs = true) :=
  ⟨
    ⟨.a, on (fun x => x |> ph .joined), by decide +kernel⟩,
    ⟨.a, on (fun x => x |> ph .joined), by decide +kernel⟩,
    ⟨.a, 0, 0, on (fun x => x |> ph .joined |> port (fun y => { y with reenable := true }) |> ws .torqueFree |> gd
      (fun y => { y with railUv := true })), by decide +kernel⟩,
    ⟨.a, 0, 0, on (fun x => x |> ph .joined |> port (fun y => { y with reenable := true }) |> ws .torqueFree |> wi
      (fun y => { y with linkBack := some 0, linkLow := true }) |> (fun y => { y with clk := ms 10 })),
      by decide +kernel⟩,
    ⟨.a, 0, 0, on (fun x => x |> ph .joined |> port (fun y => { y with reenable := true }) |> ws .torqueFree |> gd
      (fun y => { y with belowAsc := some 0, ladderAsc := true }) |> (fun y => { y with clk := ms 10 })),
      by decide +kernel⟩,
    ⟨.a, 0, on (fun x => x |> ph .joined |> gd (fun y => { y with belowAsc := some 0, vabs := true })),
      by decide +kernel⟩⟩

/-- `Obligations.LegEventsChopperAndLinkVoltage`. -/
theorem witness_LegEventsChopperAndLinkVoltage :
    (∃ (l : LaneId) (leg : Fin 24) (side : Side) (_ph : Nat) (s : State), ((s.lane l).live.gd.ports[legPort
      leg]).mode = .pwm ∧ (s.lane l).live.produced leg side = true) ∧
    (∃ (l : LaneId) (c : Fin 4) (s : State), (s.lane l).live.sensing = true ∧ (s.lane l).live.chFitted = true ∧
      (s.lane l).live.gd.chFault = false ∧ (c.val = 0 → (s.lane l).live.gd.chOn = true) ∧ (c.val = 2 → (s.lane
      l).live.gd.chOn = false)) ∧
    (∃ (l : LaneId) (code : Code) (_dt t : Nat) (s : State), (s.lane l).live.sensing = true ∧ (s.lane
      l).live.gd.linkAt = some t ∧ code ≠ 0x3FFF ∧ F32.ge (F32.ofRatio (code.toNat * 90) 16384) ((s.lane
      l).live.real Obj.vAsc) = false ∧ F32.ge (F32.ofRatio (code.toNat * 90) 16384) ((s.lane l).live.real Obj.vAbs)
      = false ∧ F32.lt (F32.ofRatio (code.toNat * 90) 16384) (F32.ofNat 8) = false) ∧
    (∃ (l : LaneId) (_p : Fin 8) (s : State), (s.lane l).live.writes = true) ∧
    (∃ (l : LaneId) (s : State), (s.lane l).live.writes = true) :=
  ⟨
    ⟨.a, 0, .low, 0, on (fun x => x |> ph .joined |> port (fun y => { y with mode := .pwm }) |> leg (fun y =>
      { y with refreshNow := true })), by decide +kernel⟩,
    ⟨.a, 0, on (fun x => x |> ph .joined |> gd (fun y => { y with chOn := true }) |> put Obj.chopperResistance 0
      0x41200000), by decide +kernel⟩,
    ⟨.a, 8738, 400, 0, on (fun x => x |> ph .joined |> gd (fun y => { y with linkAt := some 0 })),
      by decide +kernel⟩,
    ⟨.a, 7, on (fun x => x |> ph .joined), by decide +kernel⟩,
    ⟨.a, on (fun x => x |> ph .joined), by decide +kernel⟩⟩

/-- `Obligations.CatchProcedure`. -/
theorem witness_CatchProcedure :
    (∃ (l : LaneId) (p : Fin 8) (g : Fin 24) (m : CatchMeas) (s : State), (s.lane l).live.groupOf p = some g ∧
      ((s.lane l).live.fc.wind[p]).ws = .measuring ∧ ((s.lane l).live.fc.wind[p]).again = none ∧
      (s.lane l).live.due (((s.lane l).live.fc.wind[p]).measAt + us 200) = true ∧ F32.lt m.ep
      ((s.lane l).live.real Obj.groupCatchRestLevel g.val) = true) ∧
    (∃ (l : LaneId) (p : Fin 8) (g : Fin 24) (m : CatchMeas) (s : State), (s.lane l).live.groupOf p = some g ∧
      ((s.lane l).live.fc.wind[p]).ws = .measuring ∧ ((s.lane l).live.fc.wind[p]).again = none ∧
      (s.lane l).live.due (((s.lane l).live.fc.wind[p]).measAt + us 200) = true ∧ F32.lt m.ep
      ((s.lane l).live.real Obj.groupCatchRestLevel g.val) = false ∧ (unbalanced m = true ∨ F32.ge m.ep (F32.mul
      ((s.lane l).live.real Obj.groupCatchLimit g.val) (s.lane l).live.aq.vdc) = true)) ∧
    (∃ (l : LaneId) (p : Fin 8) (g : Fin 24) (m : CatchMeas) (s : State), (s.lane l).live.groupOf p = some g ∧
      ((s.lane l).live.fc.wind[p]).ws = .measuring ∧ ((s.lane l).live.fc.wind[p]).again = none ∧
      (s.lane l).live.due (((s.lane l).live.fc.wind[p]).measAt + us 200) = true ∧ F32.lt m.ep
      ((s.lane l).live.real Obj.groupCatchRestLevel g.val) = false ∧ unbalanced m = false ∧ F32.ge m.ep (F32.mul
      ((s.lane l).live.real Obj.groupCatchLimit g.val) (s.lane l).live.aq.vdc) = false ∧ (s.lane l).live.sourceOf p
      = some 3 ∧ (s.lane l).live.blocked = false ∧ F32.isZero ((s.lane l).live.bus (192 + g.val)) = true) ∧
    (∃ (l : LaneId) (p : Fin 8) (t : Nat) (s : State), ((s.lane l).live.fc.wind[p]).again = some t ∧ ((s.lane
      l).live.fc.wind[p]).ws = .refused ∧ (s.lane l).live.due t = true ∧ (s.lane l).live.heldBack p = false ∧
      (s.lane l).live.gd.vabs = false ∧ (s.lane l).live.gd.ladderAsc = false ∧ ((s.lane l).live.gd.ports[p]).fault =
      none ∧ (s.lane l).live.phase ≠ .halted) ∧
    (∃ (l : LaneId) (p : Fin 8) (t : Nat) (_pos _neg : F32) (s : State), ((s.lane l).live.fc.wind[p]).hfiSince =
      some t ∧ ((s.lane l).live.fc.wind[p]).hfiOn = true ∧ ((s.lane l).live.fc.wind[p]).hfiFound = false ∧ ((s.lane
      l).live.fc.wind[p]).ws = .running ∧ (s.lane l).live.due (t + ms 20) = true) ∧
    (∃ (l : LaneId) (p : Fin 8) (g : Fin 24) (s : State), (s.lane l).live.groupOf p = some g ∧ ((s.lane
      l).live.fc.wind[p]).inUse = true ∧ (s.lane l).live.num Obj.groupLosLimit g.val ≤ (recentTries (s.lane
      l).live.clk ((s.lane l).live.fc.wind[p]).losAt).length) :=
  ⟨
    ⟨.a, 0, 0,
      { peaks := (F32.ofNat 10, F32.ofNat 10, F32.ofNat 10), angles := (F32.ofNat 120, F32.ofNat 120, F32.ofNat 120), ep := 0, theta := 0, we := 0, sensor := 0 },
      on (fun x => x |> ph .joined |> bound |> ws .measuring |> (fun y => { y with clk := ms 1 }) |> put Obj.groupCatchRestLevel 0 0x3F800000),
      by decide +kernel⟩,
    ⟨.a, 0, 0,
      { peaks := (F32.ofNat 10, F32.ofNat 10, F32.ofNat 10), angles := (F32.ofNat 120, F32.ofNat 120, F32.ofNat 120), ep := F32.ofNat 100, theta := 0, we := 0, sensor := 0 },
      on (fun x => x |> ph .joined |> bound |> ws .measuring |> (fun y => { y with clk := ms 1 }) |> put Obj.groupCatchRestLevel 0 0x3F800000),
      by decide +kernel⟩,
    ⟨.a, 0, 0,
      { peaks := (F32.ofNat 10, F32.ofNat 10, F32.ofNat 10), angles := (F32.ofNat 120, F32.ofNat 120, F32.ofNat 120), ep := F32.ofNat 10, theta := 0, we := 0, sensor := 0 },
      on (fun x => x |> ph .joined |> bound |> ws .measuring |> (fun y => { y with clk := ms 1 }) |> put Obj.groupCatchRestLevel 0 0x3F800000 |> put
      Obj.groupPositionSource 0 3 |> aq (fun y => { y with vdc := F32.ofNat 48 })), by decide +kernel⟩,
    ⟨.a, 0, 0, on (fun x => x |> ph .joined |> wnd (fun y => { y with ws := .refused, again := some 0 })),
      by decide +kernel⟩,
    ⟨.a, 0, 0, 5, 4, on (fun x => x |> ph .joined |> wnd (fun y =>
      { y with ws := .running, hfiOn := true, hfiSince := some 0 }) |> (fun y => { y with clk := ms 20 })),
      by decide +kernel⟩,
    ⟨.a, 0, 0, on (fun x => x |> ph .joined |> bound |> wnd (fun y => { y with ws := .running, losAt := [0, 0, 0] })
      |> put Obj.groupLosLimit 0 3), by decide +kernel⟩⟩

/-- `Obligations.SniffTestAndAngleVote`. -/
theorem witness_SniffTestAndAngleVote :
    (∃ (l : LaneId) (p : Fin 8) (_r : SniffReading) (t : SniffRun) (s : State), (s.lane l).live.wi.sniff = some t ∧
      t.port = p ∧ ((s.lane l).live.fc.wind[p]).ws = .measuring ∧ (s.lane l).live.due (t.start + us 800) = true) ∧
    (∃ (l : LaneId) (p : Fin 8) (_r : SniffReading) (t : SniffRun) (s : State), (s.lane l).live.wi.sniff = some t ∧
      t.port = p ∧ ((s.lane l).live.fc.wind[p]).ws = .measuring ∧ t.step1.isSome = true ∧ (s.lane l).live.due
      (t.start + us 1200) = true) ∧
    (∃ (l : LaneId) (p : Fin 8) (a b : SniffReading) (t : SniffRun) (s : State), (s.lane l).live.wi.sniff = some t ∧
      t.port = p ∧ ((s.lane l).live.fc.wind[p]).ws = .measuring ∧ t.step1 = some a ∧ t.step2 = some b ∧ (s.lane
      l).live.due (t.start + us 1300) = true ∧ (s.lane l).live.wi.queue = [] ∧ (sniffEval a b).1 = 1 ∧
      (s.lane l).live.blocked = false) ∧
    (∃ (l : LaneId) (p : Fin 8) (a b : SniffReading) (t : SniffRun) (s : State), (s.lane l).live.wi.sniff = some t ∧
      t.port = p ∧ ((s.lane l).live.fc.wind[p]).ws = .measuring ∧ t.step1 = some a ∧ t.step2 = some b ∧ (s.lane
      l).live.due (t.start + us 1300) = true ∧ (s.lane l).live.wi.queue = [] ∧ (sniffEval a b).1 = 8) ∧
    (∃ (l : LaneId) (p : Fin 8) (t : Nat) (s : State), ((s.lane l).live.fc.wind[p]).again = some t ∧ (s.lane
      l).live.wi.postponed.getLsbD p.val = true ∧ ((s.lane l).live.fc.wind[p]).ws = .measuring ∧ (s.lane l).live.due
      t = true) ∧
    (∃ (l : LaneId) (g : Fin 24) (s : State), (s.lane l).live.num Obj.groupAngleVoteTicks g.val ≤ ((s.lane
      l).live.fc.groups[g]).disagree ∧ ((s.lane l).live.num Obj.groupFallbackSource g.val = 0 ∨ (s.lane l).live.num
      Obj.groupFallbackSource g.val = 1) ∧ ((s.lane l).live.fc.groups[g]).fallback = false ∧ (s.lane l).live.num
      Obj.groupFallbackSource g.val ≠ (s.lane l).live.num Obj.groupPositionSource g.val) ∧
    (∃ (l : LaneId) (g : Fin 24) (s : State), (s.lane l).live.num Obj.groupAngleVoteTicks g.val ≤ ((s.lane
      l).live.fc.groups[g]).disagree ∧ ((s.lane l).live.fc.groups[g]).fallback = true ∧ (s.lane l).live.num
      Obj.groupGroupReaction g.val = 0) :=
  ⟨
    ⟨.a, 0, { u := 0, v := 0, w := 0, others := [] }, { port := 0, start := 0 }, on (fun x => x |> ph .joined |> ws
      .measuring |> wi (fun y => { y with sniff := some { port := 0, start := 0 } }) |> (fun y =>
      { y with clk := us 1300 })), by decide +kernel⟩,
    ⟨.a, 0, { u := 0, v := 0, w := 0, others := [] },
      { port := 0, start := 0, step1 := some { u := 0, v := 0, w := 0, others := [] } }, on (fun x => x |> ph
      .joined |> ws .measuring |> wi (fun y =>
      { y with sniff := some { port := 0, start := 0, step1 := some { u := 0, v := 0, w := 0, others := [] } } }) |>
      (fun y => { y with clk := us 1300 })), by decide +kernel⟩,
    ⟨.a, 0, sniffA, sniffB, { port := 0, start := 0, step1 := some sniffA, step2 := some sniffB }, on (fun x => x |>
      ph .joined |> ws .measuring |> wi (fun y =>
      { y with sniff := some { port := 0, start := 0, step1 := some sniffA, step2 := some sniffB } }) |> (fun y =>
      { y with clk := us 1300 })), by decide +kernel⟩,
    ⟨.a, 0, sniffC, sniffC, { port := 0, start := 0, step1 := some sniffC, step2 := some sniffC }, on (fun x => x |>
      ph .joined |> ws .measuring |> wi (fun y =>
      { y with sniff := some { port := 0, start := 0, step1 := some sniffC, step2 := some sniffC } }) |> (fun y =>
      { y with clk := us 1300 })), by decide +kernel⟩,
    ⟨.a, 0, 0, on (fun x => x |> ph .joined |> wnd (fun y => { y with ws := .measuring, again := some 0 }) |> wi
      (fun y => { y with postponed := 1 })), by decide +kernel⟩,
    ⟨.a, 0, on (fun x => x |> ph .joined |> put Obj.groupFallbackSource 0 1 |> put Obj.groupPositionSource 0 3 |>
      group (fun y => { y with disagree := 100000 })), by decide +kernel⟩,
    ⟨.a, 0, on (fun x => x |> ph .joined |> put Obj.groupGroupReaction 0 0 |> group (fun y =>
      { y with disagree := 100000, fallback := true })), by decide +kernel⟩⟩

/-- `Obligations.WiringDiagnostics`. -/
theorem witness_WiringDiagnostics :
    (∃ (l : LaneId) (p : Fin 8) (s : State), 16 ≤ ((s.lane l).live.fc.wind[p]).isumRuns ∧ ((s.lane
      l).live.fc.wind[p]).inUse = true) ∧
    (∃ (l : LaneId) (_kind : Fin 3) (s : State), (s.lane l).live.sensing = true) ∧
    (∃ (l : LaneId) (_path : Path) (v : Byte) (s : State), (s.lane l).live.writes = true ∧ v.toNat ≤ 2 ∧ (s.lane
      l).live.standby = true) ∧
    (∃ (l : LaneId) (_result : Fin 8) (_polrev : Bool) (_dist : Byte) (s : State), (s.lane l).live.wi.cableRunA =
      true) ∧
    (∃ (l : LaneId) (_result : Fin 8) (_polrev : Bool) (_dist : Byte) (s : State), (s.lane l).live.wi.cableRunB =
      true) ∧
    (∃ (l : LaneId) (_n : Fin 4) (_kind : Fin 3) (s : State), (s.lane l).live.sensing = true) ∧
    (∃ (l : LaneId) (s : State), (s.lane l).live.sensing = true ∧ (s.lane l).live.wi.gndShift = false) ∧
    (∃ (l : LaneId) (s : State), (s.lane l).live.wi.gndShift = true ∧ (s.lane l).live.phase ≠ .withdrawn) ∧
    (∃ (l : LaneId) (s : State), (s.lane l).live.writes = true) :=
  ⟨
    ⟨.a, 0, on (fun x => x |> ph .joined |> wnd (fun y => { y with ws := .running, isumRuns := 16 })),
      by decide +kernel⟩,
    ⟨.a, 2, on (fun x => x |> ph .joined), by decide +kernel⟩,
    ⟨.a, .can 0, 2, on (fun x => x |> ph .joined |> md .standby), by decide +kernel⟩,
    ⟨.a, 7, true, 255, on (fun x => x |> ph .joined |> wi (fun y => { y with cableRunA := true })),
      by decide +kernel⟩,
    ⟨.a, 0, false, 0, on (fun x => x |> ph .joined |> wi (fun y => { y with cableRunB := true })),
      by decide +kernel⟩,
    ⟨.a, 3, 2, on (fun x => x |> ph .joined), by decide +kernel⟩,
    ⟨.a, on (fun x => x |> ph .joined), by decide +kernel⟩,
    ⟨.a, on (fun x => x |> ph .joined |> wi (fun y => { y with gndShift := true })), by decide +kernel⟩,
    ⟨.a, on (fun x => x |> ph .joined), by decide +kernel⟩⟩

/-- `Obligations.WindowsRunOrAbandonItems`. -/
theorem witness_WindowsRunOrAbandonItems :
    (∃ (l : LaneId) (w : Fin 8) (stall : Nat) (i : EItem) (s : State), (s.lane l).live.goesOn = true ∧ (s.lane
      l).live.winItems w = [i] ∧ (s.lane l).live.inTime w.val i (stall + (s.lane l).live.retryStall w + (s.lane
      l).live.itemCost i) = false ∧ (s.lane l).live.itemDue i = true) ∧
    (∃ (l : LaneId) (w : Fin 8) (stall k : Nat) (s : State), (s.lane l).live.goesOn = true ∧ (s.lane
      l).live.winItems w = [.slot k] ∧ k ≠ 191 ∧ (s.lane l).live.num Obj.slotKind k ≠ 7 ∧ (s.lane l).live.inTime
      w.val (.slot k) (stall + (s.lane l).live.retryStall w + (s.lane l).live.itemCost (.slot k)) = true ∧ (s.lane
      l).live.slotDue k = true ∧ (s.lane l).live.runHeld k = false ∧ (s.lane l).live.slotGroupOf k = none ∧ ((s.lane
      l).live.sourceNow k).1 ≠ 3 ∧ (s.lane l).live.fl.armed = none) ∧
    (∃ (l : LaneId) (k : Fin 192) (s : State), (s.lane l).live.en.late.getLsbD k.val = true) ∧
    (∃ (l : LaneId) (s : State), (s.lane l).live.writes = true) :=
  ⟨
    ⟨.a, 0, 100000, .slot 10, on (fun x => x |> ph .joined |> md .operational |> en (fun y =>
      { y with running := true }) |> en (fun y => { y with windows := (Vector.replicate 8 []).set 0 [10] })),
      by decide +kernel⟩,
    ⟨.a, 0, 0, 10, on (fun x => x |> ph .joined |> md .operational |> en (fun y => { y with running := true }) |> en
      (fun y => { y with windows := (Vector.replicate 8 []).set 0 [10] })), by decide +kernel⟩,
    ⟨.a, 191, on (fun x => x |> ph .joined |> en (fun y => { y with late := BitVec.ofNat 192 (2 ^ 191) })),
      by decide +kernel⟩,
    ⟨.a, on (fun x => x |> ph .joined), by decide +kernel⟩⟩

/-- `Obligations.SlotEventsAndRetunes`. -/
theorem witness_SlotEventsAndRetunes :
    (∃ (l : LaneId) (p : Fin 8) (d c : F32 × F32 × F32) (s : State), ((s.lane l).live.fc.wind[p]).newDuty = some (d,
      c) ∧ ((s.lane l).live.fc.wind[p]).loopOn = true ∧ ((s.lane l).live.gd.ports[p]).mode = .pwm) ∧
    (∃ (l : LaneId) (p : Fin 8) (d : (F32 × F32 × F32) × (F32 × F32 × F32)) (s : State), ((s.lane
      l).live.fc.wind[p]).newDuty = some d ∧ ((s.lane l).live.fc.wind[p]).loopOn = false) ∧
    (∃ (l : LaneId) (k : Fin 192) (s : State), (s.lane l).live.num Obj.missLimit ≤ ((s.lane l).live.slot
      k.val).consec ∧ (s.lane l).live.fl.kSlots.getLsbD k.val = false ∧ k.val = 191 ∧ (s.lane l).live.safetySlot =
      true) ∧
    (∃ (l : LaneId) (k : Fin 192) (s : State), (s.lane l).live.num Obj.missLimit ≤ ((s.lane l).live.slot
      k.val).consec ∧ (s.lane l).live.fl.kSlots.getLsbD k.val = false ∧ k.val ≠ 191) ∧
    (∃ (l : LaneId) (e : Fin 256) (s : State), (s.lane l).live.num Obj.appStaleTicks ≠ 0 ∧ (s.lane l).live.running =
      true ∧ (s.lane l).live.en.appWritten.read 0 (768 + e.val) + (s.lane l).live.num Obj.appStaleTicks < (s.lane
      l).live.ticks) ∧
    (∃ (l : LaneId) (k : Fin 192) (s : State), ((s.lane l).live.num Obj.slotKind k.val = 2 ∨ (s.lane l).live.num
      Obj.slotKind k.val = 3) ∧ ((s.lane l).live.slot k.val).fault = false ∧ F32.gt ((s.lane l).live.slot
      k.val).ferr (F32.ofRatio ((s.lane l).live.num Obj.slotFollowErrTime k.val) 1000) = true) ∧
    (∃ (l : LaneId) (g : Fin 24) (s : State), ((s.lane l).live.en.cmd[g]).ever = true ∧ ((s.lane
      l).live.en.cmd[g]).timeout = false ∧ (s.lane l).live.num Obj.cmdStaleCycles < ((s.lane
      l).live.en.cmd[g]).fresh) ∧
    (∃ (l : LaneId) (k : Fin 192) (s : State), (s.lane l).live.adaptive k.val = true ∧ (s.lane l).live.num
      Obj.slotDetectorLength k.val ≤ ((s.lane l).live.slot k.val).epoch ∧ (s.lane l).live.epochFrozen k.val = true) ∧
    (∃ (l : LaneId) (k : Fin 192) (fe : F32) (s : State), (s.lane l).live.num Obj.slotNotch1Mode k.val = 2 ∧ (s.lane
      l).live.num Obj.slotNotch2Mode k.val ≠ 2 ∧ (s.lane l).live.num Obj.slotDetectorLength k.val ≤ ((s.lane
      l).live.slot k.val).epoch ∧ (s.lane l).live.epochFrozen k.val = false ∧ (s.lane l).live.detected k.val = some
      fe) :=
  ⟨
    ⟨.a, 0, (0, 0, 0), (0, 0, 0), on (fun x => x |> ph .joined |> wnd (fun y =>
      { y with ws := .running, newDuty := some ((0, 0, 0), (0, 0, 0)) }) |> port (fun y =>
      { y with mode := .pwm })), by decide +kernel⟩,
    ⟨.a, 0, ((0, 0, 0), (0, 0, 0)), on (fun x => x |> ph .joined |> wnd (fun y =>
      { y with newDuty := some ((0, 0, 0), (0, 0, 0)) })), by decide +kernel⟩,
    ⟨.a, 191, on (fun x => x |> ph .joined |> put Obj.instEnable 0 1 |> put Obj.missLimit 0 1 |> slot 191 (fun q =>
      { q with consec := 1 })), by decide +kernel⟩,
    ⟨.a, 190, on (fun x => x |> ph .joined |> put Obj.missLimit 0 1 |> slot 190 (fun q => { q with consec := 1 })),
      by decide +kernel⟩,
    ⟨.a, 255, on (fun x => x |> ph .joined |> md .operational |> en (fun y => { y with running := true }) |> put
      Obj.appStaleTicks 0 1 |> tk (fun y => { y with count := 2 })), by decide +kernel⟩,
    ⟨.a, 10, on (fun x => x |> ph .joined |> put Obj.slotKind 10 2 |> slot 10 (fun q =>
      { q with ferr := F32.ofNat 1000 })), by decide +kernel⟩,
    ⟨.a, 0, on (fun x => x |> ph .joined |> en (fun y =>
      { y with cmd := Vector.replicate 24 { ever := true, fresh := 1000 } })), by decide +kernel⟩,
    ⟨.a, 10, on (fun x => x |> ph .joined |> put Obj.slotNotch1Mode 10 2 |> slot 10 (fun q =>
      { q with epoch := 100000 })), by decide +kernel⟩,
    ⟨.a, 10, 0x42C80000, on (fun x => x |> ph .joined |> md .operational |> put Obj.slotNotch1Mode 10 2 |> put
      Obj.slotAdaptMin 10 0x42C80000 |> put Obj.slotAdaptMax 10 0x43480000 |> slot 10 (fun q =>
      { q with epoch := 100000, epochs := 2, bank := [(F32.ofNat 1000000, 0)] })), by decide +kernel⟩⟩

/-- `Obligations.SetpointInputs`. -/
theorem witness_SetpointInputs :
    (∃ (l : LaneId) (i : Fin 4) (t : Nat) (s : State), ((s.lane l).live.en.ain[i]).broken = some t ∧ ((s.lane
      l).live.en.ain[i]).invalid = false ∧ (s.lane l).live.due (t + ms ((s.lane l).live.num Obj.ainFaultTime)) =
      true) ∧
    (∃ (l : LaneId) (_lineA _lineB : Bool) (_ph width : Nat) (s : State), width * 5 < 2 * (s.lane l).live.num
      Obj.psetMinPulse) ∧
    (∃ (l : LaneId) (_lineB : Bool) (_ph width : Nat) (s : State), (s.lane l).live.awake = true ∧ 2 * (s.lane
      l).live.num Obj.psetMinPulse ≤ width * 5 ∧ (s.lane l).live.num Obj.psetForm = 0 ∧ (s.lane
      l).live.en.pset.lineA = false) ∧
    (∃ (l : LaneId) (_up : Bool) (_ph width : Nat) (s : State), (s.lane l).live.awake = true ∧ 2 * (s.lane
      l).live.num Obj.psetMinPulse ≤ width * 5 ∧ (s.lane l).live.num Obj.psetForm = 1) ∧
    (∃ (l : LaneId) (t : Nat) (s : State), (s.lane l).live.en.pset.edgeAt = some t ∧ (s.lane l).live.due (t + ms
      ((s.lane l).live.num Obj.psetTimeout)) = true) :=
  ⟨
    ⟨.a, 0, 0, on (fun x => x |> ph .joined |> en (fun y =>
      { y with ain := Vector.replicate 4 { broken := some 0 } }) |> (fun y => { y with clk := ms 100000 })),
      by decide +kernel⟩,
    ⟨.a, true, true, 0, 39, on (fun x => x |> ph .joined), by decide +kernel⟩,
    ⟨.a, false, 0, 40, on (fun x => x |> ph .joined), by decide +kernel⟩,
    ⟨.a, true, 0, 40, on (fun x => x |> ph .joined |> put Obj.psetForm 0 1), by decide +kernel⟩,
    ⟨.a, 0, on (fun x => x |> ph .joined |> en (fun y => { y with pset := { edgeAt := some 0 } }) |> (fun y =>
      { y with clk := ms 100000 })), by decide +kernel⟩⟩

/-- `Obligations.ConversionsAndCrossings`. -/
theorem witness_ConversionsAndCrossings :
    (∃ (l : LaneId) (p : Fin 8) (smp : Sample) (s : State), (s.lane l).live.sensing = true ∧ ((s.lane
      l).live.groupOf p).isSome = true ∧ ((s.lane l).live.gd.ports[p]).mode = .pwm ∧ (s.lane l).live.sourceOf p ≠
      some 4 ∧ smp.iu.first = true ∧ smp.iv.first = true ∧ smp.iw.first = true ∧ saturated smp.iu.code = false ∧
      saturated smp.iv.code = true) ∧
    (∃ (l : LaneId) (p : Fin 8) (_cs : Vector Code 3) (s : State), (s.lane l).live.running = true ∧ ((s.lane
      l).live.ticks % (s.lane l).live.num Obj.offsetTrimDiv ≠ 0 ∨ (s.lane l).live.peakHigh p = false)) ∧
    (∃ (l : LaneId) (p : Fin 8) (cs : Vector Code 3) (s : State), (s.lane l).live.running = true ∧ (s.lane
      l).live.ticks % (s.lane l).live.num Obj.offsetTrimDiv = 0 ∧ (s.lane l).live.peakHigh p = true ∧ (∀ k : Fin 3,
      saturated cs[k] = false ∧ (s.lane l).live.aq.start[portLeg p k] = none)) ∧
    (∃ (l : LaneId) (ch : Fin 192) (_code : Code) (s : State), (s.lane l).live.sensing = true ∧ (ch.val ∈
      List.range' 24 120 ∨ ch.val ∈ [170, 171, 172, 181, 182, 183, 184, 189, 190, 191])) ∧
    (∃ (l : LaneId) (_code : Code) (s : State), (s.lane l).live.sensing = true ∧ (s.lane l).live.fl.kChans.getLsbD 169 = false) ∧
    (∃ (l : LaneId) (adc : Fin 16) (cs : Vector Code 3) (s : State), (s.lane l).live.sensing = true ∧ (s.lane
      l).live.fl.kAdcs.getLsbD adc.val = false ∧ (refBad cs = false ∨ (s.lane l).live.aq.badRef.getLsbD adc.val =
      false)) ∧
    (∃ (l : LaneId) (leg : Fin 24) (_ph : Nat) (s : State), (s.lane l).live.sensing = true ∧ (((s.lane
      l).live.gd.ports[legPort leg]).legs[legPhase leg]).riseCmd = none) ∧
    (∃ (l : LaneId) (leg : Fin 24) (ph r : Nat) (s : State), (s.lane l).live.sensing = true ∧ (((s.lane
      l).live.gd.ports[legPort leg]).legs[legPhase leg]).fallCmd = some r ∧ r ≤ (s.lane l).live.start + ph) ∧
    (∃ (l : LaneId) (s : State), (s.lane l).live.writes = true) :=
  ⟨
    ⟨.a, 0, smp 8192 0 8192, on (fun x => x |> ph .joined |> bound |> port (fun y => { y with mode := .pwm })),
      by decide +kernel⟩,
    ⟨.a, 0, Vector.replicate 3 8192, on (fun x => x |> ph .joined |> md .operational |> en (fun y =>
      { y with running := true })), by decide +kernel⟩,
    ⟨.a, 0, Vector.replicate 3 8192, on (fun x => x |> ph .joined |> md .operational |> en (fun y =>
      { y with running := true }) |> port (fun y => { y with mode := .pwm }) |> wnd (fun y =>
      { y with cmp := (F32.dec 5 1, F32.dec 5 1, F32.dec 5 1) })), by decide +kernel⟩,
    ⟨.a, 191, 0x3FFF, on (fun x => x |> ph .joined), by decide +kernel⟩,
    ⟨.a, 9000, on (fun x => x |> ph .joined), by decide +kernel⟩,
    ⟨.a, 15, #v[1638, 8192, 14746], on (fun x => x |> ph .joined), by decide +kernel⟩,
    ⟨.a, 0, 0, on (fun x => x |> ph .joined), by decide +kernel⟩,
    ⟨.a, 0, 10, 10, on (fun x => x |> ph .joined |> leg (fun y => { y with fallCmd := some 10 })),
      by decide +kernel⟩,
    ⟨.a, on (fun x => x |> ph .joined), by decide +kernel⟩⟩

/-- `Obligations.FeedbackCounts`. -/
theorem witness_FeedbackCounts :
    (∃ (l : LaneId) (p : Fin 8) (n : FbLines) (_ph : Nat) (s : State), (s.lane l).live.awake = true ∧ ((s.lane
      l).live.fbModeOf p = 1 ∨ (s.lane l).live.fbModeOf p = 2) ∧ (s.lane l).live.num Obj.fbSoftLimitEnable p.val = 0
      ∧ (s.lane l).live.num Obj.reelSource ≠ p.val ∧ n.i = ((s.lane l).live.fbPort p).lines.i ∧ (n.a != ((s.lane
      l).live.fbPort p).lines.a) ≠ (n.b != ((s.lane l).live.fbPort p).lines.b)) ∧
    (∃ (l : LaneId) (p : Fin 8) (n : FbLines) (_ph : Nat) (s : State), (s.lane l).live.awake = true ∧ (s.lane
      l).live.fbModeOf p = 1 ∧ (s.lane l).live.num Obj.reelSource ≠ p.val ∧ n.i = ((s.lane l).live.fbPort p).lines.i
      ∧ n.a ≠ ((s.lane l).live.fbPort p).lines.a ∧ n.b ≠ ((s.lane l).live.fbPort p).lines.b ∧ ((s.lane
      l).live.fbPort p).illAt.length ≤ 1) ∧
    (∃ (l : LaneId) (p : Fin 8) (n : FbLines) (_ph k : Nat) (s : State), (s.lane l).live.awake = true ∧ (s.lane
      l).live.fbModeOf p = 3 ∧ (s.lane l).live.num Obj.fbSoftLimitEnable p.val = 0 ∧ (s.lane l).live.num
      Obj.reelSource ≠ p.val ∧ ((s.lane l).live.fbPort p).sector.toNat < 6 ∧ hallSector n.h = some k ∧ ((s.lane
      l).live.fbPort p).sector.toNat + 1 = k ∧ n.h ≠ ((s.lane l).live.fbPort p).lines.h) ∧
    (∃ (l : LaneId) (_p : Fin 8) (_n : FbLines) (_ph : Nat) (s : State), (s.lane l).live.awake = false) ∧
    (∃ (l : LaneId) (p : Fin 8) (_v : Word) (s : State), (s.lane l).live.writes = true ∧ (s.lane l).live.num
      Obj.fbSoftLimitEnable p.val = 0) ∧
    (∃ (l : LaneId) (p : Fin 8) (v : Word) (s : State), (s.lane l).live.writes = true ∧ (s.lane l).live.num
      Obj.fbSoftLimitEnable p.val = 1 ∧ (s.lane l).live.int Obj.fbSoftMax p.val < v.toInt) ∧
    (∃ (l : LaneId) (_p : Fin 8) (s : State), (s.lane l).live.writes = true) :=
  ⟨
    ⟨.a, 0, lines true false false 0, 0, on (fun x => x |> ph .joined |> put Obj.fbMode 0 1), by decide +kernel⟩,
    ⟨.a, 0, lines true true false 0, 0, on (fun x => x |> ph .joined |> put Obj.fbMode 0 1), by decide +kernel⟩,
    ⟨.a, 0, lines false false false 3, 0, 1, on (fun x => x |> ph .joined |> put Obj.fbMode 0 3 |> fb (fun y =>
      { y with ports := Vector.replicate 8 { sector := 0 } })), by decide +kernel⟩,
    ⟨.a, 0, lines true true true 7, 0, on (fun x => x |> ph .boot), by decide +kernel⟩,
    ⟨.a, 7, 0xFFFFFFFF, on (fun x => x |> ph .joined), by decide +kernel⟩,
    ⟨.a, 0, 101, on (fun x => x |> ph .joined |> put Obj.fbSoftLimitEnable 0 1 |> put Obj.fbSoftMax 0 100),
      by decide +kernel⟩,
    ⟨.a, 0, on (fun x => x |> ph .joined), by decide +kernel⟩⟩

/-- `Obligations.FeedbackFaultsSentAndOutputs`. -/
theorem witness_FeedbackFaultsSentAndOutputs :
    (∃ (l : LaneId) (p : Fin 8) (s : State), (s.lane l).live.awake = true ∧ (s.lane l).live.fbModeOf p = 3 ∧
      hallSector ((s.lane l).live.fbPort p).lines.h = none ∧ (s.lane l).live.num Obj.tetherSource ≠ p.val ∧ (s.lane
      l).live.num Obj.reelSource ≠ p.val ∧ (s.lane l).live.sourceOf p = none) ∧
    (∃ (l : LaneId) (p : Fin 8) (s : State), (s.lane l).live.awake = true ∧ (s.lane l).live.fbModeOf p = 3 ∧
      hallSector ((s.lane l).live.fbPort p).lines.h = none ∧ (s.lane l).live.num Obj.tetherSource ≠ p.val ∧ (s.lane
      l).live.num Obj.reelSource ≠ p.val ∧ (s.lane l).live.sourceOf p = some 1 ∧ ((s.lane
      l).live.fc.wind[p]).srcLost = false) ∧
    (∃ (l : LaneId) (p : Fin 8) (s : State), (s.lane l).live.awake = true ∧ (s.lane l).live.fbModeOf p ≠ 0 ∧ (s.lane
      l).live.num Obj.tetherSource ≠ p.val ∧ (s.lane l).live.num Obj.reelSource = p.val ∧ (s.lane l).live.sourceOf p
      = none) ∧
    (∃ (l : LaneId) (n : Fin 4) (f : SentFrame) (s : State), (s.lane l).live.awake = true ∧ (s.lane l).live.num
      Obj.sentTick 0 n.val ≠ 0 ∧ (s.lane l).live.sentChecks n f = (false, false, false, false) ∧ f.slow = none) ∧
    (∃ (l : LaneId) (n : Fin 4) (f : SentFrame) (sync nib stat : Bool) (s : State), (s.lane l).live.awake = true ∧
      (s.lane l).live.num Obj.sentTick 0 n.val ≠ 0 ∧ (s.lane l).live.sentChecks n f = (sync, nib, true, stat)) ∧
    (∃ (l : LaneId) (n : Fin 4) (s : State), (s.lane l).live.awake = true ∧ (s.lane l).live.num Obj.sentTick 0 n.val
      ≠ 0) ∧
    (∃ (l : LaneId) (n : Fin 4) (t : Nat) (s : State), (s.lane l).live.awake = true ∧ ((s.lane
      l).live.fb.sent[n]).stopAt = some t ∧ ((s.lane l).live.fb.sent[n]).flags.getLsbD 0 = true ∧ (s.lane
      l).live.due (t + ms ((s.lane l).live.num Obj.sentTimeout 0 n.val)) = true ∧ (s.lane l).live.sentUsers n = []) ∧
    (∃ (l : LaneId) (s : State), (s.lane l).live.writes = true) ∧
    (∃ (l : LaneId) (s : State), (s.lane l).live.awake = true ∧ (s.lane l).live.fb.reelOn = true) ∧
    (∃ (l : LaneId) (s : State), (s.lane l).live.awake = true ∧ (s.lane l).live.fb.tetherOn = true) ∧
    (∃ (l : LaneId) (t : Nat) (s : State), (s.lane l).live.due t = true ∧ (s.lane l).live.wi.reelOff = some t) ∧
    (∃ (l : LaneId) (t : Nat) (s : State), (s.lane l).live.due t = true ∧ (s.lane l).live.wi.tetherOff = some t) :=
  ⟨
    ⟨.a, 0, on (fun x => x |> ph .joined |> put Obj.fbMode 0 3), by decide +kernel⟩,
    ⟨.a, 0, on (fun x => x |> ph .joined |> bound |> put Obj.groupPositionSource 0 1 |> put Obj.fbMode 0 3),
      by decide +kernel⟩,
    ⟨.a, 0, on (fun x => x |> ph .joined |> put Obj.fbMode 0 1 |> put Obj.reelSource 0 0), by decide +kernel⟩,
    ⟨.a, 0, sent true, on (fun x => x |> ph .joined |> put Obj.sentTick 0 30), by decide +kernel⟩,
    ⟨.a, 0, sent false, false, false, false, on (fun x => x |> ph .joined |> put Obj.sentTick 0 30),
      by decide +kernel⟩,
    ⟨.a, 0, on (fun x => x |> ph .joined |> put Obj.sentTick 0 30), by decide +kernel⟩,
    ⟨.a, 0, 0, on (fun x => x |> ph .joined |> fb (fun y =>
      { y with sent := Vector.replicate 4 { stopAt := some 0, flags := 1 } }) |> (fun y =>
      { y with clk := ms 100000 })), by decide +kernel⟩,
    ⟨.a, on (fun x => x |> ph .joined), by decide +kernel⟩,
    ⟨.a, on (fun x => x |> ph .joined |> fb (fun y => { y with reelOn := true })), by decide +kernel⟩,
    ⟨.a, on (fun x => x |> ph .joined |> fb (fun y => { y with tetherOn := true })), by decide +kernel⟩,
    ⟨.a, 0, on (fun x => x |> ph .joined |> wi (fun y => { y with reelOff := some 0 })), by decide +kernel⟩,
    ⟨.a, 0, on (fun x => x |> ph .joined |> wi (fun y => { y with tetherOff := some 0 })), by decide +kernel⟩⟩

/-- `Obligations.SafetyChannelsAndPulses`. -/
theorem witness_SafetyChannelsAndPulses :
    (∃ (l : LaneId) (n : Fin 6) (s : State), (s.lane l).live.phase = .joined ∧ (s.lane l).live.planned true n.val =
      true) ∧
    (∃ (l : LaneId) (n : Fin 6) (low _cross : BitVec 12) (s : State), ((s.lane l).live.sf.tpo[n]).pulsing = true ∧
      (∀ k : Fin 12, (s.lane l).live.num Obj.pulseSource 0 k.val = n.val ∧ ((s.lane l).live.sf.sin[k]).faulted =
      false ∧ ((s.lane l).live.sf.sin[k]).closed = true ∧ low.getLsbD k.val = false ∧ ((s.lane
      l).live.sf.sin[k]).misses = 0 ∨ (s.lane l).live.num Obj.pulseSource 0 k.val = 255)) ∧
    (∃ (l : LaneId) (n : Fin 6) (low _cross : BitVec 12) (k : Fin 12) (s : State), ((s.lane
      l).live.sf.tpo[n]).pulsing = true ∧ (s.lane l).live.num Obj.pulseSource 0 k.val = n.val ∧ ((s.lane
      l).live.sf.sin[k]).faulted = false ∧ ((s.lane l).live.sf.sin[k]).closed = true ∧ ((s.lane
      l).live.sf.sin[k]).misses = 1 ∧ low.getLsbD k.val = false) ∧
    (∃ (l : LaneId) (n : Fin 6) (k : Fin 12) (s : State), (s.lane l).live.phase = .joined ∧ ((s.lane
      l).live.sf.tpo[n]).pulsing = false ∧ (s.lane l).live.num Obj.pulseSource 0 k.val = n.val) :=
  ⟨
    ⟨.a, 0, on (fun x => x |> ph .joined |> sf (fun y =>
      { y with plan := [{ lane := .a, isTpo := true, num := 0, offset := 0, period := 100, width := 500 }] })),
      by decide +kernel⟩,
    ⟨.a, 0, 0, 0, on (fun x => x |> ph .joined |> put Obj.pulseSource 0 0 |> sf (fun y =>
      { y with tpo := Vector.replicate 6 { pulsing := true }, sin := Vector.replicate 12 { closed := true } })),
      by decide +kernel⟩,
    ⟨.a, 0, 0, 0, 0, on (fun x => x |> ph .joined |> put Obj.pulseSource 0 0 |> sf (fun y =>
      { y with tpo := Vector.replicate 6 { pulsing := true }, sin := Vector.replicate 12 { closed := true, misses := 1 } })),
      by decide +kernel⟩,
    ⟨.a, 0, 0, on (fun x => x |> ph .joined |> put Obj.pulseSource 0 0), by decide +kernel⟩⟩

/-- `Obligations.SafetyOutputs`. -/
theorem witness_SafetyOutputs :
    (∃ (l : LaneId) (n : Fin 4) (s : State), ((s.lane l).live.sf.sout[n]).cmd = true ∧ ((s.lane
      l).live.sf.sout[n]).dark = false ∧ (s.lane l).live.planned false n.val = true ∧ (s.lane l).live.inEdmTime n =
      false) ∧
    (∃ (l : LaneId) (n : Fin 4) (s : State), ((s.lane l).live.sf.sout[n]).cmd = true ∧ ((s.lane
      l).live.sf.sout[n]).dark = false ∧ (s.lane l).live.planned false n.val = true ∧ (s.lane l).live.inEdmTime n =
      true) ∧
    (∃ (l : LaneId) (n : Fin 4) (mv : Nat) (s : State), ((s.lane l).live.sf.sout[n]).dark = true ∧ mv < 2000) ∧
    (∃ (l : LaneId) (n : Fin 4) (mv : Nat) (s : State), ((s.lane l).live.sf.sout[n]).dark = true ∧ 2000 ≤ mv) ∧
    (∃ (l : LaneId) (n : Fin 4) (s : State), ((s.lane l).live.sf.sout[n]).cmd = false) ∧
    (∃ (l : LaneId) (n : Fin 4) (s : State), ((s.lane l).live.sf.sout[n]).cmd = true) ∧
    (∃ (l : LaneId) (n : Fin 4) (s : State), ((s.lane l).live.sf.sout[n]).cmd = true ∧ ((s.lane
      l).live.sf.sout[n]).overrun = false ∧ ms ((s.lane l).live.num Obj.diagInterval 0 n.val) ≤ ((s.lane
      l).live.sf.sout[n]).onFor + (s.lane l).live.tick) ∧
    (∃ (l : LaneId) (n : Fin 4) (closed : Bool) (s : State), (s.lane l).live.edmOf n ≠ none ∧ closed = !((s.lane
      l).live.sf.sout[n]).cmd) ∧
    (∃ (l : LaneId) (n : Fin 4) (closed : Bool) (s : State) (t : Nat), (s.lane l).live.edmOf n ≠ none ∧ closed =
      ((s.lane l).live.sf.sout[n]).cmd ∧ ((s.lane l).live.sf.sout[n]).edmBadAt = some t ∧ ((s.lane
      l).live.sf.sout[n]).locked = false ∧ (s.lane l).live.due ((s.lane l).live.edmLimit n t) = true) ∧
    (∃ (l : LaneId) (n : Fin 4) (_path : Path) (mv : Nat) (s : State), (s.lane l).live.writes = true ∧ (s.lane
      l).live.standby = true ∧ (s.lane l).live.edmOf n = none ∧ mv < 2000 ∧ (s.lane l).live.num Obj.standbyOn 0
      n.val ≠ 1 ∧ ((s.lane l).live.sf.sout[n]).cmd = false) ∧
    (∃ (l : LaneId) (n : Fin 4) (_path : Path) (mv : Nat) (s : State), (s.lane l).live.writes = true ∧ (s.lane
      l).live.standby = true ∧ (s.lane l).live.edmOf n = none ∧ 2000 ≤ mv) :=
  ⟨
    ⟨.a, 0, on (fun x => x |> ph .joined |> sf (fun y => { y with sout := Vector.replicate 4 { cmd := true } }) |>
      sf (fun y =>
      { y with plan := [{ lane := .a, isTpo := false, num := 0, offset := 0, period := 100, width := 500 }] })),
      by decide +kernel⟩,
    ⟨.a, 0, on (fun x => x |> ph .joined |> sf (fun y =>
      { y with sout := Vector.replicate 4 { cmd := true, changedAt := some 0 } }) |> sf (fun y =>
      { y with plan := [{ lane := .a, isTpo := false, num := 0, offset := 0, period := 100, width := 500 }] })),
      by decide +kernel⟩,
    ⟨.a, 0, 1999, on (fun x => x |> ph .joined |> sf (fun y =>
      { y with sout := Vector.replicate 4 { dark := true } })), by decide +kernel⟩,
    ⟨.a, 0, 2000, on (fun x => x |> ph .joined |> sf (fun y =>
      { y with sout := Vector.replicate 4 { dark := true } })), by decide +kernel⟩,
    ⟨.a, 3, on (fun x => x |> ph .joined), by decide +kernel⟩,
    ⟨.a, 3, on (fun x => x |> ph .joined |> sf (fun y => { y with sout := Vector.replicate 4 { cmd := true } })),
      by decide +kernel⟩,
    ⟨.a, 0, on (fun x => x |> ph .joined |> sf (fun y =>
      { y with sout := Vector.replicate 4 { cmd := true, onFor := ms 100000 } })), by decide +kernel⟩,
    ⟨.a, 0, true, on (fun x => x |> ph .joined |> put Obj.edmInput 0 0), by decide +kernel⟩,
    ⟨.a, 0, false, on (fun x => x |> ph .joined |> put Obj.edmInput 0 0 |> sf (fun y =>
      { y with sout := Vector.replicate 4 { edmBadAt := some 0 } }) |> (fun y => { y with clk := ms 1000 })), 0,
      by decide +kernel⟩,
    ⟨.a, 0, .can 0, 1999, on (fun x => x |> ph .joined |> md .standby), by decide +kernel⟩,
    ⟨.a, 0, .can 0, 2000, on (fun x => x |> ph .joined |> md .standby), by decide +kernel⟩⟩

/-- `Obligations.SafetyTimersAndSafeData`. -/
theorem witness_SafetyTimersAndSafeData :
    (∃ (l : LaneId) (i : Fin 24) (s : State), (s.lane l).live.running = true ∧ (s.lane l).live.sfOn i = true ∧
      isTwoHand i.val = false ∧ ((s.lane l).live.sf.inst[i]).degRun = true ∧ ((s.lane l).live.sf.inst[i]).state = 2
      ∧ (s.lane l).live.num Obj.safetyDegradedTime * (s.lane l).live.num Obj.tickRate ≤ ((s.lane
      l).live.sf.inst[i]).degTimer.toNat) ∧
    (∃ (l : LaneId) (i : Fin 24) (s : State), (s.lane l).live.running = true ∧ (s.lane l).live.sfOn i = true ∧
      ((s.lane l).live.sf.inst[i]).state = 0 ∧ ((s.lane l).live.sf.inst[i]).disc ≠ 0 ∧ ((s.lane l).live.sfInput
      i.val).lasts (((s.lane l).live.sf.inst[i]).disc.toNat - 1) ((s.lane l).live.sfInput i.val).disc = true ∧
      isTwoHand i.val = false) ∧
    (∃ (l : LaneId) (i : Fin 24) (s : State), (s.lane l).live.running = true ∧ (s.lane l).live.sfOn i = true ∧
      ((s.lane l).live.sf.inst[i]).state = 0 ∧ ((s.lane l).live.sf.inst[i]).disc ≠ 0 ∧ ((s.lane l).live.sfInput
      i.val).lasts (((s.lane l).live.sf.inst[i]).disc.toNat - 1) ((s.lane l).live.sfInput i.val).disc = true ∧
      isTwoHand i.val = true ∧ ((s.lane l).live.sfInput i.val).c1 ≠ 1) ∧
    (∃ (l : LaneId) (i : Fin 24) (b : Bool) (s : State), (s.lane l).live.sdUsed i.val = true ∧ (pickCopy (s.lane
      l).live.sf.sd[i] b).lost = false ∧ (s.lane l).live.num Obj.safeTimeout < (pickCopy (s.lane l).live.sf.sd[i]
      b).age) ∧
    (∃ (l : LaneId) (s : State), (s.lane l).live.writes = true) :=
  ⟨
    ⟨.a, 0, on (fun x => x |> ph .joined |> md .operational |> en (fun y => { y with running := true }) |> put
      Obj.instEnable 0 1 |> sf (fun y =>
      { y with inst := Vector.replicate 24 { state := 2, degRun := true, degTimer := 4294967295 } })),
      by decide +kernel⟩,
    ⟨.a, 0, on (fun x => x |> ph .joined |> md .operational |> en (fun y => { y with running := true }) |> put
      Obj.instEnable 0 1 |> sf (fun y => { y with inst := Vector.replicate 24 { disc := 4294967295 } })),
      by decide +kernel⟩,
    ⟨.a, 16, on (fun x => x |> ph .joined |> md .operational |> en (fun y => { y with running := true }) |> put
      Obj.instEnable 16 1 |> sf (fun y => { y with inst := Vector.replicate 24 { disc := 4294967295 } })),
      by decide +kernel⟩,
    ⟨.a, 0, true, on (fun x => x |> ph .joined |> (fun y =>
      { y with cfg := y.cfg.insert (Obj.safeDataInputs.key 0 0) (List.replicate 288 0) }) |> sf (fun y =>
      { y with sd := Vector.replicate 24 ({}, { lost := false, age := 100 }) })), by decide +kernel⟩,
    ⟨.a, on (fun x => x |> ph .joined), by decide +kernel⟩⟩

/-- `Obligations.FaultRecordsReleaseInjection`. -/
theorem witness_FaultRecordsReleaseInjection :
    (∃ (l : LaneId) (path : Path) (s : State), (s.lane l).live.writes = true ∧ (s.lane l).live.sessionOn path =
      true) ∧
    (∃ (l : LaneId) (path : Path) (s : State), (s.lane l).live.writes = true ∧ (s.lane l).live.sessionOn path =
      false) ∧
    (∃ (l : LaneId) (path : Path) (code : Half) (u : KennelUnit) (s : State), kennelUnit code = some u ∧ (s.lane
      l).live.writes = true ∧ (s.lane l).live.standby = true ∧ (s.lane l).live.sessionOn path = true ∧ (s.lane
      l).live.kennelled u = true ∧ (s.lane l).live.causeAbsent u = true) ∧
    (∃ (l : LaneId) (path : Path) (code : Half) (u : KennelUnit) (s : State), kennelUnit code = some u ∧ (s.lane
      l).live.writes = true ∧ (s.lane l).live.standby = true ∧ (s.lane l).live.sessionOn path = true ∧ (s.lane
      l).live.kennelled u = false) ∧
    (∃ (l : LaneId) (path : Path) (code : Half) (u : KennelUnit) (s : State), kennelUnit code = some u ∧ (s.lane
      l).live.writes = true ∧ (s.lane l).live.standby = true ∧ (s.lane l).live.sessionOn path = true) ∧
    (∃ (l : LaneId) (path : Path) (s : State), (s.lane l).live.writes = true ∧ (s.lane l).live.standby = true ∧
      (s.lane l).live.sessionOn path = true ∧ (s.lane l).live.fl.armed = none) ∧
    (∃ (l : LaneId) (path : Path) (s : State), (s.lane l).live.writes = true ∧ (s.lane l).live.standby = true ∧
      (s.lane l).live.sessionOn path = true ∧ (s.lane l).live.fl.armed ≠ none) ∧
    (∃ (l : LaneId) (a : Injection) (s : State), (s.lane l).live.fl.armed = some a ∧ (s.lane l).live.due a.until' =
      true) :=
  ⟨
    ⟨.a, .can 0, on (fun x => x |> serviced), by decide +kernel⟩,
    ⟨.a, .can 1, on (fun x => x |> serviced), by decide +kernel⟩,
    ⟨.a, .can 0, 0x0100, .port 0, on (fun x => x |> serviced |> fl (fun y => { y with kPorts := 1 })),
      by decide +kernel⟩,
    ⟨.a, .can 0, 0x070F, .cvu 15, on (fun x => x |> serviced), by decide +kernel⟩,
    ⟨.a, .can 0, 0x02BF, .slot 191, on (fun x => x |> serviced), by decide +kernel⟩,
    ⟨.a, .can 0, on (fun x => x |> serviced), by decide +kernel⟩,
    ⟨.a, .can 0, on (fun x => x |> serviced |> fl (fun y =>
      { y with armed := some { checker := 0, pattern := 0, react := false, until' := 0 } })), by decide +kernel⟩,
    ⟨.a, { checker := 0, pattern := 0, react := false, until' := 0 }, on (fun x => x |> ph .joined |> fl (fun y =>
      { y with armed := some { checker := 0, pattern := 0, react := false, until' := 0 } })), by decide +kernel⟩⟩

/-- `Obligations.SelfTests`. -/
theorem witness_SelfTests :
    (∃ (l : LaneId) (s : State), (s.lane l).live.phase = .stagger) ∧
    (∃ (l : LaneId) (_time : Half) (s : State), (s.lane l).live.phase = .bist ∧ (s.lane l).live.su.kind = 1) ∧
    (∃ (l : LaneId) (_time : Half) (s : State), (s.lane l).live.phase = .bist ∧ (s.lane l).live.su.kind ≠ 1 ∧
      (s.lane l).live.su.fromDeep = false) ∧
    (∃ (l : LaneId) (failed _time : Half) (s : State), (s.lane l).live.phase = .bist ∧ failed &&& 0x07FF ≠ 0) ∧
    (∃ (l : LaneId) (k : Fin 13) (s : State), k ≠ 12 ∧ (s.lane l).live.testApplies k = true ∧ ((s.lane
      l).live.fl.tests[k]).startedAt = none) ∧
    (∃ (l : LaneId) (k : Fin 13) (_unit t0 : Nat) (s : State), k ≠ 12 ∧ ((s.lane l).live.fl.tests[k]).startedAt =
      some t0 ∧ (s.lane l).live.due (t0 + testTime k) = true) ∧
    (∃ (l : LaneId) (unit t0 : Nat) (s : State), ((s.lane l).live.fl.tests[9]).startedAt = some t0 ∧ unit < 16 ∧
      (s.lane l).live.due t0 = true) ∧
    (∃ (l : LaneId) (_ch : Fin 3) (_high : Bool) (s : State), (s.lane l).live.sensing = true) :=
  ⟨
    ⟨.a, on (fun x => x |> ph .stagger), by decide +kernel⟩,
    ⟨.a, 0, on (fun x => x |> ph .bist), by decide +kernel⟩,
    ⟨.a, 0, on (fun x => x |> ph .bist |> su (fun y => { y with kind := 3 })), by decide +kernel⟩,
    ⟨.a, 0x0400, 0, on (fun x => x |> ph .bist), by decide +kernel⟩,
    ⟨.a, 11, on (fun x => x |> ph .joined |> md .standby), by decide +kernel⟩,
    ⟨.a, 10, 0, 0, on (fun x => x |> ph .joined |> fl (fun y =>
      { y with tests := Vector.replicate 13 { startedAt := some 0 } }) |> (fun y => { y with clk := ms 2 })),
      by decide +kernel⟩,
    ⟨.a, 15, 0, on (fun x => x |> ph .joined |> fl (fun y =>
      { y with tests := Vector.replicate 13 { startedAt := some 0 } })), by decide +kernel⟩,
    ⟨.a, 2, true, on (fun x => x |> ph .joined), by decide +kernel⟩⟩

/-- `Obligations.PairedThreads`. -/
theorem witness_PairedThreads :
    (∃ (l : LaneId) (c : Fin 16) (_tail : Bool) (_ws : List Word) (s : State), (s.lane l).live.awake = true ∧
      ((s.lane l).live.ps.pairs[c]).leadClosed = false ∧ ((s.lane l).live.ps.pairs[c]).tailClosed = false ∧ ((s.lane
      l).live.ps.pairs[c]).closedAt = none) ∧
    (∃ (l : LaneId) (c : Fin 16) (ws : List Word) (s : State), (s.lane l).live.awake = true ∧ ((s.lane
      l).live.ps.pairs[c]).leadClosed = true ∧ ((s.lane l).live.ps.pairs[c]).tailClosed = false ∧ (s.lane
      l).live.ps.lead[pairChan c] = crc64Feed (s.lane l).live.ps.tail[pairChan c] ws) ∧
    (∃ (l : LaneId) (c : Fin 16) (ws : List Word) (s : State), (s.lane l).live.awake = true ∧ ((s.lane
      l).live.ps.pairs[c]).leadClosed = true ∧ ((s.lane l).live.ps.pairs[c]).tailClosed = false ∧ (s.lane
      l).live.ps.lead[pairChan c] ≠ crc64Feed (s.lane l).live.ps.tail[pairChan c] ws ∧ (s.lane l).live.ps.stuck =
      false) ∧
    (∃ (l : LaneId) (c : Fin 16) (t : Nat) (s : State), (s.lane l).live.awake = true ∧ ((s.lane
      l).live.ps.pairs[c]).closedAt = some t ∧ t + 2 ≤ (s.lane l).live.ticks) ∧
    (∃ (l : LaneId) (s : State), (s.lane l).live.writes = true) :=
  ⟨
    ⟨.a, 15, true, [1], on (fun x => x |> ph .joined), by decide +kernel⟩,
    ⟨.a, 0, [], on (fun x => x |> ph .joined |> ps (fun y =>
      { y with pairs := Vector.replicate 16 { leadClosed := true } })), by decide +kernel⟩,
    ⟨.a, 0, [], on (fun x => x |> ph .joined |> ps (fun y =>
      { y with pairs := Vector.replicate 16 { leadClosed := true }, lead := Vector.replicate 32 0 })),
      by decide +kernel⟩,
    ⟨.a, 0, 0, on (fun x => x |> ph .joined |> ps (fun y =>
      { y with pairs := Vector.replicate 16 { closedAt := some 0 } }) |> tk (fun y => { y with count := 2 })),
      by decide +kernel⟩,
    ⟨.a, on (fun x => x |> ph .joined), by decide +kernel⟩⟩

/-- `Obligations.LogbookAndHaltRestart`. -/
theorem witness_LogbookAndHaltRestart :
    (∃ (l : LaneId) (c : Capture) (cs : List Capture) (s : State), (s.lane l).live.im.pending = c :: cs ∧ c.left = 0
      ∧ (s.lane l).store.bad = false ∧ (s.lane l).live.fl.armed = none) ∧
    (∃ (l : LaneId) (s : State), (s.lane l).live.writes = true ∧ (s.lane l).live.num Obj.preTrigger ≠ 0 ∧ (s.lane
      l).live.fl.unusable.getLsbD 3 = false ∧ (s.lane l).live.im.erasing = false ∧ (s.lane l).live.im.pending.length
      < 8) ∧
    (∃ (l : LaneId) (t : Nat) (s : State), (s.lane l).live.phase = .halted ∧ (s.lane l).live.fl.haltedAt = some t ∧
      (s.lane l).live.due (t + ms 100) = true) ∧
    (∃ (l : LaneId) (s : State), (s.lane l).live.im.trendN ≠ 0 ∧ (s.lane l).live.fl.unusable.getLsbD 3 = false ∧
      (s.lane l).live.im.erasing = false) ∧
    (∃ (l : LaneId) (path : Path) (s : State), (s.lane l).live.writes = true ∧ (s.lane l).live.sessionOn path =
      true) ∧
    (∃ (l : LaneId) (_path : Path) (s : State), (s.lane l).live.answers = true) :=
  ⟨
    ⟨.a, cap0, [], on (fun x => x |> ph .joined |> im (fun y => { y with pending := [cap0] })), by decide +kernel⟩,
    ⟨.a, on (fun x => x |> ph .joined), by decide +kernel⟩,
    ⟨.a, 0, on (fun x => x |> ph .halted |> fl (fun y => { y with haltedAt := some 0 }) |> (fun y =>
      { y with clk := ms 100 })), by decide +kernel⟩,
    ⟨.a, on (fun x => x |> ph .joined |> im (fun y => { y with trendN := 1 })), by decide +kernel⟩,
    ⟨.a, .can 0, on (fun x => x |> serviced), by decide +kernel⟩,
    ⟨.a, .can 0, on (fun x => x |> ph .haltedState), by decide +kernel⟩⟩

/-- `Obligations.ConfigurationCommands`. -/
theorem witness_ConfigurationCommands :
    (∃ (l : LaneId) (path : Path) (v : Word) (s : State), (s.lane l).live.writes = true ∧ v ≠ 0 ∧ (s.lane
      l).live.sessionOn path = false) ∧
    (∃ (l : LaneId) (path : Path) (v : Word) (s : State), (s.lane l).live.writes = true ∧ v ≠ 0 ∧ (s.lane
      l).live.standby = true ∧ (s.lane l).live.sessionOn path = true ∧ (s.lane l).store.bad = true ∧ configGuard 1 v
      ((s.lane l).live, (s.lane l).store) = true) ∧
    (∃ (l : LaneId) (path : Path) (v : Word) (c : Nat) (s : State), (s.lane l).live.writes = true ∧ v ≠ 0 ∧ (s.lane
      l).live.standby = true ∧ (s.lane l).live.sessionOn path = true ∧ (s.lane l).store.bad = false ∧ (s.lane
      l).live.fl.armed = none ∧ (s.lane l).store.dir.vStaged = v ∧ (s.lane l).live.im.stStaged = 1 ∧ (s.lane
      l).store.region (2 * (s.lane l).store.dir.staged) = (s.lane l).store.region (2 * (s.lane l).store.dir.staged +
      1) ∧ checkStored (s.lane l).store (s.lane l).otp ((s.lane l).store.image .staged) = c ∧ c ≠ 1) ∧
    (∃ (l : LaneId) (path : Path) (v : Word) (s : State), (s.lane l).live.writes = true ∧ v ≠ 0 ∧ (s.lane
      l).live.standby = true ∧ (s.lane l).live.sessionOn path = true ∧ configGuard 3 v ((s.lane l).live, (s.lane
      l).store) = true ∧ (s.lane l).store.region (2 * (s.lane l).store.dir.staged) = (s.lane l).store.region (2 *
      (s.lane l).store.dir.staged + 1)) ∧
    (∃ (l : LaneId) (path : Path) (v : Word) (s : State), (s.lane l).live.writes = true ∧ v ≠ 0 ∧ (s.lane
      l).live.standby = true ∧ (s.lane l).live.sessionOn path = true ∧ configGuard 4 v ((s.lane l).live, (s.lane
      l).store) = true ∧ (s.lane l).store.region (2 * (s.lane l).store.dir.previous) = (s.lane l).store.region (2 *
      (s.lane l).store.dir.previous + 1)) ∧
    (∃ (l : LaneId) (k : Nat) (v : Word) (r : Byte) (rest : List (Nat × Word × Byte)) (s : State), (s.lane
      l).live.im.busy = (k, v, r) :: rest) :=
  ⟨
    ⟨.a, .can 1, 1, on (fun x => x |> serviced), by decide +kernel⟩,
    ⟨.a, .can 0, 1, onSt (fun n => { n with bad := true, regions := n.regions.set 0 image1 }) (fun x => x |>
      serviced |> im (fun y => { y with stagingStatus := 1 })), by decide +kernel⟩,
    ⟨.a, .can 0, 1, 4, onSt (fun n => { n with dir := { n.dir with vStaged := 1 } }) (fun x => x |> serviced |> im
      (fun y => { y with stStaged := 1 })), by decide +kernel⟩,
    ⟨.a, .can 0, 1, onSt (fun n => { n with dir := { n.dir with vStaged := 1 } }) (fun x => x |> serviced |> im (fun
      y => { y with stStaged := 2 })), by decide +kernel⟩,
    ⟨.a, .can 0, 1, onSt (fun n => { n with dir := { n.dir with vPrevious := 1 } }) (fun x => x |> serviced |> im
      (fun y => { y with stPrevious := 2 })), by decide +kernel⟩,
    ⟨.a, 1, 1, 2, [], on (fun x => x |> ph .joined |> im (fun y => { y with busy := [(1, 1, 2)] })),
      by decide +kernel⟩⟩

/-- `Obligations.DownloadsAndFirmware`. -/
theorem witness_DownloadsAndFirmware :
    (∃ (l : LaneId) (path : Path) (_data : List Byte) (s : State), (s.lane l).live.writes = true ∧ ((s.lane
      l).live.standby = false ∨ (s.lane l).live.sessionOn path = false)) ∧
    (∃ (l : LaneId) (path : Path) (s : State), (s.lane l).live.writes = true ∧ (s.lane l).live.standby = true ∧
      (s.lane l).live.sessionOn path = true) ∧
    (∃ (l : LaneId) (path : Path) (data : List Byte) (s : State), (s.lane l).live.writes = true ∧ (s.lane
      l).live.standby = true ∧ (s.lane l).live.sessionOn path = true ∧ (s.lane l).store.bad = false ∧ (s.lane
      l).live.fl.armed = none ∧ 0 < data.length ∧ data.length < 64 ∧ (s.lane l).live.rwNum Obj.stageOffset = 0) ∧
    (∃ (l : LaneId) (path : Path) (data : List Byte) (s : State), (s.lane l).live.writes = true ∧ (s.lane
      l).live.standby = true ∧ (s.lane l).live.sessionOn path = true ∧ (s.lane l).store.bad = false ∧ (s.lane
      l).live.fl.armed = none ∧ 0 < data.length ∧ data.length < 64 ∧ (s.lane l).live.rwNum Obj.fwLoadOffset = 0) ∧
    (∃ (l : LaneId) (path : Path) (v : Word) (s : State), (s.lane l).live.writes = true ∧ v ≠ 0 ∧ (s.lane
      l).live.standby = true ∧ (s.lane l).live.au.standstill = true ∧ (s.lane l).live.sessionOn path = true ∧
      (l.others.any (fun o => (s.lane o).store.boot.trial)) = false ∧ (s.lane l).live.im.loadStatus = 1 ∧ versionOf
      ((s.lane l).store.firmware (!(s.lane l).store.boot.runningB)) = v) ∧
    (∃ (l : LaneId) (s : State), mayConfirm (s.lane l) = true) ∧
    (∃ (l : LaneId) (s : State), mayConfirm (s.lane l) = false) ∧
    (∃ (l : LaneId) (_bad : BitVec 4) (s : State), (s.lane l).live.phase = .boot ∧ (s.lane l).store.boot.trial =
      false ∧ bootStatus (s.lane l).store (s.lane l).otp (s.lane l).store.boot.runningB ≠ 1 ∧ bootStatus (s.lane
      l).store (s.lane l).otp (!(s.lane l).store.boot.runningB) ≠ 1) :=
  ⟨
    ⟨.a, .can 0, [0], on (fun x => x |> ph .joined), by decide +kernel⟩,
    ⟨.a, .can 0, on (fun x => x |> serviced), by decide +kernel⟩,
    ⟨.a, .can 0, List.replicate 63 0, on (fun x => x |> serviced), by decide +kernel⟩,
    ⟨.a, .can 0, [0], on (fun x => x |> serviced), by decide +kernel⟩,
    ⟨.a, .can 0, 1, onSt (fun n => { n with fwB := image1 }) (fun x => x |> serviced |> im (fun y =>
      { y with loadStatus := 1 }) |> au (fun y => { y with standstill := true })), by decide +kernel⟩,
    ⟨.a, onSt (fun n => { n with boot := { n.boot with trial := true } }) (fun x => x |> ph .joined |> im (fun y =>
      { y with trialTicks := 100 })), by decide +kernel⟩,
    ⟨.a, on (fun x => x |> ph .joined), by decide +kernel⟩,
    ⟨.a, 0, on (fun x => x |> ph .boot), by decide +kernel⟩⟩

/-- `Obligations.KeysSessionsAttestation`. -/
theorem witness_KeysSessionsAttestation :
    (∃ (l : LaneId) (path : Path) (k : Byte) (s : State), (s.lane l).live.writes = true ∧ 4 ≤ k.toNat ∧ k.toNat < 12
      ∧ (s.lane l).live.standby = true ∧ (s.lane l).live.sessionOn path = true ∧ (s.lane l).otp.programmed k.toNat =
      false ∧ ((s.lane l).live.rwBytes Obj.keyLoad).length = 1985 ∧ ((s.lane l).live.rwBytes Obj.keyLoad).head? =
      some k) ∧
    (∃ (l : LaneId) (_path : Path) (k : Byte) (s : State), (s.lane l).live.writes = true ∧ 4 ≤ k.toNat ∧ k.toNat <
      12 ∧ (s.lane l).otp.programmed k.toNat = true) ∧
    (∃ (l : LaneId) (path : Path) (k : Byte) (s : State), (s.lane l).live.writes = true ∧ 4 ≤ k.toNat ∧ k.toNat < 12
      ∧ (s.lane l).live.standby = true ∧ (s.lane l).live.sessionOn path = true ∧ (s.lane l).otp.programmed k.toNat =
      false ∧ signsImage (s.lane l) k.toNat = false ∧ (s.lane l).live.sessionSigned k.toNat = false) ∧
    (∃ (l : LaneId) (_path : Path) (s : State), (s.lane l).live.answers = true ∧ (s.lane l).live.im.lockout = none) ∧
    (∃ (l : LaneId) (_path : Path) (r : List Byte) (s : State), (s.lane l).live.writes = true ∧ r.length = 3377 ∧
      respDamaged 8 r (s.lane l).otp (s.lane l).store = [] ∧ respDamaged 0 r (s.lane l).otp (s.lane l).store = [] ∧
      (s.lane l).live.sessionOpen = false ∧ responseGood 8 r (s.lane l).otp ((s.lane l).live.setRw Obj.response 0 0
      r, (s.lane l).store) = false) ∧
    (∃ (l : LaneId) (_path : Path) (s : State), (s.lane l).live.writes = true) ∧
    (∃ (l : LaneId) (q : Path) (e a b : Nat) (s : State), (s.lane l).live.im.session = some (q, e, a, b) ∧ (s.lane
      l).live.due e = true) ∧
    (∃ (l : LaneId) (e : Nat) (s : State), (s.lane l).live.im.lockout = some e ∧ (s.lane l).live.due e = true) ∧
    (∃ (l : LaneId) (_path : Path) (data : List Byte) (s : State), (s.lane l).live.writes = true ∧ data.length = 32
      ∧ (s.lane l).store.attestOk = true ∧ (s.lane l).store.attestZero = false) ∧
    (∃ (l : LaneId) (_path : Path) (data : List Byte) (s : State), (s.lane l).live.writes = true ∧ data.length = 32
      ∧ (s.lane l).store.attestOk = true ∧ (s.lane l).store.attestZero = true) ∧
    (∃ (l : LaneId) (path : Path) (s : State), (s.lane l).live.writes = true ∧ (s.lane l).live.sessionOn path =
      true) ∧
    (∃ (l : LaneId) (_cause : Byte) (s : State), (s.lane l).live.phase ≠ .off) :=
  ⟨
    ⟨.a, .can 0, 11, on (fun x => x |> serviced |> (fun y => y.setRw Obj.keyLoad 0 0 (11 :: List.replicate 1984
      0))), ⟨by decide +kernel, by decide +kernel, by decide +kernel, by decide +kernel, by decide +kernel,
      by decide +kernel, by decide +kernel, by decide +kernel⟩⟩,
    ⟨.a, .can 0, 4, onOtp (fun o => { o with burnt := 0x010 }) (ph .joined), by decide +kernel⟩,
    ⟨.a, .can 0, 4, on (fun x => x |> serviced), by decide +kernel⟩,
    ⟨.a, .can 0, on (fun x => x |> ph .haltedState), by decide +kernel⟩,
    ⟨.a, .can 0, List.replicate 3377 0, on (fun x => x |> ph .joined), by decide +kernel⟩,
    ⟨.a, .can 0, on (fun x => x |> ph .joined), by decide +kernel⟩,
    ⟨.a, .can 0, 0, 0, 0, on (fun x => x |> serviced), by decide +kernel⟩,
    ⟨.a, 0, on (fun x => x |> ph .joined |> im (fun y => { y with lockout := some 0 })), by decide +kernel⟩,
    ⟨.a, .can 0, List.replicate 32 1, onSt (fun n => { n with attestOk := true }) (ph .joined), by decide +kernel⟩,
    ⟨.a, .can 0, List.replicate 32 1, onSt (fun n => { n with attestOk := true, attestZero := true }) (ph .joined),
      by decide +kernel⟩,
    ⟨.a, .can 0, on (fun x => x |> serviced), by decide +kernel⟩,
    ⟨.a, 255, on (fun x => x |> ph .joined), by decide +kernel⟩⟩

/-- `Obligations.DictionaryWrites`. -/
theorem witness_DictionaryWrites :
    (∃ (l : LaneId) (_path : Path) (_idx : Half) (_sub : Byte) (_bs : List Byte) (s : State), ((s.lane l).live.phase
      = .halted ∨ (s.lane l).live.phase = .haltedState)) ∧
    (∃ (l : LaneId) (_path : Path) (idx : Half) (sub : Byte) (_bs : List Byte) (s : State), (s.lane l).live.writes =
      true ∧ findObj idx.toNat sub.toNat = none ∧ indexExists idx.toNat = false) ∧
    (∃ (l : LaneId) (_path : Path) (idx : Half) (sub : Byte) (_bs : List Byte) (s : State), (s.lane l).live.writes =
      true ∧ findObj idx.toNat sub.toNat = none ∧ indexExists idx.toNat = true) ∧
    (∃ (l : LaneId) (_path : Path) (idx : Half) (sub : Byte) (_bs : List Byte) (o : Obj) (s : State), (s.lane
      l).live.writes = true ∧ findObj idx.toNat sub.toNat = some o ∧ (o.acc = .ro ∨ o.acc = .img)) ∧
    (∃ (l : LaneId) (_path : Path) (idx : Half) (sub : Byte) (bs : List Byte) (o : Obj) (s : State), (s.lane
      l).live.writes = true ∧ findObj idx.toNat sub.toNat = some o ∧ ownRow idx.toNat sub.toNat = false ∧ lengthCode
      o bs.length = none ∧ o.range.holds bs = true ∧ (o.ty = .f32 → F32.finite (BitVec.ofNat 32 (leNat bs)) = true)
      ∧ tied ((s.lane l).live, (s.lane l).store) idx.toNat sub.toNat bs = none ∧ o.acc = .rw) ∧
    (∃ (l : LaneId) (path : Path) (idx : Half) (sub : Byte) (bs : List Byte) (o : Obj) (s : State), (s.lane
      l).live.writes = true ∧ findObj idx.toNat sub.toNat = some o ∧ ownRow idx.toNat sub.toNat = false ∧ lengthCode
      o bs.length = none ∧ o.range.holds bs = true ∧ (o.ty = .f32 → F32.finite (BitVec.ofNat 32 (leNat bs)) = true)
      ∧ tied ((s.lane l).live, (s.lane l).store) idx.toNat sub.toNat bs = none ∧ o.acc = .rc ∧ (s.lane
      l).live.standby = true ∧ (s.lane l).live.sessionOn path = true) ∧
    (∃ (l : LaneId) (path : Path) (idx : Half) (sub : Byte) (bs : List Byte) (o : Obj) (s : State), (s.lane
      l).live.writes = true ∧ findObj idx.toNat sub.toNat = some o ∧ ownRow idx.toNat sub.toNat = false ∧ lengthCode
      o bs.length = none ∧ o.range.holds bs = true ∧ (o.ty = .f32 → F32.finite (BitVec.ofNat 32 (leNat bs)) = true)
      ∧ tied ((s.lane l).live, (s.lane l).store) idx.toNat sub.toNat bs = none ∧ o.acc = .rc ∧ ((s.lane
      l).live.standby = false ∨ (s.lane l).live.sessionOn path = false)) ∧
    (∃ (l : LaneId) (_path : Path) (idx : Half) (sub : Byte) (bs : List Byte) (o : Obj) (c : Word) (s : State),
      (s.lane l).live.writes = true ∧ findObj idx.toNat sub.toNat = some o ∧ (o.acc = .rw ∨ o.acc = .rc) ∧
      lengthCode o bs.length = some c) ∧
    (∃ (l : LaneId) (_path : Path) (idx : Half) (sub : Byte) (bs : List Byte) (o : Obj) (s : State), (s.lane
      l).live.writes = true ∧ findObj idx.toNat sub.toNat = some o ∧ (o.acc = .rw ∨ o.acc = .rc) ∧ lengthCode o
      bs.length = none ∧ (o.range.holds bs = false ∨ (o.ty = .f32 ∧ F32.finite (BitVec.ofNat 32 (leNat bs)) =
      false))) ∧
    (∃ (l : LaneId) (_n : Fin 4) (s : State), (s.lane l).live.writes = true) :=
  ⟨
    ⟨.a, .can 0, 0, 0, [], on (fun x => x |> ph .halted), by decide +kernel⟩,
    ⟨.a, .can 0, 0xFFFF, 0, [], on (fun x => x |> ph .joined), by decide +kernel⟩,
    ⟨.a, .can 0, 0x5040, 0x77, [], on (fun x => x |> ph .joined), by decide +kernel⟩,
    ⟨.a, .can 0, 0x2010, 0, [], Obj.tickRate, on (fun x => x |> ph .joined), by decide +kernel⟩,
    ⟨.a, .can 0, 0x5040, 7, [0x80, 0x3A, 0x09, 0], Obj.wakeTimer, on (fun x => x |> ph .joined), by decide +kernel⟩,
    ⟨.a, .can 0, 0x1017, 0, [10, 0], Obj.producerHeartbeat, on (fun x => x |> serviced), by decide +kernel⟩,
    ⟨.a, .can 0, 0x1017, 0, [10, 0], Obj.producerHeartbeat, on (fun x => x |> ph .joined), by decide +kernel⟩,
    ⟨.a, .can 0, 0x5040, 7, [0], Obj.wakeTimer, abortShort, on (fun x => x |> ph .joined), by decide +kernel⟩,
    ⟨.a, .can 0, 0x5040, 7, [0x81, 0x3A, 0x09, 0], Obj.wakeTimer, on (fun x => x |> ph .joined), by decide +kernel⟩,
    ⟨.a, 3, on (fun x => x |> ph .joined), by decide +kernel⟩⟩

/-- `Obligations.ReplicationLimits`. -/
theorem witness_ReplicationLimits :
    (∃ (l o : LaneId) (r : Replication) (s : State), (s.lane l).live.di.open' = some r ∧ r.applyAt = none ∧ o ∈
      (s.lane l).live.mustAnswer ∧ o ∉ r.accepts ∧ r.resent = false ∧ r.sentAt + 6 ≤ (s.lane l).live.ticks) ∧
    (∃ (l o : LaneId) (r : Replication) (s : State), (s.lane l).live.di.open' = some r ∧ r.applyAt = none ∧ o ∈
      (s.lane l).live.mustAnswer ∧ o ∉ r.accepts ∧ (r.resent = true ∨ (s.lane l).live.ticks < r.sentAt + 6)) ∧
    (∃ (l o : LaneId) (r : Replication) (s : State), (s.lane l).live.di.open' = some r ∧ r.applyAt = none ∧ o ∈
      (s.lane l).live.mustAnswer ∧ o ∉ r.accepts ∧ r.sentAt + 16 ≤ (s.lane l).live.ticks) ∧
    (∃ (l o : LaneId) (r : Replication) (s : State), (s.lane l).live.di.open' = some r ∧ r.applyAt = none ∧ o ∈
      (s.lane l).live.mustAnswer ∧ o ∉ r.accepts ∧ (s.lane l).live.ticks < r.sentAt + 16) ∧
    (∃ (_q : List DictBlock) (b : DictBlock) (_x : DictBlock), (b.kind = .commit ∨ b.kind = .cancel)) :=
  ⟨
    ⟨.a, .b, repl false, on (fun x => x |> ph .joined |> replOpen false |> tk (fun y => { y with count := 6 })),
      by decide +kernel⟩,
    ⟨.a, .b, repl false, on (fun x => x |> ph .joined |> replOpen false |> tk (fun y => { y with count := 5 })),
      by decide +kernel⟩,
    ⟨.a, .b, repl true, on (fun x => x |> ph .joined |> replOpen true |> tk (fun y => { y with count := 16 })),
      by decide +kernel⟩,
    ⟨.a, .b, repl true, on (fun x => x |> ph .joined |> replOpen true |> tk (fun y => { y with count := 15 })),
      by decide +kernel⟩,
    ⟨[], { dict0 with kind := .commit }, dict0, by decide +kernel⟩⟩

/-- `Obligations.UsdoTransfers`. -/
theorem witness_UsdoTransfers :
    (∃ (l : LaneId) (path : Path) (_sid : Byte) (_idx : Half) (_sub : Byte) (_size : Nat) (_data : Option (List
      Byte)) (_seg : List Byte) (_last : Bool) (s : State), (s.lane l).live.served path = false) ∧
    (∃ (l : LaneId) (path : Path) (sid : Byte) (_idx : Half) (_sub : Byte) (_size : Nat) (_data : Option (List
      Byte)) (s : State), (s.lane l).live.served path = true ∧ (s.lane l).live.sessionOf path sid = none ∧ (s.lane
      l).live.notOwn path sid = true ∧ (s.lane l).live.di.sessions.length = 16) ∧
    (∃ (l : LaneId) (path : Path) (sid : Byte) (idx : Half) (sub : Byte) (s : State), (s.lane l).live.served path =
      true ∧ (s.lane l).live.sessionOf path sid = none ∧ (s.lane l).live.notOwn path sid = true ∧ (s.lane
      l).live.di.sessions.length < 16 ∧ findObj idx.toNat sub.toNat = none ∧ indexExists idx.toNat = false) ∧
    (∃ (l : LaneId) (path : Path) (sid : Byte) (idx : Half) (sub : Byte) (s : State), (s.lane l).live.served path =
      true ∧ (s.lane l).live.sessionOf path sid = none ∧ (s.lane l).live.notOwn path sid = true ∧ (s.lane
      l).live.di.sessions.length < 16 ∧ findObj idx.toNat sub.toNat = none ∧ indexExists idx.toNat = true) ∧
    (∃ (l : LaneId) (path : Path) (sid : Byte) (idx : Half) (sub : Byte) (s : State) (o : Obj), (s.lane
      l).live.served path = true ∧ (s.lane l).live.sessionOf path sid = none ∧ (s.lane l).live.notOwn path sid =
      true ∧ (s.lane l).live.di.sessions.length < 16 ∧ findObj idx.toNat sub.toNat = some o ∧ o.acc = .cmd) ∧
    (∃ (l : LaneId) (path : Path) (sid : Byte) (idx : Half) (sub : Byte) (s : State) (o : Obj) (bs : List Byte),
      (s.lane l).live.served path = true ∧ (s.lane l).live.sessionOf path sid = none ∧ (s.lane l).live.notOwn path
      sid = true ∧ (s.lane l).live.di.sessions.length < 16 ∧ findObj idx.toNat sub.toNat = some o ∧ o.acc ≠ .cmd ∧
      ¬(idx = 0x5440 ∧ sub = 1) ∧ ¬(idx = 0x4C60 ∧ (sub = 0x0E ∨ sub = 0x10)) ∧ objectValue s.serial (s.lane l).otp
      ((s.lane l).live, (s.lane l).store) o idx.toNat sub.toNat = bs ∧ bs.length ≤ 4) ∧
    (∃ (l : LaneId) (path : Path) (sid : Byte) (idx : Half) (sub : Byte) (s : State) (o : Obj) (bs : List Byte),
      (s.lane l).live.served path = true ∧ (s.lane l).live.sessionOf path sid = none ∧ (s.lane l).live.notOwn path
      sid = true ∧ (s.lane l).live.di.sessions.length < 16 ∧ findObj idx.toNat sub.toNat = some o ∧ o.acc ≠ .cmd ∧
      ¬(idx = 0x5440 ∧ sub = 1) ∧ ¬(idx = 0x4C60 ∧ (sub = 0x0E ∨ sub = 0x10)) ∧ objectValue s.serial (s.lane l).otp
      ((s.lane l).live, (s.lane l).store) o idx.toNat sub.toNat = bs ∧ 60 < bs.length) ∧
    (∃ (l : LaneId) (path : Path) (sid : Byte) (q : UsdoSession) (s : State), (s.lane l).live.served path = true ∧
      (s.lane l).live.sessionOf path sid = some q ∧ (s.lane l).live.notOwn path sid = true ∧ q.upload = true ∧
      q.data.length ≤ 4) ∧
    (∃ (l : LaneId) (path : Path) (sid : Byte) (q : UsdoSession) (s : State), (s.lane l).live.served path = true ∧
      (s.lane l).live.sessionOf path sid = some q ∧ (s.lane l).live.notOwn path sid = true ∧ q.upload = true ∧ 60 <
      q.data.length) ∧
    (∃ (l : LaneId) (path : Path) (sid : Byte) (q : UsdoSession) (s : State) (seg : List Byte) (_last : Bool),
      (s.lane l).live.served path = true ∧ (s.lane l).live.sessionOf path sid = some q ∧ (s.lane l).live.notOwn path
      sid = true ∧ q.upload = false ∧ q.size < q.data.length + seg.length) ∧
    (∃ (l : LaneId) (path : Path) (sid : Byte) (q : UsdoSession) (s : State) (seg : List Byte), (s.lane
      l).live.served path = true ∧ (s.lane l).live.sessionOf path sid = some q ∧ (s.lane l).live.notOwn path sid =
      true ∧ q.upload = false ∧ q.data.length + seg.length < q.size) ∧
    (∃ (l : LaneId) (path : Path) (sid : Byte) (q : UsdoSession) (s : State) (seg : List Byte), (s.lane
      l).live.served path = true ∧ (s.lane l).live.sessionOf path sid = some q ∧ (s.lane l).live.notOwn path sid =
      true ∧ q.upload = false ∧ q.data.length + seg.length ≤ q.size) ∧
    (∃ (l : LaneId) (path : Path) (sid : Byte) (q : UsdoSession) (s : State) (seg : List Byte) (o : Obj), (s.lane
      l).live.served path = true ∧ (s.lane l).live.sessionOf path sid = some q ∧ (s.lane l).live.notOwn path sid =
      true ∧ q.upload = false ∧ q.data.length + seg.length = q.size ∧ (s.lane l).live.writes = true ∧ findObj
      q.index.toNat q.sub.toNat = some o ∧ o.acc = .rw ∧ ownRow q.index.toNat q.sub.toNat = false ∧ lengthCode o
      q.size = none ∧ o.range.holds (q.data ++ seg) = true ∧ (o.ty = .f32 → F32.finite (BitVec.ofNat 32 (leNat
      (q.data ++ seg))) = true) ∧ tied ((s.lane l).live.noReply, (s.lane l).store) q.index.toNat q.sub.toNat (q.data
      ++ seg) = none) ∧
    (∃ (l : LaneId) (path : Path) (sid : Byte) (q : UsdoSession) (s : State), (s.lane l).live.served path = true ∧
      (s.lane l).live.sessionOf path sid = some q ∧ (s.lane l).live.notOwn path sid = true) ∧
    (∃ (l : LaneId) (path : Path) (sid : Byte) (idx : Half) (sub : Byte) (size : Nat) (o : Obj) (s : State), (s.lane
      l).live.served path = true ∧ (s.lane l).live.writes = true ∧ (s.lane l).live.sessionOf path sid = none ∧
      (s.lane l).live.notOwn path sid = true ∧ (s.lane l).live.di.sessions.length < 16 ∧ findObj idx.toNat sub.toNat
      = some o ∧ (o.acc = .rw ∨ o.acc = .rc) ∧ lengthCode o size = none) ∧
    (∃ (l : LaneId) (path : Path) (sid : Byte) (idx : Half) (sub : Byte) (size : Nat) (o : Obj) (s : State) (bs :
      List Byte), (s.lane l).live.served path = true ∧ (s.lane l).live.writes = true ∧ (s.lane l).live.sessionOf
      path sid = none ∧ (s.lane l).live.notOwn path sid = true ∧ (s.lane l).live.di.sessions.length < 16 ∧ findObj
      idx.toNat sub.toNat = some o ∧ (o.acc = .rw ∨ o.acc = .rc) ∧ lengthCode o size = none ∧ o.acc = .rw ∧ ownRow
      idx.toNat sub.toNat = false ∧ lengthCode o bs.length = none ∧ o.range.holds bs = true ∧ (o.ty = .f32 →
      F32.finite (BitVec.ofNat 32 (leNat bs)) = true) ∧ tied ((s.lane l).live.noReply, (s.lane l).store) idx.toNat
      sub.toNat bs = none) :=
  ⟨
    ⟨.a, .can 0, 1, 0, 0, 0, none, [], true, on (fun x => x |> ph .joined), by decide +kernel⟩,
    ⟨.a, .can 0, 1, 0, 0, 0, none, on (fun x => x |> canUp |> di (fun y =>
      { y with sessions := List.replicate 16 { usdo false [] with sid := 2 } })), by decide +kernel⟩,
    ⟨.a, .can 0, 1, 0xFFFF, 0, on (fun x => x |> canUp), by decide +kernel⟩,
    ⟨.a, .can 0, 1, 0x5040, 0x77, on (fun x => x |> canUp), by decide +kernel⟩,
    ⟨.a, .can 0, 1, 0x1F20, 7, on (fun x => x |> canUp),
      { idx := 0x1F20, sub := 0x07, ty := .u8, acc := .cmd, dflt := leBytes 1 0, range := .nat 0 0 },
      by decide +kernel⟩,
    ⟨.a, .can 0, 1, 0x2010, 0, on (fun x => x |> canUp), Obj.tickRate, leBytes 4 20000, by decide +kernel⟩,
    ⟨.a, .can 0, 1, 0x1F08, 1, on (fun x => x |> canUp), Obj.canFilters, canFiltersDefault, by decide +kernel⟩,
    ⟨.a, .can 0, 1, usdo true [1, 2, 3, 4], on (fun x => x |> withUsdo true [1, 2, 3, 4]), by decide +kernel⟩,
    ⟨.a, .can 0, 1, usdo true (List.replicate 61 0), on (fun x => x |> withUsdo true (List.replicate 61 0)),
      by decide +kernel⟩,
    ⟨.a, .can 0, 1, usdo false [], on (fun x => x |> withUsdo false []), [1, 2, 3, 4, 5], true, by decide +kernel⟩,
    ⟨.a, .can 0, 1, usdo false [], on (fun x => x |> withUsdo false []), [1, 2, 3], by decide +kernel⟩,
    ⟨.a, .can 0, 1, usdo false [], on (fun x => x |> withUsdo false []), [1, 2, 3, 4], by decide +kernel⟩,
    ⟨.a, .can 0, 1, usdo false [0, 0], on (fun x => x |> withUsdo false [0, 0]), [0, 0], Obj.wakeTimer,
      by decide +kernel⟩,
    ⟨.a, .can 0, 1, usdo true [], on (fun x => x |> withUsdo true []), by decide +kernel⟩,
    ⟨.a, .can 0, 1, 0x5040, 7, 4, Obj.wakeTimer, on (fun x => x |> canUp), by decide +kernel⟩,
    ⟨.a, .can 0, 1, 0x5040, 7, 4, Obj.wakeTimer, on (fun x => x |> canUp), [0, 0, 0, 0], by decide +kernel⟩⟩

/-- `Obligations.SegmentedTransfersEnd`. -/
theorem witness_SegmentedTransfersEnd :
    (∃ (l : LaneId) (path : Path) (sid : Byte) (q : UsdoSession) (s : State), (s.lane l).live.sessionOf path sid =
      some q ∧ (s.lane l).live.notOwn path sid = true ∧ (s.lane l).live.due (q.last + ms ((s.lane l).live.rcNum
      Obj.usdoTimeout)) = true ∧ (∀ n : Fin 4, path = .can n → (s.lane l).live.portSends n = true ∧ ((s.lane
      l).live.di.can[n]).errState ≠ 2)) ∧
    (∃ (l : LaneId) (path : Path) (sid : Byte) (q : UsdoSession) (s : State), (s.lane l).live.sessionOf path sid =
      some q ∧ (s.lane l).live.notOwn path sid = true ∧ (s.lane l).live.due (q.last + ms ((s.lane l).live.rcNum
      Obj.usdoTimeout)) = false) ∧
    (∃ (l : LaneId) (path : Path) (sid : Byte) (_seg : List Byte) (_last : Bool) (s : State), (s.lane
      l).live.sessionOf path sid = none) ∧
    (∃ (l : LaneId) (path : Path) (sid : Byte) (_seg : List Byte) (_last : Bool) (s : State), (s.lane
      l).live.sessionOf path sid = none ∧ (s.lane l).live.served path = true ∧ (s.lane l).live.notOwn path sid =
      true ∧ (∀ n : Fin 4, path = .can n → (s.lane l).live.portSends n = true ∧ ((s.lane l).live.di.can[n]).errState
      ≠ 2)) :=
  ⟨
    ⟨.a, .can 0, 1, usdo true [], on (fun x => x |> withUsdo true [] |> (fun y => { y with clk := ms 500 })),
      by decide +kernel⟩,
    ⟨.a, .can 0, 1, usdo true [], on (fun x => x |> withUsdo true []), by decide +kernel⟩,
    ⟨.a, .can 0, 1, [], true, on (fun x => x |> canUp), by decide +kernel⟩,
    ⟨.a, .can 0, 1, [], true, on (fun x => x |> canUp), by decide +kernel⟩⟩

/-- `Obligations.TunnelAndCanPorts`. -/
theorem witness_TunnelAndCanPorts :
    (∃ (l : LaneId) (_req : UsdoReq) (q : BufSt) (s : State), (s.lane l).live.answers = true ∧ (s.lane l).live.num
      Obj.tunnelRxBuffer < 512 ∧ (s.lane l).live.jn.bufs.read {} ((s.lane l).live.num Obj.tunnelRxBuffer) = q ∧
      q.fresh = true ∧ (natAt q.data 0 1 ≠ (s.lane l).live.di.nodeId ∨ 128 ≤ natAt q.data 1 1 ∨ natAt q.data 2 2 < 8
      ∨ 64 < natAt q.data 2 2)) ∧
    (∃ (l : LaneId) (req : UsdoReq) (q : BufSt) (s : State) (sid : Byte), (s.lane l).live.answers = true ∧ (s.lane
      l).live.num Obj.tunnelRxBuffer < 512 ∧ (s.lane l).live.jn.bufs.read {} ((s.lane l).live.num
      Obj.tunnelRxBuffer) = q ∧ q.fresh = true ∧ req = .abort sid ∧ natAt q.data 0 1 = (s.lane l).live.di.nodeId ∧
      natAt q.data 1 1 < 128 ∧ 8 ≤ natAt q.data 2 2 ∧ natAt q.data 2 2 ≤ 64 ∧ (s.lane l).live.notOwn (.tunnel
      (BitVec.ofNat 7 (natAt q.data 1 1))) sid = true) ∧
    (∃ (l : LaneId) (n : Fin 4) (t d : Nat) (s : State), ((s.lane l).live.di.can[n]).nextBeat = some t ∧ (s.lane
      l).live.beatPeriod n = some d ∧ (s.lane l).live.due t = true ∧ (s.lane l).live.canTalks n = true) ∧
    (∃ (l : LaneId) (n : Fin 4) (t d : Nat) (s : State), ((s.lane l).live.di.can[n]).nextBeat = some t ∧ (s.lane
      l).live.beatPeriod n = some d ∧ (s.lane l).live.due t = true ∧ (s.lane l).live.canTalks n = false) ∧
    (∃ (l : LaneId) (n : Fin 4) (f : CanFrame) (s : State), ((s.lane l).live.di.can[n]).errState.toNat < 2 ∧ (s.lane
      l).live.canOn n = true ∧ (s.lane l).live.fl.armed = none ∧ (f.ext = true ∨ f.ident.toNat ≠ 0x600 + (s.lane
      l).live.di.nodeId ∨ (s.lane l).live.rcNum Obj.canUsdoServer n.val ≠ 1) ∧ (s.lane l).live.filterFlow n f =
      none) ∧
    (∃ (l : LaneId) (n : Fin 4) (f : CanFrame) (s : State) (e : Fin 64), ((s.lane l).live.di.can[n]).errState.toNat
      < 2 ∧ (s.lane l).live.canOn n = true ∧ (s.lane l).live.fl.armed = none ∧ (f.ext = true ∨ f.ident.toNat ≠ 0x600
      + (s.lane l).live.di.nodeId ∨ (s.lane l).live.rcNum Obj.canUsdoServer n.val ≠ 1) ∧ (s.lane l).live.filterFlow
      n f = some e ∧ (s.lane l).live.flowPort e = none ∧ (s.lane l).live.pendingItems < 1024 ∧ ((s.lane l).live.flow
      e).queue.length < (s.lane l).live.flowDepth e ∧ ((s.lane l).live.flow e).serving ≠ none) ∧
    (∃ (l : LaneId) (n : Fin 4) (fr : CanFrame) (rest : List CanFrame) (s : State), (s.lane l).live.canTalks n =
      true ∧ ((s.lane l).live.di.can[n]).tx = fr :: rest ∧ (∀ f : Fin 64, ∀ it : Item, ((s.lane l).live.flow
      f).serving ≠ some (.port n, it))) ∧
    (∃ (l : LaneId) (n : Fin 4) (fr : CanFrame) (rest : List CanFrame) (f : Fin 64) (it : Item) (s : State), (s.lane
      l).live.canTalks n = true ∧ ((s.lane l).live.di.can[n]).tx = fr :: rest ∧ itemFrame it = fr ∧ ((s.lane
      l).live.flow f).serving = some (.port n, it) ∧ ((s.lane l).live.flow f).queue = [] ∧ (∀ g : Fin 64, ∀ j :
      Item, g ≠ f → ((s.lane l).live.flow g).serving ≠ some (.port n, j))) ∧
    (∃ (l : LaneId) (n : Fin 4) (s : State), ((s.lane l).live.di.can[n]).errState.toNat < 2 ∧ (∀ f : Fin 64, ∀ it :
      Item, ((s.lane l).live.flow f).serving ≠ some (.port n, it))) ∧
    (∃ (l : LaneId) (n : Fin 4) (s : State), ((s.lane l).live.di.can[n]).errState = 2) :=
  ⟨
    ⟨.a, .abort 1, { data := [1], fresh := true }, on (fun x => x |> ph .joined |> put Obj.tunnelRxBuffer 0 5 |> jn
      (fun y => { y with bufs := [(5, { data := [1], fresh := true })] })), by decide +kernel⟩,
    ⟨.a, .abort 1, { data := [0, 127, 8, 0], fresh := true }, on (fun x => x |> ph .joined |> put Obj.tunnelRxBuffer
      0 5 |> jn (fun y => { y with bufs := [(5, { data := [0, 127, 8, 0], fresh := true })] })), 1,
      by decide +kernel⟩,
    ⟨.a, 0, 0, ms 10, on (fun x => x |> canUp |> putRc Obj.producerHeartbeat 0 10 |> di (fun y =>
      { y with can := Vector.replicate 4 { errState := 0, nextBeat := some 0 } })), by decide +kernel⟩,
    ⟨.a, 0, 0, ms 10, on (fun x => x |> canUp |> putRc Obj.producerHeartbeat 0 10 |> di (fun y =>
      { y with can := Vector.replicate 4 { errState := 2, nextBeat := some 0 } })), by decide +kernel⟩,
    ⟨.a, 0, { ident := 0x123, ext := false, fd := false, brs := false, data := [] }, on (fun x => x |> canUp),
      by decide +kernel⟩,
    ⟨.a, 0, { ident := 0x123, ext := false, fd := false, brs := false, data := [] }, on (fun x => x |> canUp |>
      depth 1 |> flow (fun y => { y with serving := some (.resident, item0) }) |> (fun y =>
      { y with rc := y.rc.insert (Obj.canFilters.key 0 0) (List.replicate 16 (List.replicate 8 (0 : Byte) ++ [16, 0, 0, 0])).flatten })),
      16, by decide +kernel⟩,
    ⟨.a, 0, itemFrame item0, [], on (fun x => x |> di (fun y =>
      { y with can := Vector.replicate 4 { errState := 0, tx := [itemFrame item0] } })), ⟨by decide +kernel,
      by decide +kernel, no_service _ 0 rfl⟩⟩,
    ⟨.a, 0, itemFrame item0, [], 16, item0, on (fun x => x |> di (fun y =>
      { y with can := Vector.replicate 4 { errState := 0, tx := [itemFrame item0] } }) |> flow (fun y =>
      { y with serving := some (.port 0, item0) })), ⟨by decide +kernel, by decide +kernel, by decide +kernel,
      by decide +kernel, by decide +kernel, idle_flows _ item0 0 rfl⟩⟩,
    ⟨.a, 0, on (fun x => x |> canUp), ⟨by decide +kernel, no_service _ 0 rfl⟩⟩,
    ⟨.a, 0, on (fun x => x |> di (fun y => { y with can := Vector.replicate 4 { errState := 2 } })),
      by decide +kernel⟩⟩

/-- `Obligations.FramesReceived`. -/
theorem witness_FramesReceived :
    (∃ (l : LaneId) (_c : Chan) (f : JalsynFrame) (s : State), (s.lane l).live.netOn = true ∧ (s.lane
      l).live.fl.armed = none ∧ f.fcsOk = false ∧ (s.lane l).live.jn.sync ≠ .launch) ∧
    (∃ (l : LaneId) (_c : Chan) (f : JalsynFrame) (s : State), (s.lane l).live.netOn = true ∧ (s.lane
      l).live.fl.armed = none ∧ f.fcsOk = true ∧ (f.headerOk = false ∨ 1400 < f.payload.length)) ∧
    (∃ (l : LaneId) (c : Chan) (f : JalsynFrame) (s : State), (s.lane l).live.netOn = true ∧ (s.lane
      l).live.fl.armed = none ∧ f.fcsOk = true ∧ f.headerOk = true ∧ f.payload.length ≤ 1400 ∧ f.slot ≠ 0 ∧ (s.lane
      l).live.entryFor c f = none) ∧
    (∃ (l : LaneId) (c : Chan) (f : JalsynFrame) (s : State) (e : Nat), (s.lane l).live.netOn = true ∧ (s.lane
      l).live.fl.armed = none ∧ f.fcsOk = true ∧ f.headerOk = true ∧ f.payload.length ≤ 1400 ∧ f.slot ≠ 0 ∧ (s.lane
      l).live.entryFor c f = some e ∧ f.cycle ≠ (s.lane l).live.jn.cycle) ∧
    (∃ (l : LaneId) (c : Chan) (f : JalsynFrame) (s : State) (e : Nat), (s.lane l).live.netOn = true ∧ (s.lane
      l).live.fl.armed = none ∧ f.fcsOk = true ∧ f.headerOk = true ∧ f.payload.length ≤ 1400 ∧ f.slot ≠ 0 ∧ (s.lane
      l).live.entryFor c f = some e ∧ f.cycle = (s.lane l).live.jn.cycle ∧ (s.lane l).live.inWindows e f = false) ∧
    (∃ (l : LaneId) (c : Chan) (f : JalsynFrame) (s : State) (e : Nat), (s.lane l).live.netOn = true ∧ (s.lane
      l).live.fl.armed = none ∧ f.fcsOk = true ∧ f.headerOk = true ∧ f.payload.length ≤ 1400 ∧ f.slot ≠ 0 ∧ (s.lane
      l).live.entryFor c f = some e ∧ f.cycle = (s.lane l).live.jn.cycle ∧ (s.lane l).live.inWindows e f = true ∧
      (s.lane l).live.entMax e < f.payload.length) ∧
    (∃ (l : LaneId) (c : Chan) (f : JalsynFrame) (s : State) (e : Nat), (s.lane l).live.netOn = true ∧ (s.lane
      l).live.fl.armed = none ∧ f.fcsOk = true ∧ f.headerOk = true ∧ f.payload.length ≤ 1400 ∧ f.slot ≠ 0 ∧ (s.lane
      l).live.entryFor c f = some e ∧ f.cycle = (s.lane l).live.jn.cycle ∧ (s.lane l).live.inWindows e f = true ∧
      f.payload.length ≤ (s.lane l).live.entMax e ∧ (s.lane l).live.entBoth e = false ∧ (s.lane l).live.au.loneSince
      = none ∧ f.node.toNat ≠ (s.lane l).live.num Obj.nodeId ∧ ((s.lane l).live.entCyc e).gotA = false ∧ ((s.lane
      l).live.entCyc e).gotB = false) ∧
    (∃ (l : LaneId) (c : Chan) (f : JalsynFrame) (s : State) (e : Nat), (s.lane l).live.netOn = true ∧ (s.lane
      l).live.fl.armed = none ∧ f.fcsOk = true ∧ f.headerOk = true ∧ f.payload.length ≤ 1400 ∧ f.slot ≠ 0 ∧ (s.lane
      l).live.entryFor c f = some e ∧ f.cycle = (s.lane l).live.jn.cycle ∧ (s.lane l).live.inWindows e f = true ∧
      f.payload.length ≤ (s.lane l).live.entMax e ∧ (s.lane l).live.entBoth e = false ∧ (s.lane l).live.au.loneSince
      = none ∧ f.node.toNat ≠ (s.lane l).live.num Obj.nodeId ∧ c = .b ∧ ((s.lane l).live.entCyc e).gotA = true ∧
      ((s.lane l).live.entCyc e).gotB = false) ∧
    (∃ (l : LaneId) (_c : Chan) (f : JalsynFrame) (s : State) (r : RefFrame), (s.lane l).live.netOn = true ∧ (s.lane
      l).live.fl.armed = none ∧ f.fcsOk = true ∧ f.headerOk = true ∧ f.slot = 0 ∧ asRef f = some r ∧ f.node.toNat ≠
      (s.lane l).live.num Obj.nodeId ∧ ((s.lane l).live.jn.sync = .listen ∨ (s.lane l).live.jn.sync = .wait)) ∧
    (∃ (l : LaneId) (_c : Chan) (f : JalsynFrame) (x r : RefFrame) (s : State), (s.lane l).live.netOn = true ∧
      (s.lane l).live.fl.armed = none ∧ f.fcsOk = true ∧ f.headerOk = true ∧ f.slot = 0 ∧ asRef f = some r ∧
      f.node.toNat ≠ (s.lane l).live.num Obj.nodeId ∧ (s.lane l).live.jn.sync = .integrating ∧ (s.lane
      l).live.jn.firstRef = some x ∧ (s.lane l).live.consistent x r = true) :=
  ⟨
    ⟨.a, .a, { frame with fcsOk := false }, on (fun x => x |> net), by decide +kernel⟩,
    ⟨.a, .a, { frame with headerOk := false }, on (fun x => x |> net), by decide +kernel⟩,
    ⟨.a, .a, frame, on (fun x => x |> net), by decide +kernel⟩,
    ⟨.a, .a, { frame with cycle := 1 }, on (fun x => x |> net |> sched 0x0B), 0, by decide +kernel⟩,
    ⟨.a, .a, { frame with start := 1011 }, on (fun x => x |> net |> sched 0x0B), 0, by decide +kernel⟩,
    ⟨.a, .a, { frame with payload := List.replicate 47 0 }, on (fun x => x |> net |> sched 0x0B), 0,
      by decide +kernel⟩,
    ⟨.a, .a, { frame with payload := List.replicate 46 0, start := 1010 }, on (fun x => x |> net |> sched 0x0B), 0,
      by decide +kernel⟩,
    ⟨.a, .b, frame, on (fun x => x |> net |> sched 0x0B |> jn (fun y =>
      { y with entries := [(0, { gotA := true })] })), 0, by decide +kernel⟩,
    ⟨.a, .a, refFrame 0 100000, on (fun x => x |> net), refOf 0 100000, by decide +kernel⟩,
    ⟨.a, .a, refFrame 1 100000, refOf 0 100000, refOf 1 100000, on (fun x => x |> net |> jn (fun y =>
      { y with sync := .integrating, firstRef := some (refOf 0 100000) })), by decide +kernel⟩⟩

/-- `Obligations.WindowsAndChannels`. -/
theorem witness_WindowsAndChannels :
    (∃ (l : LaneId) (e : Fin 2048) (s : State), ((s.lane l).live.entActive e.val = false ∨ (s.lane l).live.entRx
      e.val = false ∨ ((s.lane l).live.entCyc e.val).ended = true)) ∧
    (∃ (l : LaneId) (e : Fin 2048) (s : State), (s.lane l).live.netOn = true ∧ (s.lane l).live.entActive e.val =
      true ∧ (s.lane l).live.entRx e.val = true ∧ ((s.lane l).live.entCyc e.val).ended = false ∧ (s.lane
      l).live.entBoth e.val = false ∧ ((s.lane l).live.entCyc e.val).gotA = false ∧ ((s.lane l).live.entCyc
      e.val).gotB = false ∧ (s.lane l).live.entEvent e.val = false) ∧
    (∃ (l : LaneId) (e : Fin 2048) (s : State), (s.lane l).live.netOn = true ∧ (s.lane l).live.entActive e.val =
      true ∧ (s.lane l).live.entRx e.val = true ∧ ((s.lane l).live.entCyc e.val).ended = false ∧ (s.lane
      l).live.entBoth e.val = true ∧ ((s.lane l).live.entCyc e.val).gotA = true ∧ ((s.lane l).live.entCyc
      e.val).gotB = true ∧ ((s.lane l).live.entCyc e.val).dataA = ((s.lane l).live.entCyc e.val).dataB) ∧
    (∃ (l : LaneId) (e : Fin 2048) (s : State) (g : Fin 24), (s.lane l).live.netOn = true ∧ (s.lane
      l).live.entActive e.val = true ∧ (s.lane l).live.entRx e.val = true ∧ ((s.lane l).live.entCyc e.val).ended =
      false ∧ (s.lane l).live.entBoth e.val = false ∧ ((s.lane l).live.entCyc e.val).gotA = true ∧ (s.lane
      l).live.cmdMap g.val 0 = (s.lane l).live.entBuf e.val ∧ (s.lane l).live.cmdMap g.val 2 + 4 ≤ ((s.lane
      l).live.buf ((s.lane l).live.entBuf e.val)).data.length) ∧
    (∃ (l : LaneId) (c : Chan) (s : State), (s.lane l).live.netOn = true ∧ ((s.lane l).live.chan c).lost = false ∧
      ((∃ t, ((s.lane l).live.chan c).downAt = some t ∧ (s.lane l).live.due (t + ms 10) = true) ∨ (s.lane
      l).live.num Obj.lossCycles ≤ ((s.lane l).live.chan c).quiet) ∧ ((s.lane l).live.chan (otherChan c)).lost =
      false) ∧
    (∃ (l : LaneId) (c : Chan) (s : State), (s.lane l).live.netOn = true ∧ ((s.lane l).live.chan c).lost = false ∧
      ((∃ t, ((s.lane l).live.chan c).downAt = some t ∧ (s.lane l).live.due (t + ms 10) = true) ∨ (s.lane
      l).live.num Obj.lossCycles ≤ ((s.lane l).live.chan c).quiet) ∧ ((s.lane l).live.chan (otherChan c)).lost =
      true ∧ (s.lane l).live.jn.sync ≠ .refused) ∧
    (∃ (l : LaneId) (c : Chan) (s : State), (s.lane l).live.netOn = true ∧ ((s.lane l).live.chan c).lost = true ∧
      (s.lane l).live.num Obj.lossCycles ≤ ((s.lane l).live.chan c).refRun) ∧
    (∃ (l : LaneId) (c : Chan) (s : State), (s.lane l).live.netOn = true ∧ ((s.lane l).live.chan c).refRun < (s.lane
      l).live.num Obj.lossCycles) ∧
    (∃ (l : LaneId) (c : Chan) (s : State), (s.lane l).live.netOn = true ∧ ((s.lane l).live.chan c).linkUp = true) ∧
    (∃ (l : LaneId) (_c : Chan) (s : State), (s.lane l).live.netOn = true) :=
  ⟨
    ⟨.a, 0, on (fun x => x |> net), by decide +kernel⟩,
    ⟨.a, 0, on (fun x => x |> net |> sched 0x0B), by decide +kernel⟩,
    ⟨.a, 0, on (fun x => x |> net |> sched 0x0F |> jn (fun y =>
      { y with entries := [(0, { gotA := true, gotB := true, dataA := [1], dataB := [1] })] })), by decide +kernel⟩,
    ⟨.a, 0, on (fun x => x |> net |> sched 0x0B |> dom Obj.commandMap (leBytes 2 5 ++ leBytes 2 0 ++ List.replicate
      92 0xFF) |> jn (fun y =>
      { y with entries := [(0, { gotA := true })], bufs := [(5, { data := [0, 0, 0, 0] })] })), 0,
      by decide +kernel⟩,
    ⟨.a, .a, on (fun x => x |> net |> jn (fun y => { y with chA := { quiet := 10000 } })), ⟨by decide +kernel,
      by decide +kernel, Or.inr (by decide +kernel), by decide +kernel⟩⟩,
    ⟨.a, .a, on (fun x => x |> net |> jn (fun y => { y with chA := { quiet := 10000 }, chB := { lost := true } })),
      ⟨by decide +kernel, by decide +kernel, Or.inr (by decide +kernel), by decide +kernel, by decide +kernel⟩⟩,
    ⟨.a, .a, on (fun x => x |> net |> jn (fun y => { y with chA := { lost := true, refRun := 10000 } })),
      by decide +kernel⟩,
    ⟨.a, .a, on (fun x => x |> net), by decide +kernel⟩,
    ⟨.a, .a, on (fun x => x |> net |> jn (fun y => { y with chA := { linkUp := true } })), by decide +kernel⟩,
    ⟨.a, .b, on (fun x => x |> net), by decide +kernel⟩⟩

/-- `Obligations.SynchronisationAndTransmission`. -/
theorem witness_SynchronisationAndTransmission :
    (∃ (l : LaneId) (s : State), (s.lane l).live.netOn = true ∧ 3 ≤ (s.lane l).live.jn.disagree) ∧
    (∃ (l : LaneId) (s : State), (s.lane l).live.netOn = true ∧ (s.lane l).live.jn.sync = .listen ∧ (s.lane
      l).live.jn.listenLeft = 0 ∧ (s.lane l).live.num Obj.masterRank < 4) ∧
    (∃ (l : LaneId) (s : State), (s.lane l).live.netOn = true ∧ (s.lane l).live.jn.sync = .listen ∧ (s.lane
      l).live.jn.listenLeft = 0 ∧ 4 ≤ (s.lane l).live.num Obj.masterRank) ∧
    (∃ (l : LaneId) (s : State), (s.lane l).live.netOn = true ∧ (s.lane l).live.jn.sync = .listen ∧ (s.lane
      l).live.jn.listenLeft ≠ 0) ∧
    (∃ (l : LaneId) (s : State), (s.lane l).live.netOn = true ∧ (s.lane l).live.jn.sync = .wait ∧ (s.lane
      l).live.num Obj.masterRank < 4 ∧ (s.lane l).live.refSent .a = false ∧ (s.lane l).live.refSent .b = false) ∧
    (∃ (l : LaneId) (c : Chan) (s : State), (s.lane l).live.netOn = true ∧ (s.lane l).live.jn.sync = .sync ∧ (s.lane
      l).live.refSent c = false ∧ (s.lane l).live.num Obj.masterRank < 4 ∧ ((s.lane l).live.num Obj.masterRank = 0 ∨
      ((s.lane l).live.chan c).refHere = false)) ∧
    (∃ (l : LaneId) (c : Chan) (s : State), (s.lane l).live.netOn = true ∧ (s.lane l).live.jn.sync = .sync ∧ (s.lane
      l).live.refSent c = false ∧ (s.lane l).live.num Obj.masterRank < 4 ∧ (s.lane l).live.num Obj.masterRank ≠ 0 ∧
      ((s.lane l).live.chan c).refHere = true) ∧
    (∃ (l : LaneId) (_c : Chan) (s : State), (s.lane l).live.jn.sync = .silent) ∧
    (∃ (l : LaneId) (e : Fin 2048) (s : State), (s.lane l).live.fl.armed = none ∧ (s.lane l).live.transmits = true ∧
      (s.lane l).live.entActive e.val = true ∧ (s.lane l).live.entRx e.val = false ∧ ((s.lane l).live.entCyc
      e.val).read = false ∧ ((s.lane l).live.buf ((s.lane l).live.entBuf e.val)).fresh = true ∧ ((s.lane
      l).live.sendContent e.val).length ≤ (s.lane l).live.entMax e.val) ∧
    (∃ (l : LaneId) (e : Fin 2048) (s : State), (s.lane l).live.fl.armed = none ∧ (s.lane l).live.transmits = true ∧
      (s.lane l).live.entActive e.val = true ∧ (s.lane l).live.entRx e.val = false ∧ ((s.lane l).live.entCyc
      e.val).read = false ∧ ((s.lane l).live.buf ((s.lane l).live.entBuf e.val)).fresh = false) ∧
    (∃ (l : LaneId) (e : Fin 2048) (p : List Byte) (s : State), (s.lane l).live.transmits = true ∧ (s.lane
      l).live.entActive e.val = true ∧ ((s.lane l).live.entCyc e.val).captured = some p) ∧
    (∃ (l : LaneId) (s : State), (s.lane l).live.netOn = true ∧ ((s.lane l).live.synced = true ∨ (s.lane
      l).live.ticks % (s.lane l).live.num Obj.cycleTicks = 0)) ∧
    (∃ (l : LaneId) (n : Fin 16) (s : State), (s.lane l).live.netOn = true ∧ ((s.lane l).live.num Obj.cycleTarget 0
      n.val = 255 ∨ (s.lane l).live.jn.cpeSeen.getLsbD n.val = true)) ∧
    (∃ (l : LaneId) (n : Fin 16) (s : State), (s.lane l).live.netOn = true ∧ (s.lane l).live.num Obj.cycleTarget 0
      n.val ≠ 255 ∧ (s.lane l).live.jn.cpeSeen.getLsbD n.val = false ∧ (s.lane l).live.jn.cycle.toNat % (bits
      ((s.lane l).live.num Obj.cyclePoint 0 n.val) 31 26 + 1) = bits ((s.lane l).live.num Obj.cyclePoint 0 n.val) 25
      20) :=
  ⟨
    ⟨.a, on (fun x => x |> net |> jn (fun y => { y with disagree := 3 })), by decide +kernel⟩,
    ⟨.a, on (fun x => x |> net |> put Obj.masterRank 0 3 |> jn (fun y => { y with listenLeft := 0 })),
      by decide +kernel⟩,
    ⟨.a, on (fun x => x |> net |> jn (fun y => { y with listenLeft := 0 })), by decide +kernel⟩,
    ⟨.a, on (fun x => x |> net), by decide +kernel⟩,
    ⟨.a, on (fun x => x |> net |> put Obj.masterRank 0 0 |> jn (fun y => { y with sync := .wait })),
      by decide +kernel⟩,
    ⟨.a, .a, on (fun x => x |> net |> put Obj.masterRank 0 0 |> jn (fun y => { y with sync := .sync })),
      by decide +kernel⟩,
    ⟨.a, .a, on (fun x => x |> net |> put Obj.masterRank 0 3 |> jn (fun y =>
      { y with sync := .sync, chA := { refHere := true } })), by decide +kernel⟩,
    ⟨.a, .b, on (fun x => x |> net |> jn (fun y => { y with sync := .silent })), by decide +kernel⟩,
    ⟨.a, 0, on (fun x => x |> net |> sched 0x03 |> jn (fun y =>
      { y with sync := .sync, bufs := [(5, { data := [1], slen := 1, fresh := true })] })), by decide +kernel⟩,
    ⟨.a, 0, on (fun x => x |> net |> sched 0x03 |> jn (fun y => { y with sync := .sync })), by decide +kernel⟩,
    ⟨.a, 0, [1], on (fun x => x |> net |> sched 0x03 |> jn (fun y =>
      { y with sync := .sync, entries := [(0, { captured := some [1] })] })), by decide +kernel⟩,
    ⟨.a, on (fun x => x |> net), by decide +kernel⟩,
    ⟨.a, 15, on (fun x => x |> net), by decide +kernel⟩,
    ⟨.a, 0, on (fun x => x |> net |> put Obj.cycleTarget 0 0), by decide +kernel⟩⟩

/-- `Obligations.ThreadCommands`. -/
theorem witness_ThreadCommands :
    (∃ (l : LaneId) (c : Fin 128) (_w : Word) (s : State), (s.lane l).live.calls c = false) ∧
    (∃ (l : LaneId) (c : Fin 128) (w : Word) (s : State), (s.lane l).live.calls c = true ∧ w.toNat % 256 < 128) ∧
    (∃ (l : LaneId) (c t : Fin 128) (w : Word) (s : State), (s.lane l).live.calls c = true ∧ w.toNat % 256 = 128 +
      t.val ∧ (s.lane l).live.startable t = true ∧ (s.lane l).live.partner t = none) ∧
    (∃ (l : LaneId) (c t : Fin 128) (w : Word) (s : State), (s.lane l).live.calls c = true ∧ w.toNat % 256 = 128 +
      t.val ∧ (s.lane l).live.startable t = false) ∧
    (∃ (l : LaneId) (c t : Fin 128) (w : Word) (s : State), (s.lane l).live.calls c = true ∧ w.toNat % 256 = 128 +
      t.val ∧ ((s.lane l).live.thread t).run ≠ .dormant ∧ ((s.lane l).live.thread t).held = none ∧ (s.lane
      l).live.partner t = none) ∧
    (∃ (l : LaneId) (c t : Fin 128) (w : Word) (s : State), (s.lane l).live.calls c = true ∧ w.toNat % 256 = 128 +
      t.val ∧ ((s.lane l).live.thread t).run = .dormant) ∧
    (∃ (l : LaneId) (c t : Fin 128) (w : Word) (s : State), (s.lane l).live.calls c = true ∧ w.toNat % 256 = 128 +
      t.val ∧ (s.lane l).live.hasThread t = true) ∧
    (∃ (l : LaneId) (c t : Fin 128) (w : Word) (s : State), (s.lane l).live.calls c = true ∧ w.toNat % 256 = 128 +
      t.val ∧ (s.lane l).live.hasThread t = false) ∧
    (∃ (l : LaneId) (c : Fin 128) (s : State), (s.lane l).live.calls c = true) ∧
    (∃ (l : LaneId) (c : Fin 128) (s : State) (d : BitVec 24), (s.lane l).live.calls c = true ∧ d ≠ 0) ∧
    (∃ (l : LaneId) (t : Fin 128) (u : Nat) (s : State), ((s.lane l).live.thread t).run = .waiting (.delay u) ∧
      (s.lane l).live.due u = true) ∧
    (∃ (l : LaneId) (t : Fin 128) (u : Nat) (s : State), ((s.lane l).live.thread t).run = .waiting (.delay u) ∧
      (s.lane l).live.due u = false) ∧
    (∃ (l : LaneId) (t : Fin 128) (_code : Byte) (_addr : Word) (s : State), (s.lane l).live.calls t = true ∧
      ((s.lane l).live.thread t).held = none ∧ (s.lane l).live.partner t = none) :=
  ⟨
    ⟨.a, 0, 0, on (fun x => x |> ph .joined), by decide +kernel⟩,
    ⟨.a, 0, 127, on (fun x => x |> runs), by decide +kernel⟩,
    ⟨.a, 0, 1, 129, on (fun x => x |> runs), by decide +kernel⟩,
    ⟨.a, 0, 127, 255, on (fun x => x |> runs), by decide +kernel⟩,
    ⟨.a, 0, 0, 128, on (fun x => x |> runs), by decide +kernel⟩,
    ⟨.a, 0, 1, 129, on (fun x => x |> runs), by decide +kernel⟩,
    ⟨.a, 0, 2, 130, on (fun x => x |> runs), by decide +kernel⟩,
    ⟨.a, 0, 3, 131, on (fun x => x |> runs), by decide +kernel⟩,
    ⟨.a, 0, on (fun x => x |> runs), by decide +kernel⟩,
    ⟨.a, 0, on (fun x => x |> runs), 1, by decide +kernel⟩,
    ⟨.a, 0, 0, on (fun x => x |> runs |> th (fun y => { y with run := .waiting (.delay 0) })), by decide +kernel⟩,
    ⟨.a, 0, perSec, on (fun x => x |> runs |> th (fun y => { y with run := .waiting (.delay perSec) })),
      by decide +kernel⟩,
    ⟨.a, 0, 7, 0, on (fun x => x |> runs), by decide +kernel⟩⟩

/-- `Obligations.FlowCommands`. -/
theorem witness_FlowCommands :
    (∃ (l : LaneId) (c : Fin 128) (f : Fin 64) (s : State), (s.lane l).live.calls c = true ∧ ((s.lane l).live.thread
      c).pflow.toNat = f.val ∧ (s.lane l).live.flowDepth f = 0) ∧
    (∃ (l : LaneId) (c : Fin 128) (f : Fin 64) (s : State), (s.lane l).live.calls c = true ∧ ((s.lane l).live.thread
      c).pflow.toNat = f.val ∧ (s.lane l).live.flowDepth f ≠ 0 ∧ (s.lane l).live.flowPort f = none ∧ 64 < ((s.lane
      l).live.thread c).plen.toNat) ∧
    (∃ (l : LaneId) (c : Fin 128) (f : Fin 64) (s : State), (s.lane l).live.calls c = true ∧ ((s.lane l).live.thread
      c).pflow.toNat = f.val ∧ (s.lane l).live.flowDepth f ≠ 0 ∧ (s.lane l).live.flowPort f = none ∧ ((s.lane
      l).live.thread c).plen.toNat ≤ 64 ∧ (s.lane l).live.flowDepth f ≤ ((s.lane l).live.flow f).queue.length) ∧
    (∃ (l : LaneId) (c : Fin 128) (f : Fin 64) (s : State), (s.lane l).live.calls c = true ∧ ((s.lane l).live.thread
      c).pflow.toNat = f.val ∧ (s.lane l).live.flowDepth f ≠ 0 ∧ (s.lane l).live.flowPort f = none ∧ ((s.lane
      l).live.thread c).plen.toNat ≤ 64 ∧ ((s.lane l).live.flow f).queue.length < (s.lane l).live.flowDepth f ∧ 1024
      ≤ (s.lane l).live.pendingItems) ∧
    (∃ (l : LaneId) (c : Fin 128) (f : Fin 64) (s : State), (s.lane l).live.calls c = true ∧ ((s.lane l).live.thread
      c).pflow.toNat = f.val ∧ (s.lane l).live.flowDepth f ≠ 0 ∧ (s.lane l).live.flowPort f = none ∧ ((s.lane
      l).live.thread c).plen.toNat ≤ 64 ∧ ((s.lane l).live.flow f).queue.length < (s.lane l).live.flowDepth f ∧
      (s.lane l).live.pendingItems < 1024 ∧ ((s.lane l).live.flow f).serving ≠ none) ∧
    (∃ (l : LaneId) (c : Fin 128) (f : Fin 64) (s : State) (t : Fin 128), (s.lane l).live.calls c = true ∧ ((s.lane
      l).live.thread c).pflow.toNat = f.val ∧ (s.lane l).live.flowDepth f ≠ 0 ∧ (s.lane l).live.flowPort f = none ∧
      ((s.lane l).live.thread c).plen.toNat ≤ 64 ∧ t ≠ c ∧ ((s.lane l).live.flow f).queue = [] ∧ ((s.lane
      l).live.flow f).serving = none ∧ ((s.lane l).live.flow f).waiters = [t] ∧ (s.lane l).live.pendingItems < 1024) ∧
    (∃ (l : LaneId) (c : Fin 128) (f : Fin 64) (w : Word) (s : State), (s.lane l).live.calls c = true ∧ w.toNat % 64
      = f.val ∧ ((s.lane l).live.flowDepth f = 0 ∨ (s.lane l).live.flowPort f ≠ none)) ∧
    (∃ (l : LaneId) (c : Fin 128) (f : Fin 64) (w : Word) (s : State), (s.lane l).live.calls c = true ∧ w.toNat % 64
      = f.val ∧ (s.lane l).live.flowDepth f ≠ 0 ∧ (s.lane l).live.flowPort f = none ∧ ((s.lane l).live.thread
      c).held ≠ none) ∧
    (∃ (l : LaneId) (c : Fin 128) (f : Fin 64) (w : Word) (s : State) (it : Item) (rest : List Item), (s.lane
      l).live.calls c = true ∧ w.toNat % 64 = f.val ∧ (s.lane l).live.flowDepth f ≠ 0 ∧ (s.lane l).live.flowPort f =
      none ∧ ((s.lane l).live.thread c).held = none ∧ ((s.lane l).live.flow f).serving = none ∧ ((s.lane
      l).live.flow f).queue = it :: rest) ∧
    (∃ (l : LaneId) (c : Fin 128) (f : Fin 64) (w : Word) (s : State), (s.lane l).live.calls c = true ∧ w.toNat % 64
      = f.val ∧ (s.lane l).live.flowDepth f ≠ 0 ∧ (s.lane l).live.flowPort f = none ∧ ((s.lane l).live.thread
      c).held = none ∧ w.getLsbD 8 = false ∧ ((s.lane l).live.flow f).serving = none ∧ ((s.lane l).live.flow
      f).queue = []) ∧
    (∃ (l : LaneId) (c : Fin 128) (f : Fin 64) (w : Word) (s : State), (s.lane l).live.calls c = true ∧ w.toNat % 64
      = f.val ∧ (s.lane l).live.flowDepth f ≠ 0 ∧ (s.lane l).live.flowPort f = none ∧ ((s.lane l).live.thread
      c).held = none ∧ w.getLsbD 8 = false ∧ ((s.lane l).live.flow f).serving ≠ none) ∧
    (∃ (l : LaneId) (c : Fin 128) (f : Fin 64) (w : Word) (s : State), (s.lane l).live.calls c = true ∧ w.toNat % 64
      = f.val ∧ (s.lane l).live.flowDepth f ≠ 0 ∧ (s.lane l).live.flowPort f = none ∧ ((s.lane l).live.thread
      c).held = none ∧ w.getLsbD 8 = true ∧ (((s.lane l).live.flow f).serving ≠ none ∨ ((s.lane l).live.flow
      f).queue = [])) ∧
    (∃ (l : LaneId) (c : Fin 128) (s : State), (s.lane l).live.calls c = true ∧ ((s.lane l).live.thread c).held =
      none) ∧
    (∃ (l : LaneId) (c : Fin 128) (s : State) (f : Fin 64) (it : Item), (s.lane l).live.calls c = true ∧ ((s.lane
      l).live.thread c).held = some (f, it) ∧ ((s.lane l).live.flow f).queue = []) ∧
    (∃ (l : LaneId) (c : Fin 128) (_w : Word) (s : State), (s.lane l).live.calls c = false) :=
  ⟨
    ⟨.a, 0, 0, on (fun x => x |> runs), by decide +kernel⟩,
    ⟨.a, 0, 16, on (fun x => x |> runs |> depth 1 |> th (fun y => { y with pflow := 16, plen := 65 })),
      by decide +kernel⟩,
    ⟨.a, 0, 16, on (fun x => x |> runs |> depth 1 |> th (fun y => { y with pflow := 16, plen := 64 }) |> flow (fun y
      => { y with queue := [item0] })), by decide +kernel⟩,
    ⟨.a, 0, 16, on (fun x => x |> runs |> depth 1 |> th (fun y => { y with pflow := 16 }) |> sc (fun y =>
      { y with flows := [(17, { queue := List.replicate 1024 item0 })] })), by decide +kernel⟩,
    ⟨.a, 0, 16, on (fun x => x |> runs |> depth 1 |> th (fun y => { y with pflow := 16 }) |> flow (fun y =>
      { y with serving := some (.resident, item0) })), by decide +kernel⟩,
    ⟨.a, 0, 16, on (fun x => x |> runs |> depth 1 |> th (fun y => { y with pflow := 16 }) |> flow (fun y =>
      { y with waiters := [1] })), 1, by decide +kernel⟩,
    ⟨.a, 0, 15, 15, on (fun x => x |> runs), by decide +kernel⟩,
    ⟨.a, 0, 16, 16, on (fun x => x |> runs |> depth 1 |> th (fun y => { y with held := some (16, item0) })),
      by decide +kernel⟩,
    ⟨.a, 0, 16, 16, on (fun x => x |> runs |> depth 1 |> flow (fun y => { y with queue := [item0] })), item0, [],
      by decide +kernel⟩,
    ⟨.a, 0, 63, 63, on (fun x => x |> runs |> depth 1), by decide +kernel⟩,
    ⟨.a, 0, 16, 16, on (fun x => x |> runs |> depth 1 |> flow (fun y =>
      { y with serving := some (.resident, item0) })), by decide +kernel⟩,
    ⟨.a, 0, 16, 272, on (fun x => x |> runs |> depth 1), by decide +kernel⟩,
    ⟨.a, 0, on (fun x => x |> runs), by decide +kernel⟩,
    ⟨.a, 0, on (fun x => x |> runs |> th (fun y => { y with held := some (16, item0) })), 16, item0,
      by decide +kernel⟩,
    ⟨.a, 0, 0, on (fun x => x |> ph .joined), by decide +kernel⟩⟩

/-- `Obligations.CheckValueUnits`. -/
theorem witness_CheckValueUnits :
    (∃ (l : LaneId) (_c : Fin 128) (u : Fin 16) (_w : Word) (s : State), (u.val < (s.lane l).live.num
      Obj.residentUnits ∨ (s.lane l).live.fl.kUnits.getLsbD u.val = true)) ∧
    (∃ (l : LaneId) (_c : Fin 128) (u : Fin 16) (_w : Word) (s : State) (_reg : Byte), (u.val < (s.lane l).live.num
      Obj.residentUnits ∨ (s.lane l).live.fl.kUnits.getLsbD u.val = true)) ∧
    (∃ (l : LaneId) (c : Fin 128) (u : Fin 16) (_w : Word) (s : State), (s.lane l).live.calls c = true ∧ (s.lane
      l).live.num Obj.residentUnits ≤ u.val ∧ (s.lane l).live.fl.kUnits.getLsbD u.val = false) ∧
    (∃ (l : LaneId) (c : Fin 128) (u : Fin 16) (w : Word) (s : State) (f : Fin 64), (s.lane l).live.calls c = true ∧
      (s.lane l).live.num Obj.residentUnits ≤ u.val ∧ (s.lane l).live.fl.kUnits.getLsbD u.val = false ∧ w.getLsbD 31
      = false ∧ w.toNat / 256 % 64 = f.val ∧ w.getLsbD 14 = true ∧ (s.lane l).live.flowDepth f = 0) ∧
    (∃ (l : LaneId) (c : Fin 128) (u : Fin 16) (w : Word) (s : State) (f : Fin 64), (s.lane l).live.calls c = true ∧
      (s.lane l).live.num Obj.residentUnits ≤ u.val ∧ (s.lane l).live.fl.kUnits.getLsbD u.val = false ∧ w.getLsbD 31
      = false ∧ w.toNat / 256 % 64 = f.val ∧ (w.getLsbD 14 = false ∨ (s.lane l).live.flowDepth f ≠ 0)) ∧
    (∃ (l : LaneId) (c : Fin 128) (u : Fin 16) (w : Word) (s : State) (r : Word), (s.lane l).live.calls c = true ∧
      (s.lane l).live.num Obj.residentUnits ≤ u.val ∧ (s.lane l).live.fl.kUnits.getLsbD u.val = false ∧ (s.lane
      l).live.fl.armed = none ∧ crc32Feed ((s.lane l).live.sf.cvu[u]).running ((bytesOf ((s.lane
      l).live.sf.cvu[u]).buf).take (min 64 (w.toNat % 128))) = r ∧ w.getLsbD 8 = false ∧ ~~~r = ((s.lane
      l).live.sf.cvu[u]).expect) ∧
    (∃ (l : LaneId) (c : Fin 128) (u : Fin 16) (w : Word) (s : State) (r : Word), (s.lane l).live.calls c = true ∧
      (s.lane l).live.num Obj.residentUnits ≤ u.val ∧ (s.lane l).live.fl.kUnits.getLsbD u.val = false ∧ (s.lane
      l).live.fl.armed = none ∧ crc32Feed ((s.lane l).live.sf.cvu[u]).running ((bytesOf ((s.lane
      l).live.sf.cvu[u]).buf).take (min 64 (w.toNat % 128))) = r ∧ w.getLsbD 8 = false ∧ ~~~r ≠ ((s.lane
      l).live.sf.cvu[u]).expect ∧ ((s.lane l).live.sf.cvu[u]).postEn = false) ∧
    (∃ (l : LaneId) (c : Fin 128) (u : Fin 16) (w : Word) (s : State) (r : Word), (s.lane l).live.calls c = true ∧
      (s.lane l).live.num Obj.residentUnits ≤ u.val ∧ (s.lane l).live.fl.kUnits.getLsbD u.val = false ∧ (s.lane
      l).live.fl.armed = none ∧ crc32Feed ((s.lane l).live.sf.cvu[u]).running ((bytesOf ((s.lane
      l).live.sf.cvu[u]).buf).take (min 64 (w.toNat % 128))) = r ∧ w.getLsbD 8 = true ∧ ~~~r = ((s.lane
      l).live.sf.cvu[u]).expect ∧ ((s.lane l).live.sf.cvu[u]).first = true) ∧
    (∃ (l : LaneId) (c : Fin 128) (u : Fin 16) (w : Word) (s : State) (r : Word), (s.lane l).live.calls c = true ∧
      (s.lane l).live.num Obj.residentUnits ≤ u.val ∧ (s.lane l).live.fl.kUnits.getLsbD u.val = false ∧ (s.lane
      l).live.fl.armed = none ∧ crc32Feed ((s.lane l).live.sf.cvu[u]).running ((bytesOf ((s.lane
      l).live.sf.cvu[u]).buf).take (min 64 (w.toNat % 128))) = r ∧ w.getLsbD 8 = true ∧ ~~~r = ((s.lane
      l).live.sf.cvu[u]).expect ∧ ((s.lane l).live.sf.cvu[u]).first = false ∧ (w >>> 16).setWidth 8 = ((s.lane
      l).live.sf.cvu[u]).last) :=
  ⟨
    ⟨.a, 0, 7, 0, on (fun x => x |> runs), by decide +kernel⟩,
    ⟨.a, 0, 7, 0, on (fun x => x |> runs), 4, by decide +kernel⟩,
    ⟨.a, 0, 8, 0, on (fun x => x |> runs), by decide +kernel⟩,
    ⟨.a, 0, 15, 0x4000, on (fun x => x |> runs), 0, by decide +kernel⟩,
    ⟨.a, 0, 15, 0, on (fun x => x |> runs), 0, by decide +kernel⟩,
    ⟨.a, 0, 8, 0, on (fun x => x |> runs), 0xFFFFFFFF, by decide +kernel⟩,
    ⟨.a, 0, 8, 0, on (fun x => (runs x).modCvu 8 (fun q => { q with expect := 1 })), 0xFFFFFFFF, by decide +kernel⟩,
    ⟨.a, 0, 8, 0x100, on (fun x => x |> runs), 0xFFFFFFFF, by decide +kernel⟩,
    ⟨.a, 0, 8, 0x100, on (fun x => (runs x).modCvu 8 (fun q => { q with first := false })), 0xFFFFFFFF,
      by decide +kernel⟩⟩

/-- `Obligations.ApplicationWindow`. -/
theorem witness_ApplicationWindow :
    (∃ (l : LaneId) (c : Fin 128) (w : Word) (s : State), (s.lane l).live.calls c = true ∧ (s.lane l).live.granted
      (w.toNat % 512) = true) ∧
    (∃ (l : LaneId) (c : Fin 128) (w : Word) (s : State), (s.lane l).live.calls c = true ∧ (s.lane l).live.granted
      (w.toNat % 512) = false) ∧
    (∃ (l : LaneId) (c : Fin 128) (b : Nat) (s : State), (s.lane l).live.calls c = true ∧ ((s.lane l).live.thread
      c).jsnSel.toNat = b ∧ (s.lane l).live.granted b = false) ∧
    (∃ (l : LaneId) (c : Fin 128) (b : Nat) (s : State), (s.lane l).live.calls c = true ∧ ((s.lane l).live.thread
      c).jsnSel.toNat = b ∧ (s.lane l).live.granted b = true ∧ (s.lane l).live.bufSends b = false) ∧
    (∃ (l : LaneId) (c : Fin 128) (b : Nat) (s : State), (s.lane l).live.calls c = true ∧ ((s.lane l).live.thread
      c).jsnSel.toNat = b ∧ (s.lane l).live.granted b = true ∧ (s.lane l).live.bufSends b = true ∧ 1400 < ((s.lane
      l).live.thread c).jsnLen.toNat) ∧
    (∃ (l : LaneId) (c : Fin 128) (b : Nat) (s : State), (s.lane l).live.calls c = true ∧ ((s.lane l).live.thread
      c).jsnSel.toNat = b ∧ (s.lane l).live.granted b = true ∧ (s.lane l).live.bufSends b = true ∧ ((s.lane
      l).live.thread c).jsnLen.toNat ≤ 1400) ∧
    (∃ (l : LaneId) (c : Fin 128) (e : Fin 1024) (_w : Word) (s : State), (s.lane l).live.calls c = true ∧ 768 ≤
      e.val) ∧
    (∃ (l : LaneId) (c : Fin 128) (e : Fin 1024) (_w : Word) (s : State) (_late : Bool), (s.lane l).live.calls c =
      true ∧ e.val < 768) ∧
    (∃ (l : LaneId) (c : Fin 128) (n : Fin 8) (s : State), (s.lane l).live.calls c = true ∧ (∃ t, (s.lane
      l).live.sc.flaAt[n] = some t ∧ (s.lane l).live.clk < t + ms 1)) ∧
    (∃ (l : LaneId) (c : Fin 128) (n : Fin 8) (s : State), (s.lane l).live.calls c = true ∧ (∀ t, (s.lane
      l).live.sc.flaAt[n] = some t → t + ms 1 ≤ (s.lane l).live.clk)) ∧
    (∃ (l : LaneId) (c : Fin 128) (_k : Fin 32) (s : State), (s.lane l).live.calls c = true) ∧
    (∃ (l : LaneId) (c : Fin 128) (s : State), (s.lane l).live.calls c = true ∧ ((s.lane l).live.num Obj.preTrigger
      = 0 ∧ (s.lane l).live.num Obj.postTrigger = 0 ∨ (s.lane l).live.fl.unusable.getLsbD 3 = true)) ∧
    (∃ (l : LaneId) (c : Fin 128) (s : State), (s.lane l).live.calls c = true ∧ ((s.lane l).live.num Obj.preTrigger
      ≠ 0 ∨ (s.lane l).live.num Obj.postTrigger ≠ 0) ∧ (s.lane l).live.fl.unusable.getLsbD 3 = false ∧ (s.lane
      l).live.im.erasing = false ∧ (s.lane l).live.im.pending.length < 8) ∧
    (∃ (l : LaneId) (c : Fin 128) (_ph : Nat) (s : State), (s.lane l).live.calls c = true) ∧
    (∃ (l : LaneId) (c : Fin 128) (addr _w : Word) (s : State), (s.lane l).live.calls c = true ∧ addr.toNat % 4 ≠ 0) ∧
    (∃ (l : LaneId) (c : Fin 128) (addr _w : Word) (s : State), (s.lane l).live.calls c = true ∧ addr.toNat % 4 = 0
      ∧ (addr.toNat < 0x600000 ∨ (0x800000 ≤ addr.toNat ∧ addr.toNat < 0x20000000) ∨ (0x20200000 ≤ addr.toNat ∧
      addr.toNat < 0x40000000) ∨ 0x40008000 ≤ addr.toNat)) ∧
    (∃ (l : LaneId) (c : Fin 128) (addr _w : Word) (s : State), (s.lane l).live.calls c = true ∧ addr.toNat % 4 = 0
      ∧ ((0x600000 ≤ addr.toNat ∧ addr.toNat < 0x800000) ∨ (0x20000000 ≤ addr.toNat ∧ addr.toNat < 0x20200000))) ∧
    (∃ (l : LaneId) (c : Fin 128) (_w : Word) (s : State), (s.lane l).live.calls c = true) ∧
    (∃ (l : LaneId) (c : Fin 128) (_w : Word) (s : State) (_u : Fin 16), (s.lane l).live.calls c = true) ∧
    (∃ (l : LaneId) (c : Fin 128) (_w : Word) (s : State) (_e : Fin 1024), (s.lane l).live.calls c = true) ∧
    (∃ (l : LaneId) (c : Fin 128) (_addr _w : Word) (s : State), (s.lane l).live.calls c = false) :=
  ⟨
    ⟨.a, 0, 511, on (fun x => x |> runs |> dom Obj.appBuffers (List.replicate 64 0xFF)), by decide +kernel⟩,
    ⟨.a, 0, 0, on (fun x => x |> runs), by decide +kernel⟩,
    ⟨.a, 0, 0, on (fun x => x |> runs), by decide +kernel⟩,
    ⟨.a, 0, 5, on (fun x => x |> runs |> dom Obj.appBuffers (List.replicate 64 0xFF) |> th (fun y =>
      { y with jsnSel := 5 })), by decide +kernel⟩,
    ⟨.a, 0, 5, on (fun x => x |> runs |> dom Obj.appBuffers (List.replicate 64 0xFF) |> sched 0x03 |> th (fun y =>
      { y with jsnSel := 5, jsnLen := 1401 })), by decide +kernel⟩,
    ⟨.a, 0, 5, on (fun x => x |> runs |> dom Obj.appBuffers (List.replicate 64 0xFF) |> sched 0x03 |> th (fun y =>
      { y with jsnSel := 5, jsnLen := 1400 })), by decide +kernel⟩,
    ⟨.a, 0, 768, 0, on (fun x => x |> runs), by decide +kernel⟩,
    ⟨.a, 0, 767, 0, on (fun x => x |> runs), false, by decide +kernel⟩,
    ⟨.a, 0, 0, on (fun x => x |> runs |> sc (fun y => { y with flaAt := Vector.replicate 8 (some 0) })),
      ⟨by decide +kernel, ⟨0, by decide +kernel, by decide +kernel⟩⟩⟩,
    ⟨.a, 0, 0, on (fun x => x |> runs), ⟨by decide +kernel, nofun⟩⟩,
    ⟨.a, 0, 31, on (fun x => x |> runs), by decide +kernel⟩,
    ⟨.a, 0, on (fun x => x |> runs |> put Obj.preTrigger 0 0 |> put Obj.postTrigger 0 0), by decide +kernel⟩,
    ⟨.a, 0, on (fun x => x |> runs), by decide +kernel⟩,
    ⟨.a, 0, 39999, on (fun x => x |> runs), by decide +kernel⟩,
    ⟨.a, 0, 0x40000005, 0, on (fun x => x |> runs), by decide +kernel⟩,
    ⟨.a, 0, 0x40008000, 0, on (fun x => x |> runs), by decide +kernel⟩,
    ⟨.a, 0, 0x7FFFFC, 0, on (fun x => x |> runs), by decide +kernel⟩,
    ⟨.a, 0, 0, on (fun x => x |> runs), by decide +kernel⟩,
    ⟨.a, 0, 0, on (fun x => x |> runs), 15, by decide +kernel⟩,
    ⟨.a, 0, 0, on (fun x => x |> runs), 1023, by decide +kernel⟩,
    ⟨.a, 0, 0, 0, on (fun x => x |> ph .joined), by decide +kernel⟩⟩

/-- `Obligations.TickStartCounts`. -/
theorem witness_TickStartCounts :
    (∃ (l : LaneId) (_inp : TickInputs) (s : State), ((s.lane l).live.phase = .loaded ∨ (s.lane l).live.phase =
      .withdrawn ∨ (s.lane l).live.phase = .haltedState)) ∧
    (∃ (l : LaneId) (_inp : TickInputs) (s : State), (s.lane l).live.phase = .halted) ∧
    (∃ (l : LaneId) (_inp : TickInputs) (s : State), (s.lane l).live.awake = false ∧ (s.lane l).live.phase ≠ .halted
      ∧ (s.lane l).live.phase ≠ .haltedState) ∧
    (∃ (l : LaneId) (_inp : TickInputs) (s : State), (s.lane l).live.phase = .joined) :=
  ⟨
    ⟨.a, { sin := 0, edm := 0, whistle := false, quiet := 0 }, on (fun x => x |> ph .loaded), by decide +kernel⟩,
    ⟨.a, { sin := 0, edm := 0, whistle := false, quiet := 0 }, on (fun x => x |> ph .halted), by decide +kernel⟩,
    ⟨.a, { sin := 0, edm := 0, whistle := false, quiet := 0 }, on (fun x => x |> ph .boot), by decide +kernel⟩,
    ⟨.a, { sin := 0, edm := 0, whistle := false, quiet := 0 }, on (fun x => x |> ph .joined), by decide +kernel⟩⟩

/-- `Obligations.EventsAreRecorded`. -/
theorem witness_EventsAreRecorded :
    (∃ (x n : Live) (src : Nat) (cls : FaultClass) (e : EventRec), x.record src cls e = n) ∧
    (∃ (x n : Live) (src : Nat) (cls : FaultClass) (e : EventRec), x.record src cls e = n ∧ (cls ≠ .corrected ∨
      x.coalesced src = false)) ∧
    (∃ (x n : Live) (src : Nat) (cls : FaultClass) (e : EventRec), x.record src cls e = n ∧ (cls ≠ .corrected ∨
      x.coalesced src = false) ∧ x.fl.history.length < 32) ∧
    (∃ (x n : Live) (src : Nat) (cls : FaultClass) (e : EventRec), x.record src cls e = n ∧ (cls ≠ .corrected ∨
      x.coalesced src = false) ∧ x.fl.history.length = 32) ∧
    (∃ (x n : Live) (src : Nat) (cls : FaultClass) (e : EventRec), x.record src cls e = n ∧ cls = .corrected) ∧
    (∃ (x n : Live) (src : Nat) (cls : FaultClass) (e : EventRec), x.record src cls e = n ∧ cls = .corrected ∧
      x.coalesced src = true) ∧
    (∃ (x n : Live) (src : Nat) (cls : FaultClass) (e : EventRec), x.record src cls e = n ∧ cls ≠ .corrected) ∧
    (∃ (x n : Live) (src : Nat) (cls : FaultClass) (e : EventRec), x.record src cls e = n ∧ cls ≠ .corrected ∧
      x.fl.first = none) ∧
    (∃ (x n : Live) (src : Nat) (cls : FaultClass) (e : EventRec) (f : EventRec), x.record src cls e = n ∧ cls ≠
      .corrected ∧ x.fl.first = some f) ∧
    (∃ (x : Live) (src _unit : Nat) (_syn : Word), (entryClass (x.mapEntry src) ≠ .corrected ∨ x.coalesced src =
      false)) :=
  ⟨
    ⟨lane0, (lane0.record 1 .corrected event0), 1, .corrected, event0, rfl⟩,
    ⟨lane0, (lane0.record 1 .fatal event0), 1, .fatal, event0, ⟨rfl, by decide +kernel⟩⟩,
    ⟨lane0, (lane0.record 1 .contained event0), 1, .contained, event0, ⟨rfl, by decide +kernel, by decide +kernel⟩⟩,
    ⟨fullLane, ((fullLane : Live).record 1 .contained event0), 1, .contained, event0, ⟨rfl, by decide +kernel,
      by decide +kernel⟩⟩,
    ⟨lane0, (lane0.record 1 .corrected event0), 1, .corrected, event0, ⟨rfl, by decide +kernel⟩⟩,
    ⟨cutLane, ((cutLane : Live).record 1 .corrected event0), 1, .corrected, event0, ⟨rfl, by decide +kernel,
      by decide +kernel⟩⟩,
    ⟨lane0, (lane0.record 1 .fatal event0), 1, .fatal, event0, ⟨rfl, by decide +kernel⟩⟩,
    ⟨lane0, (lane0.record 1 .fatal event0), 1, .fatal, event0, ⟨rfl, by decide +kernel, by decide +kernel⟩⟩,
    ⟨firstLane, ((firstLane : Live).record 1 .fatal event0), 1, .fatal, event0, event0, ⟨rfl, by decide +kernel,
      by decide +kernel⟩⟩,
    ⟨lane0, 1, 0, 0, by decide +kernel⟩⟩

/-- `Obligations.StepRunsTheFrontCommand`. -/
theorem witness_StepRunsTheFrontCommand :
    (∃ (c : Instr) (rest : List Instr) (s : State), s.pending = c :: rest) ∧
    (∃ (s : State), s.pending = []) :=
  ⟨
    ⟨.tapReset .a, [], { State.reset with pending := [.tapReset .a] }, by decide +kernel⟩,
    ⟨State.reset, by decide +kernel⟩⟩

/-- `Obligations.FusesAreOnlyBurnt`. -/
theorem witness_FusesAreOnlyBurnt :
    ∃ (s t : State), s.pending = [.tapReset .a] ∧ step s = .next t :=
  ⟨{ State.reset with pending := [.tapReset .a] }, _, rfl, rfl⟩

/-- `Obligations.StorageChangesByItsCommands`. -/
theorem witness_StorageChangesByItsCommands :
    ∃ (i : Instr) (s t : State), exec i s = .next t ∧ mayStore i = false ∧ mayBurn i = false :=
  ⟨.tapReset .a, State.reset, _, rfl, rfl, rfl⟩

/-! ### Ill-formed commands are refused -/

theorem test_wf_record : Instr.wf (.receiveTickRecord .a .fwd { rec0 with ain := [] } .inTime) = false := by decide
theorem test_wf_mirror : Instr.wf (.receiveMirrorBlock .a .fwd { words := [], crc := 0 } .inTime) = false := by decide
theorem test_wf_join : Instr.wf (.receiveJoinBlock .a .fwd { accs := [], crc := 0 } .inTime) = false := by decide
theorem test_wf_dict : Instr.wf (.receiveDictionaryBlock .a .fwd { dict0 with len := 9 } .inTime) = false := by decide
theorem test_wf_pset : Instr.wf (.psetEdge .a true true 40000 0) = false := by decide
theorem test_wf_crossing : Instr.wf (.phaseVoltageCrossing .a 0 true 40000) = false := by decide
theorem test_wf_leg : Instr.wf (.legEvent .a 0 .low 40000) = false := by decide
theorem test_wf_feedback : Instr.wf (.feedbackTransition .a 0 (lines true true true 0) 40000) = false := by decide
theorem test_wf_sent : Instr.wf (.sentFrameReceived .a 0 { sent true with nibbles := [] }) = false := by decide
theorem test_wf_bist : Instr.wf (.bistComplete .a 0x8000 0) = false := by decide
theorem test_wf_rotating : Instr.wf (.rotatingSelfTest .a 0) = false := by decide
theorem test_wf_selfTest : Instr.wf (.selfTestComplete .a 1 192 true none) = false := by decide
theorem test_wf_jalsyn : Instr.wf (.jalsynFrameReceived .a .a { frame with stop := 1000 }) = false := by decide
theorem test_wf_download : Instr.wf (.usdoDownloadInitiate .a (.can 0) 0 0 0 2 (some [0])) = false := by decide
theorem test_wf_tunnel : Instr.wf (.tunnelMessage .a (.downloadInit 0 0 0 2 (some [0]))) = false := by decide
theorem test_wf_can :
    Instr.wf (.canFrameReceived .a 0 { ident := 2048, ext := false, fd := false, brs := false, data := [] }) = false := by
  decide
theorem test_wf_timelo : Instr.wf (.timTimeloRead .a 0 40000) = false := by decide
theorem test_wf_monitor : Instr.wf (.clockMonitorTrip .a 0) = false := by decide
theorem test_wf_wake : Instr.wf (.wakeEvent .a 0 0) = false := by decide
theorem test_wf_cells : Instr.wf (.tapSamplePreload .a [4]) = false := by decide

/-! ### Single commands -/

/-- The live state of lane A after a command. -/
def after (i : Instr) (s : State) : Live :=
  match exec i s with
  | .next t => t.a.live
  | _ => lane0

/-- The table gives its rows no bits (log entry 5). -/
theorem test_decode_none : decodeTableWord 16 0x1234 = none := rfl

/-- The check word of R26 is CRC-32C: its published check value. -/
theorem test_crc32c : crc32c [0x31, 0x32, 0x33, 0x34, 0x35, 0x36, 0x37, 0x38, 0x39] = 0xE3069283 := by decide +kernel

/-- R541, R542: `TRSTn` low resets the port, and `BYPASS` acts. -/
theorem test_tap_bypass : (after (.tapBypass .a) (on (ph .joined))).mo.tap.instr = .bypass := by decide +kernel

/-- R318: a planned pulse drives its output low. -/
theorem test_tpo_pulse :
    ((after (.tpoPulseStart .a 0) (on (fun x => x |> ph .joined |> sf (fun y => { y with plan := [
      { lane := .a, isTpo := true, num := 0, offset := 0, period := 100, width := 500 }] })))).sf.tpo[0]).pulsing = true := by
  decide +kernel

/-- R246: a line change of one channel counts one, up when A leads. -/
theorem test_quadrature_up :
    (after (.feedbackTransition .a 0 (lines true false false 0) 0) (on (fun x => x |> ph .joined |> put Obj.fbMode 0 1))).fb.ports[0].counter
      = 1 := by decide +kernel

/-- R298: the event of a command enters the history. -/
theorem test_history : (after (.groundShift .a) (on (ph .joined))).fl.history.length = 1 := by decide +kernel

/-- A command reaches its lane only: lanes B and C stand (R10). -/
theorem test_other_lanes :
    (match exec (.groundShift .a) (on (ph .joined)) with
     | .next t => decide (t.b = State.reset.b ∧ t.c = State.reset.c)
     | _ => false) = true := by decide +kernel

/-- R87: binary32 rounds to nearest, ties to even (1/3, the root of 2, 2^24 + 1). -/
theorem test_f32 :
    F32.add 0x3F800000 0x40000000 = 0x40400000 ∧ F32.div 0x3F800000 0x40400000 = 0x3EAAAAAB ∧
    F32.sqrt 0x40000000 = 0x3FB504F3 ∧ F32.add 0x4B800000 0x3F800000 = 0x4B800000 := by decide +kernel

/-- R417: SHA-512, the published digest of "abc". -/
theorem test_sha512 :
    (sha512 [0x61, 0x62, 0x63]).take 8 = [0xDD, 0xAF, 0x35, 0xA1, 0x93, 0x61, 0x7A, 0xBA] := by decide +kernel

/-! ### Clauses that rest on a signature

Whether a signature verifies is a free value of the model (log entry 23), so these clauses are met where it does. -/

/-- The header of an empty image of version 1, and the image with its digest. -/
def header0 (kind : Byte) : List Byte :=
  [0x4C, 0x44, 0x4E, 0x45, 1, 0, kind, 0, 0x53, 0x4B, 0x56, 0x2D, 0x33, 0x32, 0x34, 0, 0x43, 0, 0, 0, 1, 0, 0, 0]
    ++ List.replicate 40 0
def signed (kind : Byte) : List Byte := header0 kind ++ sha512 (header0 kind) ++ List.replicate 3376 0

/-- Every key slot is programmed with an empty key. -/
def keyed : Otp := { prints := Vector.replicate 12 (fingerprint []), burnt := 0xFFF }

/-- The reset state with lane A given. -/
def onLane0 (n : Lane) : State := { State.reset with a := n }

theorem envelope_met (h1 : ∀ k m g, Config.ed25519 k m g = true) (h2 : ∀ k m g, Config.mlDsa65 k m g = true)
    (kind : Nat) (st : NvStore) (bs ek mk : List Byte) (a : headerOk kind bs = true) (b : productOk bs = true)
    (c : (header bs).kind = kind) (d : sha512 (slice bs 0 (64 + (header bs).bodyLen)) = slice bs (64 + (header bs).bodyLen) 64)
    (e : goodKeys st keyed (keySlot (purposeBase kind) (header bs).edSlot) = some ek)
    (f : goodKeys st keyed (keySlot (purposeBase kind) (header bs).mlSlot) = some mk) :
    checkEnvelope kind st keyed bs = 1 := by
  simp only [checkEnvelope, a, b, c, d, e, f, h1, h2]
  simp

/-- Lane A's store with the empty image staged, and with an empty firmware image. -/
def stagedStore : NvStore := { regions := (Vector.replicate 6 []).set 0 (signed 1) }
def bootStore : NvStore := { fwA := signed 2 }

/-- `Obligations.ConfigurationCommands`, the Stage of a checked image. -/
theorem witness_stage (h1 : ∀ k m g, Config.ed25519 k m g = true) (h2 : ∀ k m g, Config.mlDsa65 k m g = true) :
    ∃ (l : LaneId) (path : Path) (v : Word) (s : State), (s.lane l).live.writes = true ∧ v ≠ 0 ∧
      (s.lane l).live.standby = true ∧ (s.lane l).live.sessionOn path = true ∧ (s.lane l).store.bad = false ∧
      configGuard 1 v ((s.lane l).live, (s.lane l).store) = true ∧
      checkStored (s.lane l).store (s.lane l).otp ((s.lane l).store.image .staged) = 1 ∧ (s.lane l).store.dir.staged < 3 := by
  have e : checkEnvelope 1 stagedStore keyed (signed 1) = 1 :=
    envelope_met h1 h2 1 stagedStore (signed 1) [] [] (by decide +kernel) (by decide +kernel) (by decide +kernel)
      (by decide +kernel) (by decide +kernel) (by decide +kernel)
  have r : recordsOk (signed 1) = true := by decide +kernel
  have k : checkStored stagedStore keyed (signed 1) = 1 := by simp only [checkStored, e, r, if_true]
  exact ⟨.a, .can 0, 1,
    onLane0 { live := im (fun y => { y with stagingStatus := 1 }) (serviced lane0), store := stagedStore, otp := keyed },
    by decide +kernel, by decide, by decide +kernel, by decide +kernel, by decide +kernel, by decide +kernel, k, by decide +kernel⟩

/-- `Obligations.DownloadsAndFirmware`, the start of a checked firmware. -/
theorem witness_boot (h1 : ∀ k m g, Config.ed25519 k m g = true) (h2 : ∀ k m g, Config.mlDsa65 k m g = true) :
    ∃ (l : LaneId) (b : Bool) (r : BootRecord) (s : State), (s.lane l).live.phase = .boot ∧
      bootChoice (s.lane l).store (s.lane l).otp = (some b, r) ∧ (s.lane l).live.su.fromDeep = false ∧
      (s.lane l).live.su.halt = true := by
  have e : checkEnvelope 2 bootStore keyed (signed 2) = 1 :=
    envelope_met h1 h2 2 bootStore (signed 2) [] [] (by decide +kernel) (by decide +kernel) (by decide +kernel)
      (by decide +kernel) (by decide +kernel) (by decide +kernel)
  have z : ¬ (header (signed 2)).epoch < keyed.count := by decide +kernel
  have k : bootStatus bootStore keyed false = 1 := by
    have q : bootStore.fwEmpty false = false := by decide
    have w : bootStore.firmware false = signed 2 := by rw [NvStore.firmware]; rfl
    simp only [bootStatus, q, w, checkBoot, e, z, if_false, Bool.false_eq_true]
  have c : bootChoice bootStore keyed = (some false, bootStore.boot) := by
    simp only [bootChoice]
    exact if_pos k
  exact ⟨.a, false, bootStore.boot,
    onLane0 { live := su (fun y => { y with halt := true }) (ph .boot lane0), store := bootStore, otp := keyed },
    rfl, c, rfl, rfl⟩

/-- A response of one minute, and lane A with a challenge open. -/
def response0 : List Byte := [0, 0, 1] ++ List.replicate 3374 0
def challenged (x : Live) : Live := im (fun y => { y with nonce := some (List.replicate 48 0) }) x

theorem response_met (h1 : ∀ k m g, Config.ed25519 k m g = true) (h2 : ∀ k m g, Config.mlDsa65 k m g = true)
    (base : Nat) (r c ek mk : List Byte) (x : LiveStore) (a : x.1.im.nonce = some c)
    (b : x.1.clk ≤ x.1.im.nonceAt + 60 * perSec) (d : 1 ≤ respMinutes r ∧ respMinutes r ≤ 480)
    (e : goodKeys x.2 keyed (keySlot base (respEd r)) = some ek) (f : goodKeys x.2 keyed (keySlot base (respMl r)) = some mk) :
    responseGood base r keyed x = true := by
  simp only [responseGood, a, b, d, e, f, h1, h2]
  simp

/-- `Obligations.KeysSessionsAttestation`, a response that opens a session and one that unlocks debug access. -/
theorem witness_response (h1 : ∀ k m g, Config.ed25519 k m g = true) (h2 : ∀ k m g, Config.mlDsa65 k m g = true) :
    (∃ (l : LaneId) (r : List Byte) (s : State), (s.lane l).live.writes = true ∧ r.length = 3377 ∧
      respDamaged 8 r (s.lane l).otp (s.lane l).store = [] ∧ respDamaged 0 r (s.lane l).otp (s.lane l).store = [] ∧
      (s.lane l).live.sessionOpen = false ∧
      responseGood 8 r (s.lane l).otp ((s.lane l).live.setRw Obj.response 0 0 r, (s.lane l).store) = true) ∧
    (∃ (l : LaneId) (path : Path) (r : List Byte) (s : State), (s.lane l).live.writes = true ∧ r.length = 3377 ∧
      respDamaged 8 r (s.lane l).otp (s.lane l).store = [] ∧ respDamaged 0 r (s.lane l).otp (s.lane l).store = [] ∧
      (s.lane l).live.sessionOn path = true ∧
      responseGood 0 r (s.lane l).otp ((s.lane l).live.setRw Obj.debugResponse 0 0 r, (s.lane l).store) = true) := by
  refine ⟨⟨.a, response0, onLane0 { live := challenged (ph .joined lane0), otp := keyed }, by decide +kernel,
      by decide +kernel, by decide +kernel, by decide +kernel, by decide +kernel, ?_⟩,
    ⟨.a, .can 0, response0, onLane0 { live := challenged (serviced lane0), otp := keyed }, by decide +kernel,
      by decide +kernel, by decide +kernel, by decide +kernel, by decide +kernel, ?_⟩⟩
  · exact response_met h1 h2 8 _ (List.replicate 48 0) [] [] _ rfl (Nat.zero_le _) (by decide +kernel) (by decide +kernel)
      (by decide +kernel)
  · exact response_met h1 h2 0 _ (List.replicate 48 0) [] [] _ rfl (Nat.zero_le _) (by decide +kernel) (by decide +kernel)
      (by decide +kernel)

end Sys2Proof.Tests
end

section
/-!
PROOF SUPPORT. The record of an event (R297 to R299) and why it stays in the history: what an event brings about leaves
the history alone but for the records of the events that follow from it, and these are fewer than the queue holds.
-/

namespace Sys2Proof.Machine

/-! ### The history queue and the first event -/

/-- A record enters at the end; the last 31 of the records before it stay. -/
@[simp] theorem enterHistory_history (f : FaultSt) (e : EventRec) :
    (enterHistory f e).history = f.history.drop (f.history.length - 31) ++ [e] := by
  unfold enterHistory
  split
  · rfl
  · have h : f.history.length - 31 = 0 := by omega
    rw [h, List.drop_zero]

theorem enterHistory_overwritten_of_full (f : FaultSt) (e : EventRec) (h : 32 ≤ f.history.length) :
    (enterHistory f e).overwritten = satInc f.overwritten := by
  unfold enterHistory; rw [if_pos h]

theorem enterHistory_overwritten_of_room (f : FaultSt) (e : EventRec) (h : f.history.length < 32) :
    (enterHistory f e).overwritten = f.overwritten := by
  unfold enterHistory; rw [if_neg (Nat.not_le.mpr h)]

@[simp] theorem enterHistory_seq (f : FaultSt) (e : EventRec) : (enterHistory f e).seq = f.seq := by
  obtain ⟨h, o, q⟩ := enterHistory_frame f e; rw [q]
@[simp] theorem enterHistory_suppressed (f : FaultSt) (e : EventRec) :
    (enterHistory f e).suppressed = f.suppressed := by
  obtain ⟨h, o, q⟩ := enterHistory_frame f e; rw [q]
@[simp] theorem enterHistory_corrected (f : FaultSt) (e : EventRec) : (enterHistory f e).corrected = f.corrected := by
  obtain ⟨h, o, q⟩ := enterHistory_frame f e; rw [q]
@[simp] theorem enterHistory_first (f : FaultSt) (e : EventRec) : (enterHistory f e).first = f.first := by
  obtain ⟨h, o, q⟩ := enterHistory_frame f e; rw [q]
@[simp] theorem enterHistory_later (f : FaultSt) (e : EventRec) : (enterHistory f e).later = f.later := by
  obtain ⟨h, o, q⟩ := enterHistory_frame f e; rw [q]

@[simp] theorem enterFirst_history (f : FaultSt) (e : EventRec) : (enterFirst f e).history = f.history := by
  obtain ⟨o, n, q⟩ := enterFirst_frame f e; rw [q]
@[simp] theorem enterFirst_overwritten (f : FaultSt) (e : EventRec) : (enterFirst f e).overwritten = f.overwritten := by
  obtain ⟨o, n, q⟩ := enterFirst_frame f e; rw [q]
@[simp] theorem enterFirst_suppressed (f : FaultSt) (e : EventRec) : (enterFirst f e).suppressed = f.suppressed := by
  obtain ⟨o, n, q⟩ := enterFirst_frame f e; rw [q]
@[simp] theorem enterFirst_seq (f : FaultSt) (e : EventRec) : (enterFirst f e).seq = f.seq := by
  obtain ⟨o, n, q⟩ := enterFirst_frame f e; rw [q]
@[simp] theorem enterFirst_corrected (f : FaultSt) (e : EventRec) : (enterFirst f e).corrected = f.corrected := by
  obtain ⟨o, n, q⟩ := enterFirst_frame f e; rw [q]

theorem enterFirst_of_none (f : FaultSt) (e : EventRec) (h : f.first = none) :
    (enterFirst f e).first = some e ∧ (enterFirst f e).later = f.later := by
  unfold enterFirst; rw [h]; exact ⟨rfl, rfl⟩

theorem enterFirst_of_some (f : FaultSt) (e g : EventRec) (h : f.first = some g) :
    (enterFirst f e).first = some g ∧ (enterFirst f e).later = satInc f.later := by
  unfold enterFirst; rw [h]; exact ⟨rfl, rfl⟩

/-! ### An event recorded -/

/-- The fault state of an event counted under its class, before its record is entered (R84, R297). -/
def FaultSt.counted (f : FaultSt) (cls : FaultClass) : FaultSt := { countClass f cls with seq := f.seq + 1 }

@[simp] theorem counted_seq (f : FaultSt) (c : FaultClass) : (f.counted c).seq = f.seq + 1 := rfl
@[simp] theorem counted_history (f : FaultSt) (c : FaultClass) : (f.counted c).history = f.history := by cases c <;> rfl
@[simp] theorem counted_overwritten (f : FaultSt) (c : FaultClass) : (f.counted c).overwritten = f.overwritten := by
  cases c <;> rfl
@[simp] theorem counted_suppressed (f : FaultSt) (c : FaultClass) : (f.counted c).suppressed = f.suppressed := by
  cases c <;> rfl
@[simp] theorem counted_first (f : FaultSt) (c : FaultClass) : (f.counted c).first = f.first := by cases c <;> rfl
@[simp] theorem counted_later (f : FaultSt) (c : FaultClass) : (f.counted c).later = f.later := by cases c <;> rfl
theorem counted_corrected (f : FaultSt) : (f.counted .corrected).corrected = satInc f.corrected := rfl
theorem counted_corrected_of_ne (f : FaultSt) (c : FaultClass) (h : c ≠ .corrected) :
    (f.counted c).corrected = f.corrected := by
  cases c
  · exact absurd rfl h
  · rfl
  · rfl

/-- A coalesced CORRECTED event is counted and suppressed (R298). -/
theorem record_fl_of_coalesced (x : Live) (src : Nat) (e : EventRec) (h : x.coalesced src = true) :
    (x.record src .corrected e).fl =
      { x.fl.counted .corrected with suppressed := satInc (x.fl.counted .corrected).suppressed } := by
  unfold Live.record; dsimp only; rw [if_pos h]; rfl

/-- A CORRECTED event that is not coalesced enters the history (R298). -/
theorem record_fl_of_corrected (x : Live) (src : Nat) (e : EventRec) (h : x.coalesced src = false) :
    (x.record src .corrected e).fl = enterHistory (x.fl.counted .corrected) e := by
  unfold Live.record; dsimp only; rw [if_neg (by rw [h]; decide)]; rfl

/-- A CONTAINED or FATAL event enters the history and is kept where it is the first (R298, R299). -/
theorem record_fl_of_serious (x : Live) (src : Nat) (cls : FaultClass) (e : EventRec) (h : cls ≠ .corrected) :
    (x.record src cls e).fl = enterFirst (enterHistory (x.fl.counted cls) e) e := by
  cases cls
  · exact absurd rfl h
  · rfl
  · rfl

/-- What the fault state keeps and gains when a record enters the history (R298). -/
structure Entered (f n : FaultSt) (e : EventRec) : Prop where
  seq : n.seq = f.seq + 1
  suppressed : n.suppressed = f.suppressed
  history : n.history = f.history.drop (f.history.length - 31) ++ [e]
  room : f.history.length < 32 → n.overwritten = f.overwritten
  full : 32 ≤ f.history.length → n.overwritten = satInc f.overwritten

theorem enterHistory_entered (f : FaultSt) (cls : FaultClass) (e : EventRec) :
    Entered f (enterHistory (f.counted cls) e) e where
  seq := by simp
  suppressed := by simp
  history := by simp
  room h := by rw [enterHistory_overwritten_of_room _ _ (by simpa using h)]; simp
  full h := by rw [enterHistory_overwritten_of_full _ _ (by simpa using h)]; simp

/-- Keeping the first event takes nothing from what was entered. -/
theorem Entered.enterFirst {f n : FaultSt} {e : EventRec} (h : Entered f n e) : Entered f (enterFirst n e) e where
  seq := by simpa using h.seq
  suppressed := by simpa using h.suppressed
  history := by simpa using h.history
  room r := by simpa using h.room r
  full r := by simpa using h.full r

/-- Every event that is not suppressed enters the history (R298). -/
theorem record_entered (x : Live) (src : Nat) (cls : FaultClass) (e : EventRec)
    (h : cls ≠ .corrected ∨ x.coalesced src = false) : Entered x.fl (x.record src cls e).fl e := by
  by_cases hc : cls = .corrected
  · subst hc
    rw [record_fl_of_corrected x src e (h.resolve_left (fun k => k rfl))]
    exact enterHistory_entered ..
  · rw [record_fl_of_serious x src cls e hc]
    exact (enterHistory_entered ..).enterFirst

/-- A CORRECTED event is counted and leaves the first event (R84, R299). -/
theorem record_corrected (x : Live) (src : Nat) (e : EventRec) :
    (x.record src .corrected e).fl.corrected = satInc x.fl.corrected ∧
    (x.record src .corrected e).fl.first = x.fl.first ∧ (x.record src .corrected e).fl.later = x.fl.later := by
  cases h : x.coalesced src
  · rw [record_fl_of_corrected x src e h]; simp [counted_corrected]
  · rw [record_fl_of_coalesced x src e h]; simp [counted_corrected]

/-- A coalesced event leaves the history and is counted as suppressed (R298). -/
theorem record_coalesced (x : Live) (src : Nat) (e : EventRec) (h : x.coalesced src = true) :
    (x.record src .corrected e).fl.history = x.fl.history ∧
    (x.record src .corrected e).fl.overwritten = x.fl.overwritten ∧
    (x.record src .corrected e).fl.suppressed = satInc x.fl.suppressed := by
  rw [record_fl_of_coalesced x src e h]; simp

/-- A CONTAINED or FATAL event is kept as the first, or counted as a later one (R299). -/
theorem record_serious (x : Live) (src : Nat) (cls : FaultClass) (e : EventRec) (h : cls ≠ .corrected) :
    (x.record src cls e).fl.corrected = x.fl.corrected ∧
    (x.fl.first = none → (x.record src cls e).fl.first = some e ∧ (x.record src cls e).fl.later = x.fl.later) ∧
    (∀ f, x.fl.first = some f →
      (x.record src cls e).fl.first = some f ∧ (x.record src cls e).fl.later = satInc x.fl.later) := by
  rw [record_fl_of_serious x src cls e h]
  refine ⟨by simp [counted_corrected_of_ne x.fl cls h], fun hn => ?_, fun f hf => ?_⟩
  · simpa using enterFirst_of_none (enterHistory (x.fl.counted cls) e) e (by simpa using hn)
  · simpa using enterFirst_of_some (enterHistory (x.fl.counted cls) e) e f (by simpa using hf)

/-- When an event is coalesced (R298; a `CoalesceTime` of 0 is off). -/
theorem coalesced_iff (x : Live) (src : Nat) : x.coalesced src = true ↔ x.num Obj.coalesceTime ≠ 0 ∧
    ∃ e ∈ x.fl.history, e.src.toNat % 512 = src ∧ x.clk < e.at' + ms (x.num Obj.coalesceTime) := by
  simp only [Live.coalesced, Bool.and_eq_true, decide_eq_true_eq, List.any_eq_true]
  exact Iff.rfl

/-! ### What leaves the fault state

Gates and current loops, the logbook's triggers, threads, flows and safety outputs are no part of the collector's own
state. -/

theorem foldl_fl {α : Type} (f : Live → α → Live) (h : ∀ x a, (f x a).fl = x.fl) (l : List α) (x : Live) :
    (l.foldl f x).fl = x.fl := by
  induction l generalizing x with
  | nil => rfl
  | cons a l ih => rw [List.foldl_cons, ih, h]

theorem forAll_fl {n : Nat} (f : Fin n → Live → Live) (h : ∀ i x, (f i x).fl = x.fl) (x : Live) :
    (forAll n f x).fl = x.fl := foldl_fl _ (fun x i => h i x) _ x

@[simp] theorem settlePort_fl (x : Live) (p : Fin 8) : (x.settlePort p).fl = x.fl := by
  obtain ⟨w, q, h⟩ := settlePort_frame x p; rw [h]
@[simp] theorem park_fl (x : Live) (p : Fin 8) (ws : WState) : (x.park p ws).fl = x.fl := rfl
@[simp] theorem markOnly_fl (x : Live) (src : Half) : (x.markOnly src).fl = x.fl := by
  simp only [Live.markOnly, Live.addMarker]
@[simp] theorem trigger_fl (x : Live) (src : Half) (b : Bool) : (x.trigger src b).2.fl = x.fl := by
  simp only [Live.trigger, apply_ite Prod.snd, apply_ite Live.fl, markOnly_fl, ite_self]

@[simp] theorem modThread_fl (x : Live) (t : Fin 128) (f) : (x.modThread t f).fl = x.fl := rfl
@[simp] theorem modFlow_fl (x : Live) (f : Fin 64) (g) : (x.modFlow f g).fl = x.fl := rfl
@[simp] theorem setCore_fl (x : Live) (b : Bool) (t) : (x.setCore b t).fl = x.fl := by cases b <;> rfl
@[simp] theorem dispatch_fl (x : Live) (t : Fin 128) (b : Bool) : (x.dispatch t b).fl = x.fl := by
  unfold Live.dispatch
  rw [setCore_fl, modThread_fl]
  split <;> rfl
@[simp] theorem reschedule_fl (k : Nat) (x : Live) : (x.reschedule k).fl = x.fl := by
  induction k generalizing x with
  | zero => rfl
  | succ k ih =>
    unfold Live.reschedule
    split
    · rfl
    · rw [ih, dispatch_fl]
@[simp] theorem schedule_fl (x : Live) : x.schedule.fl = x.fl := reschedule_fl 40 x
@[simp] theorem unplace_fl (x : Live) (t : Fin 128) : (x.unplace t).fl = x.fl := by
  simp only [Live.unplace, apply_ite Live.fl, setCore_fl, ite_self]
@[simp] theorem makeReady_fl (x : Live) (t : Fin 128) : (x.makeReady t).fl = x.fl := by
  simp only [Live.makeReady, schedule_fl, modThread_fl, unplace_fl]
@[simp] theorem giveTo_fl (x : Live) (f : Fin 64) (t : Fin 128) (it : Item) : (x.giveTo f t it).fl = x.fl := by
  simp only [Live.giveTo, makeReady_fl, modThread_fl, modFlow_fl]
@[simp] theorem giveToPort_fl (x : Live) (f : Fin 64) (n : Fin 4) (it : Item) : (x.giveToPort f n it).fl = x.fl := rfl
@[simp] theorem serveNext_fl (x : Live) (f : Fin 64) : (x.serveNext f).fl = x.fl := by
  unfold Live.serveNext
  repeat' split
  all_goals simp only [giveToPort_fl, giveTo_fl, modFlow_fl]
@[simp] theorem post_fl (x : Live) (f : Fin 64) (it : Item) : (x.post f it).2.fl = x.fl := by
  simp only [Live.post, apply_ite Prod.snd, apply_ite Live.fl, serveNext_fl, modFlow_fl, ite_self]
@[simp] theorem endService_fl (x : Live) (f : Fin 64) : (x.endService f).fl = x.fl := by
  simp only [Live.endService, serveNext_fl, modFlow_fl]
@[simp] theorem discardHeld_fl (x : Live) (t : Fin 128) : (x.discardHeld t).fl = x.fl := by
  unfold Live.discardHeld
  split
  · rfl
  · rw [endService_fl, modThread_fl]
@[simp] theorem haltThread_fl (x : Live) (t : Fin 128) (r : RunState) : (x.haltThread t r).fl = x.fl := by
  simp only [Live.haltThread, schedule_fl, discardHeld_fl, modThread_fl, unplace_fl]
@[simp] theorem stopPartner_fl (x : Live) (t : Fin 128) : (x.stopPartner t).fl = x.fl := by
  unfold Live.stopPartner
  repeat' split
  all_goals simp only [haltThread_fl]
@[simp] theorem faultThread_fl (x : Live) (t : Fin 128) : (x.faultThread t).fl = x.fl := by
  simp only [Live.faultThread, stopPartner_fl, haltThread_fl]
@[simp] theorem stopAllThreads_fl (x : Live) : x.stopAllThreads.fl = x.fl :=
  foldl_fl _ (fun y t => by split <;> simp only [haltThread_fl]) _ _
@[simp] theorem notify_fl (x : Live) (src : Nat) (e : EventRec) : (x.notify src e).2.fl = x.fl := by
  unfold Live.notify
  dsimp only
  split
  · split
    · next h => rw [← congrArg (fun r => r.2.fl) h, post_fl]
    · next h => exact (congrArg (fun r => r.2.fl) h).symm.trans (post_fl ..)
  · rfl

@[simp] theorem soutOff_fl (x : Live) (n : Fin 4) : (x.soutOff n).fl = x.fl := by
  unfold Live.soutOff Live.modSout
  dsimp only
  split <;> rfl
@[simp] theorem outputsOff_fl (x : Live) : x.outputsOff.fl = x.fl :=
  forAll_fl _ (fun n y => by split <;> simp only [soutOff_fl]) x
@[simp] theorem windingsFree_fl (x : Live) : x.windingsFree.fl = x.fl :=
  forAll_fl _ (fun p y => by split <;> rfl) x
@[simp] theorem withdraw_fl (x : Live) : x.withdraw.fl = x.fl := by
  unfold Live.withdraw
  split
  · simp only [settle_fl, outputsOff_fl, windingsFree_fl]
  · rfl

/-! ### What leaves the history: kennels, halts, reactions -/

@[simp] theorem halt_history (x : Live) : x.halt.fl.history = x.fl.history := by
  unfold Live.halt
  split
  · simp only [settle_fl, stopAllThreads_fl, outputsOff_fl, windingsFree_fl]
  · rfl
@[simp] theorem kennelPort_history (x : Live) (p : Fin 8) : (x.kennelPort p).fl.history = x.fl.history := by
  simp only [Live.kennelPort, settlePort_fl, park_fl]
@[simp] theorem kennelChannel_history (x : Live) (c : Nat) : (x.kennelChannel c).fl.history = x.fl.history := by
  unfold Live.kennelChannel
  dsimp only
  repeat' split
  all_goals simp only [kennelPort_history]
@[simp] theorem kennelAdc_history (x : Live) (n : Fin 16) : (x.kennelAdc n).2.fl.history = x.fl.history := rfl
@[simp] theorem kennelCore_history (x : Live) (b : Bool) : (x.kennelCore b).fl.history = x.fl.history := by
  unfold Live.kennelCore
  dsimp only
  split
  · rw [schedule_fl]
  · rw [faultThread_fl]
@[simp] theorem kennelCan_history (x : Live) (n : Fin 4) : (x.kennelCan n).fl.history = x.fl.history := rfl
@[simp] theorem fence_history (x : Live) (src unit : Nat) : (x.fence src unit).fl.history = x.fl.history := by
  unfold Live.fence
  repeat' split
  all_goals simp only [kennelPort_history, kennelChannel_history, kennelAdc_history, kennelCore_history,
    kennelCan_history]
@[simp] theorem react_history (x : Live) (src unit entry : Nat) :
    (x.react src unit entry).fl.history = x.fl.history := by
  unfold Live.react
  dsimp only
  cases entryReaction entry <;> simp only [withdraw_fl, halt_history, fence_history]

/-! ### A record that stays -/

/-- A record stands in the history and stays there while `n` further records are entered. -/
def Stays (n : Nat) (e : EventRec) (h : List EventRec) : Prop :=
  ∃ older newer, h = older ++ e :: newer ∧ newer.length + n < 32

theorem Stays.mem {n : Nat} {e : EventRec} {h : List EventRec} : Stays n e h → e ∈ h := by
  rintro ⟨older, newer, rfl, -⟩
  exact List.mem_append_right _ List.mem_cons_self

theorem Stays.mono {m n : Nat} {e : EventRec} {h : List EventRec} (le : m ≤ n) : Stays n e h → Stays m e h := by
  rintro ⟨older, newer, rfl, hn⟩
  exact ⟨older, newer, rfl, by omega⟩

/-- A record entered now stays through 31 further ones. -/
theorem stays_of_entered {f n : FaultSt} {e : EventRec} (h : Entered f n e) : Stays 31 e n.history :=
  ⟨_, [], h.history, by decide⟩

/-- The entry of another record takes one from the number that a record stays through. -/
theorem Stays.entered {n : Nat} {e e' : EventRec} {f g : FaultSt} (h : Entered f g e') :
    Stays (n + 1) e f.history → Stays n e g.history := by
  rintro ⟨older, newer, hf, hn⟩
  refine ⟨older.drop (f.history.length - 31), newer ++ [e'], ?_, by simp; omega⟩
  have hd : f.history.length - 31 ≤ older.length := by rw [hf]; simp; omega
  calc g.history = (older ++ e :: newer).drop (f.history.length - 31) ++ [e'] := by rw [h.history, ← hf]
    _ = older.drop (f.history.length - 31) ++ e :: (newer ++ [e']) := by
      rw [List.drop_append_of_le_length hd, List.append_assoc, List.cons_append]

theorem Stays.record {n : Nat} {e : EventRec} {x : Live} (h : Stays (n + 1) e x.fl.history)
    (src : Nat) (cls : FaultClass) (e' : EventRec) : Stays n e (x.record src cls e').fl.history := by
  by_cases hc : cls = .corrected ∧ x.coalesced src = true
  · obtain ⟨rfl, hco⟩ := hc
    rw [(record_coalesced x src e' hco).1]
    exact h.mono (Nat.le_succ n)
  · refine h.entered (record_entered x src cls e' ?_)
    rwa [not_and_or, Bool.not_eq_true] at hc

/-! ### The events that follow from an event

A raised event runs through three stages after its record, each of which may raise one further event: the logbook's
trigger, the notification, the reaction. -/

/-- The logbook's trigger of an event, and the event of a trigger that its bound refuses (R439, R440). -/
def Live.triggerStage (k : Nat) (x : Live) (src : Nat) (cls : FaultClass) : Live :=
  let r := if x.triggers cls then x.trigger (BitVec.ofNat 16 src) (decide (cls = .fatal)) else (false, x)
  if r.1 then Live.raiseN k r.2 360 noUnit 0 none (r.2.mapEntry 360) else r.2

/-- The notification of an event, and the event of a dropped one (R291, R463). -/
def Live.notifyStage (k : Nat) (x : Live) (src : Nat) (rea : Reaction) (e : EventRec) : Live :=
  let n := if rea = .log then (none, x) else x.notify src e
  match n.1 with
  | some f => Live.raiseN k n.2 368 f.val 4 none (n.2.mapEntry 368)
  | none => n.2

/-- The reaction to an event, and the event of a thread whose core it kennels (R291, R303, R456). -/
def Live.reactStage (k : Nat) (x : Live) (src unit : Nat) (inj : Option Bool) (entry : Nat) : Live :=
  if inj = some false then x
  else
    match x.coreThread src unit with
    | none => x.react src unit entry
    | some t =>
      if ((x.react src unit entry).thread t).run = .faulted then
        Live.raiseN k (x.react src unit entry) 369 (128 + t.val) (0xFF000000 ||| (Config.openSyndrome 1 &&& 0xFFFFFF))
          none ((x.react src unit entry).mapEntry 369)
      else x.react src unit entry

theorem raiseN_succ (k : Nat) (x : Live) (src unit : Nat) (syn : Word) (inj : Option Bool) (entry : Nat) :
    Live.raiseN (k + 1) x src unit syn inj entry =
      (((x.record src (entryClass entry)
          (x.eventRec src unit syn (entryClass entry) (entryReaction entry) inj.isSome)).triggerStage k src
            (entryClass entry)).notifyStage k src (entryReaction entry)
              (x.eventRec src unit syn (entryClass entry) (entryReaction entry) inj.isSome)).reactStage k src unit inj
                entry := rfl

/-- The most records that an event followed through `k` levels enters: its own, and those of the three events that may
follow from it. -/
def mostRecords : Nat → Nat
  | 0 => 0
  | k + 1 => 3 * mostRecords k + 1

/-- Events followed through `k` levels enter no more than `mostRecords k` records. -/
def RaisesKeep (k : Nat) : Prop :=
  ∀ (n : Nat) (e : EventRec) (x : Live) (src unit : Nat) (syn : Word) (inj : Option Bool) (entry : Nat),
    Stays (n + mostRecords k) e x.fl.history → Stays n e (Live.raiseN k x src unit syn inj entry).fl.history

section
variable {k n : Nat} {e : EventRec} {x : Live}

theorem triggerStage_keeps (hk : RaisesKeep k) (h : Stays (n + mostRecords k) e x.fl.history) (src : Nat)
    (cls : FaultClass) : Stays n e (x.triggerStage k src cls).fl.history := by
  unfold Live.triggerStage
  generalize hr : (if x.triggers cls = true then _ else _ : Bool × Live) = r
  have hf : r.2.fl = x.fl := by
    rw [← hr]
    split
    · exact trigger_fl ..
    · rfl
  rw [← hf] at h
  dsimp only
  split
  · exact hk _ _ _ _ _ _ _ _ h
  · exact h.mono (Nat.le_add_right ..)

theorem notifyStage_keeps (hk : RaisesKeep k) (h : Stays (n + mostRecords k) e x.fl.history) (src : Nat)
    (rea : Reaction) (e' : EventRec) : Stays n e (x.notifyStage k src rea e').fl.history := by
  unfold Live.notifyStage
  generalize hr : (if rea = .log then _ else _ : Option (Fin 64) × Live) = r
  have hf : r.2.fl = x.fl := by
    rw [← hr]
    split
    · rfl
    · exact notify_fl ..
  rw [← hf] at h
  dsimp only
  split
  · exact hk _ _ _ _ _ _ _ _ h
  · exact h.mono (Nat.le_add_right ..)

theorem reactStage_keeps (hk : RaisesKeep k) (h : Stays (n + mostRecords k) e x.fl.history) (src unit : Nat)
    (inj : Option Bool) (entry : Nat) : Stays n e (x.reactStage k src unit inj entry).fl.history := by
  have hr : Stays (n + mostRecords k) e (x.react src unit entry).fl.history := by rwa [react_history]
  unfold Live.reactStage
  split
  · exact h.mono (Nat.le_add_right ..)
  · split
    · exact hr.mono (Nat.le_add_right ..)
    · split
      · exact hk _ _ _ _ _ _ _ _ hr
      · exact hr.mono (Nat.le_add_right ..)

/-- A record that stands when an event has been recorded stays through what follows from that event. -/
theorem raiseN_succ_keeps (hk : RaisesKeep k) (src unit : Nat) (syn : Word) (inj : Option Bool) (entry : Nat)
    (h : Stays (n + 3 * mostRecords k) e (x.record src (entryClass entry)
      (x.eventRec src unit syn (entryClass entry) (entryReaction entry) inj.isSome)).fl.history) :
    Stays n e (Live.raiseN (k + 1) x src unit syn inj entry).fl.history := by
  have split3 : n + 3 * mostRecords k = n + mostRecords k + mostRecords k + mostRecords k := by omega
  rw [split3] at h
  rw [raiseN_succ]
  exact reactStage_keeps hk (notifyStage_keeps hk (triggerStage_keeps hk h _ _) _ _ _) _ _ _ _

end

theorem raises_keep (k : Nat) : RaisesKeep k := by
  induction k with
  | zero => exact fun n e x src unit syn inj entry h => h
  | succ k ih => exact fun n e x src unit syn inj entry h => raiseN_succ_keeps ih src unit syn inj entry (h.record ..)

/-- The record of an event that is raised stands in the history when all that follows from it has happened: its three
stages enter at most `3 * mostRecords 2 = 12` records, and it stays through 31. -/
theorem raise_mem_history (x : Live) (src unit : Nat) (syn : Word)
    (h : entryClass (x.mapEntry src) ≠ .corrected ∨ x.coalesced src = false) :
    x.eventRec src unit syn (entryClass (x.mapEntry src)) (entryReaction (x.mapEntry src)) false ∈
      (x.raise src unit syn).fl.history := by
  have stands := stays_of_entered (record_entered x src (entryClass (x.mapEntry src))
    (x.eventRec src unit syn (entryClass (x.mapEntry src)) (entryReaction (x.mapEntry src)) false) h)
  exact (raiseN_succ_keeps (n := 0) (raises_keep 2) src unit syn none _ (stands.mono (by decide))).mem

/-- Settles O54: an event is entered or coalesced by its class, and the events that follow from a raised event are too
few to push its record out of the queue. -/
theorem eventsAreRecorded : Obligations.EventsAreRecorded := by
  unfold Obligations.EventsAreRecorded
  refine ⟨?_, coalesced_iff, raise_mem_history⟩
  rintro x n src cls e rfl
  refine ⟨fun h => ?_, ?_, ?_, record_serious x src cls e⟩
  · obtain ⟨hseq, hsup, hhist, hroom, hfull⟩ := record_entered x src cls e h
    refine ⟨hseq, hsup, fun hl => ⟨?_, hroom hl⟩, fun hl => ⟨?_, hfull hl.ge⟩⟩
    · have h0 : x.fl.history.length - 31 = 0 := by omega
      rw [hhist, h0, List.drop_zero]
    · rw [hhist, hl]
  · rintro rfl; exact record_corrected x src e
  · rintro rfl hco; exact record_coalesced x src e hco

end Sys2Proof.Machine
end

section
/-!
PROOF SUPPORT. What an answer of the dictionary server changes where its path can send, and the end of a session by
an abort (R385, R386, R389, R391).
-/

namespace Sys2Proof.Machine

/-! ### Answers that go out -/

/-- An answer on a path goes out: a CAN port takes it and is not bus-off; the tunnel queues every answer. -/
def Live.sendsOn (x : Live) (path : Path) : Prop :=
  ∀ n : Fin 4, path = .can n → x.portSends n = true ∧ (x.di.can[n]).errState ≠ 2

/-- Placing a tunnel response touches the Jalsyn buffers and the queue of waiting responses. -/
theorem tunnelPlace_tunnelQ_frame (x : Live) : ∃ bufs waiting, x.tunnelPlace =
    { x with jn := { x.jn with bufs := bufs }, di := { x.di with tunnelQ := waiting } } := by
  unfold Live.tunnelPlace
  dsimp only
  split
  · split
    · exact ⟨_, _, rfl⟩
    · exact ⟨x.jn.bufs, x.di.tunnelQ, rfl⟩
  · exact ⟨x.jn.bufs, x.di.tunnelQ, rfl⟩

/-- An answer that goes out touches the reply, the CAN ports, the Jalsyn buffers and the waiting tunnel responses. -/
theorem respond_of_sendsOn (x : Live) (path : Path) (r : UsdoReply) (h : x.sendsOn path) :
    ∃ ports bufs waiting, x.respond path r = { x with
      jn := { x.jn with bufs := bufs },
      di := { x.di with reply := some r, tunnelQ := waiting, can := ports } } := by
  cases path with
  | can n =>
    obtain ⟨hport, hbus⟩ := h n rfl
    exact ⟨_, x.jn.bufs, x.di.tunnelQ, if_pos (Bool.and_eq_true_iff.2 ⟨hport, decide_eq_true hbus⟩)⟩
  | tunnel c =>
    exact ⟨x.di.can, tunnelPlace_tunnelQ_frame _⟩

/-- An abort that goes out is the reply and is counted; its session is released (R389, R396). -/
theorem usdoAbort_of_sendsOn (x : Live) (path : Path) (sid : Byte) (code : Word) (h : x.sendsOn path) :
    ∃ ports bufs waiting, x.usdoAbort path sid code = { x with
      jn := { x.jn with bufs := bufs },
      di := { x.di with
        reply := some { path := some path, sid := sid, abort := some code, data := [], last := true },
        aborts := satInc x.di.aborts, sessions := (x.release' path sid).di.sessions,
        tunnelQ := waiting, can := ports } } := by
  obtain ⟨ports, bufs, waiting, hr⟩ := respond_of_sendsOn (x.release' path sid) path
    { path := some path, sid := sid, abort := some code, data := [], last := true } h
  refine ⟨ports, bufs, waiting, ?_⟩
  unfold Live.usdoAbort
  rw [hr]
  rfl

/-! ### Sessions released -/

/-- The sessions that a release leaves are those of another path or identifier. -/
theorem mem_release'_sessions (x : Live) (path : Path) (sid : Byte) (z : UsdoSession) :
    z ∈ (x.release' path sid).di.sessions ↔ z ∈ x.di.sessions ∧ ¬(z.path = path ∧ z.sid = sid) := by
  simp only [Live.release', List.mem_filter, Bool.not_eq_true', decide_eq_false_iff_not]

theorem sessionOf_eq_none_iff (x : Live) (path : Path) (sid : Byte) :
    x.sessionOf path sid = none ↔ ∀ z ∈ x.di.sessions, ¬(z.path = path ∧ z.sid = sid) := by
  simp only [Live.sessionOf, List.find?_eq_none, decide_eq_true_eq]

@[simp] theorem sessionOf_release' (x : Live) (path : Path) (sid : Byte) :
    (x.release' path sid).sessionOf path sid = none :=
  (sessionOf_eq_none_iff ..).2 fun z hz => ((mem_release'_sessions x path sid z).1 hz).2

/-- Where there is no session, there is nothing to release. -/
theorem release'_of_sessionOf_none (x : Live) (path : Path) (sid : Byte) (h : x.sessionOf path sid = none) :
    x.release' path sid = x := by
  have keep : x.di.sessions.filter (fun q => !(decide (q.path = path ∧ q.sid = sid))) = x.di.sessions :=
    List.filter_eq_self.2 fun z hz => by
      rw [decide_eq_false ((sessionOf_eq_none_iff x path sid).1 h z hz), Bool.not_false]
  unfold Live.release'
  rw [keep]

/-- A replication that is not that of the session belongs to another path or identifier. -/
theorem ne_session_of_notOwn {x : Live} {path : Path} {sid : Byte} {r : Replication} (h : x.notOwn path sid = true)
    (hr : x.di.open' = some r) : ¬(r.path = path ∧ r.sid = sid) := by
  simpa only [Live.notOwn, hr, Bool.not_eq_true', decide_eq_false_iff_not] using h

/-- A client that ends a session without a replication of its own releases it, and no more (R389). -/
theorem clientEnds_of_notOwn (x : Live) (path : Path) (sid : Byte) (h : x.notOwn path sid = true) :
    x.clientEnds path sid = x.release' path sid := by
  have hopen : (x.release' path sid).di.open' = x.di.open' := rfl
  unfold Live.clientEnds
  dsimp only
  rw [hopen]
  split
  · next r hr =>
    exact if_neg fun ⟨hpath, hsid, _⟩ => ne_session_of_notOwn h hr ⟨hpath, hsid⟩
  · rfl

/-! ### Segments and time-outs -/

theorem segmented_of_sessionOf_none (x : Live) (path : Path) (sid : Byte) (up : Bool)
    (h : x.sessionOf path sid = none) : x.segmented path sid up = none := by
  unfold Live.segmented
  rw [h]

/-- A session that is not that of a replication takes the segments of its direction (R391). -/
theorem segmented_of_sessionOf (x : Live) (path : Path) (sid : Byte) (q : UsdoSession)
    (h : x.sessionOf path sid = some q) (hown : x.notOwn path sid = true) :
    x.segmented path sid q.upload = some q := by
  unfold Live.segmented
  rw [h]
  dsimp only
  split
  · next r hr =>
    exact if_pos ⟨rfl, decide_eq_false (ne_session_of_notOwn hown hr)⟩
  · exact if_pos ⟨rfl, rfl⟩

theorem usdoTimeout_of_sessionOf_none (x : Live) (path : Path) (sid : Byte) (h : x.sessionOf path sid = none) :
    x.usdoTimeout path sid = x := by
  unfold Live.usdoTimeout
  rw [h]

/-- A transfer times out when `UsdoTimeout` has passed since its last segment, and not before (R391). -/
theorem usdoTimeout_of_sessionOf (x : Live) (path : Path) (sid : Byte) (q : UsdoSession)
    (h : x.sessionOf path sid = some q) (hown : x.notOwn path sid = true) :
    x.usdoTimeout path sid =
      if x.due (q.last + ms (x.rcNum Obj.usdoTimeout)) then x.usdoAbort path sid abortTimeout else x := by
  unfold Live.usdoTimeout
  rw [h]
  dsimp only
  rw [segmented_of_sessionOf x path sid q h hown, Option.isSome_some, Bool.true_and]

/-- A segment for a session that does not exist is aborted, and that is all (R391). -/
theorem straySegment_of_sessionOf_none (x : Live) (path : Path) (sid : Byte) (h : x.sessionOf path sid = none)
    (hown : x.notOwn path sid = true) : x.straySegment path sid = x.usdoAbort path sid abortNoSession := by
  unfold Live.straySegment
  rw [clientEnds_of_notOwn x path sid hown, release'_of_sessionOf_none x path sid h]

/-- A stray segment whose answer goes out leaves the sessions as they stand. -/
theorem straySegment_of_sendsOn (x : Live) (path : Path) (sid : Byte) (h : x.sessionOf path sid = none)
    (hown : x.notOwn path sid = true) (hsend : x.sendsOn path) :
    ∃ ports bufs waiting, x.straySegment path sid = { x with
      jn := { x.jn with bufs := bufs },
      di := { x.di with
        reply := some { path := some path, sid := sid, abort := some abortNoSession, data := [], last := true },
        aborts := satInc x.di.aborts, tunnelQ := waiting, can := ports } } := by
  obtain ⟨ports, bufs, waiting, habort⟩ := usdoAbort_of_sendsOn x path sid abortNoSession hsend
  refine ⟨ports, bufs, waiting, ?_⟩
  rw [straySegment_of_sessionOf_none x path sid h hown, habort, release'_of_sessionOf_none x path sid h]

theorem uploadSegment_of_sessionOf_none (x : Live) (path : Path) (sid : Byte) (h : x.sessionOf path sid = none)
    (hserved : x.served path = true) : x.uploadSegment path sid = x.straySegment path sid := by
  unfold Live.uploadSegment
  rw [hserved, segmented_of_sessionOf_none x path sid true h]
  rfl

theorem downloadSegment_of_sessionOf_none (l : LaneId) (path : Path) (sid : Byte) (seg : List Byte) (last : Bool)
    (s : State) (h : (s.lane l).live.sessionOf path sid = none) (hserved : (s.lane l).live.served path = true) :
    downloadSegment l path sid seg last s = onLive l (fun x => x.straySegment path sid) s := by
  unfold downloadSegment
  dsimp only
  rw [hserved, segmented_of_sessionOf_none _ path sid false h]
  rfl

/-! ### The three commands on a lane -/

/-- A command that handles a stray segment answers its abort and leaves everything else that the lane holds. -/
theorem runs_straySegment {i : Instr} {l : LaneId} {s : State} {f : Live → Live} {path : Path} {sid : Byte}
    (e : exec i s = .next (onLive l f s)) (hf : f (s.lane l).live = (s.lane l).live.straySegment path sid)
    (h : (s.lane l).live.sessionOf path sid = none) (hown : (s.lane l).live.notOwn path sid = true)
    (hsend : (s.lane l).live.sendsOn path) :
    Runs i l s (fun n => n.store = (s.lane l).store ∧ n.otp = (s.lane l).otp ∧
      n.live.di.reply = some { path := some path, sid := sid, abort := some 0x05040001, data := [], last := true } ∧
      n.live.di.aborts = satInc (s.lane l).live.di.aborts ∧ n.live.di.sessions = (s.lane l).live.di.sessions ∧
      n.live.di.rw = (s.lane l).live.di.rw ∧ n.live.au = (s.lane l).live.au ∧ n.live.im = (s.lane l).live.im) := by
  refine runs_onLive e ?_
  obtain ⟨ports, bufs, waiting, hstray⟩ := straySegment_of_sendsOn _ path sid h hown hsend
  rw [hf, hstray]
  exact ⟨rfl, rfl, rfl, rfl, rfl, rfl, rfl, rfl⟩

/-- A transfer whose time is over is aborted, and its session alone is released (R391). -/
theorem runs_usdoTimeout_of_due (l : LaneId) (path : Path) (sid : Byte) (q : UsdoSession) (s : State)
    (h : (s.lane l).live.sessionOf path sid = some q) (hown : (s.lane l).live.notOwn path sid = true)
    (hdue : (s.lane l).live.due (q.last + ms ((s.lane l).live.rcNum Obj.usdoTimeout)) = true)
    (hsend : (s.lane l).live.sendsOn path) :
    Runs (.usdoTimeout l path sid) l s (fun n => n.store = (s.lane l).store ∧ n.otp = (s.lane l).otp ∧
      n.live.di.reply = some { path := some path, sid := sid, abort := some 0x05040000, data := [], last := true } ∧
      n.live.di.aborts = satInc (s.lane l).live.di.aborts ∧ n.live.sessionOf path sid = none ∧
      (∀ z : UsdoSession, z ∈ n.live.di.sessions ↔ z ∈ (s.lane l).live.di.sessions ∧ ¬(z.path = path ∧ z.sid = sid)) ∧
      n.live.di.rw = (s.lane l).live.di.rw ∧ n.live.au = (s.lane l).live.au ∧ n.live.im = (s.lane l).live.im) := by
  refine runs_onLive (f := fun x => x.usdoTimeout path sid) rfl ?_
  obtain ⟨ports, bufs, waiting, habort⟩ := usdoAbort_of_sendsOn _ path sid abortTimeout hsend
  rw [usdoTimeout_of_sessionOf _ path sid q h hown, if_pos hdue, habort]
  exact ⟨rfl, rfl, rfl, rfl, sessionOf_release' .., mem_release'_sessions _ path sid, rfl, rfl, rfl⟩

/-- Settles O44: a time-out that is due aborts its transfer, one that is not leaves the lane, and a segment without a
session is answered with its abort in both directions. -/
theorem segmentedTransfersEnd : Obligations.SegmentedTransfersEnd := by
  unfold Obligations.SegmentedTransfersEnd
  refine ⟨fun l path sid q s h hown => ⟨runs_usdoTimeout_of_due l path sid q s h hown, fun hearly => ?_⟩,
    fun l path sid seg last s h => ⟨?_, fun hserved hown hsend => ⟨?_, ?_⟩⟩⟩
  · refine runsTo_onLive (f := fun x => x.usdoTimeout path sid) rfl ?_
    rw [usdoTimeout_of_sessionOf _ path sid q h hown, if_neg (by simp [hearly]), id]
  · exact runsTo_onLive (f := fun x => x.usdoTimeout path sid) rfl (usdoTimeout_of_sessionOf_none _ path sid h)
  · have e : exec (.usdoDownloadSegment l path sid seg last) s = done (downloadSegment l path sid seg last s) := rfl
    rw [downloadSegment_of_sessionOf_none l path sid seg last s h hserved] at e
    exact runs_straySegment e rfl h hown hsend
  · exact runs_straySegment (f := fun x => x.uploadSegment path sid) rfl
      (uploadSegment_of_sessionOf_none _ path sid h hserved) h hown hsend

end Sys2Proof.Machine
end

section
/-!
PROOF SUPPORT. What an instruction of the test access port changes, and how EXTEST, CLAMP and HIGHZ act under `RSTn`
and outside reset (R541, R542).
-/

namespace Sys2Proof.Machine

/-! ### A change of the port -/

/-- A powered lane's port takes the change. -/
theorem onTap_tap_of_powered (x : Live) (f : TapSt → TapSt) (h : x.phase ≠ .off) :
    (x.onTap f).mo.tap = f x.mo.tap := by
  have hp : x.powered = true := decide_eq_true h
  unfold Live.onTap; rw [if_pos hp]

/-- Of a live state, powered or not, a change of the port touches the port alone. -/
theorem onTap_frame (x : Live) (f : TapSt → TapSt) :
    x.onTap f = { x with mo := { x.mo with tap := (x.onTap f).mo.tap } } := by
  unfold Live.onTap; split <;> rfl

/-! ### EXTEST, CLAMP and HIGHZ on a powered lane -/

/-- The instruction acts while `RSTn` is held low (R542). -/
theorem tapDrive_tap_of_rstn (x : Live) (i : TapInstr) (h : x.phase ≠ .off) (hr : x.su.rstn = true) :
    (x.tapDrive i).mo.tap = x.mo.tap.load i i := by
  unfold Live.tapDrive; rw [onTap_tap_of_powered _ _ h, if_pos hr]

/-- The instruction acts as BYPASS outside reset (R542). -/
theorem tapDrive_tap_of_not_rstn (x : Live) (i : TapInstr) (h : x.phase ≠ .off) (hr : x.su.rstn = false) :
    (x.tapDrive i).mo.tap = x.mo.tap.load i .bypass := by
  unfold Live.tapDrive; rw [onTap_tap_of_powered _ _ h, hr, if_neg Bool.false_ne_true]

/-! ### The commands on a lane -/

/-- A command on a lane's port leaves its storage, its fuses and the rest of its live state. -/
theorem runs_onTap {i : Instr} {l : LaneId} {s : State} {f : Live → TapSt → TapSt}
    (e : exec i s = .next (onLive l (fun x => x.onTap (f x)) s)) :
    Runs i l s (fun n => n.store = (s.lane l).store ∧ n.otp = (s.lane l).otp ∧
      n.live = { (s.lane l).live with mo := { (s.lane l).live.mo with tap := n.live.mo.tap } }) :=
  runs_onLive e ⟨rfl, rfl, onTap_frame ..⟩

/-- A command that drives or floats the pins acts while the lane's `RSTn` is held low. -/
theorem runs_tapDrive_of_rstn {c : Instr} {l : LaneId} {s : State} {i : TapInstr} {P : TapSt → Prop}
    (e : exec c s = .next (onLive l (fun x => x.tapDrive i) s)) (h : (s.lane l).live.phase ≠ .off)
    (hr : (s.lane l).live.su.rstn = true) (hP : P ((s.lane l).live.mo.tap.load i i)) :
    Runs c l s (fun n => P n.live.mo.tap) :=
  runs_onLive e (by rw [tapDrive_tap_of_rstn _ i h hr]; exact hP)

/-- A command that would drive or float the pins acts as BYPASS while the lane is outside reset. -/
theorem runs_tapDrive_of_not_rstn {c : Instr} {l : LaneId} {s : State} {i : TapInstr}
    (e : exec c s = .next (onLive l (fun x => x.tapDrive i) s)) (h : (s.lane l).live.phase ≠ .off)
    (hr : (s.lane l).live.su.rstn = false) :
    Runs c l s (fun n => n.live.mo.tap.acts = .bypass ∧ n.live.mo.tap.driving = false ∧
      n.live.mo.tap.floating = false) :=
  runs_onLive e (by rw [tapDrive_tap_of_not_rstn _ i h hr]; exact ⟨rfl, rfl, rfl⟩)

/-- Settles O4: under `RSTn` the three instructions act, outside reset they act as BYPASS, and every command of the port
is a change of the port alone. -/
theorem testPortLeavesOutputsAlone : Obligations.TestPortLeavesOutputsAlone := by
  unfold Obligations.TestPortLeavesOutputsAlone
  refine ⟨fun l s h => ⟨fun hr => ⟨?_, ?_, ?_⟩, fun hr => ⟨?_, ?_, ?_⟩⟩,
    fun l cells s => ⟨?_, ?_, ?_, ?_, ?_, ?_, ?_⟩⟩
  · exact runs_tapDrive_of_rstn (P := fun t => t.acts = .extest ∧ t.driving = true) rfl h hr ⟨rfl, rfl⟩
  · exact runs_tapDrive_of_rstn (P := fun t => t.acts = .clamp ∧ t.driving = true) rfl h hr ⟨rfl, rfl⟩
  · exact runs_tapDrive_of_rstn (P := fun t => t.acts = .highz ∧ t.floating = true) rfl h hr ⟨rfl, rfl⟩
  · exact runs_tapDrive_of_not_rstn (i := .extest) rfl h hr
  · exact runs_tapDrive_of_not_rstn (i := .clamp) rfl h hr
  · exact runs_tapDrive_of_not_rstn (i := .highz) rfl h hr
  · exact runs_onTap (f := fun _ t => t.load .bypass .bypass) rfl
  · exact runs_onTap (f := fun _ t => t.load .idcode .idcode) rfl
  · exact runs_onTap (f := fun _ t => { t.load .samplePreload .samplePreload with cells := cells }) rfl
  · exact runs_onTap (f := fun x t => t.load .extest (if x.su.rstn then .extest else .bypass)) rfl
  · exact runs_onTap (f := fun x t => t.load .clamp (if x.su.rstn then .clamp else .bypass)) rfl
  · exact runs_onTap (f := fun x t => t.load .highz (if x.su.rstn then .highz else .bypass)) rfl
  · exact runs_onTap (f := fun _ => TapSt.reset) rfl

end Sys2Proof.Machine
end

section
/-!
PROOF SUPPORT. What any command may touch: the lane that it names, that lane's storage only if it is one of the commands
that write storage, its fuses only if it is one of those that burn fuses, and then only upwards (R10, R426, R429, R431).
-/

namespace Sys2Proof.Machine

/-! ### Fuses -/

/-- The fuses `b` hold all that is burnt in `a`, and the fingerprints of the slots burnt in `a` (R426, R429, R431). -/
def Otp.grows (a b : Otp) : Prop :=
  a.le b = true ∧ ∀ k : Fin 12, a.burnt.getLsbD k.val = true → b.prints[k] = a.prints[k]

theorem and_trans {w : Nat} {a b c : BitVec w} (h : a &&& b = a) (k : b &&& c = b) : a &&& c = a := by
  rw [← h, BitVec.and_assoc, k]

theorem Otp.le_iff (a b : Otp) : a.le b = true ↔
    a.counter &&& b.counter = a.counter ∧ a.burnt &&& b.burnt = a.burnt ∧ a.revoked &&& b.revoked = a.revoked :=
  decide_eq_true_iff

theorem Otp.grows_refl (a : Otp) : a.grows a :=
  ⟨(Otp.le_iff ..).2 ⟨BitVec.and_self, BitVec.and_self, BitVec.and_self⟩, fun _ _ => rfl⟩

theorem Otp.grows_trans {a b c : Otp} (h : a.grows b) (k : b.grows c) : a.grows c := by
  obtain ⟨hle, hprint⟩ := h
  obtain ⟨kle, kprint⟩ := k
  obtain ⟨h1, h2, h3⟩ := (Otp.le_iff ..).1 hle
  obtain ⟨k1, k2, k3⟩ := (Otp.le_iff ..).1 kle
  refine ⟨(Otp.le_iff ..).2 ⟨and_trans h1 k1, and_trans h2 k2, and_trans h3 k3⟩, fun n hn => ?_⟩
  have hb : b.burnt.getLsbD n.val = true := by
    rw [← h2, BitVec.getLsbD_and, Bool.and_eq_true] at hn; exact hn.2
  rw [kprint n hb, hprint n hn]

theorem and_or_self {w : Nat} (a m : BitVec w) : a &&& (a ||| m) = a := by
  ext i h; cases hi : a[i] <;> simp [hi]

theorem Otp.grows_raiseTo (o : Otp) (k : Nat) : o.grows (o.raiseTo k) :=
  ⟨(Otp.le_iff ..).2 ⟨and_or_self .., BitVec.and_self, BitVec.and_self⟩, fun _ _ => rfl⟩

theorem Otp.grows_revoke (o : Otp) (m : BitVec 12) : o.grows (o.revoke m) :=
  ⟨(Otp.le_iff ..).2 ⟨BitVec.and_self, BitVec.and_self, and_or_self ..⟩, fun _ _ => rfl⟩

/-- An unprogrammed slot that is burnt takes nothing from the slots burnt before (R429). -/
theorem Otp.grows_burnKeys (n : Fin 12) (keys : List Byte) (l : Lane) (h : l.otp.programmed n.val = false) :
    l.otp.grows (burnKeys n keys l).otp := by
  refine ⟨(Otp.le_iff ..).2 ⟨BitVec.and_self, and_or_self .., BitVec.and_self⟩, fun k hk => ?_⟩
  have hne : n.val ≠ k.val := fun e => by
    rw [← e] at hk; exact Bool.false_ne_true (h.symm.trans hk)
  exact Vector.getElem_set_ne n.isLt k.isLt hne

/-! ### What a command touches -/

/-- From `s` to `t` lane `l` alone may change; its storage only if `stores`, its fuses only if `burns`, and these only
upwards. -/
structure Touches (stores burns : Bool) (l : LaneId) (s t : State) : Prop where
  pending : t.pending = s.pending
  outside : s.sameOutside l t
  store : stores = false → (t.lane l).store = (s.lane l).store
  otp : burns = false → (t.lane l).otp = (s.lane l).otp
  fuses : (s.lane l).otp.grows (t.lane l).otp

section Touching
variable {stores burns : Bool} {l : LaneId} {s t u : State}

theorem Touches.refl : Touches stores burns l s s :=
  ⟨rfl, ⟨rfl, fun _ _ => rfl⟩, fun _ => rfl, fun _ => rfl, Otp.grows_refl _⟩

theorem Touches.trans (h : Touches stores burns l s t) (k : Touches stores burns l t u) : Touches stores burns l s u where
  pending := k.pending.trans h.pending
  outside := ⟨k.outside.1.trans h.outside.1, fun o ho => (k.outside.2 o ho).trans (h.outside.2 o ho)⟩
  store e := (k.store e).trans (h.store e)
  otp e := (k.otp e).trans (h.otp e)
  fuses := Otp.grows_trans h.fuses k.fuses

/-- The lanes that a command leaves alone keep their storage too, whatever it may write. -/
theorem Touches.store_all (h : Touches stores burns l s t) (e : stores = false) (o : LaneId) :
    (t.lane o).store = (s.lane o).store := by
  by_cases ho : o = l
  · rw [ho]; exact h.store e
  · rw [h.outside.2 o ho]

theorem Touches.otp_all (h : Touches stores burns l s t) (e : burns = false) (o : LaneId) :
    (t.lane o).otp = (s.lane o).otp := by
  by_cases ho : o = l
  · rw [ho]; exact h.otp e
  · rw [h.outside.2 o ho]

theorem Touches.fuses_all (h : Touches stores burns l s t) (o : LaneId) : (s.lane o).otp.grows (t.lane o).otp := by
  by_cases ho : o = l
  · rw [ho]; exact h.fuses
  · rw [h.outside.2 o ho]; exact Otp.grows_refl _

/-! ### The ways to reach a lane -/

theorem touches_onLane {f : Lane → Lane} (hs : stores = false → (f (s.lane l)).store = (s.lane l).store)
    (hb : burns = false → (f (s.lane l)).otp = (s.lane l).otp) (hf : (s.lane l).otp.grows (f (s.lane l)).otp) :
    Touches stores burns l s (onLane l f s) := by
  refine ⟨onLane_pending .., onLane_sameOutside .., fun e => ?_, fun e => ?_, ?_⟩ <;> rw [onLane_lane]
  · exact hs e
  · exact hb e
  · exact hf

theorem touches_onLive {f : Live → Live} : Touches stores burns l s (onLive l f s) :=
  touches_onLane (fun _ => rfl) (fun _ => rfl) (Otp.grows_refl _)

theorem touches_onLiveR {f : NvStore → Otp → Live → Live} : Touches stores burns l s (onLiveR l f s) :=
  touches_onLane (fun _ => rfl) (fun _ => rfl) (Otp.grows_refl _)

theorem touches_onStore {f : Otp → Live × NvStore → Live × NvStore} : Touches true burns l s (onStore l f s) :=
  touches_onLane nofun (fun _ => rfl) (Otp.grows_refl _)

/-- A command that reads the storage and hands it on as it was. -/
theorem touches_onStore_of_keeps {f : Otp → Live × NvStore → Live × NvStore} (h : ∀ o x, (f o x).2 = x.2) :
    Touches stores burns l s (onStore l f s) :=
  touches_onLane (fun _ => h ..) (fun _ => rfl) (Otp.grows_refl _)

/-- The counter of drawn values belongs to no lane. -/
theorem Touches.setFree (h : Touches stores burns l s t) (n : Nat) : Touches stores burns l s { t with free := n } := by
  have hl : ∀ o, ({ t with free := n } : State).lane o = t.lane o := fun o => by cases o <;> rfl
  exact ⟨h.pending, ⟨h.outside.1, fun o ho => (hl o).trans (h.outside.2 o ho)⟩, fun e => hl l ▸ h.store e,
    fun e => hl l ▸ h.otp e, hl l ▸ h.fuses⟩

theorem touches_onFree {f : Nat → Otp → Live × NvStore → Live × NvStore} : Touches true burns l s (onFree l f s) :=
  touches_onStore.setFree _

theorem touches_onFree_of_keeps {f : Nat → Otp → Live × NvStore → Live × NvStore} (h : ∀ n o x, (f n o x).2 = x.2) :
    Touches stores burns l s (onFree l f s) :=
  (touches_onStore_of_keeps (h _)).setFree _

/-! ### Commands that read the storage -/

theorem challengeRead_store (path : Path) (serial : List Byte) (draw : Nat) (x : LiveStore) :
    (challengeRead path serial draw x).2 = x.2 := by
  unfold challengeRead
  simp only [apply_ite Prod.snd, ite_self]

theorem readData_store (path : Path) (x : LiveStore) : (readData path x).2 = x.2 := by
  unfold readData
  simp only [apply_ite Prod.snd, ite_self]

theorem attestChallenge_store (path : Path) (data serial : List Byte) (x : LiveStore) :
    (attestChallenge path data serial x).2 = x.2 := by
  unfold attestChallenge
  simp only [apply_ite Prod.snd, ite_self]

theorem debugResponse_store (path : Path) (r : List Byte) (o : Otp) (x : LiveStore) :
    (debugResponse path r o x).2 = x.2 := by
  unfold debugResponse
  cases respLength r <;> simp only [apply_ite Prod.snd, ite_self]

theorem dictionaryWrite_store (path : Path) (idx sub : Nat) (bs : List Byte) (x : LiveStore) :
    (dictionaryWrite path idx sub bs x).2 = x.2 := by
  unfold dictionaryWrite
  cases checkWrite idx sub bs <;> simp only [apply_ite Prod.snd, ite_self]

/-! ### Commands that burn fuses -/

theorem confirm_fuses (n : Lane) : n.otp.grows (confirm n).otp := by
  unfold confirm
  split
  · exact Otp.grows_trans (Otp.grows_raiseTo ..) (Otp.grows_revoke ..)
  · exact Otp.grows_refl _

/-- A write to a whole lane that the lane does not carry out leaves its storage and fuses. -/
theorem writeLane_cases (path : Path) (f : Lane → Lane) (n : Lane) :
    ((writeLane path f n).store = n.store ∧ (writeLane path f n).otp = n.otp) ∨ writeLane path f n = f n := by
  unfold writeLane
  split
  · exact .inl ⟨rfl, rfl⟩
  · split
    · exact .inl ⟨rfl, rfl⟩
    · exact .inr rfl

theorem keyProgram_fuses (path : Path) (k : Byte) (n : Lane) : n.otp.grows (keyProgram path k n).otp := by
  unfold keyProgram
  rcases writeLane_cases path _ n with ⟨-, h⟩ | h
  · rw [h]; exact Otp.grows_refl _
  · rw [h]
    dsimp only
    split
    · split
      · exact Otp.grows_refl _
      · split
        · next hk _ hc =>
          have hp : n.otp.programmed k.toNat = false := by
            simp only [Bool.and_eq_true, Bool.not_eq_true'] at hc; exact hc.1.2
          exact Otp.grows_burnKeys ⟨k.toNat, hk⟩ _ n hp
        · exact Otp.grows_refl _
    · exact Otp.grows_refl _

/-- A revocation leaves the storage and revokes or does nothing (R431). -/
theorem keyRevoke_store_fuses (path : Path) (k : Byte) (n : Lane) :
    (keyRevoke path k n).store = n.store ∧ n.otp.grows (keyRevoke path k n).otp := by
  unfold keyRevoke
  rcases writeLane_cases path _ n with ⟨hs, ho⟩ | h
  · rw [hs, ho]; exact ⟨rfl, Otp.grows_refl _⟩
  · rw [h]
    dsimp only
    split
    · exact ⟨rfl, Otp.grows_refl _⟩
    · split
      · exact ⟨rfl, Otp.grows_refl _⟩
      · split
        · exact ⟨rfl, Otp.grows_refl _⟩
        · exact ⟨rfl, Otp.grows_revoke ..⟩

theorem touches_confirm : Touches true true l s (onLane l confirm s) :=
  touches_onLane nofun nofun (confirm_fuses _)

theorem touches_keyProgram {path : Path} {k : Byte} : Touches true true l s (onLane l (keyProgram path k) s) :=
  touches_onLane nofun nofun (keyProgram_fuses ..)

theorem touches_keyRevoke {path : Path} {k : Byte} : Touches stores true l s (onLane l (keyRevoke path k) s) :=
  touches_onLane (fun _ => (keyRevoke_store_fuses path k _).1) nofun (keyRevoke_store_fuses path k _).2

/-! ### The dictionary server -/

/-- A command carried out within another. -/
theorem touches_after {o : Host.Outcome State Fault Refusal} (e : o = .next t) (h : Touches stores burns l s t) :
    Touches stores burns l s (after o s) := by
  rw [e]; exact h

/-- A command of a row of its own, reached over the dictionary: two of them burn fuses, three draw a free value. -/
theorem touches_localCommand (path : Path) (idx sub : Nat) (bs : List Byte) :
    Touches true true l s (localCommand l path idx sub bs s) := by
  unfold localCommand
  dsimp only
  repeat' split
  case h_11 | h_16 => exact (touches_after rfl touches_onLive).setFree _
  case h_28 => exact touches_after rfl touches_keyProgram
  case h_29 => exact touches_after rfl touches_keyRevoke
  case h_31 => exact touches_after rfl touches_onFree
  case h_19 | h_25 | h_26 | h_27 | h_30 | h_32 | h_34 => exact touches_after rfl touches_onStore
  case h_36 => exact Touches.refl
  all_goals exact touches_after rfl touches_onLive

theorem touches_usdoWrite (path : Path) (sid : Byte) (idx sub : Nat) (bs : List Byte) :
    Touches true true l s (usdoWrite l path sid idx sub bs s) := by
  unfold usdoWrite
  dsimp only
  split
  · exact touches_onLive
  · split
    · exact touches_onLive
    · split
      · exact touches_onStore
      · refine (Touches.trans (touches_onLive (f := Live.noReply)) ?_).trans touches_onLive
        split
        · exact touches_localCommand ..
        · exact touches_onStore

theorem touches_downloadInit (path : Path) (sid : Byte) (idx sub size : Nat) (data : Option (List Byte)) :
    Touches true true l s (downloadInit l path sid idx sub size data s) := by
  unfold downloadInit
  dsimp only
  split
  · exact Touches.refl
  · refine Touches.trans (touches_onLive (f := fun x => x.clientEnds path sid)) ?_
    split
    · exact touches_onLive
    · split
      · exact touches_usdoWrite ..
      · split
        · exact touches_onLive
        · split <;> exact touches_onLive

theorem touches_downloadSegment (path : Path) (sid : Byte) (seg : List Byte) (last : Bool) :
    Touches true true l s (downloadSegment l path sid seg last s) := by
  unfold downloadSegment
  dsimp only
  split
  · exact Touches.refl
  · split
    · exact touches_onLive
    · split
      · exact touches_onLive
      · split
        · split
          · exact touches_onLive
          · exact touches_usdoWrite ..
        · exact touches_onLive

/-- A read leaves storage and fuses: the challenge and the logbook are read as their own rows read them. -/
theorem touches_uploadInit (path : Path) (sid : Byte) (idx sub : Nat) :
    Touches stores burns l s (uploadInit l path sid idx sub s) := by
  have challenge : ∀ t : State, Touches stores burns l t (after (execChallengeRead l path (onLive l Live.noReply t)) t) :=
    fun t => touches_onLive.trans (touches_onFree_of_keeps fun _ _ _ => challengeRead_store ..)
  have read : ∀ t : State, Touches stores burns l t (after (execReadData l path (onLive l Live.noReply t)) t) :=
    fun t => touches_onLive.trans (touches_onStore_of_keeps fun _ _ => readData_store ..)
  unfold uploadInit
  dsimp only
  split
  · exact Touches.refl
  · refine Touches.trans (touches_onLive (f := fun x => x.clientEnds path sid)) ?_
    split
    · exact touches_onLive
    · split
      · exact touches_onLive
      · split
        · exact touches_onLive
        · split
          · exact (challenge _).trans touches_onLive
          · split
            · exact (read _).trans touches_onLive
            · exact touches_onStore_of_keeps fun _ _ => rfl

theorem touches_usdoServe (path : Path) (req : UsdoReq) : Touches true true l s (usdoServe l path req s) := by
  unfold usdoServe
  split
  · exact touches_downloadInit ..
  · exact touches_downloadSegment ..
  · exact touches_uploadInit ..
  · exact touches_onLive
  · exact touches_onLive

theorem touches_tunnelMessage (req : UsdoReq) : Touches true true l s (tunnelMessage l req s) := by
  unfold tunnelMessage
  extract_lets lv b q read tlen cnode
  have hread : Touches true true l s read := touches_onLive
  split
  · refine hread.trans ?_
    split
    · exact touches_usdoServe ..
    · exact touches_onLive
  · exact Touches.refl

/-! ### The tick and the start of the firmware -/

theorem touches_applyShared (idx sub v : Nat) : Touches true burns l s (applyShared l idx sub v s) := by
  unfold applyShared
  extract_lets w di run t
  have ht : Touches true burns l s t := by
    unfold t run
    split
    case h_8 => exact touches_onStore
    all_goals exact touches_after rfl touches_onLive
  exact ht.trans touches_onLive

theorem touches_foldl {α : Type} {f : State → α → State} (h : ∀ t a, Touches stores burns l t (f t a)) (q : List α) :
    Touches stores burns l s (q.foldl f s) := by
  induction q generalizing s with
  | nil => exact Touches.refl
  | cons a q ih => exact (h s a).trans ih

theorem touches_dictTick : Touches true burns l s (s.dictTick l) := by
  have own : ∀ t : State, Touches true burns l t (applyOwn l t) := fun t => by
    unfold applyOwn
    dsimp only
    split
    · split
      · exact (touches_applyShared ..).trans touches_onLive
      · exact Touches.refl
    · exact Touches.refl
  have held : ∀ t : State, Touches true burns l t (applyHeld l t) := fun t =>
    touches_onLive.trans (touches_foldl (fun _ _ => touches_applyShared ..) _)
  exact ((touches_onStore.trans touches_onLive).trans (held _)).trans (own _)

theorem touches_joinedTick (inp : TickInputs) : Touches true burns l s (s.joinedTick l inp) := by
  unfold State.joinedTick
  extract_lets timed opened dicted
  have hopened : Touches true burns l s opened := Touches.trans (t := timed) touches_onLive touches_onLive
  refine (hopened.trans ?_).trans touches_onLiveR
  unfold dicted
  split
  · exact touches_dictTick
  · exact Touches.refl

theorem touches_tickStart (inp : TickInputs) : Touches true burns l s (s.tickStart l inp) := by
  unfold State.tickStart
  split
  · exact touches_joinedTick inp
  · exact touches_onLive
  · exact touches_onLive
  · exact touches_onLive
  · exact touches_onLive
  · exact Touches.refl

end Touching

/-! ### Every command -/

/-- Every command completes and touches its lane alone, the storage and fuses of that lane only if it is one of those
that write them (R10, R395, R422 to R435). -/
theorem exec_touches (i : Instr) (s : State) :
    ∃ t, exec i s = .next t ∧ Touches (mayStore i) (mayBurn i) (laneOf i) s t := by
  cases i
  case tickStart l inp => exact ⟨_, rfl, touches_tickStart inp⟩
  case cycleStart => exact ⟨_, rfl, touches_onLiveR⟩
  case usdoDownloadInitiate => exact ⟨_, rfl, touches_downloadInit ..⟩
  case usdoDownloadSegment => exact ⟨_, rfl, touches_downloadSegment ..⟩
  case usdoUploadInitiate => exact ⟨_, rfl, touches_uploadInit ..⟩
  case tunnelMessage => exact ⟨_, rfl, touches_tunnelMessage ..⟩
  case firmwareStart => exact ⟨_, rfl, touches_onFree.trans touches_onLive⟩
  case firmwareConfirm => exact ⟨_, rfl, touches_confirm⟩
  case keyProgram => exact ⟨_, rfl, touches_keyProgram⟩
  case keyRevoke => exact ⟨_, rfl, touches_keyRevoke⟩
  case challengeRead => exact ⟨_, rfl, touches_onFree_of_keeps fun _ _ _ => challengeRead_store ..⟩
  case attestRegenerate => exact ⟨_, rfl, touches_onFree⟩
  case attestChallenge => exact ⟨_, rfl, touches_onStore_of_keeps fun _ _ => attestChallenge_store ..⟩
  case debugResponse => exact ⟨_, rfl, touches_onStore_of_keeps fun _ _ => debugResponse_store ..⟩
  case readData => exact ⟨_, rfl, touches_onStore_of_keeps fun _ _ => readData_store ..⟩
  case dictionaryWrite => exact ⟨_, rfl, touches_onStore_of_keeps fun _ _ => dictionaryWrite_store ..⟩
  case configStage | configVerify | configCommit | configRevert | stageData | loadData | firmwareActivate
    | captureWritten | haltRestart | trendRecord | logbookErase | sessionResponse | tamperDetected =>
    exact ⟨_, rfl, touches_onStore⟩
  all_goals exact ⟨_, rfl, touches_onLive⟩

/-- Settles O57: every command is a change of the lane it names. -/
theorem everyCommandActsOnItsLane : Obligations.EveryCommandActsOnItsLane := by
  unfold Obligations.EveryCommandActsOnItsLane
  intro i s
  obtain ⟨t, e, h⟩ := exec_touches i s
  exact ⟨t, e, h.pending, h.outside⟩

theorem exec_touches_of_next {i : Instr} {s t : State} (e : exec i s = .next t) :
    Touches (mayStore i) (mayBurn i) (laneOf i) s t := by
  obtain ⟨u, k, h⟩ := exec_touches i s
  rw [e] at k
  cases k
  exact h

/-- Settles O58: a step runs a command, and a command only adds to the fuses of its lane. -/
theorem fusesAreOnlyBurnt : Obligations.FusesAreOnlyBurnt := by
  unfold Obligations.FusesAreOnlyBurnt
  intro s t e l
  unfold step at e
  split at e
  · cases e; exact Otp.grows_refl _
  · next c rest _ =>
    have h := (exec_touches_of_next e).fuses_all l
    have hl : ({ s with pending := rest } : State).lane l = s.lane l := by cases l <;> rfl
    rw [hl] at h
    exact h

/-- Settles O59: a command outside the two lists keeps storage and fuses of its lane, and every command those of the
other lanes. -/
theorem storageChangesByItsCommands : Obligations.StorageChangesByItsCommands := by
  unfold Obligations.StorageChangesByItsCommands
  exact fun i s t e => ⟨(exec_touches_of_next e).store_all, (exec_touches_of_next e).otp_all⟩

end Sys2Proof.Machine
end

section
/-!
PROOF SUPPORT. The writes that a lane carries out (R387, R395), lane time, and what an event leaves of the parts that
the statements name: lemmas that the obligations of several chapters share.
-/

namespace Sys2Proof.Machine

/-! ### Writes that are carried out -/

/-- A lane that carries out writes answers (R387). -/
theorem answers_of_writes {x : Live} (h : x.writes = true) : x.answers = true := by
  unfold Live.writes at h
  unfold Live.answers
  cases hp : x.phase <;> simp [hp] at h ⊢

/-- A command object takes its only value 0 (R395). -/
theorem onZero_zero {x : Live} (h : x.writes = true) (f : Live → Live) : x.onZero 0 f = (f x).accept none := by
  unfold Live.onZero
  rw [answers_of_writes h, h]
  rfl

theorem onGuard_of_ok {x : Live} (h : x.writes = true) (path : Path) (f : Live → Live) :
    x.onGuard path true true f = f x := by
  unfold Live.onGuard
  rw [answers_of_writes h, h]
  rfl

/-- A write of 0 to a command object, as a command on its lane. -/
theorem runsTo_onZero {i : Instr} {l : LaneId} {s : State} {f g : Live → Live}
    (e : exec i s = .next (onLive l (fun x => x.onZero 0 f) s)) (h : (s.lane l).live.writes = true)
    (hg : (f (s.lane l).live).accept none = g (s.lane l).live) : RunsTo i l s g :=
  runsTo_onLive e ((onZero_zero h f).trans hg)

/-! ### Lane time -/

theorem due_iff {x : Live} {t : Nat} : x.due t = true ↔ t ≤ max x.clk x.horizon := decide_eq_true_iff

/-! ### What an event leaves -/

section
variable (x : Live) (src unit : Nat) (syn : Word)

theorem raise_keeps {α : Type} (part : Live → α) : part (x.raise src unit syn).steady = part x.steady :=
  congrArg part (raise_steady x src unit syn)

@[simp] theorem raise_me : (x.raise src unit syn).me = x.me := raise_keeps x src unit syn Live.me
@[simp] theorem raise_clk : (x.raise src unit syn).clk = x.clk := raise_keeps x src unit syn Live.clk
@[simp] theorem raise_start : (x.raise src unit syn).start = x.start := raise_keeps x src unit syn Live.start
@[simp] theorem raise_cfg : (x.raise src unit syn).cfg = x.cfg := raise_keeps x src unit syn Live.cfg
@[simp] theorem raise_rc : (x.raise src unit syn).rc = x.rc := raise_keeps x src unit syn Live.rc
@[simp] theorem raise_tk : (x.raise src unit syn).tk = x.tk := raise_keeps x src unit syn Live.tk
@[simp] theorem raise_fb : (x.raise src unit syn).fb = x.fb := raise_keeps x src unit syn Live.fb
@[simp] theorem raise_ps : (x.raise src unit syn).ps = x.ps := raise_keeps x src unit syn Live.ps
@[simp] theorem raise_wi : (x.raise src unit syn).wi = x.wi := raise_keeps x src unit syn Live.wi
@[simp] theorem raise_ck : (x.raise src unit syn).ck = x.ck := raise_keeps x src unit syn Live.ck
@[simp] theorem raise_mo : (x.raise src unit syn).mo = x.mo := raise_keeps x src unit syn Live.mo

end

/-- A command that changes a lane and then raises an event, as the statements put it. -/
theorem runsEv_raise {i : Instr} {l : LaneId} {s : State} {f : Live → Live} {src unit : Nat} {syn : Word}
    {g : Live → Live} {P : Live → Prop} (e : exec i s = .next (onLive l f s))
    (h : f (s.lane l).live = (g (s.lane l).live).raise src unit syn)
    (hp : P ((g (s.lane l).live).raise src unit syn)) : RunsEv i l s g P :=
  runsEv_onLive e (by rw [h, raise_steady]) (h ▸ hp)

end Sys2Proof.Machine
end

section
/-!
PROOF SUPPORT. What an event leaves alone (R291), the step (log entry 4), the machine right after reset (log entries 2
and 3), and the instructions of the test access port on a powered lane (R541, R542).
-/

namespace Sys2Proof.Machine

/-! ### An event leaves the rest -/

/-- Settles O55: each of these parts of a lane is read off its steady part, which an event keeps. -/
theorem eventsLeaveTheRest : Obligations.EventsLeaveTheRest := by
  unfold Obligations.EventsLeaveTheRest
  intro x src unit syn
  have h := raise_steady x src unit syn
  have keeps {α : Type} (part : Live → α) : part (x.raise src unit syn).steady = part x.steady := congrArg part h
  exact ⟨h, keeps Live.me, keeps Live.clk, keeps Live.start, keeps Live.cfg, keeps Live.rc, keeps Live.tk,
    keeps Live.fb, keeps Live.ps, keeps Live.wi, keeps Live.ck, keeps Live.mo, keeps (·.en.bus), keeps (·.au.mode),
    keeps (·.di.rw), keeps (·.jn.sync)⟩

/-! ### The step and the reset state -/

/-- Settles O56: the two equations of `step`. -/
theorem stepRunsTheFrontCommand : Obligations.StepRunsTheFrontCommand := by
  unfold Obligations.StepRunsTheFrontCommand
  refine ⟨fun c rest s h => ?_, fun c s => rfl, fun s h => ?_⟩ <;> unfold step <;> rw [h]

theorem reset_lane (l : LaneId) : (State.reset.lane l).live.gd = {} ∧ (State.reset.lane l).live.sf = {} := by
  cases l <;> exact ⟨rfl, rfl⟩

/-- Settles O60: each lane starts at the values of its fields, and a lane at those values is quiet. -/
theorem resetState : Obligations.ResetState := by
  unfold Obligations.ResetState
  refine ⟨rfl, fun l => ?_⟩
  have hquiet := quiet_of_default (reset_lane l).1 (reset_lane l).2
  cases l <;> exact ⟨rfl, rfl, hquiet, rfl, rfl, rfl, rfl⟩

/-! ### Instructions of the test access port -/

/-- A change of the port of a powered lane changes the port alone. -/
theorem onTap_of_powered (x : Live) (f : TapSt → TapSt) (h : x.phase ≠ .off) :
    x.onTap f = { x with mo := { x.mo with tap := f x.mo.tap } } := by
  rw [onTap_frame, onTap_tap_of_powered x f h]

theorem tapDrive_of_powered (x : Live) (i : TapInstr) (h : x.phase ≠ .off) :
    x.tapDrive i = { x with mo := { x.mo with tap := x.mo.tap.load i (if x.su.rstn then i else .bypass) } } :=
  onTap_of_powered _ _ h

/-- Settles O3: on a powered lane each instruction loads its register; the three that drive or float the pins act by the
level of `RSTn`. -/
theorem testPortInstructions : Obligations.TestPortInstructions := by
  unfold Obligations.TestPortInstructions
  refine ⟨fun l s h => ?_, fun l s h => ?_, fun l cells s h => ?_, fun l s h => ?_, fun l s h => ?_, fun l s h => ?_,
    fun l s h => ?_⟩
  · exact runsTo_onLive rfl (onTap_of_powered _ _ h)
  · exact runsTo_onLive rfl (onTap_of_powered _ _ h)
  · exact runsTo_onLive rfl (onTap_of_powered _ _ h)
  · refine runsTo_onLive rfl ((tapDrive_of_powered _ _ h).trans ?_)
    cases (s.lane l).live.su.rstn <;> rfl
  · refine runsTo_onLive rfl ((tapDrive_of_powered _ _ h).trans ?_)
    cases (s.lane l).live.su.rstn <;> rfl
  · refine runsTo_onLive rfl ((tapDrive_of_powered _ _ h).trans ?_)
    cases (s.lane l).live.su.rstn <;> rfl
  · exact runsTo_onLive rfl (onTap_of_powered _ _ h)

end Sys2Proof.Machine
end

section
/-!
PROOF SUPPORT. Clock domains, gating and the frequency meter (R479, R483, R489, R492, R493, R495).
-/

namespace Sys2Proof.Machine

/-- The reset of a domain other than `CANC` touches nothing that the model holds (R483). -/
theorem resetDomain_of_ne (x : Live) (d : Nat) (h : d ≠ 5) : x.resetDomain d = x := by
  unfold Live.resetDomain
  split
  · exact absurd rfl h
  · rfl

/-- A domain whose source is lost switches, with event 5 (R480, R483). -/
theorem domainSwitch_of_lost (x : Live) (d : Nat) (h : x.clocked = true) (hd : d ≠ 5)
    (hl : x.ck.sourceLost d = true) : x.domainSwitch d = ({ x with ck := x.ck.switch d } : Live).raise 5 d := by
  unfold Live.domainSwitch
  rw [h, hl, resetDomain_of_ne _ d hd]
  rfl

/-- The end of a start delay that is no wake from SLEEP leads to the stagger with every domain on its normal source
(R479, R502). -/
theorem delayEnd_of_xtal (x : Live) (h : x.phase = .startDelay) (hs : x.su.fromSleep = false) : ∃ c : ClockSt,
    x.delayEnd true = { x with phase := .stagger, clk := max x.clk (x.su.t0 + startDelay x.mo.oscCode), ck := c } ∧
    c.domrun = 0xFF ∧ c.xtal = true ∧ c.rc40 = true ∧ c.plla = true ∧ c.pllb = true := by
  unfold Live.delayEnd
  rw [if_pos h]
  dsimp only [Live.modClock]
  rw [hs]
  exact ⟨_, rfl, rfl, rfl, rfl, rfl, rfl⟩

/-- Settles O2: the switch and the abandoned gate are counted with their events, the start delay and the meter act as
their functions say. -/
theorem clockDomainsAndMeter : Obligations.ClockDomainsAndMeter := by
  unfold Obligations.ClockDomainsAndMeter
  refine ⟨fun l d s h hd hl => ?_, fun l d s h he => ?_, fun l s h hs => ?_, fun l s h hm => ?_, fun l n s h => ?_,
    fun l n s h => ?_, fun l s h => runsTo_onZero rfl h rfl⟩
  · refine runsEv_onLive rfl ?_ trivial
    rw [domainSwitch_of_lost _ _ h hd hl, raise_steady]
    match d with
    | 0 | 1 | 2 | 3 | 4 | 5 | 6 | 7 => rfl
  · refine runsEv_raise (src := 3) (unit := d.val) (syn := 256) rfl ?_ trivial
    simp only [Live.gateAbandoned, h, if_true, Live.modClock, he, Option.isSome_none, Bool.false_eq_true, if_false]
  · obtain ⟨c, e, hc⟩ := delayEnd_of_xtal _ h hs
    refine runs_onLive rfl ?_
    dsimp only
    rw [e]
    exact ⟨rfl, rfl, rfl, hc.1, hc.2.1, hc.2.2.1, hc.2.2.2.1, hc.2.2.2.2, Nat.le_max_right ..⟩
  · refine runsTo_onLive rfl ?_
    dsimp only
    unfold Live.meterStart
    rw [decide_eq_false hm, Bool.and_false, if_neg Bool.false_ne_true, onZero_zero h]
    rfl
  · exact runsTo_onLive rfl (by simp only [Live.modClock, MeterSt.finish, h, if_true, Bool.false_eq_true, if_false])
  · exact runsTo_onLive rfl (by simp only [Live.modClock, MeterSt.finish, h, if_true])

end Sys2Proof.Machine
end

section
/-!
PROOF SUPPORT. The clock monitors, the window gates and clock-wait (R484 to R487; log entries 30, 31 and 114).
-/

namespace Sys2Proof.Machine

/-- What the entry into clock-wait leaves (R486, R487): every output forced, the role taken. -/
structure ClockWaits (x n : Live) : Prop where
  phase : n.phase = .clockWait
  forced : n.ck.forced = true
  clkWait : n.ck.clkWait = true
  last : n.ck.last = x.ck.last
  failures : n.ck.failures = x.ck.failures
  role : n.au.role = .none
  holding : n.au.holding = false
  chopper : n.gd.chOn = false
  silent : n.jn.portsOff = true
  low : n.outputsLow = true
  off : ∀ p : Fin 8, (n.gd.ports[p]).mode = .off

theorem enterClockWait_spec (x : Live) : ClockWaits x x.enterClockWait := by
  have hlow : x.outputsOff.outputsLow = true := outputsLow_of (outputsOff_cmd x)
  obtain ⟨o, i, ho⟩ := outputsOff_frame x
  have hck : x.outputsOff.ck = x.ck := by rw [ho]
  unfold Live.enterClockWait Live.forceOutputs
  dsimp only
  constructor
  · rw [settle_phase]
  · rw [settle_ck]; rfl
  · rw [settle_ck]; rfl
  · rw [settle_ck]; show x.outputsOff.ck.last = _; rw [hck]
  · rw [settle_ck]; show x.outputsOff.ck.failures = _; rw [hck]
  · rw [settle_au]
  · rw [settle_au]
  · rw [settle_chOn]
  · rw [settle_jn]
  · rw [outputsLow_settle]; exact hlow
  · exact fun p => settle_forced _ (.inl rfl) p

theorem trip_last (c : ClockSt) (m : Nat) : (c.trip m).last = BitVec.ofNat 8 m := by
  unfold ClockSt.trip; dsimp only; split <;> rfl

theorem trip_failures (c : ClockSt) (m : Nat) : (c.trip m).failures = satInc c.failures := by
  unfold ClockSt.trip; dsimp only; split <;> rfl

/-- A monitor whose trip is a clock failure (R484 to R486). -/
theorem monitorTrip_of_failure (x : Live) (m : Nat) (h : x.clocked = true)
    (hm : m ∈ [1, 3, 5, 6] ∨ (m = 2 ∧ x.ck.outside = true)) : x.monitorTrip m = x.clockFailure m := by
  rcases hm with hm | ⟨rfl, ho⟩
  · simp only [List.mem_cons, List.not_mem_nil, or_false] at hm
    rcases hm with rfl | rfl | rfl | rfl <;> exact if_pos h
  · unfold Live.monitorTrip
    rw [h, ho]
    rfl

theorem clockFailure_spec (x : Live) (m : Nat) : ClockWaits { x with ck := x.ck.trip m } (x.clockFailure m) := by
  have h := enterClockWait_spec ((x.modClock (fun c => c.trip m)).raise 2 noUnit (BitVec.ofNat 32 m))
  have hck := raise_ck (x.modClock (fun c => c.trip m)) 2 noUnit (BitVec.ofNat 32 m)
  exact { h with last := h.last.trans (congrArg ClockSt.last hck),
                 failures := h.failures.trans (congrArg ClockSt.failures hck) }

/-- A trip of the LPRC window is a notified event, and `AON` is on its alternate source, in DEEP at the next wake
(R486, R492). -/
theorem lprcTrip_steady (x : Live) : x.lprcTrip.steady = ({ x with ck := { x.ck with
    failures := satInc x.ck.failures, last := 7, lprc := false,
    lprcLate := x.ck.lprcLate || decide (x.phase = .deep),
    altsrc := if x.phase = .deep then x.ck.altsrc else setBit x.ck.altsrc 7 true } } : Live).steady := by
  unfold Live.lprcTrip
  dsimp only [Live.modClock]
  rw [raiseN_steady]
  by_cases h : x.phase = .deep
  · rw [if_pos h, if_pos h, decide_eq_true h, Bool.or_true]; rfl
  · rw [if_neg h, if_neg h, decide_eq_false h, Bool.or_false]; rfl

/-- The rejoin is a software reset with one more try counted (R44, R503). -/
theorem rejoin_spec (x : Live) (hp : x.phase ≠ .inReset) (h : x.mayRejoin = true) :
    x.rejoin.phase = .inReset ∧ x.rejoin.su.last = 6 ∧ x.rejoin.au.rejoins = x.au.rejoins + 1 := by
  have hhalt : x.su.halt = false := by
    simp only [Live.mayRejoin, Bool.and_eq_true, Bool.not_eq_true'] at h; exact h.1.2
  unfold Live.rejoin
  rw [if_pos h]
  obtain ⟨hphase, -, -, -, -, -, -, -, -, -, -, -, -, -, -, hlast, -⟩ :=
    reset_spec { x with au := { x.au with rejoins := x.au.rejoins + 1 } } .software
  refine ⟨hphase, ?_, ?_⟩
  · have hk : Live.recordedKind { x with au := { x.au with rejoins := x.au.rejoins + 1 } } .software = 6 := by
      unfold Live.recordedKind
      rw [if_neg hp]
      exact if_neg (by rw [hhalt]; exact Bool.false_ne_true)
    rw [hlast, hk]; rfl
  · unfold Live.reset
    obtain ⟨rc, m, e, -⟩ := closed_restart { x with au := { x.au with rejoins := x.au.rejoins + 1 } } false
      (keepsBanks .software x.su.aonHeld) .inReset
    dsimp only
    rw [e]
    rfl

/-- Settles O1: a clock failure enters clock-wait, the gates count towards its end, and the end is a rejoin. -/
theorem clockMonitorForcesOutputs : Obligations.ClockMonitorForcesOutputs := by
  unfold Obligations.ClockMonitorForcesOutputs
  refine ⟨fun l m s h hm => ?_, fun l s h => ?_, fun l dev s h hw => ?_, fun l s hp hg hh hr => ?_⟩
  · have spec := clockFailure_spec (s.lane l).live m.val
    refine runs_onLive rfl ?_
    dsimp only
    rw [monitorTrip_of_failure _ _ h hm]
    exact ⟨rfl, rfl, spec.phase, spec.forced, spec.clkWait, spec.last.trans (trip_last ..),
      spec.failures.trans (trip_failures ..), spec.role, spec.holding, spec.chopper, spec.silent, spec.low, spec.off⟩
  · have e : (s.lane l).live.monitorTrip 7 = (s.lane l).live.lprcTrip := if_pos (by rw [h]; rfl)
    refine runsEv_onLive (f := fun x => x.monitorTrip 7) rfl ?_ trivial
    rw [e, lprcTrip_steady]
  · refine runsTo_onLive rfl ?_
    simp only [Live.gateEnd, Live.modClock, ClockSt.healthy, h, hw, if_true, Bool.and_true, Bool.and_self_right]
  · have e : (s.lane l).live.clockRecovery = (s.lane l).live.rejoin := by
      have hhalt : (s.lane l).live.su.halt = false := by
        simp only [Live.mayRejoin, Bool.and_eq_true, Bool.not_eq_true'] at hr; exact hr.1.2
      unfold Live.clockRecovery
      rw [if_pos ⟨hp, hg, hh⟩, hhalt]
      rfl
    obtain ⟨h1, h2, h3⟩ := rejoin_spec (s.lane l).live (by rw [hp]; decide) hr
    refine runs_onLive rfl ?_
    dsimp only
    rw [e]
    exact ⟨rfl, rfl, h1, h2, h3⟩

end Sys2Proof.Machine
end

section
/-!
PROOF SUPPORT. Supply monitors and the small supply commands (R235, R497, R500, R501, R507, R517, R526).
-/

namespace Sys2Proof.Machine

/-- The flag bits of a window of `VBAT` that a crossing sets (R501, R530). -/
theorem vbatCrossing_eq (x : Live) (high : Bool) (mv : Nat) (h : x.awake = true) : x.vbatCrossing high mv =
    ({ x with
      aq := { x.aq with cmpHigh := if high then setBit x.aq.cmpHigh 169 true else x.aq.cmpHigh,
                        cmpLow := if high then x.aq.cmpLow else setBit x.aq.cmpLow 169 true },
      su := { x.su with vHigh := x.su.vHigh || high, vLow := x.su.vLow || !high } } : Live).raise
        (if high then 1 else 0) noUnit (BitVec.ofNat 32 mv) := by
  unfold Live.vbatCrossing
  rw [if_pos h]
  cases high <;> simp only [Live.crossed, Live.modSupply, Bool.or_true, Bool.or_false, Bool.not_true, Bool.not_false] <;>
    rfl

/-- The loss of the `AON` rail unpowers the lane; what its last session leaves does not outlive it (R497). -/
theorem aonDrop_spec (x : Live) :
    x.aonDrop.phase = .off ∧ x.aonDrop.ck = {} ∧ x.aonDrop.tk = {} ∧ x.aonDrop.im = {} ∧ x.aonDrop.su.aonUp = false ∧
      x.aonDrop.fl.history = [] ∧ x.aonDrop.quiet = true :=
  ⟨rfl, rfl, rfl, rfl, rfl, rfl, quiet_of_default rfl rfl⟩

theorem ofNum_num (o : LaneId) : LaneId.ofNum o.num = some o := by cases o <;> rfl

theorem num_ofNat_toNat (o : LaneId) : (BitVec.ofNat 8 o.num).toNat = o.num := by cases o <;> rfl

theorem linkTo_of_ne {l o : LaneId} (h : o ≠ l) : l.linkTo o = some (if l.peer .fwd = o then .fwd else .back) := by
  cases l <;> cases o <;> first | exact absurd rfl h | rfl

/-- The request for the reset of another lane goes out on the link to it (R507). -/
theorem requestReset_of_ne (x : Live) (o : LaneId) (h : o ≠ x.me) : x.requestReset o =
    if x.me.peer .fwd = o then { x with su := { x.su with fwd := { x.su.fwd with sendReset := 3 } } }
    else { x with su := { x.su with back := { x.su.back with sendReset := 3 } } } := by
  unfold Live.requestReset
  rw [linkTo_of_ne h]
  by_cases hf : x.me.peer .fwd = o
  · rw [if_pos hf, if_pos hf]; rfl
  · rw [if_neg hf, if_neg hf]; rfl

theorem crossWrite_of_ok (x : Live) (path : Path) (o : LaneId) (ho : o ≠ x.me) (hw : x.writes = true)
    (hs : x.standby = true) (hp : x.sessionOn path = true) :
    x.crossWrite path (BitVec.ofNat 8 o.num) = (x.requestReset o).accept (some path) := by
  unfold Live.crossWrite
  rw [num_ofNat_toNat, ofNum_num]
  dsimp only
  rw [hs, hp, decide_eq_true ho]
  exact onGuard_of_ok hw path _

/-- Settles O7: the flags and cells are what the supply commands write, the crossing raises its event. -/
theorem supplyFlagsAndCells : Obligations.SupplyFlagsAndCells := by
  unfold Obligations.SupplyFlagsAndCells
  refine ⟨fun l s => runsTo_onLive rfl rfl, fun l s => ?_, fun l s h => ?_, fun l high mv s h => ?_,
    fun l s => runsTo_onLive rfl rfl, fun l s => runsTo_onLive rfl rfl, fun l o path s hme ho hw hs hp => ?_,
    fun l s h => runsTo_onZero rfl h rfl⟩
  · exact runs_onLive rfl ⟨rfl, rfl, aonDrop_spec _⟩
  · exact runsTo_onLive rfl (if_pos h)
  · exact runsEv_raise rfl (vbatCrossing_eq _ high mv h) trivial
  · have hne : o ≠ (s.lane l).live.me := hme.symm ▸ ho
    refine runsTo_onLive rfl ((crossWrite_of_ok _ path o hne hw hs hp).trans ?_)
    rw [requestReset_of_ne _ o hne, hme]

end Sys2Proof.Machine
end

section
/-!
PROOF SUPPORT. Power requests, the entry into SLEEP and DEEP and its abandon, and the wake (R512 to R519; log entries
116 and 117).
-/

namespace Sys2Proof.Machine

/-! ### The tick program started -/

theorem statesAtStart_frame (x : Live) : ∃ en, x.statesAtStart =
    { x with en := en, sf := { x.sf with appliedInst := 0 } } ∧ en.running = x.en.running := by
  refine forAll_keeps _ (fun y => ∃ en, y = { x with en := en, sf := { x.sf with appliedInst := 0 } } ∧
    en.running = x.en.running) ?_ _ ⟨x.en, rfl, rfl⟩
  rintro i y ⟨en, rfl, hr⟩
  exact ⟨_, rfl, hr⟩

/-- The tick program started runs, with every safety function in TRIPPED (R85, R323, R509). -/
theorem startProgram_spec (x : Live) : ∃ en ps, x.startProgram =
    { x with en := en, ps := ps, sf := { x.sf with
      inst := Vector.replicate 24 {}, category := none, appliedInst := 0 } } ∧ en.running = true := by
  obtain ⟨en, h, hr⟩ := statesAtStart_frame { x with
      en := { x.en with
        running := true,
        slots := x.en.slots.mapDflt {} SlotSt.fresh,
        traj := Vector.replicate 32 (0, 0), trajOn := 0 },
      sf := { x.sf with inst := Vector.replicate 24 {}, category := none } }
  unfold Live.startProgram
  rw [h]
  exact ⟨en, _, rfl, hr⟩

/-! ### Power requests -/

/-- A request under the guards of R513 at a joined lane. -/
theorem powerRequest_of_guard (x : Live) (v : Nat) (hp : x.phase = .joined) (hg : x.powerGuard = true) :
    x.powerRequest v = match v with
      | 0 => x.leaveIdle.accept none
      | 1 => x.enterIdle.accept none
      | 2 => if x.su.idle then x.powerRefused else (x.beginEntry false).accept none
      | _ => if x.su.idle then x.powerRefused else (x.beginEntry true).accept none := by
  unfold Live.powerRequest
  rw [if_neg (not_not_intro hp), hg]
  rfl

/-- The return from IDLE starts the tick program and releases the gates (R509, R513). -/
theorem leaveIdle_of_idle (x : Live) (h : x.su.idle = true) :
    x.leaveIdle.su.idle = false ∧ x.leaveIdle.en.running = true ∧ x.leaveIdle.gd.forcedLow = false ∧
      x.leaveIdle.phase = x.phase ∧ x.leaveIdle.sf.inst = Vector.replicate 24 {} ∧
      x.leaveIdle.ck.domrun = setBit x.ck.domrun 1 true := by
  unfold Live.leaveIdle
  rw [if_pos h]
  dsimp only
  obtain ⟨en, ps, e, hr⟩ := startProgram_spec { x with
    su := { x.su with idle := false }, gd := { x.gd with forcedLow := false },
    ck := { x.ck with domrun := setBit x.ck.domrun 1 true } }
  rw [e]
  simp only [settle_su, settle_en, settle_forcedLow, settle_phase, settle_sf, settle_ck, hr, and_self]

/-- IDLE stops the tick program and holds every gate low (R512, R513). -/
theorem enterIdle_of_run (x : Live) (h : x.su.idle = false) :
    x.enterIdle.su.idle = true ∧ x.enterIdle.en.running = false ∧ x.enterIdle.phase = x.phase ∧
      x.enterIdle.ck.domrun = setBit x.ck.domrun 1 false ∧ ∀ p : Fin 8, (x.enterIdle.gd.ports[p]).mode = .off := by
  unfold Live.enterIdle
  rw [if_neg (by rw [h]; exact Bool.false_ne_true)]
  refine ⟨?_, ?_, ?_, ?_, fun p => settle_forced _ (.inl rfl) p⟩
  · rw [settle_su]
  · rw [settle_en]
  · rw [settle_phase]
  · rw [settle_ck]

/-! ### The abandon of an entry and the wake -/

theorem abandonEntry_of_running (x : Live) (h : x.en.running = true) : x.abandonEntry =
    ({ x with su := { x.su with
      entry := none, refusers := x.su.votes &&& 0x1FFF, votes := 0x3FFF, gateHeld := 0, result := 2,
      abandons := satInc x.su.abandons, readySent := false, latched := none } } : Live).raise 9 noUnit
        ((x.su.votes &&& 0x1FFF).setWidth 32) := by
  unfold Live.abandonEntry
  dsimp only [Live.modSupply]
  rw [if_pos h]

/-- What a wake leaves (R517 to R519). -/
structure Wakes (x n : Live) (kind detail : Nat) : Prop where
  phase : n.phase = .startDelay
  wake : n.su.wake = BitVec.ofNat 16 (kind + 16 * detail)
  pattern : n.su.wakePat = true
  votes : n.su.votes = 0x3FFF
  role : n.au.role = .none
  epoch : n.au.epoch = 0
  fromDeep : n.su.fromDeep = decide (x.phase = .deep)
  forcedLow : n.gd.forcedLow = true
  t0 : n.su.t0 = x.clk
  clk : n.clk = x.clk

theorem wake_spec (x : Live) (kind detail : Nat) : Wakes x (x.wake kind detail) kind detail := by
  unfold Live.wake
  by_cases h : x.phase = .deep
  · rw [decide_eq_true h]
    exact ⟨rfl, rfl, rfl, rfl, rfl, rfl, (decide_eq_true h).symm, rfl, rfl, rfl⟩
  · rw [decide_eq_false h]
    exact ⟨rfl, rfl, rfl, rfl, rfl, rfl, (decide_eq_false h).symm, rfl, rfl, rfl⟩

/-- An enabled wake event wakes a sleeping lane (R517). -/
theorem wakeEvent_of_asleep (x : Live) (kind detail : Nat) (h : x.wakeEnabled kind detail = true)
    (hp : x.phase ∈ [.sleep, .deep]) : x.wakeEvent kind detail = x.wake kind detail := by
  have hs : x.phase = .sleep ∨ x.phase = .deep := by simpa using hp
  unfold Live.wakeEvent
  rw [h, if_pos hs]
  rfl

/-- The wake timer runs out at its time, not before (R517). -/
theorem wakeTimer_of_asleep (x : Live) (h : x.wakeEnabled 3 0 = true) (hp : x.phase ∈ [.sleep, .deep])
    (hn : x.rwNum Obj.wakeTimer ≠ 0) : x.wakeTimer =
      ({ x with clk := max x.clk (x.su.dropAt + x.rwNum Obj.wakeTimer * perSec) } : Live).wake 3 0 := by
  have hs : x.phase = .sleep ∨ x.phase = .deep := by simpa using hp
  unfold Live.wakeTimer
  dsimp only
  rw [if_pos ⟨hn, hs⟩]
  exact wakeEvent_of_asleep _ 3 0 h hp

/-- Settles O8: the requests under their guards, the abandon and the wake as their lemmas say. -/
theorem powerStatesAndWake : Obligations.PowerStatesAndWake := by
  unfold Obligations.PowerStatesAndWake
  refine ⟨fun l s hp hg hi => ?_, fun l s hp hg hi => ?_, fun l s hp hg hi => ⟨?_, ?_⟩, fun l s hp => ⟨?_, ?_⟩,
    fun l e s he hn hr => ?_, fun l kind detail s h hp => ?_, fun l s h hp hn => ?_⟩
  · obtain ⟨h1, h2, h3, h4, h5, h6⟩ := leaveIdle_of_idle _ hi
    refine runs_onLive rfl ?_
    dsimp only
    rw [powerRequest_of_guard _ 0 hp hg]
    exact ⟨rfl, rfl, h1, h2, h3, h4.trans hp, h5, h6⟩
  · obtain ⟨h1, h2, h3, h4, h5⟩ := enterIdle_of_run _ hi
    refine runs_onLive rfl ?_
    dsimp only
    rw [powerRequest_of_guard _ 1 hp hg]
    exact ⟨rfl, rfl, h1, h2, h3.trans hp, h4, h5⟩
  · exact runsTo_onLive rfl ((powerRequest_of_guard _ 2 hp hg).trans (if_neg (hi ▸ Bool.false_ne_true)))
  · exact runsTo_onLive rfl ((powerRequest_of_guard _ 3 hp hg).trans (if_neg (hi ▸ Bool.false_ne_true)))
  · exact runsTo_onLive rfl (if_neg (not_not_intro hp))
  · exact runsTo_onLive rfl (if_neg (not_not_intro hp))
  · refine runsEv_raise rfl (Eq.trans ?_ (abandonEntry_of_running _ hr)) trivial
    unfold Live.entryAbandon
    rw [he]
    exact if_pos hn
  · have w := wake_spec (s.lane l).live kind.val detail.val
    refine runs_onLive rfl ?_
    dsimp only
    rw [wakeEvent_of_asleep _ _ _ h hp]
    exact ⟨rfl, rfl, w.phase, w.wake, w.pattern, w.votes, w.role, w.epoch, w.fromDeep, w.forcedLow, w.t0⟩
  · refine runs_onLive rfl ?_
    dsimp only
    rw [wakeTimer_of_asleep _ h hp hn]
    have w := wake_spec { (s.lane l).live with
      clk := max (s.lane l).live.clk ((s.lane l).live.su.dropAt + (s.lane l).live.rwNum Obj.wakeTimer * perSec) } 3 0
    exact ⟨rfl, rfl, w.phase, w.wake, w.clk ▸ Nat.le_max_right ..⟩

end Sys2Proof.Machine
end

section
/-!
PROOF SUPPORT. The lane links: what goes out at T/2, what a check of a received block leaves, the marker, the loss of a
link and the counters (R24 to R34, R66, R144, R321).
-/

namespace Sys2Proof.Machine

/-! ### Sending -/

/-- What every link carries of this lane (R25, R45, R301, R321). -/
structure Carries (x : Live) (tx : LinkTx) (r : TickRecord) (b : ChannelBlock) : Prop where
  record : tx.record = some r
  chan : tx.chan = some b
  sender : r.sender = x.me
  role : r.role = x.au.role
  leash : r.leash = x.leashWord
  tick : r.tick = x.tk.count.setWidth 32
  tickhi : r.tickhi = (x.tk.count >>> 32).setWidth 32
  health : r.health = x.healthWord
  crc : r.crc = crc32c r.body
  chanTick : b.tick = r.tick
  sinv : b.sinv = x.sf.sinvNow
  sdv : b.sdv = x.sf.sdvNow
  chanCrc : b.crc = crc32c b.body

theorem linkTx_carries (x : Live) (own : Vector F32 24) (sf : BitVec 48) (m : Mode) (d : LinkDir) :
    ∃ r b, Carries x (x.linkTx own sf m d) r b :=
  ⟨_, _, rfl, rfl, rfl, rfl, rfl, rfl, rfl, rfl, rfl, rfl, rfl, rfl, rfl⟩

/-- Settles O9: both links carry what `linkTx` gives them; a second command finds the tick sent. -/
theorem tickRecordSent : Obligations.TickRecordSent := by
  unfold Obligations.TickRecordSent
  refine ⟨fun l s hp ht => ?_, fun l s ht => runsTo_onLive rfl (if_pos (.inr ht))⟩
  refine runs_onLive rfl ?_
  dsimp only
  unfold Live.sendRecord
  rw [if_neg (not_or.mpr ⟨not_not_intro hp, ht⟩)]
  refine ⟨rfl, rfl, fun tx htx => ?_, rfl, rfl, rfl, rfl, rfl, rfl, rfl, rfl, rfl⟩
  have carries : ∃ r b, Carries (s.lane l).live tx r b := by
    obtain rfl | rfl : tx = _ ∨ tx = _ := by simpa using htx
    · exact linkTx_carries ..
    · exact linkTx_carries ..
  obtain ⟨r, b, c⟩ := carries
  exact ⟨r, b, c.record, c.chan, c.sender, c.role, c.leash, c.tick, c.tickhi, c.health, c.crc, c.chanTick, c.sinv,
    c.sdv, c.chanCrc⟩

/-! ### Receiving -/

theorem listens_of_mem {x : Live} (h : x.phase ∈ [.joined, .loaded]) : x.listens = true :=
  decide_eq_true (by simpa using h)

theorem listens_of_joined {x : Live} (h : x.phase = .joined) : x.listens = true := decide_eq_true (.inl h)

theorem modRx_modRx (x : Live) (d : LinkDir) (f g : LinkRx → LinkRx) : (x.modRx d f).modRx d g = x.modRx d (fun q => g (f q)) := by
  cases d <;> rfl

theorem rx_modRx (x : Live) (d : LinkDir) (f : LinkRx → LinkRx) : (x.modRx d f).rx d = f (x.rx d) := by cases d <;> rfl

/-- The change of a link's receive side depends on its values alone. -/
theorem modRx_congr (x : Live) (d : LinkDir) {f g : LinkRx → LinkRx} (h : f (x.rx d) = g (x.rx d)) : x.modRx d f = x.modRx d g := by
  cases d
  · exact congrArg (fun q => ({ x with tk := { x.tk with fwd := q } } : Live)) h
  · exact congrArg (fun q => ({ x with tk := { x.tk with back := q } } : Live)) h

@[simp] theorem modRx_phase (x : Live) (d : LinkDir) (f : LinkRx → LinkRx) : (x.modRx d f).phase = x.phase := by cases d <;> rfl
@[simp] theorem modRx_au (x : Live) (d : LinkDir) (f : LinkRx → LinkRx) : (x.modRx d f).au = x.au := by cases d <;> rfl
@[simp] theorem modRx_me (x : Live) (d : LinkDir) (f : LinkRx → LinkRx) : (x.modRx d f).me = x.me := by cases d <;> rfl
@[simp] theorem modRx_gd (x : Live) (d : LinkDir) (f : LinkRx → LinkRx) : (x.modRx d f).gd = x.gd := by cases d <;> rfl
@[simp] theorem modRx_en (x : Live) (d : LinkDir) (f : LinkRx → LinkRx) : (x.modRx d f).en = x.en := by cases d <;> rfl
@[simp] theorem modRx_count (x : Live) (d : LinkDir) (f : LinkRx → LinkRx) : (x.modRx d f).tk.count = x.tk.count := by
  cases d <;> rfl
@[simp] theorem modRx_tickLow (x : Live) (d : LinkDir) (f : LinkRx → LinkRx) : (x.modRx d f).tickLow = x.tickLow := by
  cases d <;> rfl

/-- Without an armed injection the check of a block is its CRC (R28). -/
theorem crcCheck_unarmed (x : Live) (d : LinkDir) (ok : Bool) (h : x.fl.armed = none) : x.crcCheck d ok = (ok, x) := by
  unfold Live.crcCheck Live.injected
  rw [h]
  cases ok <;> rfl

/-- A record in time whose CRC fails is counted and discarded (R30). -/
theorem receiveRecord_badCrc (x : Live) (d : LinkDir) (r : TickRecord) (hl : x.listens = true) (ha : x.fl.armed = none)
    (hc : r.crc ≠ crc32c r.body) : x.receiveRecord d r .inTime =
      x.modRx d (fun q => { q with complete := true, crcErr := satInc q.crcErr, badNow := true }) := by
  unfold Live.receiveRecord
  rw [hl, crcCheck_unarmed x d _ ha, decide_eq_false hc]
  exact modRx_modRx ..

/-- A record of another tick is counted and discarded at a joined lane (R30). -/
theorem receiveRecord_badTick (x : Live) (d : LinkDir) (r : TickRecord) (hp : x.phase = .joined) (ha : x.fl.armed = none)
    (hc : r.crc = crc32c r.body) (ht : r.tick ≠ x.tickLow) : x.receiveRecord d r .inTime =
      x.modRx d (fun q => { q with complete := true, tickMis := satInc q.tickMis, badNow := true }) := by
  unfold Live.receiveRecord
  rw [listens_of_joined hp, crcCheck_unarmed x d _ ha, decide_eq_true hc]
  dsimp only
  rw [if_neg (by simp), if_neg (by simp), if_pos ⟨(modRx_phase ..).trans hp, by rwa [modRx_tickLow]⟩]
  exact modRx_modRx ..

/-- A record that passes its checks is accepted (R28 to R30). -/
theorem receiveRecord_ok (x : Live) (d : LinkDir) (r : TickRecord) (hp : x.phase = .joined) (ha : x.fl.armed = none)
    (hc : r.crc = crc32c r.body) (ht : r.tick = x.tickLow) : x.receiveRecord d r .inTime =
      (x.modRx d (fun q => { q with complete := true })).acceptRecord d r := by
  unfold Live.receiveRecord
  rw [listens_of_joined hp, crcCheck_unarmed x d _ ha, decide_eq_true hc]
  dsimp only
  rw [if_neg (by simp), if_neg (by simp), if_neg (fun h => h.2 (by rwa [modRx_tickLow])),
    if_pos ((modRx_phase ..).trans hp)]

/-- A record on a link in service is counted as valid and kept (R29, R30). -/
theorem acceptRecord_inService (x : Live) (d : LinkDir) (r : TickRecord) (hi : (x.rx d).inService = true)
    (hl : (x.rx d).lost = false) : x.acceptRecord d r =
      x.modRx d (fun q => { q with valid := satInc q.valid, got := some r }) := by
  unfold Live.acceptRecord
  dsimp only
  rw [hl, hi, if_neg Bool.false_ne_true, if_pos rfl]
  refine (modRx_modRx ..).trans (modRx_congr x d ?_)
  dsimp only
  rw [if_pos hi, ← hi]

theorem receiveChannel_ok (x : Live) (d : LinkDir) (b : ChannelBlock) (hl : x.listens = true) (ha : x.fl.armed = none)
    (hs : (x.rx d).lost = false) (hc : b.crc = crc32c b.body) (ht : b.tick = x.tickLow) :
    x.receiveChannel d b .inTime = x.modRx d (fun q => { q with chan := some b }) := by
  unfold Live.receiveChannel
  rw [hl, crcCheck_unarmed x d _ ha, decide_eq_true hc]
  dsimp only
  rw [if_neg (by simp), if_neg (by simp), if_neg (not_not_intro ht), hs]
  rfl

theorem receiveDict_ok (x : Live) (d : LinkDir) (b : DictBlock) (hl : x.listens = true) (ha : x.fl.armed = none)
    (hs : (x.rx d).lost = false) (hc : b.crc = crc32c b.body) (ht : b.tick = x.tickLow) :
    x.receiveDict d b .inTime = x.modRx d (fun q => { q with dict := some b }) := by
  unfold Live.receiveDict
  rw [hl, crcCheck_unarmed x d _ ha, decide_eq_true hc]
  dsimp only
  rw [if_neg (by simp), if_neg (by simp), if_neg (not_not_intro ht), hs]
  rfl

/-- A mirror block that passes its checks is kept; Heel compares it with its capture (R66). -/
theorem receiveMirror_ok (x : Live) (d : LinkDir) (b : MirrorBlock) (hl : x.listens = true) (ha : x.fl.armed = none)
    (hg : (x.rx d).got.isSome = true) (hs : (x.rx d).lost = false) (hc : b.crc = crc32c b.body) :
    x.receiveMirror d b .inTime =
      let y := x.modRx d (fun q => { q with mirror := some b })
      if decide (x.au.role = .heel) && !x.au.follower && decide (x.au.holder = some (x.me.peer d))
          && decide (x.au.sentTick = some x.tk.count) then y.compareMirror b.words else y := by
  unfold Live.receiveMirror
  have hn : (x.rx d).got.isNone = false := by rw [Option.isNone_eq_false_iff]; exact hg
  rw [hl, hn, crcCheck_unarmed x d _ ha, decide_eq_true hc]
  dsimp only
  rw [if_neg (by simp), if_neg (by simp), hs, modRx_au, modRx_me, modRx_count]
  rfl

/-- The first block after a lane became Heel is loaded without comparison (R67). -/
theorem compareMirror_first (x : Live) (ws : List Word) (h : x.au.mirFirst = true) : x.compareMirror ws =
    { x with au := { x.au with mirFirst := false, mirLoad := some ws } } := if_pos h

theorem receiveJoin_ok (x : Live) (d : LinkDir) (b : JoinBlock) (hl : x.listens = true) (ha : x.fl.armed = none)
    (hg : (x.rx d).got.isSome = true) (hs : (x.rx d).lost = false) (hj : (x.rx d).join = none)
    (hc : b.crc = crc32c b.body) : x.receiveJoin d b .inTime =
      let y := x.modRx d (fun q => { q with join := some b })
      { y with fc := { y.fc with groups := y.fc.groups.map (fun g => { g with steps := 0 }) } } := by
  unfold Live.receiveJoin
  dsimp only
  rw [hl, hg, crcCheck_unarmed x d _ ha, decide_eq_true hc, hs, hj]
  rfl

/-- Settles O10: each block goes the way of its checks. -/
theorem linkBlocksCheckedAndCounted : Obligations.LinkBlocksCheckedAndCounted := by
  unfold Obligations.LinkBlocksCheckedAndCounted
  refine ⟨fun l d r s hp ha hi hl hc ht => ?_, fun l d r s hp ha hc => ?_, fun l d r s hp ha hc ht => ?_,
    fun l d r s => ?_, fun l d b s hp ha hs hc ht => ?_, fun l d b s hp ha hs hc ht => ?_,
    fun l d b s hp ha hg hs hc hr => ?_, fun l d b s hp ha hg hs hc hr hf hh ht hm => ?_,
    fun l d b s hp ha hg hs hj hc => ?_⟩
  · refine runsTo_onLive rfl ((receiveRecord_ok _ d r hp ha hc ht).trans ?_)
    rw [acceptRecord_inService _ d r (by rwa [rx_modRx]) (by rwa [rx_modRx])]
    exact modRx_modRx ..
  · exact runsTo_onLive rfl (receiveRecord_badCrc _ d r (listens_of_mem hp) ha hc)
  · exact runsTo_onLive rfl (receiveRecord_badTick _ d r hp ha hc ht)
  · exact runsTo_onLive rfl (if_pos (Bool.or_true _))
  · exact runsTo_onLive rfl (receiveChannel_ok _ d b (listens_of_mem hp) ha hs hc ht)
  · exact runsTo_onLive rfl (receiveDict_ok _ d b (listens_of_mem hp) ha hs hc ht)
  · refine runsTo_onLive rfl ((receiveMirror_ok _ d b (listens_of_mem hp) ha hg hs hc).trans (if_neg ?_))
    rw [decide_eq_false hr]
    exact Bool.false_ne_true
  · refine runsTo_onLive rfl ((receiveMirror_ok _ d b (listens_of_joined hp) ha hg hs hc).trans ?_)
    dsimp only
    rw [decide_eq_true hr, hf, decide_eq_true hh, decide_eq_true ht]
    exact compareMirror_first _ _ (by rwa [modRx_au])
  · exact runsTo_onLive rfl (receiveJoin_ok _ d b (listens_of_mem hp) ha hg hs hj hc)

/-! ### Markers, losses, counters -/

theorem tickMarker_of_top (x : Live) (d : LinkDir) (k : Int) (hl : x.listens = true) (hj : x.tk.onJalsyn = false)
    (ht : x.topLane = some (x.me.peer d)) (hr : (x.rx d).lost = false) :
    x.tickMarker d k = { x with tk := { x.tk with offset := k } } := by
  unfold Live.tickMarker
  rw [hl, hj, decide_eq_true ht, hr]
  rfl

/-- A lost link drops what it held; the event and the start of listening leave the links alone (R29, R61). -/
theorem linkLost_tk (x : Live) (d : LinkDir) (hp : x.phase = .joined) (hi : (x.rx d).inService = true)
    (hl : (x.rx d).lost = false) (hm : x.num Obj.leaseTicks ≤ (x.rx d).missRun) :
    (x.linkLost d).tk = (x.modRx d LinkRx.drop).tk := by
  unfold Live.linkLost Live.joined LinkRx.up
  dsimp only
  rw [decide_eq_true hp, hi, hl, decide_eq_true hm]
  refine (congrArg Live.tk (if_pos rfl)).trans ?_
  split <;> exact raise_tk ..

/-- Settles O11. -/
theorem linkMarkerLossAndCounters : Obligations.LinkMarkerLossAndCounters := by
  unfold Obligations.LinkMarkerLossAndCounters
  refine ⟨fun l d k s hp hj ht hr => ?_, fun l d s hp hi hl hm => ?_, fun l s h => runsTo_onZero rfl h rfl⟩
  · exact runsTo_onLive rfl (tickMarker_of_top _ d k (listens_of_mem hp) hj ht hr)
  · exact runs_onLive rfl ⟨rfl, rfl, linkLost_tk _ d hp hi hl hm⟩

end Sys2Proof.Machine
end

section
/-!
PROOF SUPPORT. Lease, takeover and votes (R40 to R67): what moving up and becoming a follower leave of a lane, and what
an event leaves of a lane that is joined after it.
-/

namespace Sys2Proof.Machine

/-! ### Roles -/

theorem joined_of_phase {x : Live} (h : x.phase = .joined) : x.joined = true := decide_eq_true h

theorem laneRole_of_ne (x : Live) (o : LaneId) (h : o ≠ x.me) : x.laneRole o = (x.au.views[o.fin]).role := if_neg h

/-- A lane without a role moves nowhere; the other lanes close ranks (R42). -/
theorem moveUp_none (x : Live) (h : x.au.role = .none) :
    ∃ b, x.moveUp = { x with au := { x.au with role := .none, views := b } } := by
  obtain ⟨a, b, hc⟩ := closeRanks_frame x
  have hr : a = .none := by
    have e := closeRanks_laneRole x x.me
    rw [if_pos ((me_role x).trans h), hc] at e
    exact (me_role { x with au := { x.au with role := a, views := b } }).symm.trans e
  subst hr
  exact ⟨b, by unfold Live.moveUp; rw [hc]; rfl⟩

/-- This lane becomes a follower: no role, no leash (R40, R45). -/
theorem makeFollower_me (x : Live) (counts : Bool) (h : x.au.follower = false) :
    ∃ a, x.makeFollower x.me counts = { x with au := a } ∧ a.follower = true ∧ a.role = .none ∧ a.holding = false ∧
      a.demoting = x.au.demoting := by
  have hf : x.laneFollower x.me = x.au.follower := if_pos rfl
  unfold Live.makeFollower Live.setRole
  rw [hf, h, if_neg Bool.false_ne_true, if_pos rfl]
  dsimp only
  rw [if_pos rfl]
  generalize hy : ({ x with au := { x.au with
    role := .none, follower := true, releasing := x.au.releasing || x.au.holding, holding := false } } : Live) = y
  have count : ∃ fs, (if counts = true then y.countFault .laneLoss x.me x.me.num else y) =
      { y with au := { y.au with faults := fs } } := by
    unfold Live.countFault
    dsimp only
    split
    · split
      · exact ⟨_, rfl⟩
      · exact ⟨y.au.faults, rfl⟩
    · exact ⟨y.au.faults, rfl⟩
  obtain ⟨fs, hc⟩ := count
  rw [hc]
  subst hy
  obtain ⟨b, hm⟩ := moveUp_none { x with au := { x.au with
    role := .none, follower := true, releasing := x.au.releasing || x.au.holding, holding := false, faults := fs } } rfl
  exact ⟨_, hm, rfl, rfl, rfl, rfl⟩

/-! ### Lease and takeover -/

/-- A Lead whose lease has run out withdraws where a link still brings records (R48, R63). -/
theorem leaseEnd_of_out (x : Live) (hp : x.phase = .joined) (hl : x.leaseOut = true) (hs : x.bothSilent = false) :
    x.leaseEnd =
      ({ x with au := { x.au with holding := false, expiries := satInc x.au.expiries } } : Live).withdraw := by
  have hs' : ({ x with au := { x.au with holding := false } } : Live).bothSilent = false := hs
  unfold Live.leaseEnd
  rw [joined_of_phase hp, hl]
  dsimp only
  rw [hs']
  rfl

/-- Where both links are silent the Lead only stops renewing (R48, R61). -/
theorem leaseEnd_of_silent (x : Live) (hp : x.phase = .joined) (hl : x.leaseOut = true) (hs : x.bothSilent = true) :
    x.leaseEnd = { x with au := { x.au with holding := false } } := by
  have hs' : ({ x with au := { x.au with holding := false } } : Live).bothSilent = true := hs
  unfold Live.leaseEnd
  rw [joined_of_phase hp, hl]
  dsimp only
  rw [hs']
  rfl

/-- A link in service makes a lane linked (R29, R42). -/
theorem linkUp_of_upTo {x : Live} {o : LaneId} (h : x.upTo o = true) : x.linkUp = true := by
  unfold Live.upTo Live.rxOf at h
  unfold Live.linkUp
  cases hd : x.me.linkTo o with
  | none => rw [hd] at h; exact absurd h Bool.false_ne_true
  | some d =>
    rw [hd] at h
    cases d
    · exact Bool.or_eq_true_iff.mpr (.inl h)
    · exact Bool.or_eq_true_iff.mpr (.inr h)

/-- No lane stands before a Heel once the Lead is gone (R42). -/
theorem ahead_heel (x : Live) (o : LaneId) (hr : x.laneRole o = .heel) (h : ∀ q, x.laneRole q ≠ .lead) : x.ahead o = 0 := by
  unfold Live.ahead
  rw [List.countP_eq_zero]
  intro q _
  rw [hr, decide_eq_true_iff]
  rintro ⟨hlt, -⟩
  have hq := h q
  revert hlt hq
  cases x.laneRole q <;> simp [Role.code]

/-- Heel with the link to a silent Lead up takes its place (R42, R49). -/
theorem silentTakeover_of_silent (x : Live) (lead : LaneId) (hp : x.phase = .joined) (hr : x.au.role = .heel)
    (hl : x.holderOf .lead = some lead) (hn : x.num Obj.leaseTicks + 1 ≤ x.au.silent) (hu : x.upTo lead = true)
    (hm : lead ≠ x.me) : x.silentTakeover = (x.setRole lead .none).moveUp := by
  have gone : x.leadGone = (x.setRole lead .none).moveUp := by
    unfold Live.leadGone
    rw [hl]
    exact if_neg hm
  unfold Live.silentTakeover
  exact (if_pos (by simp [joined_of_phase hp, hr, hn, hl, hu])).trans gone

/-- Settles O12: the lease's two ends, and the takeover as `moveUp_lead` gives it. -/
theorem leaseExpiryAndSilentTakeover : Obligations.LeaseExpiryAndSilentTakeover := by
  unfold Obligations.LeaseExpiryAndSilentTakeover
  refine ⟨fun l s hp hl hs => ?_, fun l s hp hl hs => runsTo_onLive rfl (leaseEnd_of_silent _ hp hl hs),
    fun l lead third s hme hll htl htd hp hr hh hlead ht1 ht2 hn hu => ?_⟩
  · obtain ⟨w, q, o, i, e, hq⟩ := withdraw_spec ({ (s.lane l).live with au := { (s.lane l).live.au with
      holding := false, expiries := satInc (s.lane l).live.au.expiries } } : Live) (.inl hp)
    refine runs_onLive rfl ?_
    dsimp only
    rw [leaseEnd_of_out _ hp hl hs]
    refine ⟨rfl, rfl, ?_, ?_, ?_, ?_, ?_, hq, ?_, ?_⟩ <;> rw [e]
  · refine runs_onLive rfl ?_
    generalize (s.lane l).live = x at *
    have hlm : lead ≠ x.me := hme.symm ▸ hll
    have htm : third ≠ x.me := hme.symm ▸ htl
    have go := silentTakeover_of_silent x lead hp hr hlead hn hu hlm
    obtain ⟨a, b, hy⟩ := setRole_frame x lead .none
    have role := setRole_laneRole x lead
    generalize hy' : x.setRole lead .none = y at *
    have me : y.me = x.me := by rw [hy]
    have roles : ∀ q, y.laneRole q = if q = lead then .none else x.laneRole q := fun q => hy' ▸ role q .none
    have meHeel : y.laneRole y.me = .heel := by rw [roles, me, if_neg hlm.symm, me_role, hr]
    have mine : y.au.role = .heel := (me_role y).symm.trans meHeel
    have noLead : ∀ q, y.laneRole q ≠ .lead := by
      intro q
      rw [roles]
      by_cases hq : q = lead
      · rw [if_pos hq]; exact nofun
      · rw [if_neg hq]
        by_cases hq' : q = x.me
        · rw [hq', me_role, hr]; exact nofun
        · have : q = third := by
            revert hq hq' hll htl htd hlm htm
            cases q <;> cases lead <;> cases third <;> cases x.me <;> simp
          exact this ▸ ht1
    have up : y.linkUp = true := by rw [hy]; exact linkUp_of_upTo hu
    have notHolding : y.au.holding = false := by rw [hy]; exact hh
    obtain ⟨h1, h2, h3, h4, h5, h6⟩ := moveUp_lead y (mine ▸ nofun) (mine ▸ nofun) (ahead_heel y _ meHeel noLead) up
      notHolding
    obtain ⟨c, hm⟩ := moveUp_frame y
    have viewed : (y.moveUp.au.views[lead.fin]).role = .none := by
      obtain ⟨a', b', hc⟩ := closeRanks_frame y
      have e := closeRanks_laneRole y lead
      rw [roles, if_pos rfl, if_pos rfl, laneRole_of_ne _ _ (by rw [hc]; exact me ▸ hlm)] at e
      rw [h6]
      exact e
    dsimp only
    rw [go]
    refine ⟨rfl, rfl, h1, h2, h3.trans (by rw [me, hme]), h4.trans (by rw [hy]), h5.trans (by rw [hy]), viewed, ?_, ?_⟩
    · rw [hm, hy]
    · rw [hm, hy]

/-! ### A lane that is joined after an event -/

/-- `y` follows on `x` by events: where `y` is joined, no reaction has made the lane withdraw or halt, and the poised part
stands (R291). -/
def Follows (x y : Live) : Prop := y.phase = .joined → y.poised = x.poised

theorem Follows.of_poised {x y : Live} (h : y.poised = x.poised) : Follows x y := fun _ => h

theorem Follows.trans {x y z : Live} (h : Follows x y) (h' : Follows y z) : Follows x z := fun hz =>
  (h' hz).trans (h ((poised_phase (h' hz)).symm.trans hz))

theorem withdraw_follows (x : Live) : Follows x x.withdraw := by
  intro h
  unfold Live.withdraw at h ⊢
  split at h
  · rw [settle_phase] at h
    exact absurd h nofun
  · next hn => rw [if_neg hn]

theorem halt_follows (x : Live) : Follows x x.halt := by
  intro h
  unfold Live.halt at h ⊢
  split at h
  · rw [settle_phase] at h
    exact absurd h nofun
  · next hn => rw [if_neg hn]

theorem react_follows (x : Live) (src unit entry : Nat) : Follows x (x.react src unit entry) := by
  unfold Live.react
  dsimp only
  cases entryReaction entry
  case log => exact .of_poised rfl
  case notify => exact .of_poised rfl
  case kennel => exact .of_poised (fence_poised ..)
  case degrade => exact .of_poised (degreq_poised ..)
  case surrender => exact .trans (.of_poised ((degreq_poised ..).trans (fence_poised ..))) (withdraw_follows _)
  case halt => exact .trans (.of_poised ((degreq_poised ..).trans (fence_poised ..))) (halt_follows _)

/-- The events followed through `k` levels change no more than withdrawals and halts do. -/
def RaisesFollow (k : Nat) : Prop :=
  ∀ (x : Live) (src unit : Nat) (syn : Word) (inj : Option Bool) (entry : Nat),
    Follows x (Live.raiseN k x src unit syn inj entry)

section
variable {k : Nat} (hk : RaisesFollow k) (x : Live) (src : Nat)
include hk

theorem triggerStage_follows (cls : FaultClass) : Follows x (x.triggerStage k src cls) := by
  unfold Live.triggerStage
  generalize hr : (if x.triggers cls = true then _ else _ : Bool × Live) = r
  have hp : Follows x r.2 := by
    rw [← hr]
    split
    · exact .of_poised (trigger_poised ..)
    · exact .of_poised rfl
  dsimp only
  split
  · exact hp.trans (hk _ _ _ _ _ _)
  · exact hp

theorem notifyStage_follows (rea : Reaction) (e : EventRec) : Follows x (x.notifyStage k src rea e) := by
  unfold Live.notifyStage
  generalize hr : (if rea = .log then _ else _ : Option (Fin 64) × Live) = r
  have hp : Follows x r.2 := by
    rw [← hr]
    split
    · exact .of_poised rfl
    · exact .of_poised (notify_poised ..)
  dsimp only
  split
  · exact hp.trans (hk _ _ _ _ _ _)
  · exact hp

theorem reactStage_follows (unit : Nat) (inj : Option Bool) (entry : Nat) :
    Follows x (x.reactStage k src unit inj entry) := by
  unfold Live.reactStage
  split
  · exact .of_poised rfl
  · split
    · exact react_follows _ _ _ _
    · split
      · exact (react_follows _ _ _ _).trans (hk _ _ _ _ _ _)
      · exact react_follows _ _ _ _

end

/-- The events that follow from an event (R309, R440, R463) change no more than it does. -/
theorem raiseN_follows (k : Nat) : RaisesFollow k := by
  induction k with
  | zero => exact fun _ _ _ _ _ _ => .of_poised rfl
  | succ k ih =>
    intro x src unit syn inj entry
    rw [raiseN_succ]
    exact (((Follows.of_poised (record_poised ..)).trans (triggerStage_follows ih _ _ _)).trans
      (notifyStage_follows ih _ _ _ _)).trans (reactStage_follows ih _ _ _ _ _)

/-- A lane that is joined after an event has kept its authority state (R63, R291). -/
theorem raise_au_of_joined {x : Live} {src unit : Nat} {syn : Word} (h : (x.raise src unit syn).phase = .joined) :
    (x.raise src unit syn).au = x.au := by
  have e : (x.raise src unit syn).poised = x.poised := raiseN_follows 3 x src unit syn none _ h
  have au := congrArg (fun z : Live => z.au) e
  exact au

/-! ### Votes and mirroring -/

theorem capable_of_three {x : Live} (h : x.capables = 3) (o : LaneId) : x.capable o = true :=
  List.countP_eq_length.mp h o (by cases o <;> decide)

theorem demoteVote_of_deviates (x : Live) (hp : x.phase = .joined) (hr : x.au.role ∈ [.heel, .watch])
    (hd : x.au.demoting = false) (hv : x.deviates = true) (hm : x.au.mode ≠ .reduced) : x.demoteVote =
      { x with au := { x.au with
        demoting := true, demoteFor := x.au.holder, demoteTicks := 0, voteStands := false,
        demSent := satInc x.au.demSent } } := by
  have hr' : x.au.role = .heel ∨ x.au.role = .watch := by simpa using hr
  unfold Live.demoteVote
  rw [joined_of_phase hp, decide_eq_true hr', hd, hv]
  exact (if_pos rfl).trans (if_neg (fun h => hm h.1))

theorem voteFails_of_unsupported (x : Live) (hp : x.phase = .joined) (hd : x.au.demoting = true)
    (hs : x.au.voteStands = false) (ht : x.num Obj.compareTicks < x.au.demoteTicks) (hc : x.capables = 3) : x.voteFails =
      ({ x with au := { x.au.noDeviation with demoting := false, demoteFor := none } } : Live).makeFollower x.me true := by
  unfold Live.voteFails
  rw [joined_of_phase hp, hd, hs, decide_eq_true ht, decide_eq_true hc]
  rfl

/-- A word that differed in three blocks raises its event; Heel and a role-capable Watch change places (R67). -/
theorem mirrorRepeat_of_word (x : Live) (k : Nat) (hp : x.phase = .joined) (hr : x.au.role = .heel)
    (hk : x.au.mirRuns.findIdx? (fun n => decide (3 ≤ n)) = some k) : x.mirrorRepeat =
      let y := ({ x with au := { x.au with mirRuns := x.au.mirRuns.map (fun k => if 3 ≤ k then 0 else k) } } : Live).raise
        50 noUnit (BitVec.ofNat 32 k)
      match y.holderOf .watch with
      | some w => if y.joined && y.capable w then (y.setRole w .heel).setRole y.me .watch else y
      | none => y := by
  unfold Live.mirrorRepeat
  rw [hk]
  dsimp only
  rw [joined_of_phase hp, decide_eq_true hr]
  rfl

theorem setRole_mirRuns (x : Live) (o : LaneId) (r : Role) : (x.setRole o r).au.mirRuns = x.au.mirRuns := by
  obtain ⟨a, b, h⟩ := setRole_frame x o r
  rw [h]

theorem setRole_me (x : Live) (o : LaneId) (r : Role) : (x.setRole o r).me = x.me := by
  obtain ⟨a, b, h⟩ := setRole_frame x o r
  rw [h]

theorem setRole_phase (x : Live) (o : LaneId) (r : Role) : (x.setRole o r).phase = x.phase := by
  obtain ⟨a, b, h⟩ := setRole_frame x o r
  rw [h]

/-- Two roles exchanged, as the lanes stand after it. -/
theorem swap_roles (y : Live) (w : LaneId) (h : w ≠ y.me) :
    ((y.setRole w .heel).setRole y.me .watch).au.role = .watch ∧
      (((y.setRole w .heel).setRole y.me .watch).au.views[w.fin]).role = .heel := by
  have role : ∀ q, ((y.setRole w .heel).setRole y.me .watch).laneRole q = if q = y.me then .watch
      else if q = w then .heel else y.laneRole q := fun q => by rw [setRole_laneRole, setRole_laneRole]
  have hm : ((y.setRole w .heel).setRole y.me .watch).me = y.me := (setRole_me ..).trans (setRole_me ..)
  generalize (y.setRole w .heel).setRole y.me .watch = z at *
  refine ⟨?_, ?_⟩
  · rw [← me_role, hm, role, if_pos rfl]
  · rw [← laneRole_of_ne z w (hm.symm ▸ h), role, if_neg h, if_pos rfl]

/-- Settles O13. -/
theorem votesAndMirrorSwap : Obligations.VotesAndMirrorSwap := by
  unfold Obligations.VotesAndMirrorSwap
  refine ⟨fun l s hp hr hd hv hm => runsTo_onLive rfl (demoteVote_of_deviates _ hp hr hd hv hm),
    fun l s hp hd hs ht hc => ?_, fun l k s hp hr hk => ?_⟩
  · refine runs_onLive rfl ?_
    dsimp only
    rw [voteFails_of_unsupported _ hp hd hs ht hc]
    have hf : (s.lane l).live.au.follower = false := by
      have := capable_of_three hc (s.lane l).live.me
      unfold Live.capable Live.laneFollower at this
      rw [if_pos rfl] at this
      simpa using (Bool.and_eq_true_iff.mp this).2
    obtain ⟨a, e, h1, h2, h3, h4⟩ := makeFollower_me { (s.lane l).live with
      au := { (s.lane l).live.au.noDeviation with demoting := false, demoteFor := none } } true hf
    rw [e]
    exact ⟨rfl, rfl, h1, h2, h3, h4, rfl, rfl, rfl⟩
  · refine runs_onLive rfl ?_
    dsimp only
    rw [mirrorRepeat_of_word _ k hp hr hk]
    generalize (s.lane l).live = x at *
    dsimp only
    generalize hy : Live.raise _ 50 noUnit (BitVec.ofNat 32 k) = y
    have runs : y.au.mirRuns = x.au.mirRuns.map (fun k => if 3 ≤ k then 0 else k) :=
      hy ▸ raise_keeps _ _ _ _ (fun z => z.au.mirRuns)
    refine ⟨rfl, rfl, ?_, fun w hw hc hne hj => ?_⟩
    · split
      · split
        · rw [setRole_mirRuns, setRole_mirRuns, runs]
        · exact runs
      · exact runs
    · have me : y.me = x.me := by rw [← hy, raise_me]
      have phase : y.phase = .joined := by
        split at hj
        · split at hj
          · rwa [setRole_phase, setRole_phase] at hj
          · exact hj
        · exact hj
      have au : y.au = { x.au with mirRuns := x.au.mirRuns.map (fun k => if 3 ≤ k then 0 else k) } :=
        (hy ▸ raise_au_of_joined (hy.symm ▸ phase : (Live.raise _ 50 noUnit (BitVec.ofNat 32 k)).phase = .joined))
      have watch : y.holderOf .watch = some w := by
        unfold Live.holderOf Live.sees Live.laneRole Live.joined at hw ⊢
        rw [me, phase.trans hp.symm, au]
        exact hw
      have able : y.capable w = true := by
        unfold Live.capable Live.sees Live.laneFollower Live.joined at hc ⊢
        rw [me, phase.trans hp.symm, au]
        exact hc
      rw [watch]
      dsimp only
      rw [joined_of_phase phase, able]
      exact swap_roles y w (me.symm ▸ hne)

end Sys2Proof.Machine
end

section
/-!
PROOF SUPPORT. Joining, the end of STARTUP and the lone lane (R29, R42, R43, R61, R63), and standstill, the descent limit,
boost and controlled stops (R70, R71, R74, R151).
-/

namespace Sys2Proof.Machine

/-! ### Joining -/

/-- A lane that joins runs its tick program with its gates released (R43, R502). -/
theorem joinOwn_spec (x : Live) :
    x.joinOwn.phase = .joined ∧ x.joinOwn.en.running = true ∧ x.joinOwn.gd.forcedLow = false ∧
      x.joinOwn.sf.inst = Vector.replicate 24 {} ∧ x.joinOwn.au = x.au ∧ x.joinOwn.tk = x.tk := by
  unfold Live.joinOwn
  dsimp only
  generalize hy : ({ x with phase := .joined, gd := _, en := _, fc := _ } : Live) = y
  obtain ⟨en, ps, e, hr⟩ := startProgram_spec y
  rw [e]
  subst hy
  simp only [settle_phase, settle_en, settle_forcedLow, settle_sf, settle_au, settle_tk, hr, and_self]

theorem laneJoin_own (x : Live) (hp : x.phase = .loaded) (ha : x.admits = true) (hh : x.su.halt = false) :
    x.laneJoin x.me true = x.joinOwn := by
  unfold Live.laneJoin
  rw [if_pos rfl, if_pos hp, ha, hh]
  rfl

/-- A peer whose link was lost returns to service with its next valid record (R29, R77). -/
theorem laneJoin_peer (x : Live) (o : LaneId) (same : Bool) (d : LinkDir) (ho : o ≠ x.me) (hd : x.me.linkTo o = some d)
    (hp : x.phase ∈ [.joined, .loaded]) (hm : x.au.mode ≠ .descent) (hl : (x.rx d).lost = true) : x.laneJoin o same =
      (x.modRx d (fun r => { r.drop with
        lost := false, inService := false, missRun := 0, last := none, prior := none })).modView o
          (fun v => { v with joined := false, lost := false, rejoins := satInc v.rejoins }) := by
  have hs : x.listens = true := decide_eq_true (by simpa using hp)
  unfold Live.laneJoin Live.joinPeer
  rw [if_neg ho, hs, hd]
  dsimp only
  rw [if_pos rfl, if_neg hm, hl]
  rfl

/-! ### The end of STARTUP -/

theorem startThread_poised (x : Live) (t : Fin 128) : (x.startThread t).poised = x.poised := by
  unfold Live.startThread
  rw [makeReady_poised, modThread_poised]

theorem autostart_poised (x : Live) : x.autostart.poised = x.poised :=
  foldl_poised _ (fun y t => by split <;> simp only [startThread_poised]) _ x

theorem poised_au {x y : Live} (h : x.poised = y.poised) : x.au = y.au := by
  have e := congrArg (fun z : Live => z.au) h
  exact e

theorem poised_inst {x y : Live} (h : x.poised = y.poised) : x.sf.inst = y.sf.inst := by
  have e := congrArg (fun z : Live => z.sf.inst) h
  exact e

theorem setBus_all_frame {α : Type} (f : α → Nat) (g : α → F32) (ks : List α) (x : Live) :
    ∃ en, ks.foldl (fun (y : Live) k => y.setBus (f k) (g k)) x = { x with en := en } := by
  induction ks generalizing x with
  | nil => exact ⟨x.en, rfl⟩
  | cons k ks ih => exact ih (x.setBus (f k) (g k))

theorem statesOut_frame (x : Live) :
    ∃ en, forAll 24 (fun i (y : Live) => y.setBus (352 + i.val) (F32.ofNat (y.sfApplied i))) x = { x with en := en } := by
  refine forAll_keeps _ (fun y => ∃ en, y = { x with en := en }) ?_ _ ⟨x.en, rfl⟩
  rintro i y ⟨en, rfl⟩
  exact ⟨_, rfl⟩

/-- What the end of STARTUP leaves of the authority state and of the safety functions (R323). -/
theorem leaveStartup_spec (x : Live) : x.leaveStartup.au = { x.au with startupOver := true } ∧
    x.leaveStartup.sf.inst = Vector.replicate 24 {} := by
  unfold Live.leaveStartup
  dsimp only
  generalize hy : ({ x with en := _, sf := _, au := _ } : Live) = y
  generalize List.range 256 = ks
  obtain ⟨en, h1⟩ := statesOut_frame y
  rw [h1]
  obtain ⟨en', h2⟩ := setBus_all_frame (fun k => 768 + k)
    (fun k => BitVec.ofNat 32 (natAt (x.bytes Obj.appDefaults) (4 * k) 4)) ks { y with en := en }
  rw [h2]
  have hp := autostart_poised { y with en := en' }
  have inst : y.sf.inst = Vector.replicate 24 {} := by rw [← hy]
  have au : y.au = { x.au with startupOver := true } := by rw [← hy]
  have e1 := poised_au hp
  have e2 := poised_inst hp
  rw [e1, e2]
  exact ⟨au, inst⟩

theorem soutUpdate_frame (x : Live) (n : Fin 4) : ∃ o i, x.soutUpdate n =
    { x with sf := { x.sf with sout := o, incomplete := i } } := by
  unfold Live.soutUpdate
  dsimp only
  split
  · exact soutOff_frame x n
  · split
    · exact ⟨_, x.sf.incomplete, rfl⟩
    · exact ⟨x.sf.sout, x.sf.incomplete, rfl⟩

/-- Bringing the safety outputs up to date changes them and the count of incomplete pulses alone (R331). -/
theorem soutUpdates_frame (x : Live) : ∃ o i, x.soutUpdates = { x with sf := { x.sf with sout := o, incomplete := i } } := by
  refine forAll_keeps _ (fun y => ∃ o i, y = { x with sf := { x.sf with sout := o, incomplete := i } }) ?_ x
    ⟨x.sf.sout, x.sf.incomplete, rfl⟩
  rintro n y ⟨o, i, rfl⟩
  obtain ⟨o', i', h⟩ := soutUpdate_frame { x with sf := { x.sf with sout := o, incomplete := i } } n
  exact ⟨o', i', h⟩

theorem soutUpdates_au (x : Live) : x.soutUpdates.au = x.au := by
  obtain ⟨o, i, h⟩ := soutUpdates_frame x
  rw [h]

theorem soutUpdates_inst (x : Live) : x.soutUpdates.sf.inst = x.sf.inst := by
  obtain ⟨o, i, h⟩ := soutUpdates_frame x
  rw [h]

theorem setBus_au (x : Live) (e : Nat) (v : F32) : (x.setBus e v).au = x.au := rfl

theorem setBus_sf (x : Live) (e : Nat) (v : F32) : (x.setBus e v).sf = x.sf := rfl

/-- STANDBY after STARTUP has no actions of its own but the mode's bus entry and the outputs (R70). -/
theorem enterMode_startup_standby (x : Live) (h : x.au.mode = .startup) :
    (x.enterMode .standby).au = { x.au with mode := .standby } ∧ (x.enterMode .standby).sf.inst = x.sf.inst := by
  have e : x.enterMode .standby =
      (({ x with au := { x.au with mode := .standby } } : Live).setBus 376 (F32.ofNat Mode.standby.code)).settle.soutUpdates := by
    unfold Live.enterMode
    simp only [h, reduceCtorEq, if_false, if_true, false_and]
  rw [e, soutUpdates_au, soutUpdates_inst, settle_au, settle_sf, setBus_au, setBus_sf]
  exact ⟨rfl, rfl⟩

theorem setRoles_frame (f : LaneId → Role) (ls : List LaneId) (x : Live) :
    ∃ a b, ls.foldl (fun (y : Live) o => y.setRole o (f o)) x = { x with au := { x.au with role := a, views := b } } := by
  induction ls generalizing x with
  | nil => exact ⟨x.au.role, x.au.views, rfl⟩
  | cons o ls ih =>
    obtain ⟨a, b, h⟩ := setRole_frame x o (f o)
    obtain ⟨a', b', h'⟩ := ih (x.setRole o (f o))
    exact ⟨a', b', h'.trans (by rw [h])⟩

/-- Roles by rank: the mode and what STARTUP has set stand (R42). -/
theorem assignByRank_spec (x : Live) : ∃ a, x.assignByRank = { x with au := a } ∧ a.mode = x.au.mode ∧
    a.ownMode = x.au.ownMode ∧ a.startupOver = x.au.startupOver := by
  unfold Live.assignByRank
  dsimp only
  generalize hy : List.foldl _ x allLanes = y
  have frame : ∃ a b, y = { x with au := { x.au with role := a, views := b } } := hy ▸ setRoles_frame _ _ _
  obtain ⟨a, b, rfl⟩ := frame
  split
  · unfold Live.takeLeash
    split
    · exact ⟨_, rfl, rfl, rfl, rfl⟩
    · exact ⟨_, rfl, rfl, rfl, rfl⟩
  · exact ⟨_, rfl, rfl, rfl, rfl⟩

theorem startupEnd_of_due (x : Live) (hp : x.phase = .joined) (hm : x.au.mode = .startup) (ho : x.au.startupOver = false)
    (hd : x.due (x.au.startedAt + ms 400) = true ∨ allLanes.all x.sees = true) : x.startupEnd =
      (({ x.leaveStartup with au := { x.leaveStartup.au with ownMode := .standby } } : Live).enterMode
        .standby).assignByRank := by
  unfold Live.startupEnd
  rw [joined_of_phase hp, decide_eq_true hm, ho, Bool.or_eq_true_iff.mpr hd]
  exact if_pos rfl

theorem startupEnd_spec (x : Live) (hp : x.phase = .joined) (hm : x.au.mode = .startup) (ho : x.au.startupOver = false)
    (hd : x.due (x.au.startedAt + ms 400) = true ∨ allLanes.all x.sees = true) :
    x.startupEnd.au.mode = .standby ∧ x.startupEnd.au.startupOver = true ∧ x.startupEnd.au.ownMode = .standby ∧
      x.startupEnd.sf.inst = Vector.replicate 24 {} := by
  obtain ⟨hau, hinst⟩ := leaveStartup_spec x
  rw [startupEnd_of_due x hp hm ho hd]
  generalize hy : ({ x.leaveStartup with au := { x.leaveStartup.au with ownMode := .standby } } : Live) = y
  have ym : y.au.mode = .startup := by rw [← hy, hau]; exact hm
  obtain ⟨eau, einst⟩ := enterMode_startup_standby y ym
  obtain ⟨a, e, h1, h2, h3⟩ := assignByRank_spec (y.enterMode .standby)
  rw [e]
  dsimp only
  rw [h1, h2, h3, eau, einst, ← hy]
  dsimp only
  rw [hau, hinst]
  exact ⟨rfl, rfl, rfl, rfl⟩

/-! ### The lone lane -/

/-- `y` differs from `x` in its authority state, but not in the mode that it computes. -/
def SameBut (x y : Live) : Prop := ∃ a, y = { x with au := a } ∧ a.ownMode = x.au.ownMode

theorem takeLeash_sameBut (x : Live) : SameBut x x.takeLeash := by
  unfold Live.takeLeash
  split
  · exact ⟨x.au, rfl, rfl⟩
  · exact ⟨_, rfl, rfl⟩

theorem takeLeash_holding (x : Live) : x.takeLeash.au.holding = true := by
  unfold Live.takeLeash
  split
  · next h => exact h
  · rfl

theorem moveUp_sameBut (x : Live) : SameBut x x.moveUp := by
  obtain ⟨a, b, h⟩ := closeRanks_frame x
  unfold Live.moveUp
  rw [h]
  dsimp only
  split
  · obtain ⟨c, e, hc⟩ := takeLeash_sameBut { x with au := { x.au with role := a, views := b } }
    rw [e]
    exact ⟨_, rfl, hc⟩
  · exact ⟨_, rfl, rfl⟩

theorem countFault_sameBut (x : Live) (k : FaultKind) (o : LaneId) (n : Nat) : SameBut x (x.countFault k o n) := by
  unfold Live.countFault
  dsimp only
  split
  · exact ⟨_, rfl, rfl⟩
  · exact ⟨x.au, rfl, rfl⟩

theorem SameBut.trans {x y z : Live} (h : SameBut x y) (h' : SameBut y z) : SameBut x z := by
  obtain ⟨a, rfl, ha⟩ := h
  obtain ⟨b, rfl, hb⟩ := h'
  exact ⟨b, rfl, hb.trans ha⟩

theorem loseLane_sameBut (x : Live) (o : LaneId) : SameBut x (x.loseLane o) := by
  unfold Live.loseLane
  split
  · exact ⟨x.au, rfl, rfl⟩
  · have view : SameBut x (x.modView o (fun v => { v with
        lost := true, role := .none, follower := false, netblind := false, netOk := false })) := ⟨_, rfl, rfl⟩
    dsimp only
    split
    · exact view.trans (moveUp_sameBut _)
    · exact view.trans ((countFault_sameBut ..).trans (moveUp_sameBut _))

theorem loseLanes_sameBut (x : Live) (ls : List LaneId) : SameBut x (ls.foldl (fun (y : Live) o => y.loseLane o) x) := by
  induction ls generalizing x with
  | nil => exact ⟨x.au, rfl, rfl⟩
  | cons o ls ih => exact (loseLane_sameBut x o).trans (ih _)

/-- A lone lane that heard its own device withdraws (R61). -/
theorem loneEnd_of_heard (x : Live) (k : Nat) (hp : x.phase = .joined) (hs : x.au.loneSince = some k)
    (hn : x.au.noLease = false) (hh : x.au.loneHeard = true) : x.loneEnd = x.withdraw := by
  unfold Live.loneEnd
  rw [hs]
  dsimp only
  rw [joined_of_phase hp, hn, hh]
  rfl

/-- A lone lane that has heard nothing of its device for two cycles (R61). -/
theorem loneEnd_of_silence (x : Live) (k : Nat) (hp : x.phase = .joined) (hs : x.au.loneSince = some k)
    (hn : x.au.noLease = false) (hh : x.au.loneHeard = false) (hi : x.integrated = true) (hf : x.au.follower = false)
    (hk : k + 2 * x.num Obj.cycleTicks ≤ x.ticks) : x.loneEnd =
      let y := (x.me.others.foldl (fun (y : Live) o => y.loseLane o) x).takeLeash
      let z : Live := { y with au := { y.au with role := .lead, noLease := true } }
      if z.au.ownMode = .operational ∨ z.au.ownMode = .reduced then z.wantMode .descent else z := by
  unfold Live.loneEnd
  rw [hs]
  dsimp only
  rw [joined_of_phase hp, hn, hh, hi, hf, if_neg (by decide), if_neg (by decide), if_neg (Nat.not_lt.mpr hk)]

theorem loneEnd_spec (x : Live) (k : Nat) (hp : x.phase = .joined) (hs : x.au.loneSince = some k)
    (hn : x.au.noLease = false) (hh : x.au.loneHeard = false) (hi : x.integrated = true) (hf : x.au.follower = false)
    (hk : k + 2 * x.num Obj.cycleTicks ≤ x.ticks) :
    x.loneEnd.phase = .joined ∧ x.loneEnd.au.role = .lead ∧ x.loneEnd.au.noLease = true ∧
      x.loneEnd.au.holding = true ∧ x.loneEnd.au.ownMode = (match x.au.ownMode with
        | .operational | .reduced => Mode.descent | m => m) := by
  rw [loneEnd_of_silence x k hp hs hn hh hi hf hk]
  obtain ⟨a, e, ha⟩ := (loseLanes_sameBut x x.me.others).trans (takeLeash_sameBut _)
  have held := takeLeash_holding (x.me.others.foldl (fun (y : Live) o => y.loseLane o) x)
  rw [e] at held ⊢
  rw [← ha]
  dsimp only
  split
  · next h => exact ⟨hp, rfl, rfl, held, by rcases h with h | h <;> rw [h] <;> rfl⟩
  · next h =>
    refine ⟨hp, rfl, rfl, held, ?_⟩
    revert h
    cases a.ownMode <;> simp

/-- Settles O14. -/
theorem joinStartupAndLoneLane : Obligations.JoinStartupAndLoneLane := by
  unfold Obligations.JoinStartupAndLoneLane
  refine ⟨fun l s hp ha hv hh => ?_, fun l o d s ho hd hp hm hl => ?_, fun l s hp hm ho hd => ?_,
    fun l k s hp hs hn hh => ?_, fun l k s hp hs hn hh hi hf hk => ?_⟩
  · refine runs_onLive rfl ?_
    dsimp only
    rw [hv, laneJoin_own _ hp ha hh]
    exact ⟨rfl, rfl, joinOwn_spec _⟩
  · refine runs_onLive rfl ?_
    dsimp only
    rw [laneJoin_peer _ o _ d ho hd hp hm hl]
    generalize (s.lane l).live = x
    unfold Live.modView
    refine ⟨rfl, rfl, ?_, ?_, ?_, ?_, ?_, ?_, ?_, ?_⟩
    case refine_4 => exact congrArg LaneView.joined (vmod_self ..)
    case refine_5 => exact congrArg LaneView.lost (vmod_self ..)
    case refine_6 => cases d <;> exact congrArg LaneView.rejoins (vmod_self ..)
    all_goals cases d <;> rfl
  · exact runs_onLive rfl ⟨rfl, rfl, startupEnd_spec _ hp hm ho hd⟩
  · obtain ⟨w, q, o, i, e, hq⟩ := withdraw_spec (s.lane l).live (.inl hp)
    refine runs_onLive rfl ?_
    dsimp only
    rw [loneEnd_of_heard _ k hp hs hn hh]
    exact ⟨rfl, rfl, by rw [e], by rw [e], hq⟩
  · exact runs_onLive rfl ⟨rfl, rfl, loneEnd_spec _ k hp hs hn hh hi hf hk⟩

/-! ### Standstill, descent, boost, stops -/

theorem stillFound_of_due (x : Live) (t : Nat) (hp : x.phase = .joined) (hs : x.au.stillSince = some t)
    (hd : x.due (t + x.stillCond.2) = true) (hm : x.au.ownMode ≠ .descent) : x.stillFound =
      ({ x with au := { x.au with standstill := true } } : Live).setBus 377 (F32.ofNat 1) := by
  unfold Live.stillFound
  rw [hs]
  dsimp only
  rw [joined_of_phase hp, hd]
  exact (if_pos rfl).trans (if_neg hm)

theorem descentOver_of_due (x : Live) (t : Nat) (he : x.au.descentEnd = some t) (hm : x.au.ownMode = .descent)
    (hd : x.due t = true) (hg : x.au.gap = false) :
    x.descentOver = { x with au := { x.au with ownMode := .safe } } := by
  unfold Live.descentOver
  rw [he]
  dsimp only
  rw [if_pos ⟨hm, hd⟩]
  exact if_neg (hg ▸ Bool.false_ne_true)

theorem boostOver_of_due (x : Live) (p : Fin 8) (t : Nat) (he : x.au.boostEnd[p] = some t) (hd : x.due t = true) :
    x.boostOver p = { x with au := { x.au with
      boostEnd := vmod x.au.boostEnd p (fun _ => none), boostRamp := vmod x.au.boostRamp p (fun _ => some t) } } := by
  unfold Live.boostOver
  rw [he]
  exact if_pos hd

section
variable (x : Live) (g : Fin 24) (hs : (x.fc.groups[g]).stopped = false)
  (hv : F32.lt (F32.abs (x.fc.groups[g]).speed) (F32.mul (F32.dec 5 3) (x.real Obj.groupMaxSpeed g.val)) = true)
include hs hv

theorem stopReached_category2 (hu : (x.fc.groups[g]).stop = some .category2) :
    x.stopReached g = x.modGroup g (fun q => { q with stopped := true }) := by
  unfold Live.stopReached
  dsimp only
  rw [hu, hs, hv]
  rfl

theorem stopReached_groupReaction (p : Fin 8) (hu : (x.fc.groups[g]).stop = some .groupReaction)
    (hp : x.portOf g = some p) :
    x.stopReached g = (x.modGroup g (fun q => { q with stopped := true })).freeWinding p := by
  have hp' : (x.modGroup g (fun q => { q with stopped := true })).portOf g = some p := hp
  unfold Live.stopReached
  dsimp only
  rw [hu, hs, hv]
  dsimp only
  rw [hp']
  rfl

end

/-- Only the stop of category 1 ends in SAFE (R70). -/
theorem stopDone_of_other (x : Live) (h : x.sf.category ≠ some 1) : x.stopDone = x := if_neg (fun e => h e.1)

/-- The gates of a winding that is torque-free are not switched by its loop (R148, R215). -/
theorem gateMode_torqueFree (x : Live) (p : Fin 8) (h : (x.fc.wind[p]).ws = .torqueFree) : x.gateMode p ≠ .pwm := by
  have free : ∀ b, torqueFree b ≠ .pwm := fun b => by cases b <;> exact nofun
  have calm : x.calmMode p ≠ .pwm := by
    unfold Live.calmMode
    dsimp only
    rw [h]
    exact free _
  unfold Live.gateMode
  dsimp only
  repeat' split
  all_goals first | exact free _ | exact calm | exact nofun

theorem settlePort_gate (x : Live) (p : Fin 8) (h : (x.fc.wind[p]).ws = .torqueFree) :
    ((x.settlePort p).gd.ports[p]).mode ≠ .pwm := by
  unfold Live.settlePort
  dsimp only
  generalize hy : Live.modWind x p _ = y
  have hw : (y.fc.wind[p]).ws = .torqueFree := by
    rw [← hy]
    exact (congrArg WindingSt.ws (vmod_self ..)).trans h
  show ((vmod y.gd.ports p _)[p]).mode ≠ .pwm
  rw [vmod_self]
  exact gateMode_torqueFree y p hw

/-- A winding made torque-free (R148). -/
theorem freeWinding_spec (x : Live) (p : Fin 8) (h : (x.fc.wind[p]).ws ∈ [.running, .stopping]) :
    ∃ w q, x.freeWinding p = { x with fc := { x.fc with wind := w }, gd := { x.gd with ports := q } } ∧
      ((x.freeWinding p).fc.wind[p]).ws = .torqueFree ∧ ((x.freeWinding p).gd.ports[p]).mode ≠ .pwm := by
  have e : x.freeWinding p = (x.park p .torqueFree).settlePort p := by
    unfold Live.freeWinding
    split
    · next hw => exact absurd (hw ▸ h) (by decide)
    · next hw => exact absurd (hw ▸ h) (by decide)
    · next hw => exact absurd (hw ▸ h) (by decide)
    · rfl
  have hw : ((x.park p .torqueFree).fc.wind[p]).ws = .torqueFree := congrArg WindingSt.ws (vmod_self ..)
  rw [e]
  obtain ⟨w, q, f⟩ := settlePort_frame (x.park p .torqueFree) p
  exact ⟨w, q, f, (settlePort_ws ..).trans hw, settlePort_gate _ p hw⟩

/-- Settles O16. -/
theorem standstillDescentBoostStop : Obligations.StandstillDescentBoostStop := by
  unfold Obligations.StandstillDescentBoostStop
  refine ⟨fun l t s hp hs hd hm => runsTo_onLive rfl (stillFound_of_due _ t hp hs hd hm),
    fun l t s he hm hd hg => runsTo_onLive rfl (descentOver_of_due _ t he hm hd hg),
    fun l p t s he hd => runsTo_onLive rfl (boostOver_of_due _ p t he hd),
    fun l g s hu hs hc hv => ?_, fun l g p s hu hs hc hv hp hw => ?_⟩
  · refine runsTo_onLive rfl ?_
    rw [stopReached_category2 _ g hs hv hu]
    exact stopDone_of_other _ hc
  · refine runs_onLive rfl ?_
    rw [stopReached_groupReaction _ g hs hv p hu hp]
    obtain ⟨w, q, e, h1, h2⟩ := freeWinding_spec ((s.lane l).live.modGroup g (fun q => { q with stopped := true })) p hw
    rw [stopDone_of_other _ (by rw [e]; exact hc)]
    refine ⟨rfl, rfl, ?_, h1, h2, ?_, ?_⟩
    · rw [e]
      exact congrArg GroupSt.stopped (vmod_self ..)
    · rw [e]; rfl
    · rw [e]; rfl

end Sys2Proof.Machine
end

section
/-!
PROOF SUPPORT. The double short (R202, R204) and the end of a retry wait (R206, R216).
-/

namespace Sys2Proof.Machine

/-! ### The double short -/

/-- `y` keeps the tick, the converted codes and the protection of every port of `x`. -/
structure KeepsPorts (x y : Live) : Prop where
  tk : y.tk = x.tk
  codes : y.aq.codes = x.aq.codes
  ports : ∀ q : Fin 8, (y.gd.ports[q]).guard = (x.gd.ports[q]).guard

theorem KeepsPorts.trans {x y z : Live} (h : KeepsPorts x y) (h' : KeepsPorts y z) : KeepsPorts x z :=
  ⟨h'.tk.trans h.tk, h'.codes.trans h.codes, fun q => (h'.ports q).trans (h.ports q)⟩

theorem keepsPorts_of_steady {x y : Live} (h : y.steady = x.steady) : KeepsPorts x y := by
  have tk := congrArg (fun z : Live => z.tk) h
  have codes := congrArg (fun z : Live => z.aq.codes) h
  exact ⟨tk, codes, steady_ports h⟩

/-- Losing a winding counts a fault and raises its event (R77, R205). -/
theorem loseWinding_keepsPorts (x : Live) (p : Fin 8) (syn : Word) : KeepsPorts x (x.loseWinding p syn) := by
  unfold Live.loseWinding
  dsimp only
  generalize hz : (if (x.fc.wind[p]).ws = .kennelled then x else x.park p .lost) = z
  have parked : z.steady = x.steady := by
    rw [← hz]
    split
    · rfl
    · exact park_steady ..
  obtain ⟨a, h⟩ := countFault_frame (z.settlePort p) .winding z.me p.val
  have counted : KeepsPorts (z.settlePort p) ((z.settlePort p).countFault .winding z.me p.val) := by
    rw [h]
    exact ⟨rfl, rfl, fun _ => rfl⟩
  exact (keepsPorts_of_steady ((settlePort_steady ..).trans parked)).trans
    (counted.trans (keepsPorts_of_steady (raise_steady ..)))

theorem doubleShort_keepsPorts (x : Live) (p : Fin 8) (leg : Fin 24) :
    KeepsPorts (x.modPort p (fun q => { q with fault := some .doubleShort, double := true, waitEnd := none }))
      (x.doubleShort p leg) := by
  unfold Live.doubleShort
  refine .trans (keepsPorts_of_steady ?_) (loseWinding_keepsPorts ..)
  rw [raise_steady, settlePort_steady]

/-- The protection of a port after a hard-short trip is counted (R198, R202). -/
def PortSt.hardShort (now : Nat) (ph : Fin 3) (q : PortSt) : PortSt :=
  { (q.marked now) with
    trips := satInc q.trips, hardTrips := satInc q.hardTrips, hard := true,
    legs := vmod q.legs ph (fun g => { g with shorted := true }) }

/-- A second trip of a bridge (R202). -/
theorem shortTrip_second (x : Live) (leg : Fin 24) (side : Side)
    (hd : (x.gd.ports[legPort leg]).fault ≠ some .doubleShort)
    (h : (x.gd.ports[legPort leg]).fault = some .short ∨ x.inAsc (legPort leg) = true) : x.shortTrip leg side true =
      (x.modPort (legPort leg) (PortSt.hardShort x.clk (legPhase leg))).doubleShort (legPort leg) leg := by
  unfold Live.shortTrip
  dsimp only
  rw [if_neg hd, if_pos (by rw [Bool.or_eq_true, decide_eq_true_iff]; exact h)]
  rfl

theorem hardTrip_bridge (x : Live) (leg : Fin 24) (side : Side) (hs : x.sensing = true) (hc : x.conducts leg side = true) :
    x.hardTrip (.bridge leg side) = x.shortTrip leg side true := by
  unfold Live.hardTrip
  rw [hs]
  dsimp only
  rw [hc]
  rfl

theorem modPort_port (x : Live) (p : Fin 8) (f : PortSt → PortSt) : (x.modPort p f).gd.ports[p] = f x.gd.ports[p] := vmod_self ..

theorem modPort_port_ne (x : Live) (p q : Fin 8) (f : PortSt → PortSt) (h : q ≠ p) :
    (x.modPort p f).gd.ports[q] = x.gd.ports[q] := vmod_other _ _ _ _ h.symm

/-- Settles O18. -/
theorem secondTripIsADoubleShort : Obligations.SecondTripIsADoubleShort := by
  unfold Obligations.SecondTripIsADoubleShort
  intro l leg side s hs hc hd h
  refine runs_onLive rfl ?_
  dsimp only
  rw [hardTrip_bridge _ leg side hs hc, shortTrip_second _ leg side hd h]
  refine ⟨rfl, rfl, ?_⟩
  generalize (s.lane l).live = x
  have keeps := doubleShort_keepsPorts (x.modPort (legPort leg) (PortSt.hardShort x.clk (legPhase leg))) (legPort leg) leg
  have port := keeps.ports (legPort leg)
  rw [modPort_port, modPort_port] at port
  refine ⟨?_, ?_, ?_, ?_, keeps.tk, keeps.codes, fun q hq => ?_⟩
  · exact congrArg PortSt.fault port
  · exact congrArg PortSt.double port
  · exact congrArg PortSt.waitEnd port
  · exact congrArg PortSt.hardTrips port
  · exact (keeps.ports q).trans (by rw [modPort_port_ne _ _ _ _ hq, modPort_port_ne _ _ _ _ hq])

/-! ### The end of a retry wait -/

theorem modPort_congr (x : Live) (p : Fin 8) {f g : PortSt → PortSt} (h : f x.gd.ports[p] = g x.gd.ports[p]) :
    x.modPort p f = x.modPort p g := by
  unfold Live.modPort vmod
  rw [h]

theorem settlePort_port_ne (x : Live) (p q : Fin 8) (h : q ≠ p) :
    (x.settlePort p).gd.ports[q] = x.gd.ports[q] ∧ (x.settlePort p).fc.wind[q] = x.fc.wind[q] :=
  ⟨vmod_other _ _ _ _ h.symm, vmod_other _ _ _ _ h.symm⟩

theorem sniffNext_frame (x : Live) : ∃ w, x.sniffNext = { x with wi := w } := by
  unfold Live.sniffNext
  dsimp only
  split
  · exact ⟨_, rfl⟩
  · split
    · exact ⟨_, rfl⟩
    · exact ⟨_, rfl⟩

/-- Dropping a winding's sniff test changes the wiring diagnostics alone (R236). -/
theorem sniffForget_frame (x : Live) (p : Fin 8) : ∃ w, x.sniffForget p = { x with wi := w } := by
  unfold Live.sniffForget
  dsimp only
  split
  · split
    · obtain ⟨w, h⟩ := sniffNext_frame _
      exact ⟨w, h⟩
    · exact ⟨_, rfl⟩
  · exact ⟨_, rfl⟩

/-- What the start of a catch leaves (R149). -/
structure Catches (x y : Live) (p : Fin 8) : Prop where
  ws : (y.fc.wind[p]).ws = .measuring
  au : y.au = x.au
  tk : y.tk = x.tk
  port : (y.gd.ports[p]).guard = (x.gd.ports[p]).guard
  others : ∀ q : Fin 8, q ≠ p → y.gd.ports[q] = x.gd.ports[q] ∧ y.fc.wind[q] = x.fc.wind[q]

theorem startCatch_catches (x : Live) (p : Fin 8) (h : x.heldBack p = false) : Catches x (x.startCatch p) p := by
  obtain ⟨w, e⟩ := sniffForget_frame x p
  unfold Live.startCatch
  rw [h, e]
  generalize hy : Live.modWind _ p _ = y
  have ports : y.gd.ports = x.gd.ports := by rw [← hy]; rfl
  have au : y.au = x.au := by rw [← hy]; rfl
  have tk : y.tk = x.tk := by rw [← hy]; rfl
  have ws : (y.fc.wind[p]).ws = .measuring := by
    rw [← hy]
    refine (congrArg WindingSt.ws (vmod_self ..)).trans ?_
    exact congrArg WindingSt.ws (vmod_self ..)
  have wind : ∀ q : Fin 8, q ≠ p → y.fc.wind[q] = x.fc.wind[q] := by
    intro q hq
    rw [← hy]
    exact (vmod_other _ _ _ _ hq.symm).trans (vmod_other _ _ _ _ hq.symm)
  refine ⟨(settlePort_ws ..).trans ws, au, tk, ?_, fun q hq => ?_⟩
  · exact (steady_ports (settlePort_steady y p) p).trans (by rw [ports])
  · obtain ⟨h1, h2⟩ := settlePort_port_ne y p q hq
    exact ⟨h1.trans (by rw [ports]), h2.trans (wind q hq)⟩

/-- A try made now is recent (R206). -/
theorem recentTries_append_now (now : Nat) (ts : List Nat) : recentTries now (ts ++ [now]) = recentTries now ts ++ [now] := by
  unfold recentTries
  rw [List.filter_append]
  simp

section
variable (x : Live) (p : Fin 8) (bad : Bool) (t : Nat) (hw : (x.gd.ports[p]).waitEnd = some t) (hd : x.due t = true)
include hw hd

/-- In SAFE and STANDBY the retry is given up (R216). -/
theorem retryEnd_of_rest (hm : x.au.mode = .safe ∨ x.au.mode = .standby) :
    x.retryEnd p bad = x.modPort p (fun q => { q with waitEnd := none }) := by
  unfold Live.retryEnd
  rw [hw]
  dsimp only
  rw [hd]
  exact if_pos hm

variable (h1 : x.au.mode ≠ .safe) (h2 : x.au.mode ≠ .standby)
include h1 h2

theorem retryEnd_of_blocked (hb : x.blocked = true) : x.retryEnd p bad = x := by
  unfold Live.retryEnd
  rw [hw]
  dsimp only
  rw [hd]
  exact (if_neg Bool.false_ne_true).trans ((if_neg (not_or.mpr ⟨h1, h2⟩)).trans (if_pos hb))

variable (hb : x.blocked = false)
include hb

/-- A try: the gate still reads on, or the fault is cleared and the winding starts its catch (R206). -/
theorem retryEnd_of_free : x.retryEnd p bad =
    let now := max x.clk t
    let y := x.modPort p (fun q => { q with tries := q.tries ++ [now] })
    if (y.gd.ports[p]).fault = some .gate ∧ bad = true then y.retryHead p now
    else
      let z := y.modPort p (fun q => { q.cleared with retries := satInc q.retries, retrying := true })
      if (z.fc.wind[p]).ws = .torqueFree then z.startCatch p else z.settlePort p := by
  unfold Live.retryEnd
  rw [hw]
  dsimp only
  rw [hd]
  exact (if_neg Bool.false_ne_true).trans ((if_neg (not_or.mpr ⟨h1, h2⟩)).trans
    (if_neg (hb ▸ Bool.false_ne_true)))

/-- A gate that still reads on counts a try, and the wait begins again (R206). -/
theorem retryEnd_of_gate (hn : t ≤ x.clk) (hg : (x.gd.ports[p]).fault = some .gate)
    (hc : (recentTries x.clk (x.gd.ports[p]).tries).length + 1 < x.num Obj.portRetryCount p.val) :
    x.retryEnd p true = x.modPort p (fun q => { q with
      tries := recentTries x.clk (q.tries ++ [x.clk]),
      waitEnd := some (x.clk + ms (x.num Obj.portRetryWait p.val)) }) := by
  rw [retryEnd_of_free x p true t hw hd h1 h2 hb]
  dsimp only
  rw [Nat.max_eq_left hn, if_pos ⟨by rw [modPort_port]; exact hg, rfl⟩]
  unfold Live.retryHead
  dsimp only
  rw [modPort_port]
  dsimp only
  rw [if_neg, modPort_modPort]
  · exact modPort_congr x p rfl
  · rw [recentTries_append_now, List.length_append]
    exact Nat.not_le.mpr hc

/-- A retry clears the fault, is counted and starts the catch of a winding that waits torque-free (R206). -/
theorem retryEnd_of_torqueFree (hf : (x.fc.wind[p]).ws = .torqueFree) : x.retryEnd p false =
    (x.modPort p (fun q => { (PortSt.cleared { q with tries := q.tries ++ [max x.clk t] }) with
      retries := satInc q.retries, retrying := true })).startCatch p := by
  rw [retryEnd_of_free x p false t hw hd h1 h2 hb]
  dsimp only
  rw [if_neg (fun h => Bool.false_ne_true h.2), modPort_modPort]
  exact if_pos hf

end

/-- Settles O19. -/
theorem retryWaitEnds : Obligations.RetryWaitEnds := by
  unfold Obligations.RetryWaitEnds
  refine ⟨fun l p bad t s hw hd hm => runsTo_onLive rfl (retryEnd_of_rest _ p bad t hw hd hm),
    fun l p bad t s hw hd h1 h2 hb => runsTo_onLive rfl (retryEnd_of_blocked _ p bad t hw hd h1 h2 hb),
    fun l p t s hw hn h1 h2 hb hg hc => ?_, fun l p t s hw hd h1 h2 hb hf hh => ?_⟩
  · have hd : (s.lane l).live.due t = true := due_iff.mpr (hn.trans (Nat.le_max_left ..))
    exact runsTo_onLive rfl (retryEnd_of_gate _ p t hw hd h1 h2 hb hn hg hc)
  · refine runs_onLive rfl ?_
    dsimp only
    rw [retryEnd_of_torqueFree _ p t hw hd h1 h2 hb hf]
    refine ⟨rfl, rfl, ?_⟩
    generalize (s.lane l).live = x at *
    generalize hy : Live.modPort x p _ = y
    have c : Catches y (y.startCatch p) p := startCatch_catches y p (by rw [← hy]; exact hh)
    have port : y.gd.ports[p] = { (PortSt.cleared { x.gd.ports[p] with
        tries := (x.gd.ports[p]).tries ++ [max x.clk t] }) with
      retries := satInc (x.gd.ports[p]).retries, retrying := true } := by
      rw [← hy, modPort_port]
    have kept := c.port
    rw [port] at kept
    refine ⟨?_, ?_, ?_, ?_, c.ws, ?_, ?_, fun q hq => ?_⟩
    · exact congrArg PortSt.fault kept
    · exact congrArg PortSt.waitEnd kept
    · exact congrArg PortSt.retries kept
    · exact congrArg PortSt.tries kept
    · exact c.au.trans (by rw [← hy]; rfl)
    · exact c.tk.trans (by rw [← hy]; rfl)
    · obtain ⟨g1, g2⟩ := c.others q hq
      refine ⟨g1.trans ?_, g2.trans ?_⟩
      · rw [← hy, modPort_port_ne _ _ _ _ hq]
      · rw [← hy]; rfl

end Sys2Proof.Machine
end

section
/-!
PROOF SUPPORT. Windows of the engine (R90, R97, R109) and setpoint inputs (R106, R107).
-/

namespace Sys2Proof.Machine

/-! ### One run of a slot -/

theorem bus_setBus (x : Live) (e : Nat) (v : F32) : (x.setBus e v).bus e = v := NMap.read_write_self ..

theorem bus_setBus_ne (x : Live) (e k : Nat) (v : F32) (h : e ≠ k) : (x.setBus k v).bus e = x.bus e :=
  NMap.read_write_other _ _ _ _ _ h

theorem raise_bus (x : Live) (src unit : Nat) (syn : Word) (e : Nat) : (x.raise src unit syn).bus e = x.bus e :=
  raise_keeps x src unit syn (fun z => z.bus e)

theorem raise_late (x : Live) (src unit : Nat) (syn : Word) : (x.raise src unit syn).en.late = x.en.late :=
  raise_keeps x src unit syn (fun z => z.en.late)

/-- A setpoint from another source than a trajectory runs no generator (R103, R105). -/
theorem setpoint_no_trajectory (x : Live) (k : Nat) (q : SlotSt) (y : F32) (h : (x.sourceNow k).1 ≠ 3) :
    (x.setpoint k q y).2 = none := by
  unfold Live.setpoint
  dsimp only
  split
  · rfl
  · split
    · rfl
    · rfl
    · rfl
    · next h3 => exact absurd h3 h
    · rfl
    · rfl

/-- What a run without a generator writes: the slot's state, its output, and the event of conflicting limits (R97). -/
theorem pidRun_put (x : Live) (k : Nat) (h : (x.sourceNow k).1 ≠ 3) : ∃ (q : List Word → SlotSt) (c : Bool),
    ∀ ws y, (x.pidRun k).put ws y =
      let z := (y.modSlot k (fun _ => q ws)).setBus k (ws.getD 0 0)
      if c then z.raise 98 k else z := by
  have none2 := setpoint_no_trajectory x k (x.slot k) (x.slotY k) h
  unfold Live.pidRun
  dsimp only
  generalize x.setpoint k (x.slot k) (x.slotY k) = sp at none2 ⊢
  obtain ⟨a, b⟩ := sp
  obtain rfl : b = none := none2
  exact ⟨_, _, fun ws y => rfl⟩

/-- A run without upsets and without an armed injection (R273, R278). -/
theorem passes_plain (x : Live) (ch n : Nat) (ws : List Word) (put : List Word → Live → Live) (h : x.fl.armed = none) :
    x.passes ch n ws [] put = (put ws x).feed (Fin.ofNat 32 ch) ws ws := by
  unfold Live.passes Live.delayEcc Live.injected
  rw [h]
  rfl

/-- What a run leaves of the bus, of the late marks and of the tick. -/
structure Outputs (x n : Live) (k : Nat) : Prop where
  out : n.bus k = (x.pidRun k).words.headD 0
  others : ∀ e : Nat, e ≠ k → n.bus e = x.bus e
  late : n.en.late = x.en.late
  tk : n.tk = x.tk

theorem getD_zero_eq_headD (ws : List Word) : ws.getD 0 0 = ws.headD 0 := by cases ws <;> rfl

theorem pidRun_outputs (x : Live) (w n k : Nat) (h : (x.sourceNow k).1 ≠ 3) (ha : x.fl.armed = none) :
    Outputs x ((x.passes w n (x.pidRun k).words [] (x.pidRun k).put).markAuth k) k := by
  obtain ⟨q, c, hput⟩ := pidRun_put x k h
  rw [passes_plain _ _ _ _ _ ha, hput]
  dsimp only
  generalize hz : (x.modSlot k (fun _ => q (x.pidRun k).words)).setBus k ((x.pidRun k).words.getD 0 0) = z
  have out : z.bus k = (x.pidRun k).words.headD 0 := by rw [← hz, bus_setBus, getD_zero_eq_headD]
  have others : ∀ e : Nat, e ≠ k → z.bus e = x.bus e := fun e he => by rw [← hz, bus_setBus_ne _ _ _ _ he]; rfl
  have late : z.en.late = x.en.late := by rw [← hz]; rfl
  have tk : z.tk = x.tk := by rw [← hz]; rfl
  have fed : ∀ y : Live, Outputs x y k →
      Outputs x ((y.feed (Fin.ofNat 32 w) (x.pidRun k).words (x.pidRun k).words).markAuth k) k :=
    fun y h => ⟨h.out, h.others, h.late, h.tk⟩
  refine fed _ ?_
  cases c
  · exact ⟨out, others, late, tk⟩
  · exact ⟨(raise_bus ..).trans out, fun e he => (raise_bus ..).trans (others e he), (raise_late ..).trans late,
      (raise_tk ..).trans tk⟩

/-- A due slot without a group that is not held runs in its place of the program (R97, R100). -/
theorem runSlot_of_due (x : Live) (w n k : Nat) (us : List Upset) (hk : x.num Obj.slotKind k ≠ 7) (hd : x.slotDue k = true)
    (hh : x.runHeld k = false) (hg : x.slotGroupOf k = none) :
    x.runSlot w n k us = (x.passes w n (x.pidRun k).words us (x.pidRun k).put).markAuth k := by
  have hold : x.takeHold k = x := by unfold Live.takeHold; rw [hg]
  unfold Live.runSlot
  rw [hold]
  dsimp only
  rw [hd, hh, if_neg hk]
  rfl

/-! ### Windows -/

/-- A window without upsets, its peak kept (R90, R123). -/
def Live.withPeak (x : Live) (w : Fin 8) (used : Nat) : Live :=
  { x with en := { x.en with
    peaks := vmod x.en.peaks w (fun _ => BitVec.ofNat 16 (max (x.en.peaks[w]).toNat (min 8000 used))) } }

/-- A window with one item (R90). -/
theorem engineWindow_single (x : Live) (w : Fin 8) (stall : Nat) (i : EItem) (hg : x.goesOn = true)
    (hi : x.winItems w = [i]) : x.engineWindow w stall [] =
      Live.runItems w.val [] (x.withPeak w (x.itemCost i + (stall + x.retryStall w))) (stall + x.retryStall w) 0 [i] := by
  unfold Live.engineWindow
  rw [hg, hi]
  dsimp only
  rw [List.any_nil, Bool.or_false]
  rfl

theorem runItems_single (x : Live) (w t n : Nat) (us : List Upset) (i : EItem) (hg : x.goesOn = true) :
    Live.runItems w us x t n [i] = if x.inTime w i (t + x.itemCost i) then x.runItem w n us i
      else if x.itemDue i then { x with en := { x.en with late := setBit x.en.late i.num true } } else x := by
  unfold Live.runItems
  rw [hg]
  refine (if_neg Bool.false_ne_true).trans ?_
  dsimp only
  split
  · rfl
  · rfl

section
variable (x : Live) (w : Fin 8) (used : Nat)

/-- The peak of a window is read by no item of the window. -/
theorem withPeak_inTime (n t : Nat) (i : EItem) : (x.withPeak w used).inTime n i t = x.inTime n i t := rfl
theorem withPeak_itemCost (i : EItem) : (x.withPeak w used).itemCost i = x.itemCost i := rfl
theorem withPeak_itemDue (i : EItem) : (x.withPeak w used).itemDue i = x.itemDue i := rfl
theorem withPeak_goesOn : (x.withPeak w used).goesOn = x.goesOn := rfl
theorem withPeak_words (k : Nat) : ((x.withPeak w used).pidRun k).words = (x.pidRun k).words := rfl

variable (stall : Nat) (i : EItem) (hg : x.goesOn = true) (hi : x.winItems w = [i])
include hg hi

/-- An item that is late at its commit point is abandoned and marked (R109). -/
theorem engineWindow_late (ht : x.inTime w.val i (stall + x.retryStall w + x.itemCost i) = false)
    (hd : x.itemDue i = true) : x.engineWindow w stall [] =
      let y := x.withPeak w (x.itemCost i + (stall + x.retryStall w))
      { y with en := { y.en with late := setBit y.en.late i.num true } } := by
  rw [engineWindow_single x w stall i hg hi, runItems_single _ _ _ _ _ _ ((withPeak_goesOn ..).trans hg),
    withPeak_itemCost, withPeak_inTime, withPeak_itemDue, ht, hd]
  rfl

theorem engineWindow_done (ht : x.inTime w.val i (stall + x.retryStall w + x.itemCost i) = true) :
    x.engineWindow w stall [] = (x.withPeak w (x.itemCost i + (stall + x.retryStall w))).runItem w.val 0 [] i := by
  rw [engineWindow_single x w stall i hg hi, runItems_single _ _ _ _ _ _ ((withPeak_goesOn ..).trans hg),
    withPeak_itemCost, withPeak_inTime, ht]
  rfl

end

/-- Settles O25. -/
theorem windowsRunOrAbandonItems : Obligations.WindowsRunOrAbandonItems := by
  unfold Obligations.WindowsRunOrAbandonItems
  refine ⟨fun l w stall i s hg hi ht hd => runsTo_onLive rfl (engineWindow_late _ w stall i hg hi ht hd),
    fun l w stall k s hg hi hk hn ht hd hh ho hs ha => ?_, fun l k s h => runsTo_onLive rfl (if_pos h),
    fun l s h => runsTo_onZero rfl h rfl⟩
  refine runs_onLive rfl ?_
  dsimp only
  generalize (s.lane l).live = x at *
  rw [engineWindow_done x w stall _ hg hi ht]
  have words := withPeak_words x w (x.itemCost (.slot k) + (stall + x.retryStall w)) k
  generalize hy : x.withPeak w (x.itemCost (.slot k) + (stall + x.retryStall w)) = y at words ⊢
  have run : y.runItem w.val 0 [] (.slot k) = (y.passes w.val 0 (y.pidRun k).words [] (y.pidRun k).put).markAuth k :=
    (if_neg (fun e => hk e.1)).trans (runSlot_of_due y w.val 0 k [] (hy ▸ hn) (hy ▸ hd) (hy ▸ hh) (hy ▸ ho))
  have o := pidRun_outputs y w.val 0 k (hy ▸ hs) (hy ▸ ha)
  rw [run]
  refine ⟨rfl, rfl, o.out.trans (by rw [words]), o.late.trans ?_, o.tk.trans ?_, fun e he => (o.others e he).trans ?_⟩
  all_goals rw [← hy]; rfl

/-! ### Setpoint inputs -/

theorem ainTimeout_of_due (x : Live) (i : Fin 4) (t : Nat) (hb : (x.en.ain[i]).broken = some t)
    (hi : (x.en.ain[i]).invalid = false) (hd : x.due (t + ms (x.num Obj.ainFaultTime)) = true) : x.ainTimeout i =
      ({ x with en := { x.en with ain := vmod x.en.ain i (fun q => { q with invalid := true }) } } : Live).raise 101 i.val
        (if (x.en.ain[i]).value.isNone then 2 else 1) := by
  unfold Live.ainTimeout
  dsimp only
  rw [hb]
  dsimp only
  rw [hi, hd, Bool.or_true]
  rfl

/-- An edge that stands long enough (R107). -/
theorem psetEdge_count (x : Live) (a b : Bool) (ph width : Nat) (ha : x.awake = true)
    (hw : 2 * x.num Obj.psetMinPulse ≤ width * 5) :
    (x.psetEdge a b ph width).en.pset.count =
        x.en.pset.count + BitVec.ofInt 32 (psetStep (x.num Obj.psetForm) x.en.pset a b) ∧
      (x.psetEdge a b ph width).en.pset.lineA = a ∧ (x.psetEdge a b ph width).en.pset.lineB = b ∧
      (x.psetEdge a b ph width).en.pset.edgeAt = some (x.start + ph) ∧
      (x.psetEdge a b ph width).en.bus = x.en.bus ∧ (x.psetEdge a b ph width).tk = x.tk := by
  unfold Live.psetEdge
  rw [ha, decide_eq_false (Nat.not_lt.mpr hw)]
  exact ⟨rfl, rfl, rfl, rfl, rfl, rfl⟩

theorem psetEdge_short (x : Live) (a b : Bool) (ph width : Nat) (hw : width * 5 < 2 * x.num Obj.psetMinPulse) :
    x.psetEdge a b ph width = x := by
  unfold Live.psetEdge
  rw [decide_eq_true hw, Bool.or_true]
  rfl

/-- A rising edge in the step form counts by the second line (R107). -/
theorem psetStep_step (q : PsetSt) (b : Bool) (h : q.lineA = false) :
    psetStep 0 q true b = if Config.stepUp b then 1 else -1 := by
  unfold psetStep
  rw [h]
  rfl

/-- One line's edge in the quadrature form counts one in its direction (R107). -/
theorem psetStep_quadrature (q : PsetSt) (up : Bool) :
    BitVec.ofInt 32 (psetStep 1 q (if up = (q.lineA == q.lineB) then !q.lineA else q.lineA)
      (if up = (q.lineA == q.lineB) then q.lineB else !q.lineB)) = if up then 1 else -1 := by
  unfold psetStep
  cases q.lineA <;> cases q.lineB <;> cases up <;> rfl

theorem psetTimeout_of_due (x : Live) (t : Nat) (he : x.en.pset.edgeAt = some t)
    (hd : x.due (t + ms (x.num Obj.psetTimeout)) = true) : x.psetTimeout =
      { x with en := { x.en with pset := { x.en.pset with freq := 0, duty := 0, riseAt := none } } } := by
  unfold Live.psetTimeout
  rw [he]
  exact if_pos hd

/-- Settles O27. -/
theorem setpointInputs : Obligations.SetpointInputs := by
  unfold Obligations.SetpointInputs
  refine ⟨fun l i t s hb hi hd => runsEv_raise rfl (ainTimeout_of_due _ i t hb hi hd) trivial,
    fun l a b ph width s hw => runsTo_onLive rfl (psetEdge_short _ a b ph width hw),
    fun l b ph width s ha hw hf hl => ?_, fun l up ph width s ha hw hf => ?_,
    fun l t s he hd => runsTo_onLive rfl (psetTimeout_of_due _ t he hd)⟩
  · obtain ⟨h1, h2⟩ := psetEdge_count (s.lane l).live true b ph width ha hw
    rw [hf, psetStep_step _ b hl] at h1
    exact runs_onLive rfl ⟨rfl, rfl, h1, h2⟩
  · obtain ⟨h1, -, -, -, -, h6⟩ := psetEdge_count (s.lane l).live _ _ ph width ha hw
    rw [hf, psetStep_quadrature] at h1
    exact runs_onLive rfl ⟨rfl, rfl, h1, h6⟩

end Sys2Proof.Machine
end

section
/-!
PROOF SUPPORT. Wiring diagnostics (R228 to R241) and the sampling of the power stage (R165 to R183).
-/

namespace Sys2Proof.Machine

/-! ### Wiring diagnostics -/

/-- Counting a fault depends on the steady part of a lane and changes it alike (R77). -/
theorem countFault_steady {x y : Live} (h : x.steady = y.steady) (k : FaultKind) (o : LaneId) (n : Nat) :
    (x.countFault k o n).steady = (y.countFault k o n).steady := by
  have count : ∀ z : Live, (z.countFault k o n).steady = z.steady.countFault k o n := by
    intro z
    have hf : z.steady.au.faultsOn = z.au.faultsOn ∧ z.steady.au.faults = z.au.faults := ⟨rfl, rfl⟩
    unfold Live.countFault
    dsimp only
    rw [hf.1, hf.2]
    split
    · rfl
    · rfl
  rw [count, count, h]

/-- A winding lost counts fault W (R77, R141). -/
theorem loseWinding_steady (x : Live) (p : Fin 8) (syn : Word) :
    (x.loseWinding p syn).steady = (x.countFault .winding x.me p.val).steady := by
  unfold Live.loseWinding
  dsimp only
  rw [raise_steady]
  have parked : (if (x.fc.wind[p]).ws = .kennelled then x else x.park p .lost).steady = x.steady := by
    split
    · rfl
    · exact park_steady ..
  have me : (if (x.fc.wind[p]).ws = .kennelled then x else x.park p .lost).me = x.me := by split <;> rfl
  rw [me]
  exact countFault_steady ((settlePort_steady ..).trans parked) ..

theorem sumFault_steady (x : Live) (p : Fin 8) (hn : 16 ≤ (x.fc.wind[p]).isumRuns) (hu : (x.fc.wind[p]).inUse = true) :
    (x.sumFault p).steady = (({ x with wi := { x.wi with isum := setBit x.wi.isum p.val true } } : Live).countFault .winding
      x.me p.val).steady := by
  have e : x.sumFault p = (({ x with wi := { x.wi with isum := setBit x.wi.isum p.val true } } : Live).raise
      (windSource p 5) noUnit).loseWinding p 4 := by
    unfold Live.sumFault Live.phaseFault
    rw [if_pos hn]
    exact if_pos hu
  rw [e, loseWinding_steady, raise_me]
  exact countFault_steady (raise_steady ..) ..

theorem vsensFault_of_sensing (x : Live) (kind : Fin 3) (h : x.sensing = true) : x.vsensFault kind =
    ({ x with wi := { x.wi with
      vsensUv := x.wi.vsensUv || decide (kind.val = 0), vsensOv := x.wi.vsensOv || decide (kind.val = 1),
      vsensOc := x.wi.vsensOc || decide (kind.val = 2) } } : Live).raiseOpen 9 .contained noUnit := by
  unfold Live.vsensFault
  rw [if_pos h]
  unfold Live.modWiring
  have kinds : kind = 0 ∨ kind = 1 ∨ kind = 2 := by omega
  rcases kinds with rfl | rfl | rfl <;> dsimp only <;> simp

theorem cableTest_of_standby (x : Live) (path : Path) (v : Byte) (hw : x.writes = true) (hv : v.toNat ≤ 2)
    (hs : x.standby = true) : x.cableTest path v = ({ x with wi := { x.wi with
      cableRunA := x.wi.cableRunA || decide (v ≠ 2), cableRunB := x.wi.cableRunB || decide (v ≠ 1) } } : Live).accept
        (some path) := by
  unfold Live.cableTest
  rw [decide_eq_true hv, hs]
  exact onGuard_of_ok hw path _

theorem shift_of_sensing (x : Live) (hs : x.sensing = true) (hg : x.wi.gndShift = false) : x.shift =
    (({ x with wi := { x.wi with gndShift := true, sniff := none, queue := [] } } : Live).settle).raise 4 noUnit := by
  unfold Live.shift
  rw [hs, hg]
  rfl

theorem shiftOver_of_shift (x : Live) (hg : x.wi.gndShift = true) (hp : x.phase ≠ .withdrawn) :
    x.shiftOver = ({ x with wi := { x.wi with gndShift := false } } : Live).settle := by
  unfold Live.shiftOver
  rw [if_pos hg]
  exact if_neg hp

/-- Settles O24. -/
theorem wiringDiagnostics : Obligations.WiringDiagnostics := by
  unfold Obligations.WiringDiagnostics
  refine ⟨fun l p s hn hu => runsEv_onLive rfl (sumFault_steady _ p hn hu) trivial, fun l kind s h => ?_,
    fun l path v s hw hv hs => runsTo_onLive rfl (cableTest_of_standby _ path v hw hv hs),
    fun l r b d s => ⟨fun h => runsTo_onLive rfl (if_pos h), fun h => runsTo_onLive rfl (if_pos h)⟩,
    fun l n kind s h => runsEv_raise rfl (if_pos h) trivial, fun l n kind s => runsTo_onLive rfl rfl,
    fun l s hs hg => ?_, fun l s hg hp => ?_, fun l s h => runsTo_onZero rfl h rfl⟩
  · refine runsEv_onLive rfl ?_ trivial
    dsimp only
    rw [vsensFault_of_sensing _ kind h, raiseOpen_steady]
  · refine runsEv_onLive rfl ?_ trivial
    dsimp only
    rw [shift_of_sensing _ hs hg, raise_steady, settle_steady]
  · refine runs_onLive rfl ?_
    dsimp only
    rw [shiftOver_of_shift _ hg hp]
    refine ⟨rfl, rfl, ?_, ?_, ?_, ?_⟩
    · rw [settle_wi]
    · rw [settle_phase]
    · rw [settle_au]
    · rw [settle_tk]

/-! ### Bits of a vector -/

theorem getLsbD_setBit {w : Nat} (v : BitVec w) (i j : Nat) (b : Bool) (h : j < w) :
    (setBit v i b).getLsbD j = if i = j then b else v.getLsbD j := by
  have bit : (BitVec.ofNat w (2 ^ i)).getLsbD j = decide (i = j) := by
    rw [BitVec.getLsbD_ofNat, decide_eq_true h, Bool.true_and, Nat.testBit_two_pow]
  unfold setBit
  cases b
  · rw [if_neg Bool.false_ne_true, BitVec.getLsbD_and, BitVec.getLsbD_not, bit, decide_eq_true h]
    by_cases e : i = j <;> simp [e]
  · rw [if_pos rfl, BitVec.getLsbD_or, bit]
    by_cases e : i = j <;> simp [e]

/-! ### Shunts -/

theorem portLeg_ne (p : Fin 8) {a b : Fin 3} (h : a ≠ b) : portLeg p a ≠ portLeg p b := by
  unfold portLeg
  intro e
  exact h (Fin.ext (by have := congrArg Fin.val e; dsimp only at this; omega))

/-- A conversion that passes its first check is not a retry (R165). -/
theorem retried_first (a : AcqSt) (c : Conv) (p : Fin 8) (h : c.first = true) : a.retried c p = a := if_pos h

/-- A shunt conversion in the span of the converter becomes a current (R176). -/
theorem shuntRead_good (x : Live) (leg : Fin 24) (c : Conv) (hf : c.first = true) (hs : saturated c.code = false) :
    x.shuntRead leg c = { x with aq := { x.aq with
      codes := x.aq.codes.write 0 leg.val (c.code.setWidth 16),
      shuntA := vmod x.aq.shuntA leg (fun _ => x.shuntAmps leg c.code),
      shuntOk := setBit x.aq.shuntOk leg.val true } } := by
  unfold Live.shuntRead
  rw [retried_first _ _ _ hf, hf, hs]
  rfl

/-- A saturated one leaves no valid current (R166). -/
theorem shuntRead_saturated (x : Live) (leg : Fin 24) (c : Conv) (hf : c.first = true) (hs : saturated c.code = true) :
    x.shuntRead leg c = { x with aq := { x.aq with
      codes := x.aq.codes.write 0 leg.val (c.code.setWidth 16), sats := satInc x.aq.sats,
      shuntOk := setBit x.aq.shuntOk leg.val false } } := by
  unfold Live.shuntRead
  rw [retried_first _ _ _ hf, hf, hs]
  rfl

/-- What the rest of a sample instant leaves: the codes of other channels than the link's, the shunts and their offsets,
the tick, and what the angle source of a winding depends on. -/
def Live.shunts (x : Live) (e : Nat) :=
  (x.aq.codes.read 0 e, x.aq.shuntA, x.aq.shuntOk, x.aq.lateConv, x.aq.offs, x.tk, x.cfg, x.me, x.fc.groups)

theorem raise_shunts (x : Live) (src unit : Nat) (syn : Word) (e : Nat) : (x.raise src unit syn).shunts e = x.shunts e :=
  raise_keeps x src unit syn (fun z => z.shunts e)

theorem settle_shunts (x : Live) (e : Nat) : x.settle.shunts e = x.shunts e := by
  obtain ⟨w, q, h⟩ := settle_frame x
  rw [h]
  rfl

theorem gd_shunts (x : Live) (g : GateSt) (e : Nat) : ({ x with gd := g } : Live).shunts e = x.shunts e := rfl

theorem suspend_shunts (x : Live) (e : Nat) : x.suspend.shunts e = x.shunts e := by
  refine forAll_keeps _ (fun y : Live => y.shunts e = x.shunts e) (fun p y h => ?_) x rfl
  split
  · exact h
  · exact h

theorem ladderFire_shunts (x : Live) (e : Nat) : x.ladderFire.shunts e = x.shunts e := by
  have h := suspend_shunts x e
  unfold Live.ladderFire
  generalize x.suspend = y at h ⊢
  split
  · rfl
  · dsimp only
    rw [raise_shunts, settle_shunts]
    refine forAll_keeps _ (fun z : Live => z.shunts e = x.shunts e) (fun p z hz => ?_) _ ?_
    · exact hz
    · exact h

theorem absFire_shunts (x : Live) (e : Nat) : x.absFire.shunts e = x.shunts e := by
  have h := ladderFire_shunts x e
  unfold Live.absFire
  generalize x.ladderFire = y at h ⊢
  split
  · rfl
  · dsimp only
    rw [settle_shunts, raise_shunts]
    refine (gd_shunts _ _ e).trans ?_
    refine forAll_keeps _ (fun z : Live => z.shunts e = x.shunts e) (fun p z hz => ?_) _ ?_
    · exact hz
    · exact h

/-- The chopper's switching changes the gate drive alone (R207). -/
theorem chopSwitch_frame (x : Live) (v : F32) (t : Nat) : ∃ g, x.chopSwitch v t = { x with gd := g } := by
  unfold Live.chopSwitch
  dsimp only
  generalize hy : (if F32.lt v (F32.sub (x.real Obj.vChOn) (x.real Obj.chHyst)) = true then
    ({ x with gd := { x.gd with chForced := false } } : Live) else x) = y
  have hf : ∃ g, y = { x with gd := g } := by
    rw [← hy]
    split
    · exact ⟨_, rfl⟩
    · exact ⟨x.gd, rfl⟩
  obtain ⟨g, rfl⟩ := hf
  refine iteInduction (motive := fun z : Live => ∃ g, z = { x with gd := g }) (fun _ => ⟨g, rfl⟩) (fun _ => ?_)
  exact iteInduction (motive := fun z : Live => ∃ g, z = { x with gd := g }) (fun _ => ⟨g, rfl⟩) (fun _ => ⟨_, rfl⟩)

theorem chopSwitch_shunts (x : Live) (v : F32) (t e : Nat) : (x.chopSwitch v t).shunts e = x.shunts e := by
  obtain ⟨g, h⟩ := chopSwitch_frame x v t
  rw [h]
  rfl

theorem linkRule_shunts (x : Live) (v : F32) (t e : Nat) : (x.linkRule v t).shunts e = x.shunts e := by
  unfold Live.linkRule
  split
  · split
    · rfl
    · have h := suspend_shunts x e
      dsimp only
      rw [settle_shunts]
      generalize x.suspend = y at h ⊢
      exact h
  · split
    · rfl
    · rfl

/-- A conversion of the link voltage leaves the shunts alone (R166, R207 to R212). -/
theorem linkRead_shunts (x : Live) (c : Conv) (t dt e : Nat) (h : e ≠ 168) : (x.linkRead c t dt).shunts e = x.shunts e := by
  have converted : ∀ (y : Live) (code : Code), (y.linkConverted code t dt).shunts e = y.shunts e := by
    intro y code
    unfold Live.linkConverted
    dsimp only
    generalize (if code = 0x3FFF then F32.ofNat 90 else F32.ofRatio (code.toNat * 90) 16384) = v
    generalize ha : Live.chopSwitch _ v t = a
    have h1 : a.shunts e = y.shunts e := by
      rw [← ha, chopSwitch_shunts]
      exact congrArg (fun r => (r, y.aq.shuntA, y.aq.shuntOk, y.aq.lateConv, y.aq.offs, y.tk, y.cfg, y.me, y.fc.groups))
        (NMap.read_write_other _ _ _ _ _ h)
    generalize hb : (if F32.ge v (a.real Obj.vAsc) = true then a.ladderFire else a) = b
    have h2 : b.shunts e = y.shunts e := by
      rw [← hb]
      split
      · exact (ladderFire_shunts a e).trans h1
      · exact h1
    rw [linkRule_shunts]
    exact iteInduction (motive := fun z : Live => z.shunts e = y.shunts e) (fun _ => (absFire_shunts _ e).trans h2)
      (fun _ => h2)
  unfold Live.linkRead
  dsimp only
  have counted : (if c.first = true then x else ({ x with aq := { x.aq with retries := satInc x.aq.retries } } : Live)).shunts
      e = x.shunts e := by
    split <;> rfl
  split
  · exact (converted _ _).trans counted
  · exact counted

/-- The source of a winding's angle depends on the configuration and on its group alone (R137). -/
theorem sourceOf_of_shunts {x y : Live} {e : Nat} (h : y.shunts e = x.shunts e) (p : Fin 8) : y.sourceOf p = x.sourceOf p := by
  unfold Live.shunts at h
  simp only [Prod.mk.injEq] at h
  obtain ⟨-, -, -, -, -, -, hcfg, hme, hg⟩ := h
  unfold Live.sourceOf Live.groupOf Live.groupOfLane Live.portOfLane Live.num Live.bytes
  rw [hcfg, hme, hg]

/-- The sample instant of a winding whose gates switch (R163, R165): after its three shunts nothing changes them. -/
theorem sampleInstant_shunts (x : Live) (p : Fin 8) (smp : Sample) (e : Nat) (hs : x.sensing = true)
    (hg : (x.groupOf p).isSome = true) (hm : (x.gd.ports[p]).mode = .pwm) (h4 : x.sourceOf p ≠ some 4) (he : e ≠ 168)
    (y : Live)
    (hy : y = ((({ x with aq := { x.aq with lateConv := setBit x.aq.lateConv p.val false } } : Live).shuntRead
      (portLeg p 0) smp.iu).shuntRead (portLeg p 1) smp.iv).shuntRead (portLeg p 2) smp.iw)
    (hsame : y.sourceOf p = x.sourceOf p) : (x.sampleInstant p smp).shunts e = y.shunts e := by
  unfold Live.sampleInstant
  rw [hs, hg, decide_eq_false (by rw [hm]; exact nofun)]
  dsimp only
  rw [← hy]
  generalize hz : y.linkRead smp.link _ _ = z
  have kept : z.shunts e = y.shunts e := by rw [← hz, linkRead_shunts _ _ _ _ _ he]
  have pair : z.pairRead p smp = z := by
    have no : z.usesPair p = false := decide_eq_false (by rw [sourceOf_of_shunts kept p, hsame]; exact h4)
    unfold Live.pairRead
    rw [no]
    rfl
  rw [pair]
  exact kept

theorem legPort_portLeg (p : Fin 8) (k : Fin 3) : legPort (portLeg p k) = p :=
  Fin.ext (by unfold legPort portLeg; dsimp only; omega)

/-- A shunt conversion that passes its first check, whatever its code: the other shunts stand. -/
theorem shuntRead_other (x : Live) (leg : Fin 24) (c : Conv) (hf : c.first = true) :
    ∃ a : AcqSt, x.shuntRead leg c = { x with aq := a } ∧
      (∀ e : Nat, e ≠ leg.val → a.codes.read 0 e = x.aq.codes.read 0 e) ∧
      (∀ g : Fin 24, g ≠ leg → a.shuntA[g] = x.aq.shuntA[g] ∧ a.shuntOk.getLsbD g.val = x.aq.shuntOk.getLsbD g.val) ∧
      a.lateConv = x.aq.lateConv ∧ a.offs = x.aq.offs := by
  have bit : ∀ (g : Fin 24) (b : Bool), g ≠ leg → (setBit x.aq.shuntOk leg.val b).getLsbD g.val = x.aq.shuntOk.getLsbD g.val :=
    fun g b h => (getLsbD_setBit _ _ _ _ g.isLt).trans (if_neg (fun e => h (Fin.ext e.symm)))
  cases hs : saturated c.code
  · exact ⟨_, shuntRead_good x leg c hf hs, fun e he => NMap.read_write_other _ _ _ _ _ he,
      fun g hg => ⟨vmod_other _ _ _ _ hg.symm, bit g true hg⟩, rfl, rfl⟩
  · exact ⟨_, shuntRead_saturated x leg c hf hs, fun e he => NMap.read_write_other _ _ _ _ _ he,
      fun g hg => ⟨rfl, bit g false hg⟩, rfl, rfl⟩

/-- The three shunts of a sample whose first code is good and whose second is saturated (R165, R166, R176). -/
theorem shuntReads_spec (x : Live) (p : Fin 8) (smp : Sample) (fu : smp.iu.first = true) (fv : smp.iv.first = true)
    (fw : smp.iw.first = true) (su : saturated smp.iu.code = false) (sv : saturated smp.iv.code = true) :
    ∃ a : AcqSt, ((x.shuntRead (portLeg p 0) smp.iu).shuntRead (portLeg p 1) smp.iv).shuntRead (portLeg p 2) smp.iw =
        { x with aq := a } ∧
      a.codes.read 0 (3 * p.val) = smp.iu.code.setWidth 16 ∧
      a.shuntA[portLeg p 0] = F32.mul (F32.sub (countsOf smp.iu.code) x.aq.offs[portLeg p 0]) (x.ampsPerCount p) ∧
      a.shuntOk.getLsbD (3 * p.val) = true ∧ a.shuntOk.getLsbD (3 * p.val + 1) = false ∧
      a.lateConv = x.aq.lateConv ∧ a.offs = x.aq.offs := by
  have h01 : portLeg p 0 ≠ portLeg p 1 := portLeg_ne p (by decide)
  have h02 : portLeg p 0 ≠ portLeg p 2 := portLeg_ne p (by decide)
  have h12 : portLeg p 1 ≠ portLeg p 2 := portLeg_ne p (by decide)
  have v0 : (portLeg p 0).val = 3 * p.val := rfl
  have v1 : (portLeg p 1).val = 3 * p.val + 1 := rfl
  have v2 : (portLeg p 2).val = 3 * p.val + 2 := rfl
  rw [shuntRead_good x _ _ fu su, shuntRead_saturated _ _ _ fv sv]
  generalize hy : ({ x with aq := _ } : Live) = y
  have amps : y.aq.shuntA[portLeg p 0] =
      F32.mul (F32.sub (countsOf smp.iu.code) x.aq.offs[portLeg p 0]) (x.ampsPerCount p) := by
    rw [← hy]
    refine (vmod_self ..).trans ?_
    unfold Live.shuntAmps
    rw [legPort_portLeg]
  have code : y.aq.codes.read 0 (3 * p.val) = smp.iu.code.setWidth 16 := by
    rw [← hy]
    exact (NMap.read_write_other _ _ _ _ _ (by omega)).trans (NMap.read_write_self ..)
  have ok0 : y.aq.shuntOk.getLsbD (3 * p.val) = true := by
    rw [← hy]
    refine (getLsbD_setBit _ _ _ _ (by omega)).trans ((if_neg (by omega)).trans ?_)
    exact (getLsbD_setBit _ _ _ _ (by omega)).trans (if_pos v0)
  have ok1 : y.aq.shuntOk.getLsbD (3 * p.val + 1) = false := by
    rw [← hy]
    exact (getLsbD_setBit _ _ _ _ (by omega)).trans (if_pos v1)
  obtain ⟨a, e, hc, hg, hl, ho⟩ := shuntRead_other y (portLeg p 2) smp.iw fw
  refine ⟨a, e.trans (by rw [← hy]), (hc _ (by omega)).trans code, (hg _ h02).1.trans amps, (hg _ h02).2.trans ok0,
    (hg _ h12).2.trans ok1, hl.trans ?_, ho.trans ?_⟩
  · rw [← hy]
  · rw [← hy]

/-! ### Offsets -/

/-- A leg's offset moved by a 256th of the difference to a sample (R116). -/
def Live.trimmed (x : Live) (leg : Fin 24) (c : Code) : Live :=
  { x with aq := { x.aq with
    offs := vmod x.aq.offs leg (fun _ => F32.add x.aq.offs[leg] (F32.mul (F32.sub (countsOf c) x.aq.offs[leg])
      (F32.ofRatio 1 256))),
    trimHeld := setBit x.aq.trimHeld leg.val false } }

/-- An offset sample of a leg without a start-up value (R116, R179). -/
theorem trim_of_free (x : Live) (leg : Fin 24) (c : Code) (hc : saturated c = false) (hs : x.aq.start[leg] = none) :
    x.trim leg c = x.trimmed leg c := by
  unfold Live.trim
  rw [hc]
  dsimp only
  rw [hs]
  rfl

theorem peakSample_off (x : Live) (p : Fin 8) (cs : Vector Code 3) (hr : x.running = true)
    (h : x.ticks % x.num Obj.offsetTrimDiv ≠ 0 ∨ x.peakHigh p = false) : x.peakSample p cs = x := by
  unfold Live.peakSample
  rw [hr]
  rcases h with h | h
  · rw [decide_eq_false h]; rfl
  · rw [h, Bool.and_false]; rfl

/-- The offsets of a port's three legs after its peak triplet (R116, R179). -/
theorem peakSample_offs (x : Live) (p : Fin 8) (cs : Vector Code 3) (hr : x.running = true)
    (ht : x.ticks % x.num Obj.offsetTrimDiv = 0) (hp : x.peakHigh p = true)
    (hc : ∀ k : Fin 3, saturated cs[k] = false ∧ x.aq.start[portLeg p k] = none) :
    (∀ k : Fin 3, (x.peakSample p cs).aq.offs[portLeg p k] = F32.add x.aq.offs[portLeg p k]
      (F32.mul (F32.sub (countsOf cs[k]) x.aq.offs[portLeg p k]) (F32.ofRatio 1 256))) ∧
    (∀ g : Fin 24, legPort g ≠ p → (x.peakSample p cs).aq.offs[g] = x.aq.offs[g]) ∧
    (x.peakSample p cs).gd = x.gd ∧ (x.peakSample p cs).fl = x.fl := by
  have h01 : portLeg p 0 ≠ portLeg p 1 := portLeg_ne p (by decide)
  have h02 : portLeg p 0 ≠ portLeg p 2 := portLeg_ne p (by decide)
  have h12 : portLeg p 1 ≠ portLeg p 2 := portLeg_ne p (by decide)
  have own : ∀ (g : Fin 24) (k : Fin 3), legPort g ≠ p → portLeg p k ≠ g := by
    rintro g k h rfl
    exact h (Fin.ext (by unfold legPort portLeg; dsimp only; omega))
  have run : x.peakSample p cs =
      ((x.trim (portLeg p 0) cs[(0 : Fin 3)]).trim (portLeg p 1) cs[(1 : Fin 3)]).trim (portLeg p 2)
        cs[(2 : Fin 3)] := by
    unfold Live.peakSample
    rw [hr, decide_eq_true ht, hp]
    exact if_pos rfl
  rw [run]
  rw [trim_of_free x _ _ (hc 0).1 (hc 0).2, trim_of_free (x.trimmed _ _) _ _ (hc 1).1 (hc 1).2,
    trim_of_free ((x.trimmed _ _).trimmed _ _) _ _ (hc 2).1 (hc 2).2]
  unfold Live.trimmed
  dsimp only
  refine ⟨fun k => ?_, fun g hg => ?_, rfl, rfl⟩
  · have cases3 : k = 0 ∨ k = 1 ∨ k = 2 := by omega
    rcases cases3 with rfl | rfl | rfl
    · rw [vmod_other _ _ _ _ h02.symm, vmod_other _ _ _ _ h01.symm, vmod_self]
    · rw [vmod_other _ _ _ _ h12.symm, vmod_self, vmod_other _ _ _ _ h01]
    · rw [vmod_self, vmod_other _ _ _ _ h12, vmod_other _ _ _ _ h02]
  · rw [vmod_other _ _ _ _ (own g 2 hg), vmod_other _ _ _ _ (own g 1 hg), vmod_other _ _ _ _ (own g 0 hg)]

/-! ### Background conversions, reference checks, crossings -/

/-- A channel of the rotation with no rule of its own keeps its code (R168). -/
theorem backConversion_plain (x : Live) (ch : Fin 192) (c : Code) (hs : x.sensing = true)
    (hch : ch.val ∈ List.range' 24 120 ∨ ch.val ∈ [170, 171, 172, 181, 182, 183, 184, 189, 190, 191]) :
    x.backConversion ch c = { x with aq := { x.aq with codes := x.aq.codes.write 0 ch.val (c.setWidth 16) } } := by
  have range : (24 ≤ ch.val ∧ ch.val < 144) ∨ (170 ≤ ch.val ∧ ch.val ≤ 172) ∨ (181 ≤ ch.val ∧ ch.val ≤ 184) ∨
      (189 ≤ ch.val ∧ ch.val ≤ 191) := by
    rcases hch with h | h
    · rw [List.mem_range'_1] at h
      omega
    · simp only [List.mem_cons, List.not_mem_nil, or_false] at h
      omega
  have inScan : scanned ch.val = true := by
    unfold scanned
    simp only [Bool.or_eq_true, decide_eq_true_eq]
    omega
  unfold Live.backConversion
  rw [hs, inScan]
  dsimp only
  refine (if_pos rfl).trans ?_
  rw [dif_neg (by omega), dif_neg (by omega), if_neg (show ¬ ch.val = 169 by omega),
    if_neg (show ¬ ch.val = 187 by omega), if_neg (show ¬ ch.val = 188 by omega), ite_self]

theorem backConversion_vbat (x : Live) (c : Code) (hs : x.sensing = true) (hk : x.fl.kChans.getLsbD 169 = false) :
    x.backConversion 169 c =
      let v := F32.ofRatio (90 * c.toNat) 16384
      { x with aq := { x.aq with codes := x.aq.codes.write 0 169 (c.setWidth 16), vbat := v },
               su := { x.su with vMin := F32.min x.su.vMin v, vMax := F32.max x.su.vMax v } } := by
  unfold Live.backConversion
  rw [hs]
  dsimp only
  refine (if_pos rfl).trans ((if_neg (by rw [show Fin.val (169 : Fin 192) = 169 from rfl, hk]; exact Bool.false_ne_true)).trans ?_)
  exact (dif_neg (by decide)).trans ((dif_neg (by decide)).trans (if_pos rfl))

/-- The first bad reference check marks the converter, a good one clears its mark (R170). -/
theorem refCheck_once (x : Live) (adc : Fin 16) (cs : Vector Code 3) (hs : x.sensing = true)
    (hk : x.fl.kAdcs.getLsbD adc.val = false) (h : refBad cs = false ∨ x.aq.badRef.getLsbD adc.val = false) :
    x.refCheck adc cs = { x with aq := { x.aq with
      badRef := setBit x.aq.badRef adc.val (refBad cs),
      codes := ((x.aq.codes.write 0 189 (cs[0].setWidth 16)).write 0 190 (cs[1].setWidth 16)).write 0 191
        (cs[2].setWidth 16) } } := by
  have once : (refBad cs && x.aq.badRef.getLsbD adc.val) = false := by
    rcases h with h | h
    · rw [h, Bool.false_and]
    · rw [h, Bool.and_false]
  unfold Live.refCheck
  rw [hs, hk]
  dsimp only
  rw [once, Bool.not_false, Bool.and_true]
  rfl

theorem phaseCross_rising (x : Live) (leg : Fin 24) (ph : Nat) (hs : x.sensing = true)
    (hr : ((x.gd.ports[legPort leg]).legs[legPhase leg]).riseCmd = none) : x.phaseCross leg true ph =
      { x with aq := { x.aq with
        cmpHigh := setBit x.aq.cmpHigh (24 + leg.val) true,
        crossUp := vmod x.aq.crossUp leg (fun _ => some (x.start + ph)) } } := by
  unfold Live.phaseCross Live.crossed
  rw [hs]
  dsimp only
  rw [if_neg (by decide), if_pos rfl, if_pos rfl]
  rw [hr]

theorem phaseCross_falling (x : Live) (leg : Fin 24) (ph r : Nat) (hs : x.sensing = true)
    (hf : ((x.gd.ports[legPort leg]).legs[legPhase leg]).fallCmd = some r) (hr : r ≤ x.start + ph) :
    x.phaseCross leg false ph =
      ({ x with aq := { x.aq with
        cmpLow := setBit x.aq.cmpLow (24 + leg.val) true,
        crossLow := vmod x.aq.crossLow leg (fun _ => some (x.start + ph)) } } : Live).modWind (legPort leg)
          (fun w => { w with dfr := vmod w.dfr (legPhase leg) (fun d => (d.1, some (x.start + ph - r))) }) := by
  unfold Live.phaseCross Live.crossed
  rw [hs]
  dsimp only
  rw [if_neg (by decide), if_neg Bool.false_ne_true, if_neg Bool.false_ne_true]
  rw [hf]
  exact if_pos hr

/-- Settles O28. -/
theorem conversionsAndCrossings : Obligations.ConversionsAndCrossings := by
  unfold Obligations.ConversionsAndCrossings
  refine ⟨fun l p smp s hs hg hm h4 fu fv fw su sv => ?_,
    fun l p cs s hr h => runsTo_onLive rfl (peakSample_off _ p cs hr h),
    fun l p cs s hr ht hp hc => runs_onLive rfl ⟨rfl, rfl, peakSample_offs _ p cs hr ht hp hc⟩,
    fun l ch c s hs hch => runsTo_onLive rfl (backConversion_plain _ ch c hs hch),
    fun l c s hs hk => runsTo_onLive rfl (backConversion_vbat _ c hs hk),
    fun l adc cs s hs hk h => runsTo_onLive rfl (refCheck_once _ adc cs hs hk h),
    fun l leg ph s hs hr => runsTo_onLive rfl (phaseCross_rising _ leg ph hs hr),
    fun l leg ph r s hs hf hr => runsTo_onLive rfl (phaseCross_falling _ leg ph r hs hf hr),
    fun l s h => runsTo_onZero rfl h rfl⟩
  refine runs_onLive rfl ?_
  dsimp only
  generalize (s.lane l).live = x at *
  obtain ⟨a, e, hc, ha, h0, h1, hl, ho⟩ := shuntReads_spec
    { x with aq := { x.aq with lateConv := setBit x.aq.lateConv p.val false } } p smp fu fv fw su sv
  have kept := sampleInstant_shunts x p smp (3 * p.val) hs hg hm h4 (by omega) _ e.symm rfl
  unfold Live.shunts at kept
  simp only [Prod.mk.injEq] at kept
  obtain ⟨kc, ka, kok, kl, ko, kt, -⟩ := kept
  refine ⟨rfl, rfl, kc.trans hc, by rw [ka]; exact ha, by rw [kok]; exact h0, by rw [kok]; exact h1, ?_, ko.trans ho, kt⟩
  rw [kl, hl, getLsbD_setBit _ _ _ _ p.isLt, if_pos rfl]

end Sys2Proof.Machine
end

section
/-!
PROOF SUPPORT. Position and speed feedback (R242 to R265): what a changed port leaves, an accepted count, the steps of
the quadrature and Hall forms, and the obligation about counting.
-/

namespace Sys2Proof.Machine

/-! ### A changed port -/

section
variable (x : Live) (p : Fin 8) (f g : FbPortSt → FbPortSt)

@[simp] theorem fbPort_modFb : (x.modFb p f).fbPort p = f (x.fbPort p) := vmod_self ..

theorem fbPort_modFb_ne {o : Fin 8} (h : o ≠ p) : (x.modFb p f).fbPort o = x.fbPort o := vmod_other _ _ _ _ h.symm

theorem modFb_modFb : (x.modFb p f).modFb p g = x.modFb p (fun q => g (f q)) := by
  have e : vmod (vmod x.fb.ports p f) p g = vmod x.fb.ports p (fun q => g (f q)) := by simp [vmod]
  exact congrArg (fun v => ({ x with fb := { x.fb with ports := v } } : Live)) e

variable {x p f g} in
theorem modFb_congr (h : f (x.fbPort p) = g (x.fbPort p)) : x.modFb p f = x.modFb p g := by
  have e : vmod x.fb.ports p f = vmod x.fb.ports p g := by
    unfold vmod
    exact congrArg (fun q => x.fb.ports.set p.val q p.isLt) h
  exact congrArg (fun v => ({ x with fb := { x.fb with ports := v } } : Live)) e

end

/-! ### An accepted count (R246, R248, R254) -/

/-- A port after an accepted count of `s` at lane time `t`, with `c` counts per revolution and no soft limits. -/
def FbPortSt.counted (q : FbPortSt) (c : Nat) (s : Int) (t : Nat) : FbPortSt :=
  { q with
    angle := (((q.angle : Int) + s) % c).toNat, counter := BitVec.ofInt 32 (q.counter.toInt + s),
    down := decide (s < 0), still := false,
    illAt := q.illAt.map (fun x => x + s.natAbs), skips := q.skips.map (fun x => x + s.natAbs),
    edges := ({ time := t, step := s } :: q.edges).take 5, net := q.net + s }

section
variable {x : Live} {p : Fin 8}

theorem shiftCounter_of_free (h : x.num Obj.fbSoftLimitEnable p.val = 0) (s : Int) :
    x.shiftCounter p s = x.modFb p (fun q => { q with counter := BitVec.ofInt 32 (q.counter.toInt + s) }) := by
  have e : x.moveCounter p s =
      (false, x.modFb p (fun q => { q with counter := BitVec.ofInt 32 (q.counter.toInt + s) })) := by
    unfold Live.moveCounter
    exact if_pos h
  unfold Live.shiftCounter
  rw [e]

theorem feedReel_of_other (h : x.num Obj.reelSource ≠ p.val) (s : Int) : x.feedReel p s = x :=
  if_neg fun ⟨hp, _⟩ => h hp

theorem shiftFeed_of_free (hf : x.num Obj.fbSoftLimitEnable p.val = 0) (hr : x.num Obj.reelSource ≠ p.val) (s : Int) :
    (x.shiftCounter p s).feedReel p s =
      x.modFb p (fun q => { q with counter := BitVec.ofInt 32 (q.counter.toInt + s) }) := by
  rw [shiftCounter_of_free hf]
  exact feedReel_of_other (x := x.modFb p _) hr s

theorem count_of_free (hf : x.num Obj.fbSoftLimitEnable p.val = 0) (hr : x.num Obj.reelSource ≠ p.val) (s : Int)
    (t : Nat) : x.count p s t = x.modFb p (fun q => q.counted (x.fbCounts p) s t) :=
  (shiftFeed_of_free (x := x.modFb p _) hf hr s).trans (modFb_modFb ..)

/-! ### Quadrature (R246, R249) -/

/-- An index line that stands has no effect on a port that does not feed `REEL` (R250, R256). -/
theorem indexStep_of_still {o n : FbLines} (hi : n.i = o.i) (hr : x.num Obj.reelSource ≠ p.val) :
    x.indexStep p o n = x := by
  have hk : ¬(x.num Obj.reelSource = p.val ∧ x.fb.reelOn = true ∧ x.fb.reelHeld = false) := fun ⟨hp, _⟩ => hr hp
  unfold Live.indexStep
  rw [if_neg hk]
  exact if_neg fun ⟨_, hne, _⟩ => hne hi.symm

/-- A change of one line of A and B is a count. -/
theorem quadStep_of_one {o n : FbLines} (h : (n.a != o.a) ≠ (n.b != o.b)) (t : Nat) :
    x.quadStep p o n t =
      x.count p (if quadUp o n != decide (x.num Obj.fbInvert p.val = 1) then 1 else -1) t := by
  have hand : (o.a != n.a && o.b != n.b) = false := by
    revert h; cases o.a <;> cases n.a <;> cases o.b <;> cases n.b <;> decide
  have hor : (o.a != n.a || o.b != n.b) = true := by
    revert h; cases o.a <;> cases n.a <;> cases o.b <;> cases n.b <;> decide
  unfold Live.quadStep
  rw [hand, hor]
  rfl

theorem quadStep_of_both {o n : FbLines} (ha : n.a ≠ o.a) (hb : n.b ≠ o.b) (t : Nat) :
    x.quadStep p o n t = x.illegalStep p := by
  unfold Live.quadStep
  exact if_pos (by simp [ha.symm, hb.symm])

theorem thrice_of_few {since : List Nat} (h : since.length ≤ 2) : x.thrice p since = false := by
  match since, h with
  | [], _ => rfl
  | [_], _ => rfl
  | [_, _], _ => rfl

/-- The first and the second illegal transition within a revolution are counted and recorded only (R249). -/
theorem illegalStep_of_few (h : (x.fbPort p).illAt.length ≤ 1) :
    x.illegalStep p = (x.modFb p (fun q => { q with
      illegal := satInc q.illegal, illAt := 0 :: q.illAt,
      illRun := ((0 :: q.illAt).filter (fun k => decide (k * x.fbPoles p < x.fbCounts p))).length })).raiseOpen
        1 .corrected p.val := by
  have htake : (0 :: (x.fbPort p).illAt).take 3 = 0 :: (x.fbPort p).illAt :=
    List.take_of_length_le (by rw [List.length_cons]; omega)
  have hmod : x.modFb p (fun q => { q with
        illegal := satInc q.illegal, illAt := (0 :: q.illAt).take 3,
        illRun := (((0 :: q.illAt).take 3).filter (fun k => decide (k * x.fbPoles p < x.fbCounts p))).length }) =
      x.modFb p (fun q => { q with
        illegal := satInc q.illegal, illAt := 0 :: q.illAt,
        illRun := ((0 :: q.illAt).filter (fun k => decide (k * x.fbPoles p < x.fbCounts p))).length }) :=
    modFb_congr (by rw [htake])
  unfold Live.illegalStep
  dsimp only
  rw [hmod]
  generalize hy : x.modFb p _ = y
  have hill : ((y.raiseOpen 1 .corrected p.val).fbPort p).illAt = 0 :: (x.fbPort p).illAt := by
    have hfb := congrArg Live.fb (raiseOpen_steady y 1 .corrected p.val 0)
    change (y.raiseOpen 1 .corrected p.val).fb = y.fb at hfb
    unfold Live.fbPort
    rw [hfb, ← hy]
    exact congrArg FbPortSt.illAt (fbPort_modFb ..)
  rw [hill, thrice_of_few (by rw [List.length_cons]; omega)]
  rfl

/-! ### Hall sectors (R253) -/

theorem hallStep_succ {a b : Nat} (h : a + 1 = b) (hb : b < 6) : hallStep a b = 1 := by
  subst h
  have e : (a + 1 + 6 - a) % 6 = 1 := by omega
  unfold hallStep
  rw [e]
  rfl

theorem hallSector_lt {h : BitVec 3} {k : Nat} (e : hallSector h = some k) : k < 6 := by
  unfold hallSector at e
  split at e <;> cases e <;> decide

/-- A step into the next sector is a count of a mode-3 port (R246, R253). -/
theorem hallChange_of_next {n : FbLines} {k : Nat} (hm : x.fbModeOf p = 3)
    (hf : x.num Obj.fbSoftLimitEnable p.val = 0) (hr : x.num Obj.reelSource ≠ p.val) (hk : hallSector n.h = some k)
    (hs : (x.fbPort p).sector.toNat + 1 = k) (t : Nat) :
    x.hallChange p n t = x.modFb p (fun q => FbPortSt.counted
      { q with sector := BitVec.ofNat 3 k, hallEdges := ({ time := t, step := 1 } :: q.hallEdges).take 2 }
      (x.fbCounts p) 1 t) := by
  have hlt := hallSector_lt hk
  have hold : (x.fbPort p).sector.toNat < 6 := by omega
  unfold Live.hallChange
  simp only [hk, if_pos hold, hallStep_succ hs hlt]
  generalize hy : x.modFb p _ = y
  have hc : (if y.fbModeOf p = 3 ∧ (1 : Int) ≠ 0 then y.count p 1 t else
      if y.fbModeOf p = 4 ∧ (x.fbPort p).aligned = false ∧ (x.fbPort p).sector.toNat < 6 then
        y.modFb p (fun q => { q with angle := hallAlign k (y.fbCounts p) (y.fbPoles p), aligned := true }) else y) =
      y.modFb p (fun q => q.counted (x.fbCounts p) 1 t) := by
    subst hy
    exact (if_pos ⟨hm, one_ne_zero⟩).trans (count_of_free (x := x.modFb p _) hf hr 1 t)
  rw [hc]
  subst hy
  exact (if_neg (by decide)).trans (modFb_modFb ..)

/-! ### FEEDBACK_TRANSITION (R243) -/

theorem transition_of_quadrature {n : FbLines} {ph : Nat} (ha : x.awake = true)
    (hm : x.fbModeOf p = 1 ∨ x.fbModeOf p = 2) (hf : x.num Obj.fbSoftLimitEnable p.val = 0)
    (hr : x.num Obj.reelSource ≠ p.val) (hi : n.i = (x.fbPort p).lines.i)
    (hx : (n.a != (x.fbPort p).lines.a) ≠ (n.b != (x.fbPort p).lines.b)) :
    x.transition p n ph = x.modFb p (fun q => FbPortSt.counted { q with lines := n } (x.fbCounts p)
      (if quadUp (x.fbPort p).lines n != decide (x.num Obj.fbInvert p.val = 1) then 1 else -1) (x.start + ph)) := by
  have hstep : ((x.modFb p (fun q => { q with lines := n })).quadStep p (x.fbPort p).lines n (x.start + ph)).indexStep p
      (x.fbPort p).lines n = x.modFb p (fun q => FbPortSt.counted { q with lines := n } (x.fbCounts p)
      (if quadUp (x.fbPort p).lines n != decide (x.num Obj.fbInvert p.val = 1) then 1 else -1) (x.start + ph)) := by
    rw [quadStep_of_one hx, count_of_free (x := x.modFb p _) hf hr, modFb_modFb]
    exact indexStep_of_still (x := x.modFb p _) hi hr
  unfold Live.transition
  dsimp only
  refine (if_neg (show ¬(!x.awake) = true by simp [ha])).trans ?_
  change (match x.fbModeOf p with | 1 | 2 => _ | 3 => _ | 4 => _ | _ => _) = _
  obtain h | h := hm <;> rw [h] <;> exact hstep

theorem transition_of_illegal {n : FbLines} {ph : Nat} (ha : x.awake = true) (hm : x.fbModeOf p = 1)
    (hr : x.num Obj.reelSource ≠ p.val) (hi : n.i = (x.fbPort p).lines.i) (hna : n.a ≠ (x.fbPort p).lines.a)
    (hnb : n.b ≠ (x.fbPort p).lines.b) (hill : (x.fbPort p).illAt.length ≤ 1) :
    x.transition p n ph = (x.modFb p (fun q => { q with
      lines := n, illegal := satInc q.illegal, illAt := 0 :: q.illAt,
      illRun := ((0 :: q.illAt).filter (fun k => decide (k * x.fbPoles p < x.fbCounts p))).length })).raiseOpen
        1 .corrected p.val := by
  unfold Live.transition
  dsimp only
  refine (if_neg (show ¬(!x.awake) = true by simp [ha])).trans ?_
  change (match x.fbModeOf p with | 1 | 2 => _ | 3 => _ | 4 => _ | _ => _) = _
  rw [hm]
  change ((x.modFb p (fun q => { q with lines := n })).quadStep p (x.fbPort p).lines n (x.start + ph)).indexStep p
    (x.fbPort p).lines n = _
  rw [quadStep_of_both hna hnb, illegalStep_of_few (by rw [fbPort_modFb]; exact hill), modFb_modFb]
  refine indexStep_of_still hi ?_
  rw [steady_num (raiseOpen_steady ..)]
  exact hr

theorem transition_of_hall {n : FbLines} {ph : Nat} (ha : x.awake = true) (hm : x.fbModeOf p = 3)
    (hne : n.h ≠ (x.fbPort p).lines.h) :
    x.transition p n ph = (x.modFb p (fun q => { q with lines := n })).hallChange p n (x.start + ph) := by
  unfold Live.transition
  dsimp only
  refine (if_neg (show ¬(!x.awake) = true by simp [ha])).trans ?_
  change (match x.fbModeOf p with | 1 | 2 => _ | 3 => _ | 4 => _ | _ => _) = _
  rw [hm]
  exact if_pos hne.symm

theorem transition_of_silent {n : FbLines} {ph : Nat} (ha : x.awake = false) :
    x.transition p n ph = x.modFb p (fun q => { q with lines := n }) := by
  unfold Live.transition
  exact if_pos (show (!x.awake) = true by simp [ha])

/-! ### COUNTER_PRESET (R248) -/

theorem preset_of_free {v : Word} (hw : x.writes = true) (hf : x.num Obj.fbSoftLimitEnable p.val = 0) :
    x.preset p v = (x.modFb p (fun q => { q with
      counter := v, satHi := q.satHi && decide (v.toInt = x.int Obj.fbSoftMax p.val),
      satLo := q.satLo && decide (v.toInt = x.int Obj.fbSoftMin p.val) })).accept none := by
  simp [Live.preset, answers_of_writes hw, hw, hf]

theorem preset_of_above {v : Word} (hw : x.writes = true) (hf : x.num Obj.fbSoftLimitEnable p.val = 1)
    (hv : x.int Obj.fbSoftMax p.val < v.toInt) : x.preset p v = x.abortWith none 0x06090030 := by
  simp [Live.preset, answers_of_writes hw, hw, hf, hv, abortRange]

end

theorem exec_feedbackTransition (l : LaneId) (p : Fin 8) (n : FbLines) (ph : Nat) (s : State) :
    exec (.feedbackTransition l p n ph) s = .next (onLive l (fun x => x.transition p n ph) s) := rfl

/-- Settles O29: each accepted change of lines is one change of the port alone, a count where it is a legal step. -/
theorem feedbackCounts : Obligations.FeedbackCounts := by
  unfold Obligations.FeedbackCounts
  refine ⟨fun l p n ph s ha hm hf hr hi hx => ?_, fun l p n ph s ha hm hr hi hna hnb hill => ?_,
    fun l p n ph k s ha hm hf hr _ hk hs hne => ?_, fun l p n ph s ha => runsTo_onLive rfl (transition_of_silent ha),
    fun l p v s hw hf => runsTo_onLive rfl (preset_of_free hw hf),
    fun l p v s hw hf hv => runsTo_onLive rfl (preset_of_above hw hf hv),
    fun l p s hw => runsTo_onZero rfl hw rfl⟩
  · refine runs_onLive (exec_feedbackTransition l p n ph s) ?_
    dsimp only
    rw [transition_of_quadrature ha hm hf hr hi hx, fbPort_modFb]
    exact ⟨rfl, rfl, rfl, rfl, rfl, rfl, rfl, fun o ho => fbPort_modFb_ne _ _ _ ho, rfl, rfl, rfl⟩
  · refine runsEv_onLive (exec_feedbackTransition l p n ph s) ?_ trivial
    rw [transition_of_illegal ha hm hr hi hna hnb hill, raiseOpen_steady]
  · refine runs_onLive (exec_feedbackTransition l p n ph s) ?_
    dsimp only
    rw [transition_of_hall ha hm hne,
      hallChange_of_next (x := (s.lane l).live.modFb p _) hm hf hr hk (by rw [fbPort_modFb]; exact hs), modFb_modFb,
      fbPort_modFb]
    refine ⟨rfl, rfl, rfl, ?_, rfl, fun o ho => fbPort_modFb_ne _ _ _ ho, rfl⟩
    exact BitVec.ofInt_add .. |>.trans (congrArg (· + 1) (BitVec.ofInt_toInt ..))

end Sys2Proof.Machine
end

section
/-!
PROOF SUPPORT. Failed feedback ports, SENT inputs and encoder outputs (R222, R245, R253, R255 to R259, R264, R265), and
the obligation about them.
-/

namespace Sys2Proof.Machine

/-! ### What an event leaves of the position sources -/

theorem steady_withFb {x y : Live} (h : x.steady = y.steady) (f : FeedbackSt → FeedbackSt) :
    ({ x with fb := f x.fb } : Live).steady = ({ y with fb := f y.fb } : Live).steady :=
  congrArg (fun z : Live => { z with fb := f z.fb }) h

theorem raise_sourceOf (x : Live) (src unit : Nat) (syn : Word) (p : Fin 8) :
    (x.raise src unit syn).sourceOf p = x.sourceOf p := by
  have e := congrArg (fun z : Live => z.sourceOf p) (raise_steady x src unit syn)
  exact e

theorem raise_sentUsers (x : Live) (src unit : Nat) (syn : Word) (n : Fin 4) :
    (x.raise src unit syn).sentUsers n = x.sentUsers n := by
  have e := congrArg (fun z : Live => z.sentUsers n) (raise_steady x src unit syn)
  exact e

/-! ### A failed port (R245, R253, R255, R256) -/

section
variable {x : Live} {p : Fin 8}

/-- The marks of a failed port that `TETHER` does not follow. -/
theorem failPort_of_noTether (ht : x.num Obj.tetherSource ≠ p.val) :
    x.failPort p = (if x.num Obj.reelSource = p.val then
      let y := x.modFb p (fun q => { q with failed := true })
      { y with fb := { y.fb with reelHeld := true } }
      else x.modFb p (fun q => { q with failed := true }) : Live).portLost p := by
  have hk : ¬(x.num Obj.tetherSource = p.val ∧ x.num Obj.tetherCutOnFail = 1) := fun ⟨h, _⟩ => ht h
  unfold Live.failPort
  dsimp only
  generalize hy : x.modFb p _ = y
  have e : (if y.num Obj.tetherSource = p.val ∧ y.num Obj.tetherCutOnFail = 1 then
      { y with fb := { y.fb with tetherCut := true } } else y) = y := by
    subst hy; exact if_neg hk
  rw [e]
  subst hy
  rfl

theorem failPort_of_alone (ht : x.num Obj.tetherSource ≠ p.val) (hr : x.num Obj.reelSource ≠ p.val) :
    x.failPort p = (x.modFb p (fun q => { q with failed := true })).portLost p := by
  rw [failPort_of_noTether ht, if_neg hr]

theorem portLost_of_none (h : x.sourceOf p = none) : x.portLost p = x := by
  unfold Live.portLost
  rw [h]

/-- A winding that takes its angle from the port loses its position source (R141, R245). -/
theorem portLost_of_port (h : x.sourceOf p = some 1) (hl : (x.fc.wind[p]).srcLost = false) :
    x.portLost p = ((x.modWind p (fun w => { w with srcLost := true })).countFault .positionSource x.me p.val).raise
      198 p.val 1 := by
  unfold Live.portLost
  rw [h]
  change x.losePosition p 1 = _
  unfold Live.losePosition
  exact if_neg (hl ▸ Bool.false_ne_true)

/-- An illegal Hall state that lasts fails the port (R253). -/
theorem hallTimeout_of_illegal (ha : x.awake = true) (hm : x.fbModeOf p = 3)
    (hh : hallSector (x.fbPort p).lines.h = none) : x.hallTimeout p = x.failPort p := by
  unfold Live.hallTimeout
  rw [ha, hm, hh]
  rfl

theorem levelFault_of_mode (ha : x.awake = true) (hm : x.fbModeOf p ≠ 0) :
    x.levelFault p = ((x.modFb p (fun q => { q with levelF := true })).raise (fbSource p 0) noUnit).failPort p := by
  unfold Live.levelFault
  rw [ha, decide_eq_true hm]
  rfl

/-- A level fault of the port that feeds `REEL` and no winding (R245, R256). -/
theorem levelFault_of_reel (ha : x.awake = true) (hm : x.fbModeOf p ≠ 0) (ht : x.num Obj.tetherSource ≠ p.val)
    (hr : x.num Obj.reelSource = p.val) (hs : x.sourceOf p = none) :
    (x.levelFault p).steady = (let y := x.modFb p (fun q => { q with levelF := true, failed := true })
      ({ y with fb := { y.fb with reelHeld := true } } : Live)).steady := by
  rw [levelFault_of_mode ha hm]
  have hsteady := raise_steady (x.modFb p (fun q => { q with levelF := true })) (fbSource p 0) noUnit 0
  have hsource : ((x.modFb p (fun q => { q with levelF := true })).raise (fbSource p 0) noUnit).sourceOf p = none :=
    (raise_sourceOf ..).trans hs
  have ht' : ((x.modFb p (fun q => { q with levelF := true })).raise (fbSource p 0) noUnit).num Obj.tetherSource ≠ p.val :=
    (steady_num hsteady ..).trans_ne ht
  have hr' : ((x.modFb p (fun q => { q with levelF := true })).raise (fbSource p 0) noUnit).num Obj.reelSource = p.val :=
    (steady_num hsteady ..).trans hr
  generalize (x.modFb p (fun q => { q with levelF := true })).raise (fbSource p 0) noUnit = z at *
  rw [failPort_of_noTether ht', if_pos hr']
  refine (congrArg Live.steady (portLost_of_none (x := { z with fb := { z.fb with
    ports := vmod z.fb.ports p (fun q => { q with failed := true }), reelHeld := true } }) hsource)).trans ?_
  refine (steady_withFb hsteady
    (fun f => { f with ports := vmod f.ports p (fun q => { q with failed := true }), reelHeld := true })).trans ?_
  rw [← modFb_modFb x p (fun q => { q with levelF := true }) (fun q => { q with failed := true })]
  rfl

end

/-! ### SENT inputs (R257 to R259, R265) -/

section
variable {x : Live} {n : Fin 4} {f : SentFrame}

theorem modSent_modSent (g h : SentSt → SentSt) : (x.modSent n g).modSent n h = x.modSent n (fun q => h (g q)) := by
  have e : vmod (vmod x.fb.sent n g) n h = vmod x.fb.sent n (fun q => h (g q)) := by simp [vmod]
  exact congrArg (fun v => ({ x with fb := { x.fb with sent := v } } : Live)) e

/-- An input after an accepted frame without a slow-channel message (R259, R265). -/
def SentSt.accepted (q : SentSt) (x : Live) (n : Fin 4) (f : SentFrame) : SentSt :=
  let q := { (((q.flag 3 false).flag 4 false).flag 5 false).flag 6 false with tick := some f.tick }
  let q := { q with
    fastPrev := q.fast, startPrev := q.startAt,
    fast := BitVec.ofNat 32 (nibbleValue (f.nibbles.take (x.num Obj.dataNibbles 0 n.val))),
    startAt := some (x.start + f.startPh), stopAt := some (x.start + f.stopPh) }
  let q := ((q.flag 0 true).flag 1 false).flag 2 false
  { q with flags := (q.flags &&& 0xF0FF) ||| BitVec.ofNat 16 (f.status.toNat * 256) }

/-- The status nibble takes the bits 8 to 11 of the flags. -/
theorem getLsbD_withStatus (v : BitVec 16) (k i : Nat) (h : i < 8) :
    ((v &&& 0xF0FF) ||| BitVec.ofNat 16 (k * 256)).getLsbD i = v.getLsbD i := by
  have hm : (0xF0FF : BitVec 16).getLsbD i = true := (by decide : ∀ j : Fin 8, (0xF0FF : BitVec 16).getLsbD j = true) ⟨i, h⟩
  have hk : (BitVec.ofNat 16 (k * 2 ^ 8)).getLsbD i = false := by
    rw [BitVec.getLsbD_ofNat, Nat.testBit_mul_two_pow, decide_eq_false (by omega : ¬8 ≤ i)]
    simp
  rw [BitVec.getLsbD_or, BitVec.getLsbD_and, hm, Bool.and_true]
  exact (congrArg (v.getLsbD i || ·) hk).trans (Bool.or_false _)

/-- What the flags of an accepted frame say of the checks. -/
theorem accepted_flags (q : SentSt) : (q.accepted x n f).flags.getLsbD 0 = true ∧
    (q.accepted x n f).flags.getLsbD 1 = false ∧ (q.accepted x n f).flags.getLsbD 4 = false := by
  unfold SentSt.accepted SentSt.flag
  dsimp only
  refine ⟨(getLsbD_withStatus _ _ _ (by decide)).trans ?_, (getLsbD_withStatus _ _ _ (by decide)).trans ?_,
    (getLsbD_withStatus _ _ _ (by decide)).trans ?_⟩
  · simp only [getLsbD_setBit _ _ 0 _ (show 0 < 16 by decide)]; rfl
  · simp only [getLsbD_setBit _ _ 1 _ (show 1 < 16 by decide)]; rfl
  · simp only [getLsbD_setBit _ _ 4 _ (show 4 < 16 by decide)]; rfl

/-- The values that an accepted frame gives. -/
theorem accepted_values (q : SentSt) :
    (q.accepted x n f).fast = BitVec.ofNat 32 (nibbleValue (f.nibbles.take (x.num Obj.dataNibbles 0 n.val))) ∧
      (q.accepted x n f).fastPrev = q.fast ∧ (q.accepted x n f).startAt = some (x.start + f.startPh) ∧
      (q.accepted x n f).errors = q.errors := by
  unfold SentSt.accepted SentSt.flag
  exact ⟨rfl, rfl, rfl, rfl⟩

theorem sentFrame_of_good (ha : x.awake = true) (ht : x.num Obj.sentTick 0 n.val ≠ 0)
    (hc : x.sentChecks n f = (false, false, false, false)) (hs : f.slow = none) :
    x.sentFrame n f = x.modSent n (fun q => q.accepted x n f) := by
  unfold Live.sentFrame
  rw [ha, decide_eq_false ht, hc, hs]
  exact modSent_modSent ..

theorem sentFrame_of_badCrc {sync nib stat : Bool} (ha : x.awake = true) (ht : x.num Obj.sentTick 0 n.val ≠ 0)
    (hc : x.sentChecks n f = (sync, nib, true, stat)) :
    x.sentFrame n f = (x.modSent n (fun q =>
      { ((((q.flag 3 sync).flag 4 true).flag 5 nib).flag 6 stat) with
        tick := some f.tick, errors := satInc q.errors })).raise (264 + 2 * n.val) noUnit := by
  have hbad : (sync || nib || true || stat) = true := by cases sync <;> cases nib <;> rfl
  unfold Live.sentFrame
  rw [ha, decide_eq_false ht, hc]
  refine (if_pos hbad).trans ?_
  rw [modSent_modSent]
  rfl

theorem sentLow_of_on (ha : x.awake = true) (ht : x.num Obj.sentTick 0 n.val ≠ 0) :
    x.sentLow n = x.modSent n (fun q => { q with flags := setBit q.flags 2 true }) := by
  unfold Live.sentLow
  rw [ha, decide_eq_true ht]
  rfl

/-- The timeout of an input that no winding uses (R258, R265). -/
theorem sentExpiry_of_unused {t : Nat} (ha : x.awake = true) (ht : (x.fb.sent[n]).stopAt = some t)
    (hf : (x.fb.sent[n]).flags.getLsbD 0 = true) (hd : x.due (t + ms (x.num Obj.sentTimeout 0 n.val)) = true)
    (hu : x.sentUsers n = []) :
    x.sentExpiry n = (x.modSent n (fun q => { q with flags := setBit (setBit q.flags 0 false) 1 true })).raise
      (265 + 2 * n.val) noUnit := by
  unfold Live.sentExpiry
  dsimp only
  rw [ht]
  dsimp only
  rw [ha, hf, hd]
  have hu' := (raise_sentUsers (x.modSent n (fun q => (q.flag 0 false).flag 1 true)) (265 + 2 * n.val) noUnit 0 n).trans hu
  refine (if_pos rfl).trans ?_
  rw [hu']
  rfl

end

/-! ### Encoder outputs (R222) -/

section
variable {x : Live}

theorem outputFault_of_reel (ha : x.awake = true) (h : x.fb.reelOn = true) :
    x.outputFault true = { x with
      wi := { x.wi with reelF := true, reelOff := some (x.clk + ms 100) }, fb := { x.fb with reelOn := false } } := by
  unfold Live.outputFault
  rw [ha, h]
  rfl

theorem outputFault_of_tether (ha : x.awake = true) (h : x.fb.tetherOn = true) :
    x.outputFault false = { x with
      wi := { x.wi with tetherF := true, tetherOff := some (x.clk + ms 100) },
      fb := { x.fb with tetherOn := false } } := by
  unfold Live.outputFault
  rw [ha, h]
  rfl

theorem outputRestore_of_reel {t : Nat} (hd : x.due t = true) (h : x.wi.reelOff = some t) :
    x.outputRestore true = { x with wi := { x.wi with reelF := false, reelOff := none }, fb := x.fb.startReel } := by
  unfold Live.outputRestore
  rw [h]
  exact if_pos hd

theorem outputRestore_of_tether {t : Nat} (hd : x.due t = true) (h : x.wi.tetherOff = some t) :
    x.outputRestore false = { x with
      wi := { x.wi with tetherF := false, tetherOff := none }, fb := { x.fb with tetherOn := true } } := by
  unfold Live.outputRestore
  rw [h]
  exact if_pos hd

end

/-- Settles O30: a port, an input or an output changes its own flags, and a user of a failed port its position source. -/
theorem feedbackFaultsSentAndOutputs : Obligations.FeedbackFaultsSentAndOutputs := by
  unfold Obligations.FeedbackFaultsSentAndOutputs
  refine ⟨fun l p s ha hm hh ht hr => ⟨fun hs => runsTo_onLive rfl ?_, fun hs hl => runsEv_onLive rfl ?_ trivial⟩,
    fun l p s ha hm ht hr hs => runsEv_onLive rfl (levelFault_of_reel ha hm ht hr hs) trivial,
    fun l p s => runsTo_onLive rfl rfl, fun l n f s ha ht hc hs => ?_,
    fun l n f sync nib stat s ha ht hc => runsEv_raise rfl (sentFrame_of_badCrc ha ht hc) trivial,
    fun l n s ha ht => runsTo_onLive rfl (sentLow_of_on ha ht),
    fun l n t s ha ht hf hd hu => runsEv_raise rfl (sentExpiry_of_unused ha ht hf hd hu) trivial,
    fun l s hw => runsTo_onZero rfl hw rfl,
    fun l s ha => ⟨fun h => runsTo_onLive rfl (outputFault_of_reel ha h),
      fun h => runsTo_onLive rfl (outputFault_of_tether ha h)⟩,
    fun l t s hd => ⟨fun h => runsTo_onLive rfl (outputRestore_of_reel hd h),
      fun h => runsTo_onLive rfl (outputRestore_of_tether hd h)⟩⟩
  · rw [hallTimeout_of_illegal ha hm hh, failPort_of_alone ht hr]
    exact portLost_of_none hs
  · rw [hallTimeout_of_illegal ha hm hh, failPort_of_alone ht hr,
      portLost_of_port (x := (s.lane l).live.modFb p _) hs hl, raise_steady]
    rfl
  · refine runs_onLive rfl ?_
    dsimp only
    rw [sentFrame_of_good ha ht hc hs]
    have hself : ((s.lane l).live.modSent n (fun q => q.accepted (s.lane l).live n f)).fb.sent[n] =
        ((s.lane l).live.fb.sent[n]).accepted (s.lane l).live n f := vmod_self ..
    rw [hself]
    obtain ⟨ok, expired, crc⟩ := accepted_flags (x := (s.lane l).live) (n := n) (f := f) ((s.lane l).live.fb.sent[n])
    obtain ⟨fast, prev, start, errors⟩ :=
      accepted_values (x := (s.lane l).live) (n := n) (f := f) ((s.lane l).live.fb.sent[n])
    generalize SentSt.accepted _ (s.lane l).live n f = q at *
    exact ⟨rfl, rfl, fast, prev, start, ok, expired, crc, errors, fun o ho => vmod_other _ _ _ _ ho.symm, rfl, rfl⟩

end Sys2Proof.Machine
end

section
/-!
PROOF SUPPORT. Safety channels and test pulses (R317 to R320, R336, R344): a change made once at every index, what the
check of one channel leaves of the others, a faulted test output, and the obligation about them.
-/

namespace Sys2Proof.Machine

/-- Changes at every index, each made once: what is kept of the indices done so far, `S`, is so of all in the end. -/
theorem forAll_done {α : Type} {n : Nat} (f : Fin n → α → α) (P : List (Fin n) → α → Prop)
    (h : ∀ S i x, i ∉ S → P S x → P (i :: S) (f i x)) (x : α) (hx : P [] x) :
    ∃ S, (∀ i, i ∈ S) ∧ P S (forAll n f x) := by
  have key : ∀ (l S : List (Fin n)) (y : α), l.Nodup → (∀ i ∈ l, i ∉ S) → P S y →
      P (l.reverse ++ S) (l.foldl (fun y i => f i y) y) := by
    intro l
    induction l with
    | nil => exact fun S y _ _ hy => hy
    | cons a l ih =>
      intro S y hd hs hy
      obtain ⟨ha, hl⟩ := List.nodup_cons.mp hd
      rw [List.reverse_cons, List.append_assoc]
      refine ih _ _ hl (fun i hi => ?_) (h S a y (hs a List.mem_cons_self) hy)
      exact List.not_mem_cons_of_ne_of_not_mem (fun e => ha (e ▸ hi)) (hs i (List.mem_cons_of_mem _ hi))
  refine ⟨_, fun i => ?_, key (List.finRange n) [] x (List.nodup_finRange n) (fun _ _ => List.not_mem_nil) hx⟩
  exact List.mem_append_left _ (List.mem_reverse.2 (List.mem_finRange i))

/-! ### The check of one channel (R319, R320) -/

/-- The lane changed in nothing that the check of another channel than `j` reads. -/
def SinOnly (j : Fin 12) (x y : Live) : Prop :=
  y.cfg = x.cfg ∧ y.tk = x.tk ∧ y.sf.tpo = x.sf.tpo ∧ ∀ k, k ≠ j → y.sf.sin[k] = x.sf.sin[k]

section
variable {x : Live} {n : Fin 6} {j k : Fin 12}

theorem sinOnly_refl (x : Live) (j : Fin 12) : SinOnly j x x := ⟨rfl, rfl, rfl, fun _ _ => rfl⟩

theorem modSin_sinOnly (x : Live) (j : Fin 12) (f : SinSt → SinSt) : SinOnly j x (x.modSin j f) :=
  ⟨rfl, rfl, rfl, fun _ h => vmod_other _ _ _ _ h.symm⟩

theorem SinOnly.of_steady {x y z : Live} (h : SinOnly j x y) (e : z.steady = y.steady) : SinOnly j x z := by
  obtain ⟨hc, ht, hp, hs⟩ := h
  have ec := congrArg Live.cfg e
  have et := congrArg Live.tk e
  have ep := congrArg (fun z : Live => z.sf.tpo) e
  have es := congrArg (fun z : Live => z.sf.sin) e
  change z.cfg = y.cfg at ec
  change z.tk = y.tk at et
  change z.sf.tpo = y.sf.tpo at ep
  change z.sf.sin = y.sf.sin at es
  exact ⟨ec.trans hc, et.trans ht, ep.trans hp, fun k hk => by rw [es]; exact hs k hk⟩

theorem countFault_sf (x : Live) (c : FaultKind) (o : LaneId) (m : Nat) : (x.countFault c o m).sf = x.sf := by
  obtain ⟨a, e⟩ := countFault_frame x c o m
  rw [e]

theorem countFault_sinOnly {y : Live} (h : SinOnly j x y) (c : FaultKind) (o : LaneId) (m : Nat) :
    SinOnly j x (y.countFault c o m) := by
  obtain ⟨a, e⟩ := countFault_frame y c o m
  rw [e]
  exact h

theorem channelFault_sinOnly (x : Live) (j : Fin 12) (s : Word) : SinOnly j x (x.channelFault j s) :=
  (countFault_sinOnly (modSin_sinOnly x j _) _ _ _).of_steady (raise_steady ..)

theorem channelFault_faulted (x : Live) (j : Fin 12) (s : Word) : ((x.channelFault j s).sf.sin[j]).faulted = true := by
  unfold Live.channelFault
  dsimp only
  generalize hy : x.modSin j _ = y
  have es := congrArg (fun z : Live => z.sf.sin) (raise_steady (y.countFault .safetyChannel x.me j.val) 336 j.val s)
  change ((y.countFault .safetyChannel x.me j.val).raise 336 j.val s).sf.sin =
    (y.countFault .safetyChannel x.me j.val).sf.sin at es
  have hme : y.me = x.me := by rw [← hy]; rfl
  rw [hme, es, countFault_sf, ← hy]
  exact congrArg SinSt.faulted (vmod_self ..)

theorem pulseCheck_sinOnly (x : Live) (n : Fin 6) (j : Fin 12) (low cross : Bool) :
    SinOnly j x (x.pulseCheck n j low cross) := by
  have pass : ∀ f, SinOnly j x (x.modSin j f) := modSin_sinOnly x j
  have fault : ∀ s, SinOnly j x (x.channelFault j s) := channelFault_sinOnly x j
  unfold Live.pulseCheck
  dsimp only
  generalize x.channelFault j = g at fault ⊢
  by_cases h1 : x.num Obj.pulseSource 0 j.val = 255
  · rw [if_pos h1]; exact sinOnly_refl x j
  rw [if_neg h1]
  by_cases h2 : x.num Obj.pulseSource 0 j.val = n.val
  · rw [if_pos h2]
    repeat' refine iteInduction (motive := SinOnly j x) (fun _ => ?_) (fun _ => ?_)
    exacts [pass _, pass _, sinOnly_refl x j, pass _, fault _, pass _]
  · rw [if_neg h2]
    repeat' refine iteInduction (motive := SinOnly j x) (fun _ => ?_) (fun _ => ?_)
    exacts [sinOnly_refl x j, pass _, fault _, pass _]

theorem pulseCheck_of_unfed {low cross : Bool} (h : x.num Obj.pulseSource 0 k.val = 255) :
    x.pulseCheck n k low cross = x := if_pos h

/-- One missed pulse of a closed channel is noted (R319). -/
theorem pulseCheck_of_miss {cross : Bool} (hs : x.num Obj.pulseSource 0 k.val = n.val)
    (hf : (x.sf.sin[k]).faulted = false) (hc : (x.sf.sin[k]).closed = true) (hm : (x.sf.sin[k]).misses = 0) :
    x.pulseCheck n k false cross = x.modSin k (fun q => { q with misses := 1 }) := by
  have hn : x.num Obj.pulseSource 0 k.val ≠ 255 := by have := n.isLt; omega
  unfold Live.pulseCheck
  dsimp only
  rw [if_neg hn, if_pos hs, hf, hc, hm]
  rfl

/-- The second missed pulse in a row faults the channel (R319). -/
theorem pulseCheck_of_secondMiss {cross : Bool} (hs : x.num Obj.pulseSource 0 k.val = n.val)
    (hf : (x.sf.sin[k]).faulted = false) (hc : (x.sf.sin[k]).closed = true) (hm : (x.sf.sin[k]).misses = 1) :
    x.pulseCheck n k false cross = x.channelFault k 1 := by
  have hn : x.num Obj.pulseSource 0 k.val ≠ 255 := by have := n.isLt; omega
  unfold Live.pulseCheck
  dsimp only
  rw [if_neg hn, if_pos hs, hf, hc, hm]
  rfl

/-- The checks of all channels at the end of a pulse of a test output (R319). -/
def Live.pulseChecks (x : Live) (n : Fin 6) (low cross : BitVec 12) : Live :=
  forAll 12 (fun k y => y.pulseCheck n k (low.getLsbD k.val) (cross.getLsbD k.val)) x

/-- A channel that is fed, with its first miss noted; one that is not, as it was. -/
def Live.missNoted (x : Live) (n : Fin 6) (k : Fin 12) : SinSt :=
  if x.num Obj.pulseSource 0 k.val = n.val then { x.sf.sin[k] with misses := 1 } else x.sf.sin[k]

/-- A pulse that every channel fed by the output misses for the first time. -/
theorem pulseChecks_of_misses {low cross : BitVec 12}
    (h : ∀ k : Fin 12, x.num Obj.pulseSource 0 k.val = n.val ∧ (x.sf.sin[k]).faulted = false ∧
      (x.sf.sin[k]).closed = true ∧ low.getLsbD k.val = false ∧ (x.sf.sin[k]).misses = 0 ∨
      x.num Obj.pulseSource 0 k.val = 255) :
    ∃ v : Vector SinSt 12, x.pulseChecks n low cross = { x with sf := { x.sf with sin := v } } ∧
      ∀ k : Fin 12, v[k] = x.missNoted n k := by
  have all := forAll_done (fun (k : Fin 12) (y : Live) => y.pulseCheck n k (low.getLsbD k.val) (cross.getLsbD k.val))
    (fun S y => ∃ v : Vector SinSt 12, y = { x with sf := { x.sf with sin := v } } ∧
      ∀ k : Fin 12, v[k] = if k ∈ S then x.missNoted n k else x.sf.sin[k]) ?_ x
    ⟨x.sf.sin, rfl, fun k => (if_neg List.not_mem_nil).symm⟩
  · obtain ⟨S, every, v, e, hv⟩ := all
    exact ⟨v, e, fun k => (hv k).trans (if_pos (every k))⟩
  · rintro S i y hi ⟨v, rfl, hv⟩
    have hvi := (hv i).trans (if_neg hi)
    have other : ∀ k, k ≠ i → ∀ q : SinSt, (if k ∈ i :: S then q else x.sf.sin[k]) =
        if k ∈ S then q else x.sf.sin[k] := by
      intro k hk q; simp [hk]
    dsimp only
    obtain ⟨hs, hf, hc, hl, hm⟩ | hs := h i
    · rw [hl, pulseCheck_of_miss (x := { x with sf := { x.sf with sin := v } }) hs ((congrArg SinSt.faulted hvi).trans hf)
        ((congrArg SinSt.closed hvi).trans hc) ((congrArg SinSt.misses hvi).trans hm)]
      refine ⟨_, rfl, fun k => ?_⟩
      by_cases hk : k = i
      · subst hk
        refine (vmod_self ..).trans ?_
        rw [hvi, if_pos List.mem_cons_self]
        exact (if_pos hs).symm
      · rw [other k hk, ← hv k]
        exact vmod_other _ _ _ _ (Ne.symm hk)
    · rw [pulseCheck_of_unfed (x := { x with sf := { x.sf with sin := v } }) hs]
      refine ⟨v, rfl, fun k => ?_⟩
      by_cases hk : k = i
      · subst hk
        have hn : x.num Obj.pulseSource 0 k.val ≠ n.val := by have := n.isLt; omega
        rw [hvi, if_pos List.mem_cons_self]
        exact (if_neg hn).symm
      · rw [other k hk, ← hv k]

/-- The checks of the channels of `S` have been made: channel `k` is faulted by its own, and as it was before. -/
def FaultedOnce (x : Live) (k : Fin 12) (S : List (Fin 12)) (y : Live) : Prop :=
  y.cfg = x.cfg ∧ y.tk = x.tk ∧ y.sf.tpo = x.sf.tpo ∧
    (k ∈ S → (y.sf.sin[k]).faulted = true) ∧ (k ∉ S → y.sf.sin[k] = x.sf.sin[k])

/-- A channel that misses its second pulse is faulted, whatever the other channels read. -/
theorem pulseChecks_of_secondMiss {low cross : BitVec 12} (hs : x.num Obj.pulseSource 0 k.val = n.val)
    (hf : (x.sf.sin[k]).faulted = false) (hc : (x.sf.sin[k]).closed = true) (hm : (x.sf.sin[k]).misses = 1)
    (hl : low.getLsbD k.val = false) :
    ((x.pulseChecks n low cross).sf.sin[k]).faulted = true ∧ (x.pulseChecks n low cross).sf.tpo = x.sf.tpo ∧
      (x.pulseChecks n low cross).tk = x.tk := by
  have all := forAll_done (fun (k : Fin 12) (y : Live) => y.pulseCheck n k (low.getLsbD k.val) (cross.getLsbD k.val))
    (FaultedOnce x k) ?_ x
    ⟨rfl, rfl, rfl, fun hk => absurd hk List.not_mem_nil, fun _ => rfl⟩
  · unfold Live.pulseChecks
    generalize forAll 12 _ x = y at all ⊢
    obtain ⟨S, every, -, ht, hp, hk, -⟩ := all
    exact ⟨hk (every k), hp, ht⟩
  · rintro S i y hi ⟨ec, et, ep, hin, hout⟩
    obtain ⟨jc, jt, jp, js⟩ := pulseCheck_sinOnly y n i (low.getLsbD i.val) (cross.getLsbD i.val)
    refine ⟨jc.trans ec, jt.trans et, jp.trans ep, fun hk => ?_, fun hk => ?_⟩
    · by_cases hki : k = i
      · subst hki
        have e := hout hi
        have hs' : y.num Obj.pulseSource 0 k.val = n.val := by
          unfold Live.num Live.bytes; rw [ec]; exact hs
        rw [hl, pulseCheck_of_secondMiss hs' ((congrArg SinSt.faulted e).trans hf) ((congrArg SinSt.closed e).trans hc)
          ((congrArg SinSt.misses e).trans hm)]
        exact channelFault_faulted y k 1
      · rw [js k hki]
        exact hin ((List.mem_cons.1 hk).resolve_left hki)
    · rw [List.mem_cons, not_or] at hk
      rw [js k hk.1]
      exact hout hk.2

/-! ### Test outputs (R318) -/

theorem tpoStart_of_planned (hp : x.phase = .joined) (h : x.planned true n.val = true) :
    x.tpoStart n = x.modTpo n (fun q => { q with pulsing := true }) := by
  have hj : x.tpoFollows = true := joined_of_phase hp
  unfold Live.tpoStart
  rw [hj, h]
  rfl

/-- A pulse that reads low clears the output's fault (R318; log entry 92). -/
theorem tpoEnd_of_low {low cross : BitVec 12} (h : (x.sf.tpo[n]).pulsing = true) :
    x.tpoEnd n false low cross =
      (x.modTpo n (fun q => { q with pulsing := false, faulted := false })).pulseChecks n low cross := by
  have e : (x.modTpo n (fun q => { q with pulsing := false })).modTpo n (fun q => { q with faulted := false }) =
      x.modTpo n (fun q => { q with pulsing := false, faulted := false }) := by
    unfold Live.modTpo
    have v : vmod (vmod x.sf.tpo n (fun q => { q with pulsing := false })) n (fun q => { q with faulted := false }) =
        vmod x.sf.tpo n (fun q => { q with pulsing := false, faulted := false }) := by simp [vmod]
    exact congrArg (fun v => ({ x with sf := { x.sf with tpo := v } } : Live)) v
  rw [← e]
  exact if_pos h

/-- The step of `Live.tpoFault` at one channel: a channel fed by the output is faulted (R318). -/
def Live.fedFault (n : Fin 6) (k : Fin 12) (y : Live) : Live :=
  if y.num Obj.pulseSource 0 k.val = n.val ∧ (y.sf.sin[k]).faulted = false then
    (y.modSin k (fun q => { q with faulted := true, passes := 0 })).countFault .safetyChannel y.me k.val
  else y

theorem fedFault_sinOnly (n : Fin 6) (j : Fin 12) (y : Live) : SinOnly j y (Live.fedFault n j y) :=
  iteInduction (motive := SinOnly j y) (fun _ => countFault_sinOnly (modSin_sinOnly y j _) _ _ _)
    (fun _ => sinOnly_refl y j)

theorem fedFault_faulted {y : Live} (hs : y.num Obj.pulseSource 0 k.val = n.val) :
    ((Live.fedFault n k y).sf.sin[k]).faulted = true := by
  unfold Live.fedFault
  cases hf : (y.sf.sin[k]).faulted
  · rw [if_pos ⟨hs, rfl⟩, countFault_sf]
    exact congrArg SinSt.faulted (vmod_self ..)
  · rw [if_neg fun h => Bool.noConfusion h.2]
    exact hf

theorem fedFaults_spec (hs : x.num Obj.pulseSource 0 k.val = n.val) :
    ((forAll 12 (Live.fedFault n) x).sf.sin[k]).faulted = true ∧ (forAll 12 (Live.fedFault n) x).tk = x.tk := by
  have all := forAll_done (Live.fedFault n)
    (fun S y => y.cfg = x.cfg ∧ (k ∈ S → (y.sf.sin[k]).faulted = true) ∧ y.tk = x.tk) ?_ x
    ⟨rfl, fun h => absurd h List.not_mem_nil, rfl⟩
  · generalize forAll 12 (Live.fedFault n) x = y at all ⊢
    obtain ⟨S, every, -, hk, ht⟩ := all
    exact ⟨hk (every k), ht⟩
  · rintro S i y - ⟨ec, hin, et⟩
    obtain ⟨jc, jt, -, js⟩ := fedFault_sinOnly n i y
    refine ⟨jc.trans ec, fun hk => ?_, jt.trans et⟩
    by_cases hki : k = i
    · subst hki
      exact fedFault_faulted (by unfold Live.num Live.bytes; rw [ec]; exact hs)
    · rw [js k hki]
      exact hin ((List.mem_cons.1 hk).resolve_left hki)

/-- An output that is faulted faults the channels that it feeds (R318). -/
theorem tpoFault_spec (s : Word) (hs : x.num Obj.pulseSource 0 k.val = n.val) :
    ((x.tpoFault n s).sf.sin[k]).faulted = true ∧ ((x.tpoFault n s).sf.tpo[n]).faulted = true ∧
      (x.tpoFault n s).tk = x.tk := by
  obtain ⟨hk, ht⟩ := fedFaults_spec hs
  unfold Live.fedFault at hk ht
  unfold Live.tpoFault
  generalize forAll 12 _ x = y at hk ht ⊢
  dsimp only
  cases hf : (y.sf.tpo[n]).faulted
  · rw [if_neg Bool.false_ne_true]
    have r := raise_steady (y.modTpo n (fun q => { q with faulted := true })) 337 n.val s
    have es := congrArg (fun z : Live => z.sf.sin) r
    have ep := congrArg (fun z : Live => z.sf.tpo) r
    change ((y.modTpo n (fun q => { q with faulted := true })).raise 337 n.val s).sf.sin = y.sf.sin at es
    change ((y.modTpo n (fun q => { q with faulted := true })).raise 337 n.val s).sf.tpo =
      vmod y.sf.tpo n (fun q => { q with faulted := true }) at ep
    rw [es, ep]
    exact ⟨hk, congrArg TpoSt.faulted (vmod_self ..), (raise_tk ..).trans ht⟩
  · rw [if_pos rfl]
    exact ⟨hk, hf, ht⟩

theorem tpoOverload_of_idle (hp : x.phase = .joined) (h : (x.sf.tpo[n]).pulsing = false) :
    x.tpoOverload n = x.tpoFault n 2 := by
  have hj : x.tpoFollows = true := joined_of_phase hp
  unfold Live.tpoOverload
  rw [hj, h]
  exact if_pos rfl

end

/-- Settles O31: each channel is checked once at the end of a pulse, and an output that is faulted faults the channels
that it feeds (a readback that is low at a pulse's end clears the output: log entry 92). -/
theorem safetyChannelsAndPulses : Obligations.SafetyChannelsAndPulses := by
  unfold Obligations.SafetyChannelsAndPulses
  refine ⟨fun l k s => ⟨runsTo_onLive rfl rfl, runsTo_onLive rfl rfl⟩,
    fun l n s hp h => runsTo_onLive rfl (tpoStart_of_planned hp h), fun l n low cross s h hk => ?_,
    fun l n low cross k s h hs hf hc hm hl => ?_, fun l n k s hp h hs => ?_⟩
  · refine runs_onLive rfl ?_
    dsimp only
    rw [tpoEnd_of_low h]
    generalize (s.lane l).live = x at *
    obtain ⟨v, e, hv⟩ := pulseChecks_of_misses
      (x := x.modTpo n (fun q => { q with pulsing := false, faulted := false })) (low := low) (cross := cross) hk
    rw [e]
    refine ⟨rfl, rfl, congrArg TpoSt.pulsing (vmod_self ..), congrArg TpoSt.faulted (vmod_self ..), fun k => ?_, rfl, rfl, rfl⟩
    have hvk := hv k
    unfold Live.missNoted at hvk
    refine ⟨(congrArg SinSt.faulted hvk).trans ?_, fun hs => (congrArg SinSt.misses hvk).trans ?_⟩
    · split <;> rfl
    · exact congrArg SinSt.misses (if_pos hs)
  · refine runs_onLive rfl ?_
    rw [tpoEnd_of_low h]
    obtain ⟨hk, hp, ht⟩ := pulseChecks_of_secondMiss
      (x := (s.lane l).live.modTpo n (fun q => { q with pulsing := false, faulted := false })) (cross := cross) hs hf hc hm hl
    generalize Live.pulseChecks _ n low cross = y at hk hp ht
    refine ⟨rfl, rfl, hk, ?_, ht⟩
    dsimp only
    rw [hp]
    exact congrArg TpoSt.faulted (vmod_self ..)
  · refine runs_onLive rfl ?_
    rw [tpoOverload_of_idle hp h]
    have spec := tpoFault_spec 2 hs
    generalize (s.lane l).live.tpoFault n 2 = y at spec
    exact ⟨rfl, rfl, spec⟩

end Sys2Proof.Machine
end

section
/-!
PROOF SUPPORT. Timers of the safety functions and safe data (R325 to R327, R329, R340, R351): what a stop demand and the
holds of a state change leave of the safety functions, of timing and of feedback, and the obligation about them.
-/

namespace Sys2Proof.Machine

/-! ### What a reaction leaves (R329) -/

/-- The parts of a lane that no stop demand, hold or safety output changes. -/
def Live.apart (x : Live) : TickSt × FeedbackSt × Vector InstSt 24 := (x.tk, x.fb, x.sf.inst)

theorem raise_apart (x : Live) (src unit : Nat) (syn : Word) : (x.raise src unit syn).apart = x.apart := by
  have e := congrArg Live.apart (raise_steady x src unit syn)
  exact e

theorem soutUpdates_apart (x : Live) : x.soutUpdates.apart = x.apart := by
  obtain ⟨o, i, e⟩ := soutUpdates_frame x
  rw [e]; rfl

theorem settle_apart (x : Live) : x.settle.apart = x.apart := by
  unfold Live.apart; rw [settle_tk, settle_fb, settle_sf]

theorem closeSession_apart (x : Live) (deep : Bool) : (x.closeSession deep).apart = x.apart := by
  obtain ⟨rc, jn, di, p, a, i, e⟩ := closeSession_frame x deep
  rw [e]; rfl

theorem disarm_apart (x : Live) : x.disarm.apart = x.apart := by
  unfold Live.disarm; split <;> rfl

theorem dropRetries_apart (x : Live) : x.dropRetries.apart = x.apart := by
  unfold Live.dropRetries
  refine forAll_keeps _ (fun y => y.apart = x.apart) (fun p y h => ?_) x rfl
  exact h

theorem windingsFree_apart (x : Live) : x.windingsFree.apart = x.apart := by
  obtain ⟨w, e⟩ := windingsFree_frame x
  rw [e]; rfl

theorem enterSafe_apart (x : Live) : x.enterSafe.apart = x.apart := by
  have groups : ∀ z : Live, (forAll 24 (fun g (y : Live) =>
      y.modGroup g (fun q => { q with stop := none, stopped := false })) z).apart = z.apart := by
    intro z
    refine forAll_keeps _ (fun y : Live => y.apart = z.apart) (fun g y h => ?_) z rfl
    exact h
  have left := (groups x.windingsFree.dropRetries).trans ((dropRetries_apart _).trans (windingsFree_apart x))
  unfold Live.enterSafe
  dsimp only
  generalize forAll 24 _ x.windingsFree.dropRetries = z at left ⊢
  exact left

theorem enterMode_safe_apart (x : Live) : (x.enterMode .safe).apart = x.apart := by
  unfold Live.enterMode
  dsimp only
  refine iteInduction (motive := fun z : Live => z.apart = x.apart) (fun _ => rfl) (fun _ => ?_)
  rw [soutUpdates_apart, settle_apart, if_neg (fun h => Mode.noConfusion h.1), enterSafe_apart]
  refine iteInduction (motive := fun z : Live => z.apart = x.apart) (fun _ => rfl) (fun _ => ?_)
  refine iteInduction (motive := fun z : Live => z.apart = x.apart) (fun _ => ?_) (fun _ => rfl)
  exact (closeSession_apart _ _).trans (disarm_apart _)

theorem stopAll_apart (x : Live) : x.stopAll.apart = x.apart := by
  unfold Live.stopAll
  refine forAll_keeps _ (fun y : Live => y.apart = x.apart) (fun g y h => ?_) _ rfl
  exact iteInduction (motive := fun z : Live => z.apart = x.apart) (fun _ => h) (fun _ => h)

theorem stopDemand_apart (x : Live) (cat : Nat) : (x.stopDemand cat true).apart = x.apart := by
  unfold Live.stopDemand
  refine iteInduction (motive := fun z : Live => z.apart = x.apart) (fun _ => rfl) (fun _ => ?_)
  refine iteInduction (motive := fun z : Live => z.apart = x.apart) (fun _ => enterMode_safe_apart x) (fun _ => ?_)
  exact iteInduction (motive := fun z : Live => z.apart = x.apart) (fun _ => rfl) (fun _ => stopAll_apart x)

theorem stopReaction_apart (x : Live) (i : Fin 24) : (x.stopReaction i).apart = x.apart := by
  unfold Live.stopReaction
  refine iteInduction (motive := fun z : Live => z.apart = x.apart) (fun _ => ?_) (fun _ => rfl)
  split
  · exact stopDemand_apart x 0
  · exact stopDemand_apart x 1
  · rfl

theorem adoptState_apart (x : Live) (i : Fin 24) (v : Nat) : (x.adoptState i v).apart = x.apart := by
  unfold Live.adoptState
  dsimp only
  refine iteInduction (motive := fun z : Live => z.apart = x.apart) (fun _ => ?_) (fun _ => rfl)
  refine iteInduction (motive := fun z : Live => z.apart = x.apart) (fun _ => ?_) (fun _ => rfl)
  exact (soutUpdates_apart _).trans (stopReaction_apart _ _)

/-- The holds of category 2 mark the safety functions, and leave timing and feedback alone (R329). -/
theorem holds_spec (x : Live) : x.holds.tk = x.tk ∧ x.holds.fb = x.fb ∧
    ∀ i : Fin 24, (x.holds.sf.inst[i]).state = (x.sf.inst[i]).state ∧ (x.holds.sf.inst[i]).cause = (x.sf.inst[i]).cause := by
  have key : x.holds.apart =
      (x.tk, x.fb, Vector.ofFn (fun (i : Fin 24) => { x.sf.inst[i] with hold := decide (x.heldBy i ≠ 0) })) := by
    unfold Live.holds
    dsimp only
    refine forAll_keeps _ (fun y : Live => y.apart = (x.tk, x.fb,
      Vector.ofFn (fun (i : Fin 24) => { x.sf.inst[i] with hold := decide (x.heldBy i ≠ 0) }))) (fun g y h => ?_) _ rfl
    dsimp only
    split
    · split
      · exact h
      · exact h
    · split
      · exact h
      · exact h
  unfold Live.apart at key
  obtain ⟨ht, hf, hi⟩ : x.holds.tk = x.tk ∧ x.holds.fb = x.fb ∧ x.holds.sf.inst = _ :=
    ⟨congrArg Prod.fst key, congrArg (fun z => z.2.1) key, congrArg (fun z => z.2.2) key⟩
  refine ⟨ht, hf, fun i => ?_⟩
  have e : x.holds.sf.inst[i] = { x.sf.inst[i] with hold := decide (x.heldBy i ≠ 0) } := by
    rw [hi]; exact Vector.getElem_ofFn ..
  rw [e]
  exact ⟨rfl, rfl⟩

/-! ### A safety function that is locked (R325, R327) -/

/-- Instance `i` enters LOCKED: its event, the reaction, the holds and the outputs follow (R325, R329). -/
def Live.lockInst (x : Live) (i : Fin 24) (c : Nat) : Live :=
  let y := { x with sf := { x.sf with inst := vmod x.sf.inst i (fun _ => ((x.sf.inst[i]).lockWith c).1) } }
  ((y.raise (312 + i.val) noUnit (BitVec.ofNat 32 c)).adoptState i 3).holds.soutUpdates

theorem lockInst_spec (x : Live) (i : Fin 24) (c : Nat) : ((x.lockInst i c).sf.inst[i]).state = 3 ∧
    ((x.lockInst i c).sf.inst[i]).cause = BitVec.ofNat 2 c ∧ (x.lockInst i c).tk = x.tk ∧
    (x.lockInst i c).fb = x.fb := by
  unfold Live.lockInst
  dsimp only
  generalize hy : ({ x with sf := { x.sf with
    inst := vmod x.sf.inst i (fun _ => ((x.sf.inst[i]).lockWith c).1) } } : Live) = y
  have hinst : y.sf.inst[i] = ((x.sf.inst[i]).lockWith c).1 := by
    rw [← hy]; exact vmod_self ..
  have hkept : y.tk = x.tk ∧ y.fb = x.fb := by rw [← hy]; exact ⟨rfl, rfl⟩
  have before : ((y.raise (312 + i.val) noUnit (BitVec.ofNat 32 c)).adoptState i 3).apart = y.apart :=
    (adoptState_apart ..).trans (raise_apart ..)
  generalize (y.raise (312 + i.val) noUnit (BitVec.ofNat 32 c)).adoptState i 3 = z at before ⊢
  have after := soutUpdates_apart z.holds
  generalize z.holds.soutUpdates = w at after ⊢
  obtain ⟨ht, hf, hi⟩ := holds_spec z
  simp only [Live.apart, Prod.mk.injEq] at before after
  obtain ⟨zt, zf, zi⟩ := before
  obtain ⟨wt, wf, wi⟩ := after
  have hz : z.sf.inst[i] = ((x.sf.inst[i]).lockWith c).1 := by rw [zi]; exact hinst
  refine ⟨?_, ?_, wt.trans (ht.trans (zt.trans hkept.1)), wf.trans (hf.trans (zf.trans hkept.2))⟩
  · rw [wi, (hi i).1, hz]
    rfl
  · rw [wi, (hi i).2, hz]
    rfl

/-- A degraded timer that has run its time (R325, R327). -/
theorem degElapsed_of_over {x : Live} {i : Fin 24} (hr : x.running = true) (ho : x.sfOn i = true)
    (hh : isTwoHand i.val = false) (hd : (x.sf.inst[i]).degRun = true) (hs : (x.sf.inst[i]).state = 2)
    (ht : x.num Obj.safetyDegradedTime * x.num Obj.tickRate ≤ (x.sf.inst[i]).degTimer.toNat) :
    x.degElapsed i = x.lockInst i 3 := by
  unfold Live.degElapsed
  dsimp only
  rw [hr, ho, hh, hd, hs, decide_eq_true ht]
  exact if_pos rfl

/-- A discrepancy of a tripped safety function that has lasted its time (R325). -/
theorem discElapsed_of_lasting {x : Live} {i : Fin 24} (hr : x.running = true) (ho : x.sfOn i = true)
    (hs : (x.sf.inst[i]).state = 0) (hd : (x.sf.inst[i]).disc ≠ 0)
    (hl : (x.sfInput i.val).lasts ((x.sf.inst[i]).disc.toNat - 1) (x.sfInput i.val).disc = true) :
    x.discElapsed i = if isTwoHand i.val then
        if (x.sfInput i.val).c1 = 1 ∧ (x.sfInput i.val).c2 = 1 then x
        else { x with sf := { x.sf with inst := vmod x.sf.inst i (fun z => { z with armed := false }) } }
      else x.lockInst i 1 := by
  unfold Live.discElapsed
  dsimp only
  rw [hr, ho, hs, hl, decide_eq_true hd]
  exact if_pos rfl

/-! ### Safe data (R340, R344) -/

theorem sdTimeout_of_old {x : Live} {i : Fin 24} {b : Bool} (hu : x.sdUsed i.val = true)
    (hl : (pickCopy x.sf.sd[i] b).lost = false) (ha : x.num Obj.safeTimeout < (pickCopy x.sf.sd[i] b).age) :
    x.sdTimeout i b = ((x.modCopy i b (fun c => { c with lost := true })).countFault .safeDataCopy x.me
      (2 * i.val + bit1 b)).raise 341 i.val (BitVec.ofNat 32 (bit1 b)) := by
  unfold Live.sdTimeout
  dsimp only
  rw [hu, hl, decide_eq_true ha]
  exact if_pos rfl

/-- Settles O33: a lock keeps timing and feedback, since no reaction changes them (`Live.apart`). -/
theorem safetyTimersAndSafeData : Obligations.SafetyTimersAndSafeData := by
  unfold Obligations.SafetyTimersAndSafeData
  refine ⟨fun l i s hr ho hh hd hs ht => ?_, fun l i s hr ho hs hd hl => ⟨fun hh => ?_, fun hh hc => ?_⟩,
    fun l i b s hu hl ha => runsEv_raise rfl (sdTimeout_of_old hu hl ha) trivial,
    fun l s hw => ⟨runsTo_onZero rfl hw rfl, runsTo_onZero rfl hw rfl⟩⟩
  · refine runs_onLive rfl ?_
    rw [degElapsed_of_over hr ho hh hd hs ht]
    have spec := lockInst_spec (s.lane l).live i 3
    generalize (s.lane l).live.lockInst i 3 = y at spec
    exact ⟨rfl, rfl, spec⟩
  · refine runs_onLive rfl ?_
    rw [discElapsed_of_lasting hr ho hs hd hl, if_neg (hh ▸ Bool.false_ne_true)]
    have spec := lockInst_spec (s.lane l).live i 1
    generalize (s.lane l).live.lockInst i 1 = y at spec
    exact ⟨rfl, rfl, spec⟩
  · refine runsTo_onLive rfl ?_
    rw [discElapsed_of_lasting hr ho hs hd hl, if_pos hh]
    exact if_neg fun h => hc h.1

end Sys2Proof.Machine
end

section
/-!
PROOF SUPPORT. Pass comparison of paired threads (R273, R285): a pair that fails, the two closes of a job, and the
obligation about them.
-/

namespace Sys2Proof.Machine

section
variable {x : Live} {c : Fin 16}

theorem vmod_const {α : Type} {n : Nat} (v : Vector α n) (i : Fin n) (f : α → α) (a : α) :
    vmod (vmod v i f) i (fun _ => a) = vmod v i (fun _ => a) := by
  simp [vmod]

/-! ### A pair that fails (R285) -/

/-- What a mismatch count leaves, and the place of the mismatch that it notes (R277). -/
theorem countMismatch_spec (x : Live) (src unit : Nat) : ∃ r, (x.countMismatch src unit).ps =
      { x.ps with recent := r, lastTick := x.tickLow, lastSrc := BitVec.ofNat 8 src } ∧
    (x.countMismatch src unit).en.bus = x.en.bus := by
  unfold Live.countMismatch
  dsimp only
  split
  · exact ⟨_, raise_ps .., raise_keeps _ _ _ _ (fun z => z.en.bus)⟩
  · exact ⟨_, rfl, rfl⟩

theorem pairFails_spec (x : Live) (c : Fin 16) :
    (x.pairFails c).ps.pairs[c] = { repeats := (x.ps.pairs[c]).repeats + 1 } ∧
      (x.pairFails c).ps.softMis = satInc x.ps.softMis ∧ (x.pairFails c).ps.lead[pairChan c] = 0xFFFFFFFFFFFFFFFF ∧
      (x.pairFails c).ps.tail[pairChan c] = 0xFFFFFFFFFFFFFFFF ∧
      (x.pairFails c).ps.lastSrc = BitVec.ofNat 8 (16 + c.val) ∧ (x.pairFails c).ps.lastTick = x.tickLow ∧
      (x.pairFails c).ps.restores = x.ps.restores ∧ (x.pairFails c).en.bus = x.en.bus := by
  unfold Live.pairFails
  dsimp only
  have hps : ({ x.pairReset c ((x.ps.pairs[c]).repeats + 1) with ps :=
      { (x.pairReset c ((x.ps.pairs[c]).repeats + 1)).ps with
        softMis := satInc (x.pairReset c ((x.ps.pairs[c]).repeats + 1)).ps.softMis } } : Live).ps =
      { x.ps with
        lead := vmod x.ps.lead (pairChan c) (fun _ => 0xFFFFFFFFFFFFFFFF),
        tail := vmod x.ps.tail (pairChan c) (fun _ => 0xFFFFFFFFFFFFFFFF),
        pairs := vmod x.ps.pairs c (fun _ => { repeats := (x.ps.pairs[c]).repeats + 1 }),
        softMis := satInc x.ps.softMis } := rfl
  have hbus : ({ x.pairReset c ((x.ps.pairs[c]).repeats + 1) with ps :=
      { (x.pairReset c ((x.ps.pairs[c]).repeats + 1)).ps with
        softMis := satInc (x.pairReset c ((x.ps.pairs[c]).repeats + 1)).ps.softMis } } : Live).en.bus = x.en.bus := rfl
  have htick : ({ x.pairReset c ((x.ps.pairs[c]).repeats + 1) with ps :=
      { (x.pairReset c ((x.ps.pairs[c]).repeats + 1)).ps with
        softMis := satInc (x.pairReset c ((x.ps.pairs[c]).repeats + 1)).ps.softMis } } : Live).tickLow = x.tickLow := rfl
  generalize ({ x.pairReset c ((x.ps.pairs[c]).repeats + 1) with ps := _ } : Live) = y at hps hbus htick ⊢
  have rps := raise_ps y 81 (16 + c.val) 0
  have rbus := raise_keeps y 81 (16 + c.val) 0 (fun z => z.en.bus)
  have rtick := raise_keeps y 81 (16 + c.val) 0 (fun z => z.tickLow)
  change (y.raise 81 (16 + c.val)).en.bus = y.en.bus at rbus
  change (y.raise 81 (16 + c.val)).tickLow = y.tickLow at rtick
  generalize y.raise 81 (16 + c.val) = z at rps rbus rtick ⊢
  obtain ⟨r, e, b⟩ := countMismatch_spec z (16 + c.val) (16 + c.val)
  rw [e, b, rps, hps, rtick, htick, rbus, hbus]
  exact ⟨vmod_self .., rfl, vmod_self .., vmod_self .., rfl, rfl, rfl, rfl⟩

/-! ### Closes of a job (R273, R285) -/

/-- The lane with a close of a job noted and its words fed into the closing thread's register. -/
def Live.closeNoted (x : Live) (c : Fin 16) (tail : Bool) (ws : List Word) : Live :=
  { x with ps := { x.ps with
    lead := if tail then x.ps.lead else vmod x.ps.lead (pairChan c) (fun r => crc64Feed r ws),
    tail := if tail then vmod x.ps.tail (pairChan c) (fun r => crc64Feed r ws) else x.ps.tail,
    pairs := vmod x.ps.pairs c (fun q => { q with
      leadClosed := q.leadClosed || !tail, tailClosed := q.tailClosed || tail,
      closedAt := some (q.closedAt.getD x.ticks) }) } }

theorem closePort_of_awake {tail : Bool} {ws : List Word} (ha : x.awake = true) : x.closePort c tail ws =
    let y := x.closeNoted c tail ws
    if ((x.ps.pairs[c]).leadClosed || !tail) && ((x.ps.pairs[c]).tailClosed || tail) then
      (if y.chanDiff (pairChan c) ≠ 0 ∧ y.ps.stuck = false then y.pairFails c else y.pairReset c 0)
    else y := by
  unfold Live.closePort
  rw [ha]
  cases tail <;> rfl

theorem closePort_of_first {tail : Bool} {ws : List Word} (ha : x.awake = true)
    (hl : (x.ps.pairs[c]).leadClosed = false) (ht : (x.ps.pairs[c]).tailClosed = false)
    (hc : (x.ps.pairs[c]).closedAt = none) :
    x.closePort c tail ws = { x with ps := { x.ps with
      lead := if tail then x.ps.lead else vmod x.ps.lead (pairChan c) (fun r => crc64Feed r ws),
      tail := if tail then vmod x.ps.tail (pairChan c) (fun r => crc64Feed r ws) else x.ps.tail,
      pairs := vmod x.ps.pairs c (fun q => { q with
        leadClosed := !tail, tailClosed := tail, closedAt := some x.ticks }) } } := by
  have hpairs : vmod x.ps.pairs c (fun q => { q with
      leadClosed := q.leadClosed || !tail, tailClosed := q.tailClosed || tail,
      closedAt := some (q.closedAt.getD x.ticks) }) =
      vmod x.ps.pairs c (fun q => { q with
        leadClosed := !tail, tailClosed := tail, closedAt := some x.ticks }) := by
    unfold vmod
    refine congrArg (fun q => x.ps.pairs.set c.val q c.isLt) ?_
    dsimp only
    rw [hl, ht, hc]; rfl
  have hopen : (((x.ps.pairs[c]).leadClosed || !tail) && ((x.ps.pairs[c]).tailClosed || tail)) = false := by
    rw [hl, ht]; cases tail <;> rfl
  rw [closePort_of_awake ha]
  dsimp only
  rw [hopen]
  unfold Live.closeNoted
  rw [hpairs]
  rfl

/-- The tail's close of a job that the lead has closed: its register against the lead's. -/
theorem closePort_of_second {ws : List Word} (ha : x.awake = true) (hl : (x.ps.pairs[c]).leadClosed = true)
    (ht : (x.ps.pairs[c]).tailClosed = false) : x.closePort c true ws =
    if x.ps.lead[pairChan c] ^^^ crc64Feed x.ps.tail[pairChan c] ws ≠ 0 ∧ x.ps.stuck = false then
      (x.closeNoted c true ws).pairFails c else (x.closeNoted c true ws).pairReset c 0 := by
  have htail : (x.closeNoted c true ws).ps.tail[pairChan c] = crc64Feed x.ps.tail[pairChan c] ws :=
    vmod_self x.ps.tail (pairChan c) (fun r => crc64Feed r ws)
  have hd : (x.closeNoted c true ws).chanDiff (pairChan c) =
      x.ps.lead[pairChan c] ^^^ crc64Feed x.ps.tail[pairChan c] ws :=
    congrArg (x.ps.lead[pairChan c] ^^^ ·) htail
  rw [closePort_of_awake ha, hl, ht]
  dsimp only
  rw [hd]
  rfl

theorem closePort_of_equal {ws : List Word} (ha : x.awake = true) (hl : (x.ps.pairs[c]).leadClosed = true)
    (ht : (x.ps.pairs[c]).tailClosed = false) (he : x.ps.lead[pairChan c] = crc64Feed x.ps.tail[pairChan c] ws) :
    x.closePort c true ws = { x with ps := { x.ps with
      lead := vmod x.ps.lead (pairChan c) (fun _ => 0xFFFFFFFFFFFFFFFF),
      tail := vmod x.ps.tail (pairChan c) (fun _ => 0xFFFFFFFFFFFFFFFF),
      pairs := vmod x.ps.pairs c (fun _ => {}) } } := by
  have hx : ¬(x.ps.lead[pairChan c] ^^^ crc64Feed x.ps.tail[pairChan c] ws ≠ 0 ∧ x.ps.stuck = false) :=
    fun h => h.1 (by rw [he, BitVec.xor_self]; rfl)
  have htail := vmod_const x.ps.tail (pairChan c) (fun r => crc64Feed r ws) 0xFFFFFFFFFFFFFFFF
  have hpairs := vmod_const x.ps.pairs c (fun q => { q with
      leadClosed := q.leadClosed || !true, tailClosed := q.tailClosed || true,
      closedAt := some (q.closedAt.getD x.ticks) }) {}
  rw [closePort_of_second ha hl ht, if_neg hx, ← htail, ← hpairs]
  rfl

theorem closePort_of_different {ws : List Word} (ha : x.awake = true) (hl : (x.ps.pairs[c]).leadClosed = true)
    (ht : (x.ps.pairs[c]).tailClosed = false) (he : x.ps.lead[pairChan c] ≠ crc64Feed x.ps.tail[pairChan c] ws)
    (hs : x.ps.stuck = false) : x.closePort c true ws = (x.closeNoted c true ws).pairFails c := by
  rw [closePort_of_second ha hl ht]
  exact if_pos ⟨fun h => he (BitVec.xor_eq_zero_iff.mp h), hs⟩

theorem pairTimeout_of_late {t : Nat} (ha : x.awake = true) (hc : (x.ps.pairs[c]).closedAt = some t)
    (ht : t + 2 ≤ x.ticks) : x.pairTimeout c = x.pairFails c := by
  unfold Live.pairTimeout
  rw [hc]
  dsimp only
  rw [ha, decide_eq_true ht]
  exact if_pos rfl

end

/-- Settles O36: a job with equal registers is forgotten; a mismatch and a missing close are one failure. -/
theorem pairedThreads : Obligations.PairedThreads := by
  unfold Obligations.PairedThreads
  refine ⟨fun l c tail ws s ha hl ht hc => runsTo_onLive rfl (closePort_of_first ha hl ht hc),
    fun l c ws s ha hl ht => ⟨fun he => runsTo_onLive rfl (closePort_of_equal ha hl ht he), fun he hs => ?_⟩,
    fun l c t s ha hc ht => ?_, fun l s hw => runsTo_onZero rfl hw rfl⟩
  · refine runs_onLive rfl ?_
    rw [closePort_of_different ha hl ht he hs]
    obtain ⟨pair, soft, lead, tail, src, -, restores, bus⟩ := pairFails_spec ((s.lane l).live.closeNoted c true ws) c
    have pairs : ((s.lane l).live.closeNoted c true ws).ps.pairs[c] = _ := vmod_self ..
    have reps : (((s.lane l).live.closeNoted c true ws).ps.pairs[c]).repeats = ((s.lane l).live.ps.pairs[c]).repeats :=
      by rw [pairs]
    generalize ((s.lane l).live.closeNoted c true ws).pairFails c = y at *
    exact ⟨rfl, rfl, reps ▸ pair, soft, lead, tail, src, restores, bus⟩
  · refine runs_onLive rfl ?_
    rw [pairTimeout_of_late ha hc ht]
    obtain ⟨pair, soft, -, -, -, tick, -, bus⟩ := pairFails_spec (s.lane l).live c
    generalize (s.lane l).live.pairFails c = y at *
    exact ⟨rfl, rfl, pair, soft, tick, bus⟩

end Sys2Proof.Machine
end

section
/-!
PROOF SUPPORT. The logbook (R437 to R442, R451) and the end of a halt (R294, R441): an access to the storage, a capture
that is written, a trigger, and the obligation about them.
-/

namespace Sys2Proof.Machine

/-! ### An access to the storage (R302, R443) -/

theorem touchStore_of_unarmed {x : Live} (h : x.fl.armed = none) (region : Nat) : x.touchStore region = x := by
  unfold Live.touchStore Live.injected
  rw [h]

/-- An access at a lane that neither withdraws nor halts leaves its phase and its time. -/
theorem touchStore_phase {x : Live} (h : x.aside) (region : Nat) :
    (x.touchStore region).phase = x.phase ∧ (x.touchStore region).clk = x.clk := by
  have by' : ∀ (y : Live) (inj : Option Bool), y.aside → (y.raiseBy 361 region 0 inj).phase = y.phase ∧
      (y.raiseBy 361 region 0 inj).clk = y.clk := fun y inj hy =>
    ⟨poised_phase (raiseN_poised _ _ _ _ _ _ _ hy), steady_clk (raiseBy_steady ..)⟩
  unfold Live.touchStore Live.injected
  split
  · next l2 e =>
    split at e
    · split at e
      · cases e; exact by' _ _ h
      · cases e
    · cases e
  · next l2 e =>
    split at e
    · split at e
      · cases e
      · cases e; exact ⟨rfl, rfl⟩
    · cases e; exact ⟨rfl, rfl⟩

/-! ### Captures (R439) -/

theorem writeCapture_of_good {c : Capture} {x : LiveStore} (ha : x.1.fl.armed = none) (hb : x.2.bad = false) :
    writeCapture c x = (x.1, { x.2 with captures := keepRing 3221225472 (c :: x.2.captures) }) := by
  unfold writeCapture
  rw [touchStore_of_unarmed ha, hb]
  rfl

/-- What writing a capture leaves, whether the storage takes it or not. -/
theorem writeCapture_spec (c : Capture) (x : LiveStore) (h : x.1.aside) :
    (writeCapture c x).1.phase = x.1.phase ∧ (writeCapture c x).1.clk = x.1.clk ∧
      (writeCapture c x).2.regions = x.2.regions ∧ (writeCapture c x).2.boot = x.2.boot := by
  obtain ⟨hp, hc⟩ := touchStore_phase h noUnit
  have ha : (x.1.touchStore noUnit).aside := by unfold Live.aside; rw [hp]; exact h
  unfold writeCapture
  dsimp only
  split
  · exact ⟨(poised_phase (raise_poised _ _ _ _ ha)).trans hp, (raise_clk ..).trans hc, rfl, rfl⟩
  · exact ⟨hp, hc, rfl, rfl⟩

theorem captureWritten_of_complete {x : LiveStore} {c : Capture} {cs : List Capture} (hp : x.1.im.pending = c :: cs)
    (hl : c.left = 0) (hb : x.2.bad = false) (ha : x.1.fl.armed = none) : captureWritten x =
      ({ x.1 with im := { x.1.im with pending := cs } },
       { x.2 with captures := keepRing 3221225472 (c :: x.2.captures) }) := by
  unfold captureWritten
  rw [hp]
  dsimp only
  rw [if_pos hl]
  exact writeCapture_of_good ha hb

/-- A trigger while fewer than eight captures are pending (R439). -/
theorem logTriggerNow_of_room {x : Live} (hn : x.num Obj.preTrigger ≠ 0) (hu : x.fl.unusable.getLsbD 3 = false)
    (he : x.im.erasing = false) (hp : x.im.pending.length < 8) (src : Half) :
    x.logTriggerNow src = { x with im := { x.im with pending := x.im.pending ++ [x.newCapture src] } } := by
  have off : ¬((x.num Obj.preTrigger = 0 ∧ x.num Obj.postTrigger = 0) ∨ x.fl.unusable.getLsbD 3 = true ∨
      x.im.erasing = true) := by
    rw [hu, he]; simp [hn]
  have e : x.trigger src = (false, { x with im := { x.im with pending := x.im.pending ++ [x.newCapture src] } }) := by
    unfold Live.trigger
    rw [if_neg off, if_neg Bool.false_ne_true, if_neg (Nat.not_le.mpr hp)]
  unfold Live.logTriggerNow
  rw [e]

/-! ### The end of a halt (R294, R441) -/

/-- The halted lane at its restart, the FATAL capture written. -/
def haltFlush (x : LiveStore) : LiveStore :=
  match x.1.im.pending with
  | c :: cs => if c.fatal then writeCapture c.cut ({ x.1 with im := { x.1.im with pending := cs } }, x.2) else x
  | [] => x

theorem haltFlush_spec (x : LiveStore) (h : x.1.aside) : (haltFlush x).1.phase = x.1.phase ∧
    (haltFlush x).1.clk = x.1.clk ∧ (haltFlush x).2.regions = x.2.regions ∧ (haltFlush x).2.boot = x.2.boot := by
  unfold haltFlush
  split
  · split
    · exact writeCapture_spec _ _ h
    · exact ⟨rfl, rfl, rfl, rfl⟩
  · exact ⟨rfl, rfl, rfl, rfl⟩

theorem haltRestart_of_due {x : LiveStore} {t : Nat} (hp : x.1.phase = .halted) (ht : x.1.fl.haltedAt = some t)
    (hd : x.1.due (t + ms 100) = true) : haltRestart x =
      let y := haltFlush ({ x.1 with clk := max x.1.clk (t + ms 100) }, x.2)
      (y.1.reset .haltRestart, y.2) := by
  unfold haltRestart
  rw [hp, ht]
  exact if_pos hd

theorem recordedKind_haltRestart {x : Live} (h : x.phase ≠ .inReset) : x.recordedKind .haltRestart = 5 := if_neg h

theorem haltRestart_spec {x : LiveStore} {t : Nat} (hp : x.1.phase = .halted) (ht : x.1.fl.haltedAt = some t)
    (hd : x.1.due (t + ms 100) = true) : (haltRestart x).1.phase = .inReset ∧ (haltRestart x).1.su.last = 5 ∧
      (haltRestart x).1.su.halt = true ∧ t + ms 100 ≤ (haltRestart x).1.clk ∧
      (haltRestart x).1.im.session = none ∧ (haltRestart x).1.quiet = true ∧
      (haltRestart x).2.regions = x.2.regions ∧ (haltRestart x).2.boot = x.2.boot := by
  have aside : ({ x.1 with clk := max x.1.clk (t + ms 100) } : Live).aside := by
    unfold Live.aside
    dsimp only
    rw [hp]
    exact ⟨nofun, nofun, nofun⟩
  obtain ⟨yp, yc, yr, yb⟩ := haltFlush_spec ({ x.1 with clk := max x.1.clk (t + ms 100) }, x.2) aside
  rw [haltRestart_of_due hp ht hd]
  generalize haltFlush ({ x.1 with clk := max x.1.clk (t + ms 100) }, x.2) = y at *
  obtain ⟨rp, -, rc, -, -, -, -, -, -, -, -, -, rs, -, -, rl, -⟩ := reset_spec y.1 .haltRestart
  have kind : y.1.recordedKind .haltRestart = 5 := recordedKind_haltRestart (by rw [yp]; exact hp ▸ nofun)
  rw [kind] at rl
  refine ⟨rp, rl, reset_halt y.1 .haltRestart, ?_, rs, reset_quiet y.1 .haltRestart, yr, yb⟩
  dsimp only
  rw [rc, yc]
  exact Nat.le_max_right ..

/-! ### Trend, erase, read (R442, R451) -/

theorem trendRecord_of_samples {x : LiveStore} (hn : x.1.im.trendN ≠ 0) (hu : x.1.fl.unusable.getLsbD 3 = false)
    (he : x.1.im.erasing = false) : trendRecord x =
      ({ x.1 with im := { x.1.im with trendSum := [], trendN := 0 } },
       { x.2 with trend := ((x.1.timeStamp, x.1.im.trendSum.map (fun v => F32.div v (F32.ofNat x.1.im.trendN))) ::
          x.2.trend).take 7456540 }) := by
  unfold trendRecord
  dsimp only
  rw [if_neg hn, hu, he]
  rfl

theorem logbookErase_of_session {x : LiveStore} {path : Path} (hw : x.1.writes = true)
    (hs : x.1.sessionOn path = true) : logbookErase path 0 x =
      (({ x.1 with im := { x.1.im with erasing := true, markers := [] } } : Live).accept (some path),
       { x.2 with captures := [], trend := [] }) := by
  unfold logbookErase
  dsimp only
  rw [answers_of_writes hw, hw, hs]
  rfl

theorem readData_of_answers {x : LiveStore} {path : Path} (ha : x.1.answers = true) : readData path x =
    let d := ((x.1.selection x.2).drop (x.1.rwNum Obj.readOffset)).take 32768
    ((x.1.setRw Obj.readOffset 0 0 (leBytes 4 (x.1.rwNum Obj.readOffset + d.length))).answer
      { path := some path, sid := 0, abort := none, data := d, last := true }, x.2) := by
  unfold readData
  dsimp only
  rw [ha]
  rfl

/-- Settles O37: a halt's restart is the reset of its kind after the capture is written, which keeps images and boot. -/
theorem logbookAndHaltRestart : Obligations.LogbookAndHaltRestart := by
  unfold Obligations.LogbookAndHaltRestart
  refine ⟨fun l c cs s hp hl hb ha => runs_onStore rfl ?_, fun l s hw hn hu he hp => runsTo_onZero rfl hw ?_,
    fun l t s hp ht hd => runs_onStore rfl ?_,
    fun l s hn hu he => runs_onStore rfl ?_, fun l path s hw hs => runs_onStore rfl ?_,
    fun l s => runsTo_onLive rfl rfl, fun l path s ha => runs_onStore rfl ?_⟩
  · rw [captureWritten_of_complete (x := ((s.lane l).live, (s.lane l).store)) hp hl hb ha]
    exact ⟨rfl, rfl, rfl⟩
  · rw [logTriggerNow_of_room hn hu he hp]
  · have spec := haltRestart_spec (x := ((s.lane l).live, (s.lane l).store)) hp ht hd
    generalize haltRestart ((s.lane l).live, (s.lane l).store) = y at spec ⊢
    exact ⟨rfl, spec⟩
  · rw [trendRecord_of_samples (x := ((s.lane l).live, (s.lane l).store)) hn hu he]
    exact ⟨rfl, rfl, rfl⟩
  · rw [logbookErase_of_session (x := ((s.lane l).live, (s.lane l).store)) hw hs]
    exact ⟨rfl, rfl, rfl⟩
  · rw [readData_of_answers (x := ((s.lane l).live, (s.lane l).store)) ha]
    exact ⟨rfl, rfl, rfl⟩

end Sys2Proof.Machine
end

section
/-!
PROOF SUPPORT. Configuration storage (R387, R418 to R424): what the slot commands report, the comparison of a role's
copies, an applied configuration, and the obligation about the slot commands.
-/

namespace Sys2Proof.Machine

/-! ### What the slot commands report and put in effect -/

/-- The parts of a lane that the slot commands are judged by: the values in effect, the statuses of the roles, the
commands that run. -/
def Live.slotView (x : Live) : LaneId × NMap (List Byte) × Byte × Byte × List (Nat × Word × Byte) :=
  (x.me, x.cfg, x.im.stStaged, x.im.stActive, x.im.busy)

theorem slotView_of_steady {x y : Live} (h : x.steady = y.steady) : x.slotView = y.slotView := by
  have e := congrArg Live.slotView h
  exact e

theorem slotView_of_poised {x y : Live} (h : x.poised = y.poised) : x.slotView = y.slotView := by
  have e := congrArg Live.slotView h
  exact e

theorem raiseKeys_slotView (x : Live) (ns : List (Fin 12)) : (x.raiseKeys ns).slotView = x.slotView := by
  have key : ∀ (l : List (Fin 12)) (y : Live), (l.foldl (fun (z : Live) n => z.raise 362 n.val) y).slotView = y.slotView := by
    intro l
    induction l with
    | nil => exact fun _ => rfl
    | cons n l ih => exact fun y => (ih _).trans (slotView_of_steady (raise_steady ..))
  exact key _ x

theorem touchStore_slotView (x : Live) (region : Nat) : (x.touchStore region).slotView = x.slotView := by
  have key : ∀ (y : Live) (a : Option Bool), y.slotView = x.slotView → (y.raiseBy 361 region 0 a).slotView = x.slotView :=
    fun y a h => (slotView_of_steady (raiseBy_steady ..)).trans h
  unfold Live.touchStore Live.injected
  cases x.fl.armed with
  | none => rfl
  | some a =>
    dsimp only
    by_cases h : a.checker = 104
    · rw [if_pos h]; exact key _ _ rfl
    · rw [if_neg h]

/-! ### An applied configuration (R424) -/

theorem installProgram_slotView (x : Live) : x.installProgram.slotView = x.slotView := by
  unfold Live.installProgram
  split <;> rfl

theorem startProgram_slotView (x : Live) : x.startProgram.slotView = x.slotView := by
  obtain ⟨en, ps, e, -⟩ := startProgram_spec x
  rw [e]
  rfl

theorem newEpoch_slotView (x : Live) : x.newEpoch.slotView = x.slotView := by
  unfold Live.slotView Live.newEpoch
  rfl

theorem settle_slotView (x : Live) : x.settle.slotView = x.slotView := by
  obtain ⟨w, q, e⟩ := settle_frame x
  rw [e]
  rfl

theorem loadApp_slotView (x : Live) : x.loadApp.slotView = x.slotView := by
  have bus : ∀ (f : Nat → F32) (l : List Nat) (y : Live),
      (l.foldl (fun (z : Live) k => z.setBus (768 + k) (f k)) y).slotView = y.slotView := by
    intro f l
    induction l with
    | nil => exact fun _ => rfl
    | cons k l ih => exact fun y => ih _
  unfold Live.loadApp
  refine iteInduction (motive := fun z : Live => z.slotView = x.slotView) (fun _ => ?_) (fun _ => rfl)
  exact (slotView_of_poised (autostart_poised _)).trans (bus _ _ _)

/-- What an applied configuration leaves of the slots' report; its values are in effect. -/
theorem applyConfig_slotView (x : Live) (bs : List Byte) :
    (x.applyConfig bs).slotView = ({ x with cfg := imageValues x.me bs } : Live).slotView := by
  have main : ∀ y : Live, y.slotView = ({ x with cfg := imageValues x.me bs } : Live).slotView →
      (if ((y.toListen 2).installProgram.drawPlan bs).en.running then
          ((y.toListen 2).installProgram.drawPlan bs).startProgram
        else ((y.toListen 2).installProgram.drawPlan bs).newEpoch).loadApp.settle.slotView =
      ({ x with cfg := imageValues x.me bs } : Live).slotView := by
    intro y hy
    have plan : ((y.toListen 2).installProgram.drawPlan bs).slotView = y.slotView :=
      installProgram_slotView (y.toListen 2)
    generalize (y.toListen 2).installProgram.drawPlan bs = z at plan ⊢
    rw [settle_slotView, loadApp_slotView, ← hy, ← plan]
    exact iteInduction (motive := fun w : Live => w.slotView = z.slotView) (fun _ => startProgram_slotView z)
      (fun _ => newEpoch_slotView z)
  unfold Live.applyConfig
  refine main _ ?_
  unfold Live.slotView
  rfl

/-! ### The comparison of the copies of a role (R419) -/

/-- Equal copies stand, and the comparison is reported. -/
theorem compareRole_of_equal {r : SlotRole} {o : Otp} {x : LiveStore}
    (h : x.2.region (2 * x.2.dir.pairOf r) = x.2.region (2 * x.2.dir.pairOf r + 1)) :
    (compareRole r o x).1.slotView = x.1.slotView ∧ (compareRole r o x).2 = x.2 := by
  have hv : copyVerdict x.2 o r = (0, none) := if_pos h
  unfold compareRole
  dsimp only
  split
  · exact ⟨rfl, rfl⟩
  · rw [hv]
    exact ⟨touchStore_slotView x.1 _, rfl⟩

/-- Copies of which the first passes its checks and is the one recorded: the second is overwritten at most. -/
theorem compareRole_of_first {r : SlotRole} {o : Otp} {x : LiveStore}
    (hc : checkStored x.2 o (x.2.region (2 * x.2.dir.pairOf r)) = 1)
    (hv : versionOf (x.2.region (2 * x.2.dir.pairOf r)) = x.2.dir.version r)
    (hd : digestOf (x.2.region (2 * x.2.dir.pairOf r)) = x.2.dir.digest r) :
    (compareRole r o x).1.slotView = x.1.slotView ∧ (compareRole r o x).2.dir = x.2.dir ∧
      (compareRole r o x).2.boot = x.2.boot := by
  have region : ∀ n bs, (x.2.setRegion n bs).dir = x.2.dir ∧ (x.2.setRegion n bs).boot = x.2.boot := by
    intro n bs
    unfold NvStore.setRegion
    split <;> exact ⟨rfl, rfl⟩
  have verdict : ∃ c n, copyVerdict x.2 o r = (c, if c = 0 then none else some n) := by
    unfold copyVerdict
    dsimp only
    rw [decide_eq_true hc]
    split
    · exact ⟨0, 0, rfl⟩
    · cases decide (checkStored x.2 o (x.2.region (2 * x.2.dir.pairOf r + 1)) = 1)
      · exact ⟨1, _, rfl⟩
      · exact ⟨2, _, if_pos (decide_eq_true (And.intro hv hd))⟩
  obtain ⟨c, n, hcn⟩ := verdict
  unfold compareRole
  dsimp only
  split
  · exact ⟨rfl, rfl, rfl⟩
  · rw [hcn]
    generalize hy : x.1.touchStore (2 * x.2.dir.pairOf r) = y
    have hyv : y.slotView = x.1.slotView := hy ▸ touchStore_slotView ..
    match c with
    | 0 => exact ⟨hyv, rfl, rfl⟩
    | c + 1 => exact ⟨(slotView_of_steady (raise_steady ..)).trans hyv, region _ _⟩

/-! ### Slot commands carried out (R423) -/

section
variable {o : Otp} {x : LiveStore} {v : Word}

theorem stage_of_bad (hb : x.2.bad = true) : (stage o v x).2 = x.2 ∧ (stage o v x).1.slotView =
    (x.1.me, x.1.cfg, 15, x.1.im.stActive, x.1.im.busy ++ [(1, v, 15)]) := by
  unfold stage
  dsimp only
  rw [if_pos hb]
  refine ⟨rfl, ?_⟩
  have touched := touchStore_slotView x.1 (2 * x.2.dir.pairOf .staged)
  generalize x.1.touchStore (2 * x.2.dir.pairOf .staged) = y at touched ⊢
  have raised := slotView_of_steady (raise_steady (y.setStatus .staged 15) 361 (2 * x.2.dir.pairOf .staged) 0)
  generalize (y.setStatus .staged 15).raise 361 (2 * x.2.dir.pairOf .staged) = z at raised ⊢
  simp only [Live.slotView, Live.setStatus, Live.running', Prod.mk.injEq] at touched raised ⊢
  obtain ⟨me, cfg, staged, active, busy⟩ := touched
  obtain ⟨me', cfg', staged', active', busy'⟩ := raised
  exact ⟨me'.trans me, cfg'.trans cfg, staged', active'.trans active, by rw [busy', busy]⟩

/-- A region that is written reads as it was at every other place. -/
theorem region_setRegion_ne (st : NvStore) {n m : Nat} (h : n ≠ m) (bs : List Byte) :
    (st.setRegion n bs).region m = st.region m := by
  unfold NvStore.setRegion NvStore.region
  split
  · simp only [List.getD_eq_getElem?_getD, Vector.toList_set, List.getElem?_set_ne h]
  · rfl

theorem setRegion_frame (st : NvStore) (n : Nat) (bs : List Byte) :
    ∃ r, st.setRegion n bs = { st with regions := r } := by
  unfold NvStore.setRegion
  split
  · exact ⟨_, rfl⟩
  · exact ⟨st.regions, rfl⟩

/-- A staging of an image that passes its checks (R423). -/
theorem stage_of_good (hb : x.2.bad = false) (hg : versionOf (x.2.image .staged) = v)
    (hc : checkStored x.2 o (x.2.image .staged) = 1) :
    (stage o v x).2.dir = x.2.dir.setRole .staged v (digestOf (x.2.image .staged)) ∧
      (stage o v x).2.boot = x.2.boot ∧
      (stage o v x).1.slotView = (x.1.me, x.1.cfg, 1, x.1.im.stActive, x.1.im.busy ++ [(1, v, 1)]) := by
  have touched := touchStore_slotView x.1 (2 * x.2.dir.pairOf .staged)
  have copied := region_setRegion_ne x.2 (n := 2 * x.2.dir.pairOf .staged + 1) (m := 2 * x.2.dir.pairOf .staged)
    (by omega) (x.2.region (2 * x.2.dir.pairOf .staged))
  unfold stage
  dsimp only
  rw [if_neg (hb ▸ Bool.false_ne_true)]
  generalize x.1.touchStore (2 * x.2.dir.pairOf .staged) = y at touched ⊢
  obtain ⟨r, hr⟩ := setRegion_frame x.2 (2 * x.2.dir.pairOf .staged + 1) (x.2.region (2 * x.2.dir.pairOf .staged))
  rw [hr] at copied ⊢
  obtain ⟨view, dir, boot⟩ := compareRole_of_first (r := .staged) (o := o)
    (x := (y.setStatus .staged 1, { x.2 with regions := r, dir := x.2.dir.setRole .staged v (digestOf (x.2.image .staged)) }))
    ((congrArg (checkStored _ o) copied).trans hc) ((congrArg versionOf copied).trans hg) (congrArg digestOf copied)
  unfold NvStore.image at *
  generalize compareRole .staged o _ = z at view dir boot ⊢
  refine ⟨dir, boot, ?_⟩
  simp only [Live.slotView, Live.setStatus, Live.running', Live.roleStatus, Prod.mk.injEq] at touched view ⊢
  obtain ⟨me, cfg, -, active, busy⟩ := touched
  obtain ⟨me', cfg', staged', active', busy'⟩ := view
  exact ⟨me'.trans me, cfg'.trans cfg, staged', active'.trans active, by rw [busy', busy, staged']⟩

/-- A verification of the STAGED image that finds an error (R423). -/
theorem verify_of_error {c : Nat} (hv : v ≠ 0) (hs : x.2.dir.vStaged = v) (hb : x.2.bad = false)
    (he : x.2.region (2 * x.2.dir.staged) = x.2.region (2 * x.2.dir.staged + 1))
    (hc : checkStored x.2 o (x.2.image .staged) = c) (hn : c ≠ 1) :
    (verify o v x).2 = x.2 ∧ (verify o v x).1.slotView =
      (x.1.me, x.1.cfg, BitVec.ofNat 8 c, x.1.im.stActive, x.1.im.busy ++ [(2, v, BitVec.ofNat 8 c)]) := by
  have role : x.2.verifyRole v = some .staged := (if_neg hv).trans (if_pos hs)
  obtain ⟨view, store⟩ := compareRole_of_equal (r := .staged) (o := o) (x := x) he
  have held : x.2.dir.version .staged ≠ 0 := hs.trans_ne hv
  unfold verify
  rw [role]
  dsimp only
  generalize compareRole .staged o x = y at view store ⊢
  rw [store, if_neg held, if_neg (hb ▸ Bool.false_ne_true), hc, if_pos hn]
  refine ⟨rfl, ?_⟩
  have keys := raiseKeys_slotView y.1 (damagedKeys 1 x.2 o (x.2.image .staged))
  generalize y.1.raiseKeys _ = z at keys ⊢
  rw [view] at keys
  simp only [Live.slotView, Live.setStatus, Live.running', Prod.mk.injEq] at keys ⊢
  obtain ⟨me, cfg, -, active, busy⟩ := keys
  exact ⟨me, cfg, trivial, active, by rw [busy]⟩

/-- A lane that applies an image as the act of a slot command. -/
theorem appliedRunning_slotView (y : Live) (bs : List Byte) (k : Nat) (v : Word) :
    ((y.applyConfig bs).running' k v 2).slotView =
      (y.me, imageValues y.me bs, y.im.stStaged, y.im.stActive, y.im.busy ++ [(k, v, 2)]) := by
  have running : ∀ z : Live, (z.running' k v 2).slotView = (z.slotView.1, z.slotView.2.1, z.slotView.2.2.1,
      z.slotView.2.2.2.1, z.slotView.2.2.2.2 ++ [(k, v, 2)]) := fun _ => rfl
  rw [running, applyConfig_slotView]
  rfl

theorem slotView_me {x y : Live} (h : x.slotView = y.slotView) : x.me = y.me := congrArg Prod.fst h

theorem slotView_staged {x y : Live} (h : x.slotView = y.slotView) : x.im.stStaged = y.im.stStaged :=
  congrArg (fun z => z.2.2.1) h

theorem slotView_busy {x y : Live} (h : x.slotView = y.slotView) : x.im.busy = y.im.busy :=
  congrArg (fun z => z.2.2.2.2) h

/-- The directory after a commit: the three roles rotated (R423). -/
def SlotDir.rotated (d : SlotDir) : SlotDir :=
  { staged := d.previous, active := d.staged, previous := d.active, vStaged := 0, vActive := d.vStaged,
    vPrevious := d.vActive, dStaged := [], dActive := d.dStaged, dPrevious := d.dActive, seq := d.seq + 1 }

theorem commit_of_equal (hv : x.2.dir.vStaged ≠ 0)
    (he : x.2.region (2 * x.2.dir.staged) = x.2.region (2 * x.2.dir.staged + 1)) :
    (commit o v x).2 = { x.2 with dir := x.2.dir.rotated } ∧ (commit o v x).1.slotView =
      (x.1.me, imageValues x.1.me (x.2.image .staged), 0, 2, x.1.im.busy ++ [(3, v, 2)]) := by
  obtain ⟨view, store⟩ := compareRole_of_equal (r := .staged) (o := o) (x := x) he
  unfold commit
  dsimp only
  generalize compareRole .staged o x = y at view store ⊢
  rw [store, if_neg hv]
  refine ⟨rfl, ?_⟩
  exact (appliedRunning_slotView _ _ 3 v).trans (by rw [slotView_me view, slotView_busy view]; rfl)

/-- The directory after a revert: ACTIVE and PREVIOUS exchanged (R423). -/
def SlotDir.exchanged (d : SlotDir) : SlotDir :=
  { d with active := d.previous, previous := d.active, vActive := d.vPrevious, vPrevious := d.vActive,
           dActive := d.dPrevious, dPrevious := d.dActive, seq := d.seq + 1 }

theorem revert_of_equal (hv : x.2.dir.vPrevious ≠ 0)
    (he : x.2.region (2 * x.2.dir.previous) = x.2.region (2 * x.2.dir.previous + 1)) :
    (revert o v x).2 = { x.2 with dir := x.2.dir.exchanged } ∧ (revert o v x).1.slotView =
      (x.1.me, imageValues x.1.me (x.2.image .previous), x.1.im.stStaged, 2, x.1.im.busy ++ [(4, v, 2)]) := by
  obtain ⟨view, store⟩ := compareRole_of_equal (r := .previous) (o := o) (x := x) he
  unfold revert
  dsimp only
  generalize compareRole .previous o x = y at view store ⊢
  rw [store, if_neg hv]
  refine ⟨rfl, ?_⟩
  exact (appliedRunning_slotView _ _ 4 v).trans
    (by rw [slotView_me view, slotView_staged view, slotView_busy view]; rfl)

/-! ### The commands as written (R387, R423) -/

theorem configCommand_of_closed {path : Path} (cmd : Nat) (hw : x.1.writes = true) (hv : v ≠ 0)
    (hs : x.1.sessionOn path = false) : configCommand cmd (some path) v o x = (x.1.abortWith (some path) 0x08000022, x.2) := by
  have refused : configRefusal cmd (some path) v x = some abortState := by
    unfold configRefusal
    dsimp only
    rw [hs]
    exact if_pos (Bool.or_true _)
  unfold configCommand
  dsimp only
  rw [answers_of_writes hw, hw, if_neg (by decide), if_neg (by decide), if_neg hv, refused]
  rfl

theorem configCommand_of_guard {path : Path} (cmd : Nat) (hw : x.1.writes = true) (hv : v ≠ 0)
    (hb : x.1.standby = true) (hs : x.1.sessionOn path = true) (hg : configGuard cmd v x = true) :
    configCommand cmd (some path) v o x =
      ((configAct cmd o v x).1.accept (some path), (configAct cmd o v x).2) := by
  have taken : configRefusal cmd (some path) v x = none := by
    unfold configRefusal
    dsimp only
    rw [hs, hb, hg]
    rfl
  unfold configCommand
  dsimp only
  rw [answers_of_writes hw, hw, if_neg (by decide), if_neg (by decide), if_neg hv, taken]

end

/-- A slot command whose guard holds, as a command on its lane. -/
theorem runs_configCommand {i : Instr} {l : LaneId} {s : State} {path : Path} {v : Word} {cmd : Nat} {P : Lane → Prop}
    (e : exec i s = .next (onStore l (configCommand cmd (some path) v) s)) (hw : (s.lane l).live.writes = true)
    (hv : v ≠ 0) (hb : (s.lane l).live.standby = true) (hs : (s.lane l).live.sessionOn path = true)
    (hg : configGuard cmd v ((s.lane l).live, (s.lane l).store) = true)
    (h : ∀ y : LiveStore, configAct cmd (s.lane l).otp v ((s.lane l).live, (s.lane l).store) = y →
      P { s.lane l with live := y.1.accept (some path), store := y.2 }) : Runs i l s P := by
  refine runs_onStore e ?_
  rw [configCommand_of_guard (x := ((s.lane l).live, (s.lane l).store)) cmd hw hv hb hs hg]
  exact h _ rfl

/-- Settles O38: the commands act on the directory in one write, and the slots' report follows the comparison of the
copies (`compareRole_of_equal`, `compareRole_of_first`). -/
theorem configurationCommands : Obligations.ConfigurationCommands := by
  unfold Obligations.ConfigurationCommands
  refine ⟨fun l path v s hw hv hs => ?_, fun l path v s hw hv hb hs hbad hg => ?_,
    fun l path v s hw hv hb hs hbad hg hc _ => ?_, fun l path v c s hw hv hb hs hbad _ hV hst he hc hn => ?_,
    fun l path v s hw hv hb hs hg he => ?_, fun l path v s hw hv hb hs hg he => ?_, fun l k v r rest s hb => ?_⟩
  · have closed := fun cmd =>
      configCommand_of_closed (o := (s.lane l).otp) (x := ((s.lane l).live, (s.lane l).store)) cmd hw hv hs
    refine ⟨?_, ?_, ?_, ?_⟩ <;> refine runs_onStore rfl ?_ <;> rw [closed]
  · refine runs_configCommand rfl hw hv hb hs hg fun y hy => ?_
    obtain ⟨store, view⟩ := stage_of_bad (o := (s.lane l).otp) (x := ((s.lane l).live, (s.lane l).store)) (v := v) hbad
    rw [show stage _ _ _ = y from hy] at store view
    exact ⟨rfl, store, congrArg (fun z => z.2.2.1) view, congrArg (fun z => z.2.2.2.2) view⟩
  · refine runs_configCommand rfl hw hv hb hs hg fun y hy => ?_
    have hver : versionOf ((s.lane l).store.image .staged) = v := by
      unfold configGuard at hg
      simp only [Bool.and_eq_true, decide_eq_true_eq] at hg
      exact hg.1.2
    obtain ⟨dir, boot, view⟩ :=
      stage_of_good (o := (s.lane l).otp) (x := ((s.lane l).live, (s.lane l).store)) (v := v) hbad hver hc
    rw [show stage _ _ _ = y from hy] at dir boot view
    have active := congrArg SlotDir.active dir
    exact ⟨rfl, congrArg SlotDir.vStaged dir, congrArg SlotDir.dStaged dir, active, boot,
      congrArg (fun z => z.2.2.1) view, congrArg (fun z => z.2.2.2.2) view⟩
  · have hg : configGuard 2 v ((s.lane l).live, (s.lane l).store) = true := by
      have role : (s.lane l).store.verifyRole v = some .staged := (if_neg hv).trans (if_pos hV)
      unfold configGuard
      dsimp only
      rw [role]
      exact decide_eq_true (.inl hst)
    refine runs_configCommand rfl hw hv hb hs hg fun y hy => ?_
    obtain ⟨store, view⟩ :=
      verify_of_error (o := (s.lane l).otp) (x := ((s.lane l).live, (s.lane l).store)) hv hV hbad he hc hn
    rw [show verify _ _ _ = y from hy] at store view
    exact ⟨rfl, store, congrArg (fun z => z.2.2.1) view, congrArg (fun z => z.2.2.2.2) view⟩
  · refine runs_configCommand rfl hw hv hb hs hg fun y hy => ?_
    have held : (s.lane l).live.im.stStaged = 2 ∧ (s.lane l).store.dir.vStaged = v ∧
        (s.lane l).store.dir.vActive.toNat < v.toNat := of_decide_eq_true hg
    obtain ⟨store, view⟩ := commit_of_equal (o := (s.lane l).otp) (x := ((s.lane l).live, (s.lane l).store)) (v := v)
      (held.2.1.trans_ne hv) he
    rw [show commit _ _ _ = y from hy] at store view
    have dir : (s.lane l).store.dir.rotated = { (s.lane l).store.dir.rotated with vActive := v } := by
      rw [← held.2.1]; rfl
    rw [dir] at store
    exact ⟨rfl, store, congrArg (fun z => z.2.2.2.1) view, congrArg (fun z => z.2.2.1) view,
      congrArg (fun z => z.2.1) view, congrArg (fun z => z.2.2.2.2) view⟩
  · refine runs_configCommand rfl hw hv hb hs hg fun y hy => ?_
    have held : (s.lane l).live.im.stPrevious = 2 ∧ (s.lane l).store.dir.vPrevious = v := of_decide_eq_true hg
    obtain ⟨store, view⟩ := revert_of_equal (o := (s.lane l).otp) (x := ((s.lane l).live, (s.lane l).store)) (v := v)
      (held.2.trans_ne hv) he
    rw [show revert _ _ _ = y from hy] at store view
    have dir : (s.lane l).store.dir.exchanged = { (s.lane l).store.dir.exchanged with vActive := v } := by
      rw [← held.2]; rfl
    rw [dir] at store
    exact ⟨rfl, store, congrArg (fun z => z.2.2.2.1) view, congrArg (fun z => z.2.1) view,
      congrArg (fun z => z.2.2.2.2) view⟩
  · refine runsTo_onLive rfl ?_
    unfold Live.configComplete
    rw [hb]

end Sys2Proof.Machine
end

section
/-!
PROOF SUPPORT. Downloads and firmware (R422, R425 to R428): a block that is taken, a trial and its confirmation, what
the start of a firmware leaves of a lane with the halt latch, and the obligation about them.
-/

namespace Sys2Proof.Machine

/-! ### Downloads (R422, R427) -/

section
variable {o : Otp} {x : LiveStore} {path : Path} {data : List Byte}

/-- A write of a download outside STANDBY or without a session (R422, R427). -/
theorem download_closed (hw : x.1.writes = true) (h : x.1.standby = false ∨ x.1.sessionOn path = false) :
    (!x.1.writes || !x.1.standby || !x.1.sessionOn path) = true := by
  rw [hw]
  rcases h with h | h <;> rw [h]
  · rfl
  · exact Bool.or_true _

theorem download_open (hw : x.1.writes = true) (hb : x.1.standby = true) (hs : x.1.sessionOn path = true) :
    (!x.1.writes || !x.1.standby || !x.1.sessionOn path) = false := by
  rw [hw, hb, hs]
  rfl

theorem stageData_of_closed (hw : x.1.writes = true) (h : x.1.standby = false ∨ x.1.sessionOn path = false) :
    stageData path data o x = (x.1.abortWith (some path) 0x08000022, x.2) := by
  unfold stageData
  dsimp only
  rw [answers_of_writes hw, if_neg (by decide), if_pos (download_closed hw h)]
  rfl

theorem loadData_of_closed (hw : x.1.writes = true) (h : x.1.standby = false ∨ x.1.sessionOn path = false) :
    loadData path data o x = (x.1.abortWith (some path) 0x08000022, x.2) := by
  unfold loadData
  dsimp only
  rw [answers_of_writes hw, if_neg (by decide), if_pos (download_closed hw h)]
  rfl

theorem stageData_of_empty (hw : x.1.writes = true) (hb : x.1.standby = true) (hs : x.1.sessionOn path = true) :
    stageData path [] o x = (((({ x.1 with im := { x.1.im with stagingGot := 0, stagingStatus := 0 } } : Live).setRw
      Obj.stageOffset 0 0 (leBytes 4 0)).setRw Obj.stageData 0 0 []).accept (some path), x.2) := by
  unfold stageData
  dsimp only
  rw [answers_of_writes hw, if_neg (by decide), download_open hw hb hs]
  rfl

theorem loadData_of_empty (hw : x.1.writes = true) (hb : x.1.standby = true) (hs : x.1.sessionOn path = true) :
    loadData path [] o x = (((({ x.1 with im := { x.1.im with loadGot := 0, loadStatus := 0 } } : Live).setRw
      Obj.fwLoadOffset 0 0 (leBytes 4 0)).setRw Obj.fwLoadData 0 0 []).accept (some path), x.2) := by
  unfold loadData
  dsimp only
  rw [answers_of_writes hw, if_neg (by decide), download_open hw hb hs]
  rfl

/-- A first block that is shorter than a header is taken (R422). -/
theorem blockRefusal_of_short {got size : Nat} {old : List Byte} (h : data.length < 64) (hs : 64 ≤ size) :
    blockRefusal 0 got size old data = none := by
  have long : ¬32768 < data.length := by omega
  have room : ¬(size < data.length ∨ (64 ≤ data.length ∧ imageLen data < data.length)) := by omega
  unfold blockRefusal
  rw [if_neg long, if_neg (fun h => h.1 rfl)]
  dsimp only
  rw [Nat.zero_add]
  exact if_neg room

theorem data_isEmpty (h : 0 < data.length) : data.isEmpty = false := by
  cases data with
  | nil => exact absurd h (Nat.lt_irrefl 0)
  | cons b bs => rfl

theorem stageData_of_block (hw : x.1.writes = true) (hb : x.1.standby = true) (hs : x.1.sessionOn path = true)
    (h0 : 0 < data.length) (h64 : data.length < 64) (hoff : x.1.rwNum Obj.stageOffset = 0) :
    stageData path data o x = ((stageBlock o data x).1.accept (some path), (stageBlock o data x).2) := by
  unfold stageData
  dsimp only
  rw [answers_of_writes hw, if_neg (by decide), download_open hw hb hs, if_neg Bool.false_ne_true, data_isEmpty h0,
    if_neg Bool.false_ne_true, hoff, blockRefusal_of_short h64 (by decide)]

theorem loadData_of_block (hw : x.1.writes = true) (hb : x.1.standby = true) (hs : x.1.sessionOn path = true)
    (h0 : 0 < data.length) (h64 : data.length < 64) (hoff : x.1.rwNum Obj.fwLoadOffset = 0) :
    loadData path data o x = ((loadBlock o data x).1.accept (some path), (loadBlock o data x).2) := by
  unfold loadData
  dsimp only
  rw [answers_of_writes hw, if_neg (by decide), download_open hw hb hs, if_neg Bool.false_ne_true, data_isEmpty h0,
    if_neg Bool.false_ne_true, hoff, blockRefusal_of_short h64 (by decide)]

/-- A first block of an incomplete image: the role is emptied, and its first region holds the block (R422). -/
theorem stageBlock_of_first (hb : x.2.bad = false) (ha : x.1.fl.armed = none) (h64 : data.length < 64)
    (hoff : x.1.rwNum Obj.stageOffset = 0) :
    (stageBlock o data x).2 = ({ x.2 with dir := x.2.dir.setRole .staged 0 [] } : NvStore).setRegion
        (2 * x.2.dir.staged) (trimZeros data) ∧
      (stageBlock o data x).1.im.stStaged = 0 ∧ (stageBlock o data x).1.im.stagingStatus = 3 ∧
      (stageBlock o data x).1.im.stagingGot = data.length ∧ (stageBlock o data x).1.au = x.1.au ∧
      (stageBlock o data x).1.fl = x.1.fl := by
  have part : decide (64 ≤ data.length ∧ imageLen (trimZeros data) ≤ data.length) = false :=
    decide_eq_false (by omega)
  unfold stageBlock
  dsimp only
  rw [touchStore_of_unarmed ha, hoff, hb]
  simp only [↓reduceIte, Nat.zero_add, part, Bool.false_eq_true, Live.setRw, Live.setStatus, SlotDir.pairOf,
    SlotDir.setRole, and_self]

/-- A first block of an incomplete firmware: the slot is marked empty and holds the block (R427). -/
theorem loadBlock_of_first (hb : x.2.bad = false) (ha : x.1.fl.armed = none) (h64 : data.length < 64)
    (hoff : x.1.rwNum Obj.fwLoadOffset = 0) :
    (loadBlock o data x).2 = ({ x.2 with boot := x.2.boot.mark (!x.2.boot.runningB) true } : NvStore).setFirmware
        (!x.2.boot.runningB) (trimZeros data) ∧
      (loadBlock o data x).1.im.loadStatus = 3 ∧ (loadBlock o data x).1.im.loadGot = data.length ∧
      (loadBlock o data x).1.au = x.1.au ∧ (loadBlock o data x).1.fl = x.1.fl := by
  have part : ¬(64 ≤ data.length ∧ imageLen (trimZeros data) ≤ data.length) := by omega
  unfold loadBlock
  dsimp only
  rw [touchStore_of_unarmed ha, hoff, hb]
  generalize (!x.2.boot.runningB) = b
  simp only [↓reduceIte, Nat.zero_add, part, Bool.false_eq_true, Live.setRw, Live.setFwStatus]
  cases b <;> simp only [↓reduceIte, Bool.false_eq_true, and_self]

/-! ### Trials (R427, R428) -/

theorem activate_of_loaded {v : Word} (hw : x.1.writes = true) (hv : v ≠ 0) (hb : x.1.standby = true)
    (hst : x.1.au.standstill = true) (hs : x.1.sessionOn path = true) (hl : x.1.im.loadStatus = 1)
    (hver : versionOf (x.2.firmware (!x.2.boot.runningB)) = v) : activate path v false x =
      ((x.1.accept (some path)).reset .software,
       { x.2 with boot := { x.2.boot with
          runningB := !x.2.boot.runningB, trial := true, tried := false, confirmed := false } }) := by
  have fits : decide (x.1.im.loadStatus ≠ 1 ∨ versionOf (x.2.firmware (!x.2.boot.runningB)) ≠ v) = false :=
    decide_eq_false (by rw [hl, hver]; simp)
  unfold activate
  dsimp only
  rw [answers_of_writes hw, hw, if_neg (by decide), if_neg (by decide), if_neg hv, hb, hst, hs, fits]
  rfl

end

/-! ### Boot (R425, R428) -/

/-- A trial is over or none was made, and neither slot passes. -/
theorem bootChoice_of_none {st : NvStore} {o : Otp} (ht : st.boot.trial = false)
    (h : bootStatus st o st.boot.runningB ≠ 1) (h' : bootStatus st o (!st.boot.runningB) ≠ 1) :
    bootChoice st o = (none, st.boot) := by
  unfold bootChoice
  dsimp only
  rw [ht]
  simp only [Bool.false_and, Bool.false_eq_true, if_false, if_neg h, if_neg h']

/-- A lane with the halt latch at its start: it neither withdraws nor halts, so an event leaves what is blanked here. -/
structure HeldBack (clk : Nat) (low : Bool) (x : Live) : Prop where
  phase : x.phase = .haltedState
  watch : x.su.wdAt = some clk
  low : x.gd.forcedLow = low

section
variable {clk : Nat} {low : Bool} {x y : Live}

theorem HeldBack.aside (h : HeldBack clk low x) : x.aside := by
  unfold Live.aside
  rw [h.phase]
  exact ⟨nofun, nofun, nofun⟩

theorem HeldBack.of_poised (h : HeldBack clk low x) (e : y.poised = x.poised) : HeldBack clk low y := by
  have ew := congrArg (fun z : Live => z.su.wdAt) e
  have el := congrArg (fun z : Live => z.gd.forcedLow) e
  change y.su.wdAt = x.su.wdAt at ew
  change y.gd.forcedLow = x.gd.forcedLow at el
  exact ⟨(poised_phase e).trans h.phase, ew.trans h.watch, el.trans h.low⟩

theorem HeldBack.raise (h : HeldBack clk low x) (src unit : Nat) (syn : Word) :
    HeldBack clk low (x.raise src unit syn) := h.of_poised (raise_poised _ _ _ _ h.aside)

theorem HeldBack.foldl {α : Type} (f : Live → α → Live) (hf : ∀ z a, HeldBack clk low z → HeldBack clk low (f z a))
    (l : List α) (h : HeldBack clk low x) : HeldBack clk low (l.foldl f x) := by
  induction l generalizing x with
  | nil => exact h
  | cons a l ih => exact ih (hf _ _ h)

theorem HeldBack.raiseKeys (h : HeldBack clk low x) (ns : List (Fin 12)) : HeldBack clk low (x.raiseKeys ns) :=
  HeldBack.foldl _ (fun _ _ hz => hz.raise ..) _ h

theorem HeldBack.touchStore (h : HeldBack clk low x) (region : Nat) : HeldBack clk low (x.touchStore region) := by
  have event : ∀ (z : Live) (a : Option Bool), HeldBack clk low z → HeldBack clk low (z.raiseBy 361 region 0 a) :=
    fun z a hz => hz.of_poised (raiseN_poised _ _ _ _ _ _ _ hz.aside)
  unfold Live.touchStore Live.injected
  cases x.fl.armed with
  | none => exact h
  | some a =>
    dsimp only
    by_cases e : a.checker = 104
    · rw [if_pos e]; exact event _ _ ⟨h.phase, h.watch, h.low⟩
    · rw [if_neg e]; exact h

theorem HeldBack.setStatus (h : HeldBack clk low x) (r : SlotRole) (c : Byte) : HeldBack clk low (x.setStatus r c) := by
  cases r <;> exact ⟨h.phase, h.watch, h.low⟩

theorem HeldBack.installProgram (h : HeldBack clk low x) : HeldBack clk low x.installProgram := by
  unfold Live.installProgram
  split <;> exact ⟨h.phase, h.watch, h.low⟩

theorem HeldBack.settle (h : HeldBack clk low x) : HeldBack clk low x.settle :=
  ⟨(settle_phase x).trans h.phase, (congrArg SupplySt.wdAt (settle_su x)).trans h.watch, (settle_forcedLow x).trans h.low⟩

/-- The comparison of a role's copies leaves the boot record (R419). -/
theorem HeldBack.compareRole {z : LiveStore} (h : HeldBack clk low z.1) (r : SlotRole) (o : Otp) :
    HeldBack clk low (compareRole r o z).1 ∧ (Machine.compareRole r o z).2.boot = z.2.boot := by
  have region : ∀ n bs, (z.2.setRegion n bs).boot = z.2.boot := by
    intro n bs
    unfold NvStore.setRegion
    split <;> rfl
  have touched := h.touchStore (2 * z.2.dir.pairOf r)
  unfold Machine.compareRole
  dsimp only
  generalize z.1.touchStore (2 * z.2.dir.pairOf r) = y at touched ⊢
  have reported : ∀ i, HeldBack clk low { y with im := i } := fun _ => ⟨touched.phase, touched.watch, touched.low⟩
  generalize copyVerdict z.2 o r = v
  split
  · exact ⟨h, rfl⟩
  · split
    · exact ⟨reported _, rfl⟩
    · exact ⟨(reported _).raise _ _ _, region _ _⟩
    · dsimp only
      exact ⟨((reported _).setStatus r 14).raise _ _ _, by cases r <;> rfl⟩

theorem HeldBack.newEpoch (h : HeldBack clk low x) : HeldBack clk low x.newEpoch := by
  unfold Live.newEpoch
  exact ⟨h.phase, h.watch, h.low⟩

theorem HeldBack.drawPlan (h : HeldBack clk low x) (bs : List Byte) : HeldBack clk low (x.drawPlan bs) := by
  unfold Live.drawPlan
  exact ⟨h.phase, h.watch, h.low⟩

theorem HeldBack.toListen (h : HeldBack clk low x) (n : Nat) : HeldBack clk low (x.toListen n) := by
  unfold Live.toListen
  exact ⟨h.phase, h.watch, h.low⟩

/-- The configuration load of a lane with the halt latch (R419, R420). -/
theorem HeldBack.loadConfig {z : LiveStore} (h : HeldBack clk low z.1) (o : Otp) :
    HeldBack clk low (loadConfig o z).1 ∧ (Machine.loadConfig o z).2.boot = z.2.boot := by
  obtain ⟨ha, ba⟩ := h.compareRole .active o
  obtain ⟨hs, bs⟩ := ha.compareRole .staged o
  obtain ⟨hp, bp⟩ := hs.compareRole .previous o
  unfold Machine.loadConfig
  extract_lets y status loaded img keyed valued net sched ready
  have hy : HeldBack clk low y.1 := hp
  have hstatus : ∀ (r : SlotRole) (w : Live), HeldBack clk low w → HeldBack clk low (status r w) := by
    intro r w hw
    change HeldBack clk low (if _ then w else w.setStatus r _)
    split
    · exact hw
    · exact hw.setStatus r _
  have hloaded : HeldBack clk low loaded := hstatus _ _ (hstatus _ _ (hstatus _ _ hy))
  have hkeyed : HeldBack clk low keyed := by
    change HeldBack clk low (if _ then loaded else loaded.raiseKeys _)
    split
    · exact hloaded
    · exact hloaded.raiseKeys _
  have hready : HeldBack clk low ready := ⟨hkeyed.phase, hkeyed.watch, hkeyed.low⟩
  exact ⟨((hready.toListen 2).installProgram.drawPlan img).newEpoch, bp.trans (bs.trans ba)⟩

theorem HeldBack.canInits (h : HeldBack clk low x) : HeldBack clk low (forAll 4 (fun n (z : Live) => z.canInit n) x) :=
  forAll_keeps _ (HeldBack clk low) (fun n z hz => by
    obtain ⟨di, e⟩ := canInit_frame z n
    rw [e]
    exact ⟨hz.phase, hz.watch, hz.low⟩) x h

theorem HeldBack.markDescs (h : HeldBack clk low x) : HeldBack clk low x.markDescs := by
  unfold Live.markDescs
  refine HeldBack.foldl _ (fun z m hz => ?_) _ ⟨h.phase, h.watch, h.low⟩
  unfold Live.addMarker
  exact ⟨hz.phase, hz.watch, hz.low⟩

end

/-- The firmware of a lane with the halt latch starts: it is led into its halted state, its gates as they stand
(R506, R511). -/
theorem startFirmware_halted {free : Nat} {o : Otp} {bad : BitVec 4} {moved : Bool} {x : LiveStore}
    (hd : x.1.su.fromDeep = false) (hh : x.1.su.halt = true) :
    HeldBack x.1.clk x.1.gd.forcedLow (startFirmware free o bad moved x).1 ∧
      (startFirmware free o bad moved x).2.boot = x.2.boot := by
  unfold startFirmware
  extract_lets record st woken di im su started keyed told y marked gate released
  have hst : st.boot = x.2.boot := iteInduction (motive := fun z : NvStore => z.boot = x.2.boot) (fun _ => rfl) (fun _ => rfl)
  have hwoken : woken = x.1 := if_neg (hd ▸ Bool.false_ne_true)
  have hstarted : HeldBack x.1.clk x.1.gd.forcedLow started :=
    ⟨if_pos (hwoken ▸ hh), congrArg (fun z : Live => some z.clk) hwoken,
      hwoken ▸ rfl⟩
  have hkeyed : HeldBack x.1.clk x.1.gd.forcedLow keyed := hstarted.raiseKeys _
  have htold : HeldBack x.1.clk x.1.gd.forcedLow told :=
    iteInduction (motive := HeldBack x.1.clk x.1.gd.forcedLow) (fun _ => hkeyed.raise _ _ _) (fun _ => hkeyed)
  obtain ⟨hy, by'⟩ := HeldBack.loadConfig (z := (told, st)) htold o
  have hmarked : HeldBack x.1.clk x.1.gd.forcedLow marked := hy.canInits.markDescs
  have hreleased : released = marked := if_neg (by rw [hmarked.phase]; exact nofun)
  exact ⟨(hreleased ▸ hmarked).settle, by'.trans hst⟩

theorem withFree_lane (s : State) (k : Nat) (o : LaneId) : ({ s with free := k } : State).lane o = s.lane o := by
  cases o <;> rfl

/-- What a command that draws a free value makes of a state. -/
theorem onFree_spec (l : LaneId) (f : Nat → Otp → Live × NvStore → Live × NvStore) (s : State) :
    (onFree l f s).pending = s.pending ∧ s.sameOutside l (onFree l f s) ∧ (onFree l f s).lane l = { s.lane l with
      live := (f s.free (s.lane l).otp ((s.lane l).live, (s.lane l).store)).1,
      store := (f s.free (s.lane l).otp ((s.lane l).live, (s.lane l).store)).2 } := by
  obtain ⟨serial, others⟩ := onLane_sameOutside s l (fun n => { n with
    live := (f s.free n.otp (n.live, n.store)).1, store := (f s.free n.otp (n.live, n.store)).2 })
  exact ⟨onLane_pending .., ⟨serial, fun o ho => (withFree_lane ..).trans (others o ho)⟩,
    (withFree_lane ..).trans (onLane_lane ..)⟩

/-- FIRMWARE_START of a lane that does not come up loaded, so that it compares nothing with the others (R421, R425). -/
theorem runs_firmwareStart {l : LaneId} {bad : BitVec 4} {s : State} {P : Lane → Prop} {y : LiveStore}
    (hy : boot bad s.free (s.lane l).otp ((s.lane l).live, (s.lane l).store) = y) (hp : y.1.phase ≠ .loaded)
    (h : P { s.lane l with live := y.1, store := y.2 }) : Runs (.firmwareStart l bad) l s P := by
  obtain ⟨pending, ⟨serial, others⟩, lane⟩ := onFree_spec l (boot bad) s
  rw [hy] at lane
  generalize ht : onFree l (boot bad) s = t at pending serial others lane
  have e : exec (.firmwareStart l bad) s =
      .next (onLive l (fun lv => if lv.phase = .loaded then t.compareLanes l lv else lv) t) := by
    rw [← ht]; rfl
  refine ⟨_, e, (onLane_pending ..).trans pending, ⟨(onLane_sameOutside t l _).1.trans serial,
    fun o ho => ((onLane_sameOutside t l _).2 o ho).trans (others o ho)⟩, ?_⟩
  have final : (onLive l (fun lv => if lv.phase = .loaded then t.compareLanes l lv else lv) t).lane l = t.lane l := by
    refine (onLane_lane ..).trans ?_
    rw [lane]
    dsimp only
    rw [if_neg hp]
  rw [final, lane]
  exact h

/-- Settles O39: a block, a trial and the start of a lane with the halt latch (`HeldBack`). -/
theorem downloadsAndFirmware : Obligations.DownloadsAndFirmware := by
  unfold Obligations.DownloadsAndFirmware
  refine ⟨fun l path data s hw h => ⟨?_, ?_⟩, fun l path s hw hb hs => ⟨?_, ?_⟩,
    fun l path data s hw hb hs hbad ha h0 h64 => ⟨fun hoff => ?_, fun hoff => ?_⟩,
    fun l path v s hw hv hb hst hs htr hl hver => ?_, fun l s hc => ?_, fun l s hc => ?_,
    fun l bad s hp ht h h' => ?_, fun l bad b r s hp hc hd hh => ?_⟩
  · refine runs_onStore rfl ?_
    rw [stageData_of_closed (x := ((s.lane l).live, (s.lane l).store)) hw h]
  · refine runs_onStore rfl ?_
    rw [loadData_of_closed (x := ((s.lane l).live, (s.lane l).store)) hw h]
  · refine runs_onStore rfl ?_
    rw [stageData_of_empty (x := ((s.lane l).live, (s.lane l).store)) hw hb hs]
  · refine runs_onStore rfl ?_
    rw [loadData_of_empty (x := ((s.lane l).live, (s.lane l).store)) hw hb hs]
  · refine runs_onStore rfl ?_
    rw [stageData_of_block (x := ((s.lane l).live, (s.lane l).store)) hw hb hs h0 h64 hoff]
    have spec := stageBlock_of_first (o := (s.lane l).otp) (x := ((s.lane l).live, (s.lane l).store)) hbad ha h64 hoff
    generalize stageBlock (s.lane l).otp data ((s.lane l).live, (s.lane l).store) = y at spec ⊢
    exact ⟨rfl, spec⟩
  · refine runs_onStore rfl ?_
    rw [loadData_of_block (x := ((s.lane l).live, (s.lane l).store)) hw hb hs h0 h64 hoff]
    have spec := loadBlock_of_first (o := (s.lane l).otp) (x := ((s.lane l).live, (s.lane l).store)) hbad ha h64 hoff
    generalize loadBlock (s.lane l).otp data ((s.lane l).live, (s.lane l).store) = y at spec ⊢
    exact ⟨rfl, spec⟩
  · obtain ⟨rp, -, -, -, -, -, -, -, -, -, -, -, rs, -⟩ := reset_spec ((s.lane l).live.accept (some path)) .software
    refine runs_onStore rfl ?_
    dsimp only
    rw [htr, activate_of_loaded (x := ((s.lane l).live, (s.lane l).store)) hw hv hb hst hs hl hver]
    exact ⟨rfl, rp, rfl, rs, reset_quiet _ .software⟩
  · refine runs_onLane rfl ?_
    unfold confirm
    rw [if_pos hc]
    exact ⟨rfl, rfl, rfl, rfl⟩
  · refine runs_onLane rfl ?_
    unfold confirm
    rw [if_neg (hc ▸ Bool.false_ne_true)]
    rfl
  · have e : boot bad s.free (s.lane l).otp ((s.lane l).live, (s.lane l).store) =
        ({ (s.lane l).live with phase := .bootFailed }, (s.lane l).store) := by
      unfold boot
      rw [if_pos hp, bootChoice_of_none ht h h']
    exact runs_firmwareStart e nofun rfl
  · have e : boot bad s.free (s.lane l).otp ((s.lane l).live, (s.lane l).store) =
        startFirmware s.free (s.lane l).otp bad (decide (b ≠ (s.lane l).store.boot.runningB))
          ((s.lane l).live, { (s.lane l).store with boot := r }) := by
      unfold boot
      rw [if_pos hp, hc]
    obtain ⟨held, hr⟩ := startFirmware_halted (free := s.free) (o := (s.lane l).otp) (bad := bad)
      (moved := decide (b ≠ (s.lane l).store.boot.runningB))
      (x := ((s.lane l).live, { (s.lane l).store with boot := r })) hd hh
    generalize startFirmware s.free (s.lane l).otp bad _ _ = y at e held hr
    exact runs_firmwareStart e (by rw [held.phase]; exact nofun) ⟨rfl, held.phase, hr, held.watch, held.low⟩

end Sys2Proof.Machine
end

section
/-!
PROOF SUPPORT. Keys, service sessions, attestation, tamper detection and debug access (R429 to R436): each command under
the conditions that let it act, and the obligation about them.
-/

namespace Sys2Proof.Machine

/-! ### Key slots (R430, R431) -/

section
variable {n : Lane} {path : Path} {k : Byte}

theorem writeLane_of_writes (hw : n.live.writes = true) (path : Path) (f : Lane → Lane) : writeLane path f n = f n := by
  unfold writeLane
  rw [answers_of_writes hw, hw]
  rfl

theorem keyProgram_of_free (hw : n.live.writes = true) (h4 : 4 ≤ k.toNat) (h : k.toNat < 12)
    (hb : n.live.standby = true) (hs : n.live.sessionOn path = true) (hp : n.otp.programmed k.toNat = false)
    (hl : (n.live.rwBytes Obj.keyLoad).length = 1985) (hk : (n.live.rwBytes Obj.keyLoad).head? = some k) :
    keyProgram path k n = { burnKeys ⟨k.toNat, h⟩ ((n.live.rwBytes Obj.keyLoad).drop 1) n with
      live := n.live.accept (some path) } := by
  unfold keyProgram
  rw [writeLane_of_writes hw]
  dsimp only
  rw [dif_pos h, if_neg (Nat.not_lt.mpr h4), hb, hs, hp, decide_eq_true (And.intro hl hk)]
  rfl

theorem keyProgram_of_programmed (hw : n.live.writes = true) (h4 : 4 ≤ k.toNat) (h : k.toNat < 12)
    (hp : n.otp.programmed k.toNat = true) : keyProgram path k n = n.refuse path 0x08000022 := by
  unfold keyProgram
  rw [writeLane_of_writes hw]
  dsimp only
  rw [dif_pos h, if_neg (Nat.not_lt.mpr h4), hp]
  simp only [Bool.not_true, Bool.and_false, Bool.false_and, Bool.false_eq_true, if_false]
  rfl

theorem keyRevoke_of_unused (hw : n.live.writes = true) (h4 : 4 ≤ k.toNat) (h : k.toNat < 12)
    (hb : n.live.standby = true) (hs : n.live.sessionOn path = true) (hp : n.otp.programmed k.toNat = false)
    (hi : signsImage n k.toNat = false) (hg : n.live.sessionSigned k.toNat = false) :
    keyRevoke path k n = { n with
      otp := n.otp.revoke (BitVec.ofNat 12 (2 ^ k.toNat)), live := n.live.accept (some path) } := by
  have range : ¬(k.toNat < 4 ∨ 12 ≤ k.toNat) := by omega
  unfold keyRevoke
  rw [writeLane_of_writes hw]
  dsimp only
  simp only [if_neg range, hb, hs, hp, hi, hg, Bool.not_true, Bool.or_false, Bool.false_and, Bool.false_eq_true,
    if_false]

end

/-! ### Responses (R432, R436) -/

section
variable {o : Otp} {x : LiveStore} {path : Path} {r : List Byte}

theorem respLength_of_whole (h : r.length = 3377) : respLength r = none := if_pos (.inr h)

theorem response_isEmpty (h : r.length = 3377) : r.isEmpty = false := by
  cases r with
  | nil => exact absurd h (by decide)
  | cons b bs => rfl

/-- A whole response while no session is open, with no damaged key among those it names (R429, R432). -/
theorem sessionResponse_of_closed (hw : x.1.writes = true) (hr : r.length = 3377) (hd : respDamaged 8 r o x.2 = [])
    (hs : x.1.sessionOpen = false) : sessionResponse path r o x =
      let lv := x.1.setRw Obj.response 0 0 r
      if responseGood 8 r o (lv, x.2) then
        (({ lv with im := { lv.im with nonce := none, session := some (path,
          lv.clk + respMinutes r * 60 * perSec, respEd r, respMl r) } } : Live).accept (some path),
         { x.2 with sessions := x.2.sessions + 1 })
      else (lv.authFail path, x.2) := by
  have hs' : (x.1.setRw Obj.response 0 0 r).sessionOpen = false := hs
  unfold sessionResponse
  dsimp only
  rw [answers_of_writes hw, hw, respLength_of_whole hr, if_neg (by decide), if_neg (by decide)]
  dsimp only
  rw [response_isEmpty hr, hs', hd]
  rfl

/-- A whole response inside a session on its path, with no damaged key among those it names (R429, R436). -/
theorem debugResponse_of_good (hw : x.1.writes = true) (hr : r.length = 3377) (hd : respDamaged 0 r o x.2 = [])
    (hs : x.1.sessionOn path = true) (hg : responseGood 0 r o (x.1.setRw Obj.debugResponse 0 0 r, x.2) = true) :
    debugResponse path r o x =
      let lv := x.1.setRw Obj.debugResponse 0 0 r
      (({ lv with im := { lv.im with nonce := none, debug := true } } : Live).accept (some path), x.2) := by
  have hs' : (x.1.setRw Obj.debugResponse 0 0 r).sessionOn path = true := hs
  unfold debugResponse
  dsimp only
  rw [answers_of_writes hw, hw, respLength_of_whole hr, if_neg (by decide), if_neg (by decide)]
  dsimp only
  rw [response_isEmpty hr, hs', hd]
  exact if_pos hg

/-- A response that fails is counted (R432). -/
theorem authFail_spec (y : Live) (path : Path) : (y.authFail path).im.session = y.im.session ∧
    (y.authFail path).im.authFails = satInc y.im.authFails ∧ (y.authFail path).tk = y.tk := by
  unfold Live.authFail
  dsimp only
  generalize hz : ({ y with im := _ } : Live) = z
  have kept := fun {α : Type} (part : Live → α) => raise_keeps z 359 path.code 0 part
  have session := kept (fun w => w.im.session)
  have fails := kept (fun w => w.im.authFails)
  change (z.raise 359 path.code).im.session = z.im.session at session
  change (z.raise 359 path.code).im.authFails = z.im.authFails at fails
  have ztk : z.tk = y.tk := by rw [← hz]
  refine ⟨session.trans (by rw [← hz]), fails.trans (by rw [← hz]), (raise_tk ..).trans ztk⟩

theorem challengeRead_of_open (ha : x.1.answers = true) (hl : x.1.im.lockout = none) (serial : List Byte) (draw : Nat) :
    challengeRead path serial draw x =
      let c := challengeBytes draw serial x.1.me x.2.sessions
      (({ x.1 with im := { x.1.im with nonce := some c, nonceAt := x.1.clk } } : Live).answer
        { path := some path, sid := 0, abort := none, data := c, last := true }, x.2) := by
  unfold challengeRead
  dsimp only
  rw [ha, hl]
  rfl

/-! ### The end of a session (R433) -/

/-- No write waits at a lane whose session has ended. -/
theorem closeSession_rcPending {y : Live} (h : y.im.session.isSome = true) (deep : Bool) :
    (y.closeSession deep).im.rcPending = [] := by
  unfold Live.closeSession
  split
  · next e => rw [e] at h; exact absurd h Bool.false_ne_true
  · dsimp only
    refine forAll_keeps _ (fun z : Live => z.im.rcPending = []) (fun n z hz => ?_) _ ?_
    · exact iteInduction (motive := fun w : Live => w.im.rcPending = [])
        (fun _ => by obtain ⟨di, e⟩ := canInit_frame z n; rw [e]; exact hz) (fun _ => hz)
    · split
      · rfl
      · split <;> rfl

theorem sessionExpiry_of_due {y : Live} {q : Path} {e a b : Nat} (hs : y.im.session = some (q, e, a, b))
    (hd : y.due e = true) : y.sessionExpiry = ({ y with clk := max y.clk e } : Live).closeSession := by
  unfold Live.sessionExpiry
  rw [hs]
  exact if_pos hd

theorem closeSession_spec {y : Live} (h : y.im.session.isSome = true) : y.closeSession.im.session = none ∧
    y.closeSession.im.rcPending = [] ∧ y.closeSession.clk = y.clk ∧ y.closeSession.tk = y.tk ∧
    y.closeSession.gd = y.gd := by
  have pending := closeSession_rcPending h false
  obtain ⟨rc, jn, di, p, a, i, e⟩ := closeSession_frame y false
  rw [e] at pending ⊢
  exact ⟨rfl, pending, rfl, rfl, rfl⟩

theorem lockoutEnd_of_due {y : Live} {e : Nat} (hl : y.im.lockout = some e) (hd : y.due e = true) :
    y.lockoutEnd = { y with im := { y.im with lockout := none } } := by
  unfold Live.lockoutEnd
  rw [hl]
  exact if_pos hd

/-! ### Attestation and tamper detection (R434, R435) -/

theorem attestChallenge_of_whole {data : List Byte} (hw : x.1.writes = true) (hl : data.length = 32)
    (ho : x.2.attestOk = true) (serial : List Byte) : attestChallenge path data serial x =
      if x.2.attestZero then (x.1.abortWith (some path) abortState, x.2)
      else ((({ x.1 with im := { x.1.im with signature := leBytes 3373 (Config.attestSign x.2.attestId
        (attestMessage data serial x.1.me x.2)).toNat } } : Live).setRw Obj.attestChallenge 0 0 data).accept (some path),
        x.2) := by
  have whole : data.isEmpty = false := by
    cases data with
    | nil => exact absurd hl (by decide)
    | cons b bs => rfl
  unfold attestChallenge
  dsimp only
  rw [answers_of_writes hw, hw, hl, whole, ho, Bool.not_true, Bool.or_false]
  rfl

theorem attestRegenerate_of_session (hw : x.1.writes = true) (hs : x.1.sessionOn path = true) (draw : Nat) :
    attestRegenerate path 0 draw x =
      (x.1.accept (some path), { x.2 with attestOk := true, attestId := draw, attestZero := false }) := by
  unfold attestRegenerate
  dsimp only
  rw [answers_of_writes hw, hw, hs]
  rfl

theorem tamper_spec (h : x.1.phase ≠ .off) :
    (tamper x).1.steady = x.1.steady ∧ (tamper x).2 = { x.2 with attestZero := true } := by
  unfold tamper
  rw [if_neg h]
  refine ⟨?_, rfl⟩
  exact iteInduction (motive := fun z : Live => z.steady = x.1.steady) (fun _ => raise_steady ..) (fun _ => rfl)

end

/-- Settles O40: each command acts where its conditions hold, and the lane is otherwise as it was. -/
theorem keysSessionsAttestation : Obligations.KeysSessionsAttestation := by
  unfold Obligations.KeysSessionsAttestation
  refine ⟨fun l path k s hw h4 h hb hs hp hl hk => ?_, fun l path k s hw h4 h hp => ?_,
    fun l path k s hw h4 h hb hs hp hi hg => ?_, fun l path s ha hl => ?_,
    fun l path r s hw hr hd8 hd0 => ⟨fun hs hg => ?_, fun hs hg => ?_, fun hs hg => ?_⟩,
    fun l path s hw => runsTo_onLive rfl (onGuard_of_ok hw path _), fun l q e a b s hs hd => ?_,
    fun l e s hl hd => runsTo_onLive rfl (lockoutEnd_of_due hl hd),
    fun l path data s hw hl ho => ⟨fun hz => ?_, fun hz => ?_⟩, fun l path s hw hs => ?_, fun l c s hp => ?_⟩
  · exact runs_onLane rfl (keyProgram_of_free hw h4 h hb hs hp hl hk)
  · exact runs_onLane rfl (keyProgram_of_programmed hw h4 h hp)
  · exact runs_onLane rfl (keyRevoke_of_unused hw h4 h hb hs hp hi hg)
  · refine runs_onFree rfl ?_
    rw [challengeRead_of_open (x := ((s.lane l).live, (s.lane l).store)) ha hl]
  · refine runs_onStore rfl ?_
    rw [sessionResponse_of_closed (x := ((s.lane l).live, (s.lane l).store)) hw hr hd8 hs]
    dsimp only
    rw [if_pos hg]
    exact ⟨rfl, rfl, rfl, rfl, rfl, rfl⟩
  · refine runs_onStore rfl ?_
    rw [sessionResponse_of_closed (x := ((s.lane l).live, (s.lane l).store)) hw hr hd8 hs]
    dsimp only
    rw [if_neg (hg ▸ Bool.false_ne_true)]
    obtain ⟨session, fails, tk⟩ := authFail_spec ((s.lane l).live.setRw Obj.response 0 0 r) path
    generalize Live.authFail _ path = y at session fails tk ⊢
    exact ⟨rfl, rfl, session.trans (Option.isSome_eq_false_iff.mp hs |> Option.isNone_iff_eq_none.mp), fails, tk⟩
  · refine runs_onStore rfl ?_
    rw [debugResponse_of_good (x := ((s.lane l).live, (s.lane l).store)) hw hr hd0 hs hg]
    exact ⟨rfl, rfl, rfl, rfl, rfl, rfl⟩
  · refine runs_onLive rfl ?_
    rw [sessionExpiry_of_due hs hd]
    obtain ⟨session, pending, clk, tk, gd⟩ :=
      closeSession_spec (y := { (s.lane l).live with clk := max (s.lane l).live.clk e }) (by rw [hs]; rfl)
    generalize Live.closeSession _ _ = y at session pending clk tk gd ⊢
    exact ⟨rfl, rfl, session, pending, clk, tk, gd⟩
  · refine runs_onStore rfl ?_
    rw [attestChallenge_of_whole (x := ((s.lane l).live, (s.lane l).store)) hw hl ho]
    dsimp only
    rw [if_neg (hz ▸ Bool.false_ne_true)]
  · refine runs_onStore rfl ?_
    rw [attestChallenge_of_whole (x := ((s.lane l).live, (s.lane l).store)) hw hl ho]
    dsimp only
    rw [if_pos hz]
    rfl
  · refine runs_onFree rfl ?_
    rw [attestRegenerate_of_session (x := ((s.lane l).live, (s.lane l).store)) hw hs]
    exact ⟨rfl, rfl, rfl⟩
  · refine runs_onStore rfl ?_
    obtain ⟨steady, store⟩ := tamper_spec (x := ((s.lane l).live, (s.lane l).store)) hp
    generalize tamper ((s.lane l).live, (s.lane l).store) = y at steady store ⊢
    exact ⟨rfl, store, steady⟩

end Sys2Proof.Machine
end

section
/-!
PROOF SUPPORT. Writes of objects (R387, R393 to R396, R433): the checks in their order, a plain write, and the obligation
about them.
-/

namespace Sys2Proof.Machine

section
variable {x : LiveStore} {path : Path} {idx sub : Nat} {bs : List Byte} {o : Obj}

/-! ### Out of reach (R387) -/

theorem answers_of_halted {y : Live} (h : y.phase = .halted ∨ y.phase = .haltedState) :
    y.answers = true ∧ y.writes = false := by
  unfold Live.answers Live.writes
  rcases h with h | h <;> rw [h] <;> exact ⟨rfl, rfl⟩

theorem dictionaryWrite_of_halted (h : x.1.phase = .halted ∨ x.1.phase = .haltedState) :
    dictionaryWrite path idx sub bs x = (x.1.abortWith (some path) 0x08000022, x.2) := by
  obtain ⟨answers, writes⟩ := answers_of_halted h
  unfold dictionaryWrite
  dsimp only
  rw [answers, writes]
  rfl

theorem dictionaryWrite_of_error {c : Word} (hw : x.1.writes = true) (h : checkWrite idx sub bs = .error c) :
    dictionaryWrite path idx sub bs x = (x.1.abortWith (some path) c, x.2) := by
  unfold dictionaryWrite
  dsimp only
  rw [answers_of_writes hw, hw, h]
  rfl

theorem dictionaryWrite_of_checked (hw : x.1.writes = true) (h : checkWrite idx sub bs = .ok (o, bs))
    (ha : o.acc ≠ .cmd) (hr : ownRow idx sub = false) :
    dictionaryWrite path idx sub bs x = (plainWrite path idx sub o bs x, x.2) := by
  have plain : ¬(o.acc = .cmd ∨ ownRow idx sub = true) := by simp [ha, hr]
  unfold dictionaryWrite
  dsimp only
  rw [answers_of_writes hw, hw, h]
  exact if_neg plain

/-! ### The checks (R393 to R396) -/

theorem checkWrite_of_missing (h : findObj idx sub = none) :
    checkWrite idx sub bs = .error (if indexExists idx then abortNoSub else abortNoObject) := by
  unfold checkWrite
  rw [h]

theorem checkWrite_of_readOnly (h : findObj idx sub = some o) (ha : o.acc = .ro ∨ o.acc = .img) :
    checkWrite idx sub bs = .error abortReadOnly := by
  unfold checkWrite
  rw [h]
  exact if_pos ha

/-- A write to a `RW` or `RC` object is judged by its length, then by its value. -/
theorem checkWrite_of_writable (h : findObj idx sub = some o) (ha : o.acc = .rw ∨ o.acc = .rc) :
    checkWrite idx sub bs = (lengthCode o bs.length).elim
      (if (o.ty = .f32 && !F32.finite (BitVec.ofNat 32 (leNat bs))) || !o.range.holds bs then .error abortRange
        else .ok (o, bs)) .error := by
  have open' : ¬(o.acc = .ro ∨ o.acc = .img) := by rcases ha with ha | ha <;> rw [ha] <;> simp
  have written : writtenBytes o bs = bs := by
    unfold writtenBytes
    rcases ha with ha | ha <;> rw [ha] <;> simp
  unfold checkWrite
  rw [h]
  dsimp only
  rw [if_neg open', written]
  cases lengthCode o bs.length <;> rfl

theorem checkWrite_of_length {c : Word} (h : findObj idx sub = some o) (ha : o.acc = .rw ∨ o.acc = .rc)
    (hl : lengthCode o bs.length = some c) : checkWrite idx sub bs = .error c := by
  rw [checkWrite_of_writable h ha, hl]
  rfl

theorem checkWrite_of_range (h : findObj idx sub = some o) (ha : o.acc = .rw ∨ o.acc = .rc)
    (hl : lengthCode o bs.length = none)
    (hr : o.range.holds bs = false ∨ (o.ty = .f32 ∧ F32.finite (BitVec.ofNat 32 (leNat bs)) = false)) :
    checkWrite idx sub bs = .error abortRange := by
  rw [checkWrite_of_writable h ha, hl]
  refine if_pos ?_
  rcases hr with hr | ⟨ht, hf⟩
  · rw [hr]; exact Bool.or_true _
  · simp [ht, hf]

theorem checkWrite_of_fits (h : findObj idx sub = some o) (ha : o.acc = .rw ∨ o.acc = .rc)
    (hl : lengthCode o bs.length = none) (hr : o.range.holds bs = true)
    (hf : o.ty = .f32 → F32.finite (BitVec.ofNat 32 (leNat bs)) = true) : checkWrite idx sub bs = .ok (o, bs) := by
  rw [checkWrite_of_writable h ha, hl]
  refine if_neg ?_
  rw [hr]
  by_cases ht : o.ty = .f32
  · simp [hf ht]
  · simp [ht]

/-! ### Plain writes (R394, R395, R433) -/

theorem plainWrite_of_rw (ha : o.acc = .rw) (ht : tied x idx sub bs = none) : plainWrite path idx sub o bs x =
    (x.1.setRw o (idx - o.idx) (sub - o.sub) bs).accept (some path) := by
  unfold plainWrite
  simp only [ha, ht, reduceCtorEq, false_and, if_false]

theorem plainWrite_of_rc (ha : o.acc = .rc) (hb : x.1.standby = true) (hs : x.1.sessionOn path = true)
    (ht : tied x idx sub bs = none) : plainWrite path idx sub o bs x = ({ x.1 with im := { x.1.im with
      rcPending := x.1.im.rcPending.insert (o.key (idx - o.idx) (sub - o.sub)) bs } } : Live).accept (some path) := by
  unfold plainWrite
  simp only [ha, ht, hb, hs, Bool.and_self, reduceCtorEq, and_false, if_false, if_true]

theorem plainWrite_of_closed (ha : o.acc = .rc) (h : x.1.standby = false ∨ x.1.sessionOn path = false) :
    plainWrite path idx sub o bs x = x.1.abortWith (some path) 0x08000022 := by
  have closed : (x.1.standby && x.1.sessionOn path) = false := by
    rcases h with h | h <;> rw [h]
    · rfl
    · exact Bool.and_false _
  unfold plainWrite
  exact if_pos ⟨ha, closed⟩

end

/-- A write that the checks refuse, as a command on its lane. -/
theorem runsTo_dictionaryWrite {l : LaneId} {path : Path} {idx : Half} {sub : Byte} {bs : List Byte} {s : State}
    {g : Live → Live}
    (h : dictionaryWrite path idx.toNat sub.toNat bs ((s.lane l).live, (s.lane l).store) =
      (g (s.lane l).live, (s.lane l).store)) : RunsTo (.dictionaryWrite l path idx sub bs) l s g := by
  refine runs_onStore rfl ?_
  rw [h]

/-- Settles O41: the checks of a write in their order, then the write itself. -/
theorem dictionaryWrites : Obligations.DictionaryWrites := by
  unfold Obligations.DictionaryWrites
  refine ⟨fun l path idx sub bs s h => runsTo_dictionaryWrite ?_,
    fun l path idx sub bs s hw h => ⟨fun he => runsTo_dictionaryWrite ?_, fun he => runsTo_dictionaryWrite ?_⟩,
    fun l path idx sub bs o s hw h ha => runsTo_dictionaryWrite ?_,
    fun l path idx sub bs o s hw h hr hl hg hf ht => ⟨fun ha => runsTo_dictionaryWrite ?_,
      fun ha hb hs => runsTo_dictionaryWrite ?_, fun ha hc => runsTo_dictionaryWrite ?_⟩,
    fun l path idx sub bs o c s hw h ha hl => runsTo_dictionaryWrite ?_,
    fun l path idx sub bs o s hw h ha hl hr => runsTo_dictionaryWrite ?_,
    fun l n s hw => ⟨runsTo_onZero rfl hw rfl, runsTo_onZero rfl hw rfl, runsTo_onZero rfl hw rfl, runsTo_onZero rfl hw rfl⟩⟩
  · exact dictionaryWrite_of_halted (x := ((s.lane l).live, (s.lane l).store)) h
  · rw [dictionaryWrite_of_error (x := ((s.lane l).live, (s.lane l).store)) hw (checkWrite_of_missing h), he]
    rfl
  · rw [dictionaryWrite_of_error (x := ((s.lane l).live, (s.lane l).store)) hw (checkWrite_of_missing h), he]
    rfl
  · exact dictionaryWrite_of_error (x := ((s.lane l).live, (s.lane l).store)) hw (checkWrite_of_readOnly h ha)
  · rw [dictionaryWrite_of_checked (x := ((s.lane l).live, (s.lane l).store)) hw
      (checkWrite_of_fits h (.inl ha) hl hg hf) (by rw [ha]; nofun) hr, plainWrite_of_rw ha ht]
  · rw [dictionaryWrite_of_checked (x := ((s.lane l).live, (s.lane l).store)) hw
      (checkWrite_of_fits h (.inr ha) hl hg hf) (by rw [ha]; nofun) hr, plainWrite_of_rc ha hb hs ht]
  · rw [dictionaryWrite_of_checked (x := ((s.lane l).live, (s.lane l).store)) hw
      (checkWrite_of_fits h (.inr ha) hl hg hf) (by rw [ha]; nofun) hr, plainWrite_of_closed ha hc]
  · exact dictionaryWrite_of_error (x := ((s.lane l).live, (s.lane l).store)) hw (checkWrite_of_length h ha hl)
  · exact dictionaryWrite_of_error (x := ((s.lane l).live, (s.lane l).store)) hw (checkWrite_of_range h ha hl hr)

end Sys2Proof.Machine
end

section
/-!
PROOF SUPPORT. USDO transfers (R387, R389 to R392, R396): what an answer leaves, the requests case by case, and the
obligation about them.
-/

namespace Sys2Proof.Machine

/-! ### Commands made of several changes of one lane -/

theorem onLive_of_fixed {l : LaneId} {f : Live → Live} {s : State} (h : f (s.lane l).live = (s.lane l).live) :
    onLive l f s = s := by
  unfold onLive onLane
  dsimp only
  rw [h]
  cases l <;> rfl

theorem onLive_congr {l : LaneId} {f g : Live → Live} {s : State} (h : f (s.lane l).live = g (s.lane l).live) :
    onLive l f s = onLive l g s := by
  unfold onLive onLane
  dsimp only
  rw [h]

theorem onLive_onLive (l : LaneId) (f g : Live → Live) (s : State) :
    onLive l f (onLive l g s) = onLive l (fun x => f (g x)) s := by
  unfold onLive
  rw [onLane, onLane_lane]
  cases l <;> rfl

/-- A change of live state and storage that leaves the storage alone. -/
theorem onStore_eq_onLive {l : LaneId} {f : Otp → LiveStore → LiveStore} {g : Live → Live} {s : State}
    (h : f (s.lane l).otp ((s.lane l).live, (s.lane l).store) = (g (s.lane l).live, (s.lane l).store)) :
    onStore l f s = onLive l g s := by
  unfold onStore onLive onLane
  dsimp only
  rw [h]

/-! ### Answers -/

/-- An answer touches the reply, the CAN ports, the Jalsyn buffers and the waiting tunnel responses, whether it goes
out or not. -/
theorem respond_answer_frame (x : Live) (path : Path) (r : UsdoReply) : ∃ reply ports bufs waiting,
    x.respond path r = { x with
      jn := { x.jn with bufs := bufs },
      di := { x.di with reply := reply, tunnelQ := waiting, can := ports } } := by
  cases path with
  | can n =>
    unfold Live.respond
    dsimp only
    split
    · exact ⟨_, _, x.jn.bufs, x.di.tunnelQ, rfl⟩
    · exact ⟨none, x.di.can, x.jn.bufs, x.di.tunnelQ, rfl⟩
  | tunnel c => exact ⟨some r, x.di.can, tunnelPlace_tunnelQ_frame _⟩

/-- An answer leaves the sessions. -/
theorem sessionOf_respond (x : Live) (at' path : Path) (sid : Byte) (r : UsdoReply) :
    (x.respond at' r).sessionOf path sid = x.sessionOf path sid := by
  obtain ⟨_, _, _, _, h⟩ := respond_answer_frame x at' r
  rw [h]
  rfl

theorem sessionOf_usdoDone (x : Live) (path : Path) (sid : Byte) (bs : List Byte) :
    (x.usdoDone path sid bs).sessionOf path sid = none := by
  unfold Live.usdoDone
  rw [sessionOf_respond, sessionOf_release']

theorem sessionOf_usdoAbort (x : Live) (path : Path) (sid : Byte) (code : Word) :
    (x.usdoAbort path sid code).sessionOf path sid = none := by
  have released : ((x.release' path sid).respond path
      { path := some path, sid := sid, abort := some code, data := [], last := true }).sessionOf path sid = none := by
    rw [sessionOf_respond, sessionOf_release']
  unfold Live.usdoAbort
  dsimp only
  split
  · exact released
  · exact released

/-! ### Paths, and clients that start anew -/

/-- A client without a session and without a replication of its own ends nothing. -/
theorem onLive_clientEnds {l : LaneId} {path : Path} {sid : Byte} {s : State}
    (hs : (s.lane l).live.sessionOf path sid = none) (hown : (s.lane l).live.notOwn path sid = true) :
    onLive l (fun x => x.clientEnds path sid) s = s :=
  onLive_of_fixed ((clientEnds_of_notOwn _ path sid hown).trans (release'_of_sessionOf_none _ path sid hs))

theorem four_le_partSize : 4 ≤ partSize := Nat.le_add_right 4 _

theorem partSize_le : partSize ≤ 60 := by
  unfold partSize
  omega

/-! ### Uploads (R392) -/

section
variable {l : LaneId} {path : Path} {sid : Byte} {idx sub : Nat} {s : State}

theorem uploadInit_of_unserved (h : (s.lane l).live.served path = false) : uploadInit l path sid idx sub s = s := by
  unfold uploadInit
  rw [h]
  rfl

theorem uploadInit_of_full (hp : (s.lane l).live.served path = true) (hs : (s.lane l).live.sessionOf path sid = none)
    (hown : (s.lane l).live.notOwn path sid = true) (hn : (s.lane l).live.di.sessions.length = 16) :
    uploadInit l path sid idx sub s = onLive l (fun x => x.usdoFull path sid) s := by
  unfold uploadInit
  rw [hp, onLive_clientEnds hs hown]
  exact if_pos (Nat.le_of_eq hn.symm)

/-- A request that finds room looks the object up; what has no content to read is aborted, the rest is sent. -/
theorem uploadInit_of_room (hp : (s.lane l).live.served path = true) (hs : (s.lane l).live.sessionOf path sid = none)
    (hown : (s.lane l).live.notOwn path sid = true) (hn : (s.lane l).live.di.sessions.length < 16) :
    (findObj idx sub = none → uploadInit l path sid idx sub s =
      onLive l (fun x => x.usdoAbort path sid (if indexExists idx then abortNoSub else abortNoObject)) s) ∧
    (∀ o : Obj, findObj idx sub = some o →
      (o.acc = .cmd → uploadInit l path sid idx sub s = onLive l (fun x => x.usdoAbort path sid abortWriteOnly) s) ∧
      (o.acc ≠ .cmd → ¬(idx = 0x5440 ∧ sub = 1) → ¬(idx = 0x4C60 ∧ (sub = 0x0E ∨ sub = 0x10)) →
        uploadInit l path sid idx sub s = onLive l (fun x => x.upload path sid idx sub
          (objectValue s.serial (s.lane l).otp ((s.lane l).live, (s.lane l).store) o idx sub)) s)) := by
  unfold uploadInit
  rw [hp, onLive_clientEnds hs hown]
  simp only [Bool.not_true, Bool.false_eq_true, if_false, if_neg (Nat.not_le.2 hn)]
  refine ⟨fun hf => by rw [hf], fun o hf => ?_⟩
  rw [hf]
  refine ⟨fun ha => if_pos ha, fun ha challenge log => ?_⟩
  have read : ¬(idx = 0x4C60 ∧ sub = 0x0E) := fun h => log ⟨h.1, .inl h.2⟩
  have status : ¬(idx = 0x4C60 ∧ sub = 0x10) := fun h => log ⟨h.1, .inr h.2⟩
  dsimp only
  rw [if_neg ha, if_neg challenge, if_neg read]
  refine onStore_eq_onLive ?_
  dsimp only
  rw [if_neg status]

end

theorem upload_of_short {x : Live} {path : Path} {sid : Byte} {idx sub : Nat} {bs : List Byte} (h : bs.length ≤ 4) :
    x.upload path sid idx sub bs = x.usdoDone path sid bs :=
  if_pos (h.trans four_le_partSize)

/-- A content longer than any message goes out in parts: the session keeps its snapshot. -/
theorem upload_of_long {x : Live} {path : Path} {sid : Byte} {idx : Half} {sub : Byte} {bs : List Byte}
    (hs : x.sessionOf path sid = none) (h : 60 < bs.length) :
    x.upload path sid idx.toNat sub.toNat bs = (x.openSession
      { path := path, sid := sid, index := idx, sub := sub, upload := true, data := bs, size := bs.length,
        last := x.clk }).usdoMore path sid := by
  unfold Live.upload
  rw [if_neg (Nat.not_le.2 (partSize_le.trans_lt h)), release'_of_sessionOf_none x path sid hs, BitVec.ofNat_toNat,
    BitVec.ofNat_toNat, BitVec.setWidth_eq, BitVec.setWidth_eq]

theorem uploadSegment_of_unserved {x : Live} {path : Path} {sid : Byte} (h : x.served path = false) :
    x.uploadSegment path sid = x := by
  unfold Live.uploadSegment
  rw [h]
  rfl

/-- A part of an upload: the last one ends the session, another one leaves the rest in it. -/
theorem uploadSegment_of_sessionOf {x : Live} {path : Path} {sid : Byte} {q : UsdoSession} (hp : x.served path = true)
    (hq : x.sessionOf path sid = some q) (hown : x.notOwn path sid = true) (hu : q.upload = true) :
    (q.data.length ≤ partSize → x.uploadSegment path sid = x.usdoDone path sid q.data) ∧
    (partSize < q.data.length → x.uploadSegment path sid =
      ((x.release' path sid).openSession { q with data := q.data.drop partSize, last := x.clk }).usdoMore path sid
        (q.data.take partSize)) := by
  have segment : x.segmented path sid true = some q := hu ▸ segmented_of_sessionOf x path sid q hq hown
  unfold Live.uploadSegment
  rw [hp, segment]
  refine ⟨fun h => ?_, fun h => ?_⟩
  · have rest : (q.data.drop partSize).isEmpty = true := by rw [List.isEmpty_iff]; exact List.drop_eq_nil_iff.2 h
    refine (if_pos rest).trans ?_
    rw [List.take_of_length_le h]
  · have rest : ¬(q.data.drop partSize).isEmpty = true := by
      rw [List.isEmpty_iff, List.drop_eq_nil_iff]
      exact Nat.not_le.2 h
    exact if_neg rest

/-! ### Downloads (R392 to R394) -/

section
variable {l : LaneId} {path : Path} {sid : Byte} {idx sub : Nat} {s : State}

theorem downloadInit_of_unserved {size : Nat} {data : Option (List Byte)} (h : (s.lane l).live.served path = false) :
    downloadInit l path sid idx sub size data s = s := by
  unfold downloadInit
  rw [h]
  rfl

theorem downloadInit_of_full {size : Nat} {data : Option (List Byte)} (hp : (s.lane l).live.served path = true)
    (hs : (s.lane l).live.sessionOf path sid = none) (hown : (s.lane l).live.notOwn path sid = true)
    (hn : (s.lane l).live.di.sessions.length = 16) :
    downloadInit l path sid idx sub size data s = onLive l (fun x => x.usdoFull path sid) s := by
  unfold downloadInit
  rw [hp, onLive_clientEnds hs hown]
  exact if_pos (Nat.le_of_eq hn.symm)

/-- An expedited download is carried out at once. -/
theorem downloadInit_of_expedited {size : Nat} {bs : List Byte} (hp : (s.lane l).live.served path = true)
    (hs : (s.lane l).live.sessionOf path sid = none) (hown : (s.lane l).live.notOwn path sid = true)
    (hn : (s.lane l).live.di.sessions.length < 16) :
    downloadInit l path sid idx sub size (some bs) s = usdoWrite l path sid idx sub bs s := by
  unfold downloadInit
  rw [hp, onLive_clientEnds hs hown]
  exact if_neg (Nat.not_le.2 hn)

/-- A segmented download whose object and length fit opens a session. -/
theorem downloadInit_of_segmented {size : Nat} (hp : (s.lane l).live.served path = true)
    (hw : (s.lane l).live.writes = true) (hs : (s.lane l).live.sessionOf path sid = none)
    (hown : (s.lane l).live.notOwn path sid = true) (hn : (s.lane l).live.di.sessions.length < 16)
    (hc : checkInitiate idx sub size = none) : downloadInit l path sid idx sub size none s =
      onLive l (fun x => (x.openSession
        { path := path, sid := sid, index := BitVec.ofNat 16 idx, sub := BitVec.ofNat 8 sub, upload := false, data := [],
          size := size, last := x.clk }).usdoMore path sid) s := by
  unfold downloadInit
  rw [hp, onLive_clientEnds hs hown]
  refine (if_neg (Nat.not_le.2 hn)).trans ?_
  dsimp only
  rw [hw, hc]
  simp only [Bool.not_true, Bool.false_eq_true, if_false]
  exact onLive_congr rfl

theorem checkInitiate_of_fits {size : Nat} {o : Obj} (h : findObj idx sub = some o) (ha : o.acc = .rw ∨ o.acc = .rc)
    (hl : lengthCode o size = none) : checkInitiate idx sub size = none := by
  have open' : ¬(o.acc = .ro ∨ o.acc = .img) := by rcases ha with ha | ha <;> rw [ha] <;> simp
  unfold checkInitiate
  rw [h]
  dsimp only
  rw [if_neg open', hl, ite_self]

theorem downloadSegment_of_unserved {seg : List Byte} {last : Bool} (h : (s.lane l).live.served path = false) :
    downloadSegment l path sid seg last s = s := by
  unfold downloadSegment
  dsimp only
  rw [h]
  rfl

/-- A segment of a download: too long or, at the end, too short for the size announced it is aborted; one that is not the
last is kept; the last one carries the write out. -/
theorem downloadSegment_of_sessionOf {q : UsdoSession} (hp : (s.lane l).live.served path = true)
    (hq : (s.lane l).live.sessionOf path sid = some q) (hown : (s.lane l).live.notOwn path sid = true)
    (hu : q.upload = false) (seg : List Byte) :
    (q.size < q.data.length + seg.length → ∀ last : Bool, downloadSegment l path sid seg last s =
      onLive l (fun x => x.usdoAbort path sid abortLong) s) ∧
    (q.data.length + seg.length < q.size → downloadSegment l path sid seg true s =
      onLive l (fun x => x.usdoAbort path sid abortShort) s) ∧
    (q.data.length + seg.length ≤ q.size → downloadSegment l path sid seg false s =
      onLive l (fun x => ((x.release' path sid).openSession
        { q with data := q.data ++ seg, last := x.clk }).usdoMore path sid) s) ∧
    (q.data.length + seg.length = q.size → downloadSegment l path sid seg true s =
      usdoWrite l path sid q.index.toNat q.sub.toNat (q.data ++ seg) s) := by
  have segment : (s.lane l).live.segmented path sid false = some q := hu ▸ segmented_of_sessionOf _ path sid q hq hown
  unfold downloadSegment
  dsimp only
  rw [hp, segment]
  simp only [Bool.not_true, Bool.false_eq_true, if_false, List.length_append]
  refine ⟨fun h last => if_pos h, fun h => ?_, fun h => ?_, fun h => ?_⟩
  · rw [if_neg (Nat.lt_asymm h), if_pos trivial, if_pos h]
  · rw [if_neg (Nat.not_lt.2 h)]
  · rw [if_neg (Nat.not_lt.2 (Nat.le_of_eq h)), if_pos trivial, if_neg (Nat.not_lt.2 (Nat.le_of_eq h.symm))]

/-- A plain `RW` value is stored and the success goes to the client. -/
theorem usdoWrite_of_rw {bs : List Byte} {o : Obj} (hw : (s.lane l).live.writes = true)
    (hc : checkWrite idx sub bs = .ok (o, bs)) (ha : o.acc = .rw) (hr : ownRow idx sub = false)
    (ht : tied ((s.lane l).live.noReply, (s.lane l).store) idx sub bs = none) : usdoWrite l path sid idx sub bs s =
      onLive l (fun x => ((x.noReply.setRw o (idx - o.idx) (sub - o.sub) bs).accept (some path)).finish path sid) s := by
  have shared : ¬(o.acc = .cmd ∧ isShared idx = true) := by rw [ha]; simp
  have command : ¬(o.acc = .cmd ∨ ownRow idx sub = true) := by rw [ha, hr]; simp
  have plain : onStore l (fun _ x => (plainWrite path idx sub o bs x, x.2)) (onLive l Live.noReply s) =
      onLive l (fun x => (x.setRw o (idx - o.idx) (sub - o.sub) bs).accept (some path)) (onLive l Live.noReply s) := by
    refine onStore_eq_onLive ?_
    have lane : ((onLive l Live.noReply s).lane l) = { s.lane l with live := (s.lane l).live.noReply } := onLane_lane ..
    rw [lane, plainWrite_of_rw (x := ((s.lane l).live.noReply, (s.lane l).store)) ha ht]
  unfold usdoWrite
  dsimp only
  rw [hw, hc]
  simp only [Bool.not_true, Bool.false_eq_true, if_false]
  rw [if_neg shared, if_neg command, plain, onLive_onLive, onLive_onLive]

end

/-- A lane that answers sends an accepted write's success and ends the session. -/
theorem finish_of_accept {x : Live} {path : Path} {sid : Byte} (h : x.answers = true) :
    (x.accept (some path)).finish path sid = ((x.accept (some path)).release' path sid).respond path
      { path := some path, sid := sid, abort := none, data := [], last := true } := by
  have answers : (x.accept (some path)).answers = true := h
  unfold Live.finish
  rw [answers]
  rfl

/-- A command that stores a plain `RW` value leaves the storage, the fuses, the authority and the images, and no session
under its path and identifier. -/
theorem runs_usdoWrite_of_rw {i : Instr} {l : LaneId} {path : Path} {sid : Byte} {idx sub : Nat} {bs : List Byte} {o : Obj}
    {s : State} (e : exec i s = .next (usdoWrite l path sid idx sub bs s)) (hw : (s.lane l).live.writes = true)
    (hc : checkWrite idx sub bs = .ok (o, bs)) (ha : o.acc = .rw) (hr : ownRow idx sub = false)
    (ht : tied ((s.lane l).live.noReply, (s.lane l).store) idx sub bs = none) :
    Runs i l s (fun n => n.store = (s.lane l).store ∧ n.otp = (s.lane l).otp ∧
      n.live.di.rw = ((s.lane l).live.setRw o (idx - o.idx) (sub - o.sub) bs).di.rw ∧
      n.live.sessionOf path sid = none ∧ n.live.au = (s.lane l).live.au ∧ n.live.im = (s.lane l).live.im) := by
  rw [usdoWrite_of_rw hw hc ha hr ht] at e
  refine runs_onLive e ?_
  have answers : ((s.lane l).live.noReply.setRw o (idx - o.idx) (sub - o.sub) bs).answers = true := answers_of_writes hw
  rw [finish_of_accept answers]
  refine ⟨rfl, rfl, ?_⟩
  obtain ⟨reply, ports, bufs, waiting, hr⟩ := respond_answer_frame
    ((((s.lane l).live.noReply.setRw o (idx - o.idx) (sub - o.sub) bs).accept (some path)).release' path sid) path
    { path := some path, sid := sid, abort := none, data := [], last := true }
  rw [hr]
  refine ⟨?_, sessionOf_release' .., ?_⟩
  · simp only [Live.release', Live.accept, Live.answer, Live.setRw, Live.noReply]
  · simp only [Live.release', Live.accept, Live.answer, Live.setRw, Live.noReply, and_self]

/-! ### The obligation -/

theorem done_onLive {l : LaneId} {f : Live → Live} {i : Instr} {s t : State} (e : exec i s = .next t)
    (h : t = onLive l f s) : RunsTo i l s f :=
  runsTo_onLive (e.trans (congrArg _ h)) rfl

/-- A command that leaves the state as it is. -/
theorem runsTo_id {l : LaneId} {i : Instr} {s t : State} (e : exec i s = .next t) (h : t = s) : RunsTo i l s id :=
  done_onLive e (h.trans (onLive_of_fixed rfl).symm)

theorem runsTo_usdoAbort_of_unserved {l : LaneId} {path : Path} {sid : Byte} {s : State}
    (h : (s.lane l).live.served path = false) : RunsTo (.usdoAbort l path sid) l s id :=
  runsTo_onLive (f := fun x => if x.served path then x.clientEnds path sid else x) rfl
    (if_neg (h ▸ Bool.false_ne_true))

/-- Numbers of an index and a sub-index that a special read has. -/
theorem ne_of_index {idx : Half} {sub : Byte} {i : Half} {k : Byte} (h : ¬(idx = i ∧ sub = k)) :
    ¬(idx.toNat = i.toNat ∧ sub.toNat = k.toNat) :=
  fun ⟨hi, hk⟩ => h ⟨BitVec.eq_of_toNat_eq hi, BitVec.eq_of_toNat_eq hk⟩

/-- Settles O43: the requests case by case, each through what it does to its lane. -/
theorem usdoTransfers : Obligations.UsdoTransfers := by
  unfold Obligations.UsdoTransfers
  refine ⟨fun l path sid idx sub size data seg last s h => ⟨?_, ?_, ?_, ?_, ?_⟩,
    fun l path sid idx sub size data s hp hs hown hn => ⟨?_, ?_⟩,
    fun l path sid idx sub s hp hs hown hn => ?_,
    fun l path sid q s hp hq hown => ⟨fun hu => ?_, fun hu seg => ?_, ?_⟩,
    fun l path sid idx sub size o s hp hw hs hown hn hf ha hl => ⟨?_, fun bs ha hr hl hg hfin ht => ?_⟩,
    fun x path sid bs code => ⟨sessionOf_usdoDone .., sessionOf_usdoAbort ..⟩⟩
  · exact runsTo_id rfl (downloadInit_of_unserved h)
  · exact runsTo_id rfl (downloadSegment_of_unserved h)
  · exact runsTo_id rfl (uploadInit_of_unserved h)
  · exact runsTo_onLive (f := fun x => x.uploadSegment path sid) rfl (uploadSegment_of_unserved h)
  · exact runsTo_usdoAbort_of_unserved h
  · exact done_onLive rfl (downloadInit_of_full hp hs hown hn)
  · exact done_onLive rfl (uploadInit_of_full hp hs hown hn)
  · obtain ⟨missing, found⟩ := uploadInit_of_room (idx := idx.toNat) (sub := sub.toNat) hp hs hown hn
    refine ⟨fun hf he => done_onLive rfl ?_, fun hf he => done_onLive rfl ?_, fun o hf => ?_⟩
    · rw [missing hf, he]
      rfl
    · rw [missing hf, he]
      rfl
    · obtain ⟨command, content⟩ := found o hf
      refine ⟨fun ha => done_onLive rfl (command ha), fun ha challenge log bs hbs => ?_⟩
      have log' : ¬(idx.toNat = 0x4C60 ∧ (sub.toNat = 0x0E ∨ sub.toNat = 0x10)) := fun ⟨hi, hk⟩ =>
        hk.elim (fun hk => ne_of_index (fun h => log ⟨h.1, .inl h.2⟩) ⟨hi, hk⟩)
          (fun hk => ne_of_index (fun h => log ⟨h.1, .inr h.2⟩) ⟨hi, hk⟩)
      have sent := content ha (ne_of_index challenge) log'
      rw [hbs] at sent
      exact ⟨fun hlen => done_onLive rfl (sent.trans (onLive_congr (upload_of_short hlen))),
        fun hlen => done_onLive rfl (sent.trans (onLive_congr (upload_of_long hs hlen)))⟩
  · obtain ⟨final, part⟩ := uploadSegment_of_sessionOf hp hq hown hu
    exact ⟨fun hlen => runsTo_onLive (f := fun x => x.uploadSegment path sid) rfl (final (hlen.trans four_le_partSize)),
      fun hlen => ⟨partSize, four_le_partSize, partSize_le,
        runsTo_onLive (f := fun x => x.uploadSegment path sid) rfl (part (partSize_le.trans_lt hlen))⟩⟩
  · obtain ⟨long, short, more, final⟩ := downloadSegment_of_sessionOf hp hq hown hu seg
    refine ⟨fun hlen last => done_onLive rfl (long hlen last), fun hlen => done_onLive rfl (short hlen),
      fun hlen => done_onLive rfl (more hlen), fun hlen hw o hf ha hr hl hg hfin ht => ?_⟩
    rw [← hlen, ← List.length_append] at hl
    have e : exec (.usdoDownloadSegment l path sid seg true) s = done (downloadSegment l path sid seg true s) := rfl
    rw [final hlen] at e
    exact runs_usdoWrite_of_rw e hw (checkWrite_of_fits hf (.inl ha) hl hg hfin) ha hr ht
  · exact runsTo_onLive (f := fun x => if x.served path then x.clientEnds path sid else x) rfl
      ((if_pos hp).trans (clientEnds_of_notOwn _ path sid hown))
  · refine done_onLive rfl ((downloadInit_of_segmented hp hw hs hown hn (checkInitiate_of_fits hf ha hl)).trans ?_)
    rw [BitVec.ofNat_toNat, BitVec.ofNat_toNat, BitVec.setWidth_eq, BitVec.setWidth_eq]
  · have e : exec (.usdoDownloadInitiate l path sid idx sub size (some bs)) s =
      done (downloadInit l path sid idx.toNat sub.toNat size (some bs) s) := rfl
    rw [downloadInit_of_expedited hp hs hown hn] at e
    exact runs_usdoWrite_of_rw e hw (checkWrite_of_fits hf (.inl ha) hl hg hfin) ha hr ht

end Sys2Proof.Machine
end

section
/-!
PROOF SUPPORT. Flows and what serves them (R458 to R464): posts, and the end of service, case by case.
-/

namespace Sys2Proof.Machine

theorem flow_modFlow (x : Live) (f : Fin 64) (g : FlowSt → FlowSt) : (x.modFlow f g).flow f = g (x.flow f) :=
  NMap.read_write_self ..

/-- A flow in service hands nothing on. -/
theorem serveNext_of_serving {x : Live} {f : Fin 64} (h : (x.flow f).serving ≠ none) : x.serveNext f = x := by
  unfold Live.serveNext
  cases hs : (x.flow f).serving with
  | none => exact absurd hs h
  | some p => rfl

/-- An empty flow hands nothing on. -/
theorem serveNext_of_empty {x : Live} {f : Fin 64} (h : (x.flow f).queue = []) : x.serveNext f = x := by
  unfold Live.serveNext
  rw [h]
  cases (x.flow f).serving <;> rfl

/-- The end of the service of an empty flow idles it. -/
theorem endService_of_empty {x : Live} {f : Fin 64} (h : (x.flow f).queue = []) :
    x.endService f = x.modFlow f (fun q => { q with serving := none }) := by
  unfold Live.endService
  refine serveNext_of_empty ?_
  rw [flow_modFlow]
  exact h

/-- A flow that no port serves takes a post while it and the lane have room. -/
theorem post_of_room {x : Live} {f : Fin 64} (it : Item) (hp : x.flowPort f = none)
    (hl : (x.flow f).queue.length < x.flowDepth f) (hn : x.pendingItems < 1024) :
    x.post f it = (0, (x.modFlow f (fun q => { q with queue := q.queue ++ [it] })).serveNext f) := by
  have depth : x.flowDepth f ≠ 0 := Nat.ne_of_gt (Nat.zero_lt_of_lt hl)
  unfold Live.post
  simp only [hp, depth, Nat.not_le.2 hl, Nat.not_le.2 hn, Bool.false_eq_true, or_self, and_false, if_false]

/-- A post to a flow in service joins its queue. -/
theorem post_of_serving {x : Live} {f : Fin 64} (it : Item) (hp : x.flowPort f = none)
    (hl : (x.flow f).queue.length < x.flowDepth f) (hn : x.pendingItems < 1024) (hs : (x.flow f).serving ≠ none) :
    x.post f it = (0, x.modFlow f (fun q => { q with queue := q.queue ++ [it] })) := by
  have busy : ((x.modFlow f (fun q => { q with queue := q.queue ++ [it] })).flow f).serving ≠ none := by
    rw [flow_modFlow]
    exact hs
  rw [post_of_room it hp hl hn, serveNext_of_serving busy]

theorem hwPost_of_serving {x : Live} {f : Fin 64} (it : Item) (kind : Nat) (hp : x.flowPort f = none)
    (hl : (x.flow f).queue.length < x.flowDepth f) (hn : x.pendingItems < 1024) (hs : (x.flow f).serving ≠ none) :
    x.hwPost f it kind = x.modFlow f (fun q => { q with queue := q.queue ++ [it] }) := by
  unfold Live.hwPost
  rw [post_of_serving it hp hl hn hs]
  rfl

theorem injected_of_unarmed {x : Live} (n : Nat) (h : x.fl.armed = none) : x.injected n = (none, x) := by
  unfold Live.injected
  rw [h]

end Sys2Proof.Machine
end

section
/-!
PROOF SUPPORT. The tunnel and the CAN ports (R386, R408 to R411, R464): the commands case by case, and the obligation
about them.
-/

namespace Sys2Proof.Machine

/-! ### The tunnel (R386) -/

/-- The receive buffer of the tunnel read. -/
def Live.tunnelRead (x : Live) (q : BufSt) : Live :=
  { x with jn := { x.jn with bufs := x.jn.bufs.write {} (x.num Obj.tunnelRxBuffer) { q with fresh := false } } }

section
variable {l : LaneId} {req : UsdoReq} {q : BufSt} {s : State}

/-- A fresh tunnel message is read; one for this node and of a right form is served, any other one is ignored and
counted. -/
theorem tunnelMessage_of_fresh (ha : (s.lane l).live.answers = true) (hb : (s.lane l).live.num Obj.tunnelRxBuffer < 512)
    (hq : (s.lane l).live.jn.bufs.read {} ((s.lane l).live.num Obj.tunnelRxBuffer) = q) (hf : q.fresh = true) :
    tunnelMessage l req s =
      if natAt q.data 0 1 = (s.lane l).live.di.nodeId ∧ natAt q.data 1 1 < 128 ∧ 8 ≤ natAt q.data 2 2 ∧
          natAt q.data 2 2 ≤ 64 then
        usdoServe l (.tunnel (BitVec.ofNat 7 (natAt q.data 1 1))) req (onLive l (fun x => x.tunnelRead q) s)
      else onLive l (fun x => { x with di := { x.di with ignored := satInc x.di.ignored } })
        (onLive l (fun x => x.tunnelRead q) s) := by
  have read : onLive l (fun x => { x with
      jn := { x.jn with
        bufs := x.jn.bufs.write {} ((s.lane l).live.num Obj.tunnelRxBuffer) { q with fresh := false } } }) s =
      onLive l (fun x => x.tunnelRead q) s := onLive_congr rfl
  unfold tunnelMessage
  simp only [hq, ha, hf, hb, decide_true, Bool.and_self, if_true, read]

end

/-! ### Heartbeats (R408) -/

theorem heartbeat_of_due {x : Live} {n : Fin 4} {t d : Nat} (ht : (x.di.can[n]).nextBeat = some t)
    (hd : x.beatPeriod n = some d) (h : x.due t = true) : x.heartbeat n =
      { x with di := { x.di with can := vmod x.di.can n (fun c => { c with
        nextBeat := some (t + d),
        tx := if x.canTalks n then c.tx ++ [⟨BitVec.ofNat 29 (0x700 + x.di.nodeId), false, false, false,
          [beatByte x.au.mode]⟩] else c.tx }) } } := by
  unfold Live.heartbeat
  rw [ht, hd]
  exact if_pos h

/-! ### Frames received and sent (R409, R411, R464) -/

/-- A frame received, counted. -/
def Live.countReceived (x : Live) (n : Fin 4) : Live :=
  { x with di := { x.di with can := vmod x.di.can n (fun c => { c with
    framesRx := satInc c.framesRx, rxErr := if c.rxErr = 0 then 0 else c.rxErr - 1 }) } }

theorem filterFlow_countReceived (x : Live) (n m : Fin 4) (f : CanFrame) :
    (x.countReceived n).filterFlow m f = x.filterFlow m f := by
  unfold Live.filterFlow Live.rcBytes
  rfl

/-- A frame received on a port without an armed injection is counted; one that is not for the server goes to the flow of
the first filter that it matches. -/
theorem canReceived_of_unarmed {x : Live} {n : Fin 4} {f : CanFrame} (hb : (x.di.can[n]).errState.toNat < 2)
    (hon : x.canOn n = true) (ha : x.fl.armed = none)
    (hn : f.ext = true ∨ f.ident.toNat ≠ 0x600 + x.di.nodeId ∨ x.rcNum Obj.canUsdoServer n.val ≠ 1) :
    x.canReceived n f = (x.filterFlow n f).elim (x.countReceived n)
      (fun e => (x.countReceived n).hwPost e ((x.countReceived n).canItem n f) 2) := by
  have live : ¬(2 ≤ (x.di.can[n]).errState.toNat ∨ x.canOn n = false) :=
    not_or.2 ⟨Nat.not_le.2 hb, by rw [hon]; nofun⟩
  have other : (!f.ext && decide (f.ident.toNat = 0x600 + (x.countReceived n).di.nodeId) &&
      decide ((x.countReceived n).rcNum Obj.canUsdoServer n.val = 1)) = false := by
    have server : (x.countReceived n).rcNum Obj.canUsdoServer n.val = x.rcNum Obj.canUsdoServer n.val := by
      unfold Live.rcNum
      rfl
    rw [server]
    rcases hn with hn | hn | hn
    · simp [hn]
    · have : ¬ f.ident.toNat = 0x600 + (x.countReceived n).di.nodeId := hn
      simp [this]
    · simp [hn]
  rw [← filterFlow_countReceived x n n f]
  unfold Live.canReceived
  rw [if_neg live]
  extract_lets modCan
  rw [injected_of_unarmed _ ha]
  dsimp only
  rw [show modCan (fun c => { c with
      framesRx := satInc c.framesRx, rxErr := if c.rxErr = 0 then 0 else c.rxErr - 1 }) x = x.countReceived n from rfl, other]
  cases (x.countReceived n).filterFlow n f <;> rfl

/-- A frame sent, counted. -/
def Live.countSent (x : Live) (n : Fin 4) (rest : List CanFrame) : Live :=
  { x with di := { x.di with can := vmod x.di.can n (fun c => { c with
    tx := rest, framesTx := satInc c.framesTx, txErr := if c.txErr = 0 then 0 else c.txErr - 1 }) } }

theorem canSent_of_none {x : Live} {n : Fin 4} {fr : CanFrame} {rest : List CanFrame} (ht : x.canTalks n = true)
    (hx : (x.di.can[n]).tx = fr :: rest) (h : ∀ f : Fin 64, ∀ it : Item, (x.flow f).serving ≠ some (.port n, it)) :
    x.canSent n = x.countSent n rest := by
  unfold Live.canSent
  rw [ht, hx]
  dsimp only
  split
  · next f hf =>
    have mine := List.find?_some hf
    split at mine
    · next p it hs =>
      obtain ⟨hp, _⟩ := Bool.and_eq_true_iff.1 mine
      exact absurd (of_decide_eq_true hp ▸ hs) (h f it)
    · exact absurd mine Bool.false_ne_true
  · rfl

/-- A port that has sent the frame of a flow's last item idles that flow. -/
theorem canSent_of_serving {x : Live} {n : Fin 4} {fr : CanFrame} {rest : List CanFrame} {f : Fin 64} {it : Item}
    (ht : x.canTalks n = true) (hx : (x.di.can[n]).tx = fr :: rest) (hi : itemFrame it = fr)
    (hs : (x.flow f).serving = some (.port n, it)) (hq : (x.flow f).queue = [])
    (ho : ∀ g : Fin 64, ∀ j : Item, g ≠ f → (x.flow g).serving ≠ some (.port n, j)) :
    x.canSent n = (x.countSent n rest).modFlow f (fun q => { q with serving := none }) := by
  unfold Live.canSent
  rw [ht, hx]
  dsimp -zeta only
  extract_lets _ y mine
  have flows : ∀ g, y.flow g = x.flow g := fun _ => rfl
  split
  · next g hg =>
    have hm : mine g = true := List.find?_some hg
    unfold mine at hm
    split at hm
    · next p j hj =>
      obtain ⟨hp, _⟩ := Bool.and_eq_true_iff.1 hm
      have same : g = f := Classical.byContradiction fun h => ho g j h (of_decide_eq_true hp ▸ hj)
      rw [same]
      exact endService_of_empty hq
    · exact absurd hm Bool.false_ne_true
  · next hg =>
    have missed : ¬mine f = true := List.find?_eq_none.1 hg f (List.mem_finRange f)
    unfold mine at missed
    rw [flows, hs] at missed
    exact absurd (by simp [hi]) missed

/-! ### Bus-off (R409, R464) -/

theorem canBusOff_of_none {x : Live} {n : Fin 4} (hb : (x.di.can[n]).errState.toNat < 2)
    (h : ∀ f : Fin 64, ∀ it : Item, (x.flow f).serving ≠ some (.port n, it)) : x.canBusOff n =
      { x with di := { x.di with can := vmod x.di.can n (fun c => { c with errState := 2, txErr := 255, tx := [] }) } } := by
  unfold Live.canBusOff
  rw [if_neg (Nat.not_le.2 hb)]
  extract_lets _ y mine
  have none_mine : (List.finRange 64).filter mine = [] := List.filter_eq_nil_iff.2 fun f _ => by
    have hf := h f
    have hm : (y.flow f).serving = (x.flow f).serving := rfl
    unfold mine
    rw [hm]
    split
    · next p it hs =>
      intro hp
      exact hf _ (of_decide_eq_true hp ▸ hs)
    · exact Bool.false_ne_true
  rw [none_mine]
  rfl

/-! ### The obligation -/

theorem canSent_steady (x : Live) (n : Fin 4) (rest : List CanFrame) (f : Fin 64) (g : FlowSt → FlowSt) :
    ((x.countSent n rest).modFlow f g).steady = x.steady := by
  have h := modFlow_poised (x.countSent n rest) f g
  rw [poised_steady h]
  unfold Live.countSent Live.steady Live.poised
  rfl

/-- Settles O45: the tunnel's message, the heartbeat, the received and the sent frame and bus-off, each by its case. -/
theorem tunnelAndCanPorts : Obligations.TunnelAndCanPorts := by
  unfold Obligations.TunnelAndCanPorts
  refine ⟨fun l req q s ha hb hq hf => ⟨fun hn => ?_, fun sid hr h0 h1 h2 h3 hown => ?_⟩,
    fun l n t d s ht hd hdue => ⟨fun hs => ?_, fun hs => ?_⟩,
    fun l n f s hb hon ha hn => ⟨fun hff => ?_, fun e hff hp hk hl hs => ?_⟩,
    fun l n fr rest s ht hx h => runsTo_onLive (f := fun x => x.canSent n) rfl (canSent_of_none ht hx h),
    fun l n fr rest f it s ht hx hi hs hq ho => ?_,
    fun l n s hb h => runsTo_onLive (f := fun x => x.canBusOff n) rfl (canBusOff_of_none hb h),
    fun l n s h => runsTo_onLive (f := fun x => x.canRecovered n) rfl (if_pos h)⟩
  · have bad : ¬(natAt q.data 0 1 = (s.lane l).live.di.nodeId ∧ natAt q.data 1 1 < 128 ∧ 8 ≤ natAt q.data 2 2 ∧
        natAt q.data 2 2 ≤ 64) := by omega
    refine done_onLive rfl ?_
    rw [tunnelMessage_of_fresh ha hb hq hf, if_neg bad, onLive_onLive]
    rfl
  · refine done_onLive rfl ?_
    rw [tunnelMessage_of_fresh ha hb hq hf, if_pos ⟨h0, h1, h2, h3⟩, hr]
    unfold usdoServe
    dsimp only
    rw [onLive_onLive]
    exact onLive_congr (clientEnds_of_notOwn ((s.lane l).live.tunnelRead q) _ sid hown)
  · refine runsTo_onLive (f := fun x => x.heartbeat n) rfl ?_
    rw [heartbeat_of_due ht hd hdue, hs]
    rfl
  · refine runsTo_onLive (f := fun x => x.heartbeat n) rfl ?_
    rw [heartbeat_of_due ht hd hdue, hs]
    rfl
  · refine runsTo_onLive (f := fun x => x.canReceived n f) rfl ?_
    rw [canReceived_of_unarmed hb hon ha hn, hff]
    rfl
  · refine runs_onLive (f := fun x => x.canReceived n f) rfl ?_
    have received := canReceived_of_unarmed hb hon ha hn
    rw [hff, Option.elim_some, hwPost_of_serving (x := (s.lane l).live.countReceived n) _ 2 hp hl hk hs] at received
    rw [received]
    refine ⟨rfl, rfl, ?_, ((s.lane l).live.countReceived n).canItem n f, ?_, rfl, rfl⟩
    · exact congrArg CanSt.framesRx (vmod_self (s.lane l).live.di.can n _)
    · exact congrArg FlowSt.queue (flow_modFlow ((s.lane l).live.countReceived n) e _)
  · refine runs_onLive (f := fun x => x.canSent n) rfl ?_
    rw [canSent_of_serving ht hx hi hs hq ho]
    refine ⟨rfl, rfl, ?_, ?_, ?_, canSent_steady ..⟩
    · exact congrArg CanSt.tx (vmod_self (s.lane l).live.di.can n _)
    · exact congrArg CanSt.framesTx (vmod_self (s.lane l).live.di.can n _)
    · exact congrArg FlowSt.serving (flow_modFlow ((s.lane l).live.countSent n rest) f _)

end Sys2Proof.Machine
end

section
/-!
PROOF SUPPORT. Jalsyn frames received (R358, R366, R371, R375, R376, R379, R382): the checks in their order, the copies of
a `FIRST` entry, references, and the obligation about them.
-/

namespace Sys2Proof.Machine

/-! ### Channels -/

@[simp] theorem chan_modChan (x : Live) (c : Chan) (f : ChanSt → ChanSt) : (x.modChan c f).chan c = f (x.chan c) := by
  cases c <;> rfl

/-! ### The checks in their order (R358) -/

section
variable {x : Live} {c : Chan} {f : JalsynFrame} {serial : List Byte}

theorem frameRx_of_badFcs (hn : x.netOn = true) (ha : x.fl.armed = none) (hf : f.fcsOk = false)
    (hs : x.jn.sync ≠ .launch) : x.frameRx c f serial = x.countOn c (fun n => { n with fcs := satInc n.fcs }) := by
  have calm : ¬((x.countOn c (fun n => { n with fcs := satInc n.fcs })).jn.sync = .launch ∧
      f.stop ≤ 400 * (x.countOn c (fun n => { n with fcs := satInc n.fcs })).num Obj.backupDelay) := by
    have sync : (x.countOn c (fun n => { n with fcs := satInc n.fcs })).jn.sync = x.jn.sync := by cases c <;> rfl
    rw [sync]
    exact fun h => hs h.1
  unfold Live.frameRx
  rw [injected_of_unarmed _ ha, hn, hf]
  exact if_neg calm

theorem frameRx_of_malformed (hn : x.netOn = true) (ha : x.fl.armed = none) (hf : f.fcsOk = true)
    (hh : f.headerOk = false ∨ 1400 < f.payload.length) :
    x.frameRx c f serial = x.countOn c (fun n => { n with unknown := satInc n.unknown }) := by
  have bad : (!f.headerOk || decide (1400 < f.payload.length)) = true := by rcases hh with hh | hh <;> simp [hh]
  unfold Live.frameRx
  rw [injected_of_unarmed _ ha, hn, hf]
  exact if_pos bad

theorem frameRx_of_reference {r : RefFrame} (hn : x.netOn = true) (ha : x.fl.armed = none) (hf : f.fcsOk = true)
    (hh : f.headerOk = true) (hs : f.slot = 0) (hr : asRef f = some r) :
    x.frameRx c f serial = (x.validFrame c f).refReceived c f r := by
  have short : f.payload.length = 24 := by
    unfold asRef at hr
    split at hr
    · next h => exact h.2
    · exact absurd hr nofun
  have good : ¬(!f.headerOk || decide (1400 < f.payload.length)) = true := by simp [hh, short]
  unfold Live.frameRx
  rw [injected_of_unarmed _ ha, hn, hf]
  refine (if_neg good).trans ((if_pos hs).trans ?_)
  rw [hr]

/-- A frame of a slot goes on to the entry that it belongs to. -/
theorem frameRx_of_slot (hn : x.netOn = true) (ha : x.fl.armed = none) (hf : f.fcsOk = true) (hh : f.headerOk = true)
    (hl : f.payload.length ≤ 1400) (hs : f.slot ≠ 0) :
    (x.entryFor c f = none → x.frameRx c f serial = x.countOn c (fun n => { n with unknown := satInc n.unknown })) ∧
    (∀ e : Nat, x.entryFor c f = some e → x.frameRx c f serial =
      if !x.entEnabled e then x.countOn c (fun n => { n with unknown := satInc n.unknown })
      else if f.cycle ≠ x.jn.cycle then x.countOn c (fun n => { n with cycMis := satInc n.cycMis })
      else if !x.inWindows e f then (x.countOn c (fun n => { n with window := satInc n.window })).countEnt e 2
      else if x.entMax e < f.payload.length then x.countOn c (fun n => { n with unknown := satInc n.unknown })
      else (if (x.validFrame c f).entBoth e then (x.validFrame c f).bothCopy e c f
        else (x.validFrame c f).firstCopy e c f).heardHealth e serial f.payload) := by
  have good : ¬(!f.headerOk || decide (1400 < f.payload.length)) = true := by simp [hh, hl]
  have parity : ∀ e, x.parityCheck e = x := fun e => by
    unfold Live.parityCheck
    rw [injected_of_unarmed _ ha]
  unfold Live.frameRx
  rw [injected_of_unarmed _ ha, hn, hf]
  refine ⟨fun h => ?_, fun e h => ?_⟩
  · refine (if_neg good).trans ((if_neg hs).trans ?_)
    rw [h]
  · refine (if_neg good).trans ((if_neg hs).trans ?_)
    rw [h]
    dsimp only
    rw [parity]

/-- The entry of a frame is one that is enabled. -/
theorem entEnabled_of_entryFor {e : Nat} (h : x.entryFor c f = some e) : x.entEnabled e = true := by
  have cand : e ∈ (List.range x.entCount).filter (fun e =>
      x.entActive e && x.entRx e && x.entOn e c && decide (x.entFrame e = f.slot.toNat)) := by
    unfold Live.entryFor at h
    dsimp only at h
    split at h
    · next hf => exact Option.some.inj h ▸ List.mem_of_find?_eq_some hf
    · exact List.mem_of_head? h
  have active : x.entActive e = true := by
    have := (List.mem_filter.1 cand).2
    simp only [Bool.and_eq_true] at this
    exact this.1.1.1
  unfold Live.entActive at active
  exact (Bool.and_eq_true_iff.1 active).1

end

/-! ### Valid frames (R354, R374, R382) -/

/-- A channel that heard a valid frame. -/
def ChanSt.hears (q : ChanSt) : ChanSt := { q with heard := true, cnt := { q.cnt with framesRx := satInc q.cnt.framesRx } }

theorem validFrame_of_other {x : Live} {c : Chan} {f : JalsynFrame} (h : f.node.toNat ≠ x.num Obj.nodeId) :
    x.validFrame c f = x.modChan c ChanSt.hears := by
  cases c
  · exact if_neg h
  · exact if_neg h

theorem heardHealth_of_joined {x : Live} {e : Nat} {serial payload : List Byte} (h : x.au.loneSince = none) :
    x.heardHealth e serial payload = x := by
  unfold Live.heardHealth
  rw [h]
  rfl

/-- The entry of a `FIRST` frame that another node sent takes its copy. -/
theorem frameRx_of_first {x : Live} {c : Chan} {f : JalsynFrame} {serial : List Byte} {e : Nat} (hn : x.netOn = true)
    (ha : x.fl.armed = none) (hf : f.fcsOk = true) (hh : f.headerOk = true) (hl : f.payload.length ≤ 1400)
    (hs : f.slot ≠ 0) (he : x.entryFor c f = some e) (hc : f.cycle = x.jn.cycle) (hw : x.inWindows e f = true)
    (hm : f.payload.length ≤ x.entMax e) (hb : x.entBoth e = false) (hid : f.node.toNat ≠ x.num Obj.nodeId) :
    x.frameRx c f serial = ((x.modChan c ChanSt.hears).firstCopy e c f).heardHealth e serial f.payload := by
  obtain ⟨_, entry⟩ := frameRx_of_slot (serial := serial) hn ha hf hh hl hs
  have first : ¬(x.modChan c ChanSt.hears).entBoth e = true := by
    have same : (x.modChan c ChanSt.hears).entBoth e = x.entBoth e := by cases c <;> rfl
    rw [same, hb]
    exact Bool.false_ne_true
  rw [entry e he, entEnabled_of_entryFor he, hw, validFrame_of_other hid, if_neg first]
  simp only [Bool.not_true, Bool.false_eq_true, if_false, hc, ne_eq, not_true_eq_false, Nat.not_lt.2 hm]

/-! ### Copies of a `FIRST` entry (R366, R379) -/

/-- A copy of a channel noted in its entry. -/
def EntryCyc.noted (z : EntryCyc) (c : Chan) (f : JalsynFrame) : EntryCyc :=
  match c with
  | .a => { z with gotA := true, dataA := f.payload }
  | .b => { z with gotB := true, endB := some f.stop, dataB := f.payload }

section
variable {x : Live} {e : Nat} {f : JalsynFrame}

/-- The first copy of a cycle is delivered. -/
theorem firstCopy_of_first {c : Chan} (hA : (x.entCyc e).gotA = false) (hB : (x.entCyc e).gotB = false) :
    x.firstCopy e c f = (x.modEnt e (fun z => z.noted c f)).deliver (x.entBuf e) f.payload c := by
  unfold Live.firstCopy
  dsimp only
  rw [hA, hB]
  cases c <;> rfl

/-- A copy of channel B after that of channel A is counted as second, and as different where it is. -/
theorem firstCopy_of_second (hA : (x.entCyc e).gotA = true) (hB : (x.entCyc e).gotB = false) :
    x.firstCopy e .b f = (x.modEnt e (fun z => z.noted .b f)).countOn .b (fun n => { n with
      second := satInc n.second,
      differ := if f.payload ≠ (x.entCyc e).dataA then satInc n.differ else n.differ }) := by
  unfold Live.firstCopy
  dsimp only
  rw [hA, hB]
  simp only [decide_eq_true_eq]
  rfl

theorem buf_deliver (b : Nat) (payload : List Byte) (c : Chan) : (x.deliver b payload c).buf b =
    { x.buf b with page := (x.buf b).data, data := payload, slen := payload.length, fresh := true,
                   chanB := decide (c = .b), cycle := x.jn.cycle } :=
  NMap.read_write_self ..

theorem buf_deliver_ne {b d : Nat} (payload : List Byte) (c : Chan) (h : d ≠ b) :
    (x.deliver b payload c).buf d = x.buf d :=
  NMap.read_write_other _ _ _ _ _ h

end

/-! ### References (R371, R375, R376) -/

theorem refReceived_of_waiting {x : Live} {c : Chan} {f : JalsynFrame} {r : RefFrame}
    (h : x.jn.sync = .listen ∨ x.jn.sync = .wait) : x.refReceived c f r =
      (x.modChan c (fun q => { q with refHere := true })).modNet (fun q => { q with
        sync := .integrating, firstRef := some r }) := by
  have sync : (x.modChan c (fun q => { q with refHere := true })).jn.sync = x.jn.sync := by cases c <;> rfl
  unfold Live.refReceived
  dsimp only
  rw [sync]
  rcases h with h | h <;> rw [h] <;> rfl

/-- A reference consistent with the one held completes the integration. -/
theorem refReceived_of_consistent {x : Live} {c : Chan} {f : JalsynFrame} {y r : RefFrame}
    (h : x.jn.sync = .integrating) (hy : x.jn.firstRef = some y) (hc : x.consistent y r = true) :
    x.refReceived c f r = (x.modChan c (fun q => { q with refHere := true })).integrate y r := by
  have sync : (x.modChan c (fun q => { q with refHere := true })).jn.sync = x.jn.sync := by cases c <;> rfl
  have held : (x.modChan c (fun q => { q with refHere := true })).jn.firstRef = x.jn.firstRef := by cases c <;> rfl
  have same : (x.modChan c (fun q => { q with refHere := true })).consistent y r = x.consistent y r := by
    cases c <;> rfl
  have fits : (x.modChan c (fun q => { q with refHere := true })).refMisfit r = 0 := by
    rw [← same] at hc
    unfold Live.consistent at hc
    exact of_decide_eq_true (Bool.and_eq_true_iff.1 hc).2
  unfold Live.refReceived
  dsimp only
  rw [sync, h]
  dsimp only
  unfold Live.integrating
  dsimp only
  rw [fits, held, hy]
  dsimp only
  rw [same, hc]
  rfl

/-- What an integration leaves: synchronised on the second reference, in its cycle and on its grid. -/
theorem integrate_spec (x : Live) (y r : RefFrame) :
    (x.integrate y r).jn.sync = .sync ∧ (x.integrate y r).jn.cycle = r.cycle ∧
    (x.integrate y r).jn.grid = r.cycleStart.toNat ∧ (x.integrate y r).tk.onJalsyn = true ∧
    (x.integrate y r).jn.firstRef = none := by
  unfold Live.integrate
  exact ⟨rfl, rfl, rfl, rfl, rfl⟩

/-! ### The obligation -/

/-- A first copy delivered, seen from the lane: its buffer, the other buffers, its channel, and what stands. -/
theorem firstDelivered_spec (x : Live) (c : Chan) (g : ChanSt → ChanSt) (e : Nat) (h : EntryCyc → EntryCyc) (b : Nat)
    (payload : List Byte) :
    (((x.modChan c g).modEnt e h).deliver b payload c).buf b =
      { x.buf b with page := (x.buf b).data, data := payload, slen := payload.length, fresh := true,
                     chanB := decide (c = .b), cycle := x.jn.cycle } ∧
    (∀ d, d ≠ b → (((x.modChan c g).modEnt e h).deliver b payload c).buf d = x.buf d) ∧
    (((x.modChan c g).modEnt e h).deliver b payload c).chan c = g (x.chan c) ∧
    (((x.modChan c g).modEnt e h).deliver b payload c).fl = x.fl ∧
    (((x.modChan c g).modEnt e h).deliver b payload c).au = x.au := by
  have bufs : ∀ d, ((x.modChan c g).modEnt e h).buf d = x.buf d := fun d => by cases c <;> rfl
  have cycle : ((x.modChan c g).modEnt e h).jn.cycle = x.jn.cycle := by cases c <;> rfl
  refine ⟨?_, fun d hd => ?_, ?_⟩
  · rw [buf_deliver, bufs, cycle]
  · rw [buf_deliver_ne _ _ hd, bufs]
  · unfold Live.deliver Live.modBuf Live.modEnt
    cases c <;> (unfold Live.modChan Live.chan; dsimp only; exact ⟨rfl, rfl, rfl⟩)

/-- A first reference heard, seen from the lane. -/
theorem firstHeard_spec (x : Live) (c : Chan) (r : RefFrame) :
    let y := ((x.modChan c ChanSt.hears).modChan c (fun q => { q with refHere := true })).modNet (fun q => { q with
      sync := .integrating, firstRef := some r })
    y.jn.sync = .integrating ∧ y.jn.firstRef = some r ∧ (y.chan c).refHere = true ∧
      (y.chan c).cnt.framesRx = satInc (x.chan c).cnt.framesRx ∧ y.tk = x.tk := by
  cases c <;> (unfold Live.modNet Live.modChan Live.chan ChanSt.hears; dsimp only; exact ⟨rfl, rfl, rfl, rfl, rfl⟩)

/-- A second copy counted, seen from the lane. -/
theorem secondCounted_spec (x : Live) (e : Nat) (h : EntryCyc → EntryCyc) (p : Prop) [Decidable p] :
    let y := ((x.modChan .b ChanSt.hears).modEnt e h).countOn .b (fun n => { n with
      second := satInc n.second, differ := if p then satInc n.differ else n.differ })
    y.jn.bufs = x.jn.bufs ∧ y.jn.chB.cnt.second = satInc x.jn.chB.cnt.second ∧
      y.jn.chB.cnt.differ = (if p then satInc x.jn.chB.cnt.differ else x.jn.chB.cnt.differ) ∧ y.au = x.au := by
  unfold Live.countOn Live.modEnt Live.modChan ChanSt.hears
  dsimp only
  exact ⟨rfl, rfl, rfl, rfl⟩

/-- Settles O46: each check of a frame in its order, the copies of a `FIRST` entry, and the references. -/
theorem framesReceived : Obligations.FramesReceived := by
  unfold Obligations.FramesReceived
  refine ⟨fun l c f s hn ha => ⟨fun hf hs => ?_, fun hf hh => ?_, fun hf hh hl hs => ⟨fun he => ?_, fun e he =>
      ⟨fun hc => ?_, fun hc hw => ?_, fun hc hw hm => ?_, fun hc hw hm hb ho hid => ⟨fun hA hB => ?_, fun hcb hA hB => ?_⟩⟩⟩,
      fun r hf hh hs hr hid hsync => ?_⟩,
    fun l c f y r s hn ha hf hh hs hr hid hsync hy hcons => ?_⟩
  · exact runsTo_onLive (f := fun x => x.frameRx c f s.serial) rfl (frameRx_of_badFcs hn ha hf hs)
  · exact runsTo_onLive (f := fun x => x.frameRx c f s.serial) rfl (frameRx_of_malformed hn ha hf hh)
  · exact runsTo_onLive (f := fun x => x.frameRx c f s.serial) rfl ((frameRx_of_slot hn ha hf hh hl hs).1 he)
  · refine runsTo_onLive (f := fun x => x.frameRx c f s.serial) rfl ?_
    rw [(frameRx_of_slot hn ha hf hh hl hs).2 e he, entEnabled_of_entryFor he]
    exact if_pos hc
  · refine runsTo_onLive (f := fun x => x.frameRx c f s.serial) rfl ?_
    rw [(frameRx_of_slot hn ha hf hh hl hs).2 e he, entEnabled_of_entryFor he, hw]
    exact if_neg (not_not.2 hc)
  · refine runsTo_onLive (f := fun x => x.frameRx c f s.serial) rfl ?_
    rw [(frameRx_of_slot hn ha hf hh hl hs).2 e he, entEnabled_of_entryFor he, hw]
    exact (if_neg (not_not.2 hc)).trans (if_pos hm)
  · refine runs_onLive (f := fun x => x.frameRx c f s.serial) rfl ?_
    have got : ((s.lane l).live.modChan c ChanSt.hears).entCyc e = (s.lane l).live.entCyc e := by cases c <;> rfl
    have buffer : ((s.lane l).live.modChan c ChanSt.hears).entBuf e = (s.lane l).live.entBuf e := by cases c <;> rfl
    obtain ⟨here, others, heard, hfl, hau⟩ := firstDelivered_spec (s.lane l).live c ChanSt.hears e
      (fun z => z.noted c f) ((s.lane l).live.entBuf e) f.payload
    rw [frameRx_of_first hn ha hf hh hl hs he hc hw hm hb hid,
      firstCopy_of_first (got.symm ▸ hA) (got.symm ▸ hB), buffer,
      heardHealth_of_joined ((congrArg AuthSt.loneSince hau).trans ho)]
    refine ⟨rfl, rfl, by rw [here, hc], others, ?_, ?_, hfl, hau⟩
    · rw [heard]
      rfl
    · rw [heard]
      rfl
  · subst hcb
    refine runs_onLive (f := fun x => x.frameRx .b f s.serial) rfl ?_
    have got : ((s.lane l).live.modChan .b ChanSt.hears).entCyc e = (s.lane l).live.entCyc e := rfl
    have second := firstCopy_of_second (x := (s.lane l).live.modChan .b ChanSt.hears) (f := f) hA hB
    rw [got] at second
    obtain ⟨bufs, seconds, differs, hau⟩ := secondCounted_spec (s.lane l).live e (fun z => z.noted .b f)
      (f.payload ≠ ((s.lane l).live.entCyc e).dataA)
    rw [frameRx_of_first hn ha hf hh hl hs he hc hw hm hb hid, second,
      heardHealth_of_joined ((congrArg AuthSt.loneSince hau).trans ho)]
    exact ⟨rfl, rfl, bufs, seconds, differs⟩
  · refine runs_onLive (f := fun x => x.frameRx c f s.serial) rfl ?_
    have sync : ((s.lane l).live.modChan c ChanSt.hears).jn.sync = (s.lane l).live.jn.sync := by cases c <;> rfl
    rw [frameRx_of_reference hn ha hf hh hs hr, validFrame_of_other hid, refReceived_of_waiting (sync.symm ▸ hsync)]
    exact ⟨rfl, rfl, firstHeard_spec ..⟩
  · refine runs_onLive (f := fun x => x.frameRx c f s.serial) rfl ?_
    have sync : ((s.lane l).live.modChan c ChanSt.hears).jn.sync = (s.lane l).live.jn.sync := by cases c <;> rfl
    have held : ((s.lane l).live.modChan c ChanSt.hears).jn.firstRef = (s.lane l).live.jn.firstRef := by
      cases c <;> rfl
    have same : ((s.lane l).live.modChan c ChanSt.hears).consistent y r = (s.lane l).live.consistent y r := by
      cases c <;> rfl
    rw [frameRx_of_reference hn ha hf hh hs hr, validFrame_of_other hid,
      refReceived_of_consistent (sync.trans hsync) (held.trans hy) (same.trans hcons)]
    exact ⟨rfl, rfl, integrate_spec ..⟩

end Sys2Proof.Machine
end

section
/-!
PROOF SUPPORT. Acceptance windows, channels and links (R104, R366 to R369, R374, R381): what judging, commands and events
leave of the network, and the obligation about them.
-/

namespace Sys2Proof.Machine

/-! ### The network as an event leaves it -/

/-- The network but for the ports that an event may switch off, and the commands that it brought. -/
def Live.network (x : Live) : NetSt × Vector CmdSt 24 := ({ x.jn with portsOff := false }, x.en.cmd)

theorem raise_network (x : Live) (src unit : Nat) (syn : Word) : (x.raise src unit syn).network = x.network := by
  have e := congrArg (fun y : Live => (y.jn, y.en.cmd)) (raise_steady x src unit syn)
  exact e

theorem sdJudge_network (x : Live) (i : Fin 24) : (x.sdJudge i).network = x.network := by
  unfold Live.sdJudge
  dsimp only
  split
  · refine iteInduction (motive := fun z : Live => z.network = x.network) (fun _ => rfl) (fun _ => ?_)
    rw [raise_network]
    rfl
  · rfl

/-- The inputs whose last window it is, judged (R340). -/
def Live.judgeInputs (x : Live) (e : Nat) : Live :=
  forAll 24 (fun i x => if x.sdUsed i.val && decide (x.sdLast i.val = some e) then x.sdJudge i else x) x

theorem judgeInputs_network (x : Live) (e : Nat) : (x.judgeInputs e).network = x.network :=
  forAll_keeps _ (fun y : Live => y.network = x.network) (fun i y h =>
    iteInduction (motive := fun z : Live => z.network = x.network) (fun _ => (sdJudge_network y i).trans h) (fun _ => h))
    x rfl

/-! ### Commands due (R104, R368) -/

/-- The value of a group's command at the end of an entry's window. -/
def Live.commandValue (x : Live) (e pair : Nat) (g : Fin 24) (y : Live) : Option Word :=
  (x.cmdPayload e pair).bind (fun p =>
    if y.cmdMap g.val 2 + 4 ≤ p.length then some (BitVec.ofNat 32 (natAt p (y.cmdMap g.val 2) 4)) else none)

/-- What the end of an entry's window in `x` does to a group's command. -/
def Live.commandDue (x : Live) (e pair : Nat) (g : Fin 24) (y : Live) : Live :=
  if y.cmdMap g.val 0 = 0xFFFF ∨
      (y.cmdMap g.val 0 ≠ x.entBuf e ∧ (x.entBoth e = false ∨ y.cmdMap g.val 0 ≠ x.entBuf e + 1)) then y
  else (x.commandValue e pair g y).elim
    (({ y with en := { y.en with cmd := vmod y.en.cmd g (fun q => { q with stale := true }) } } : Live).flagBus
      (216 + g.val) (y.en.busBad.read false (216 + g.val)) true)
    (fun v => { y with en := { y.en with
      cmd := vmod y.en.cmd g (fun q => { q with due := some (v, x.jn.cbase + 4 * x.entEnd e + us 1) }) } })

theorem commandsDue_eq (x : Live) (e pair : Nat) : x.commandsDue e pair = forAll 24 (x.commandDue e pair) x := by
  unfold Live.commandsDue
  refine congrArg (fun f => forAll 24 f x) (funext fun g => funext fun y => ?_)
  unfold Live.commandDue Live.commandValue
  dsimp only
  cases x.cmdPayload e pair with
  | none => rfl
  | some p =>
    by_cases h : y.cmdMap g.val 2 + 4 ≤ p.length
    · simp only [Option.bind_some, if_pos h]
      rfl
    · simp only [Option.bind_some, if_neg h]
      rfl

/-- A command touches its own value and the flags of the bus. -/
theorem commandDue_frame (x : Live) (e pair : Nat) (g : Fin 24) (y : Live) : ∃ cmd bad stale,
    x.commandDue e pair g y = { y with en := { y.en with cmd := cmd, busBad := bad, busStale := stale } } ∧
    ∀ o : Fin 24, g ≠ o → cmd[o] = y.en.cmd[o] := by
  unfold Live.commandDue
  split
  · exact ⟨y.en.cmd, y.en.busBad, y.en.busStale, rfl, fun _ _ => rfl⟩
  · cases x.commandValue e pair g y with
    | none =>
      rw [Option.elim_none]
      unfold Live.flagBus
      exact ⟨_, _, _, rfl, fun o h => vmod_other _ g o _ h⟩
    | some v =>
      rw [Option.elim_some]
      exact ⟨_, y.en.busBad, y.en.busStale, rfl, fun o h => vmod_other _ g o _ h⟩

theorem commandsDue_jn (x : Live) (e pair : Nat) : (x.commandsDue e pair).jn = x.jn := by
  rw [commandsDue_eq]
  refine forAll_keeps _ (fun y : Live => y.jn = x.jn) (fun g y h => ?_) x rfl
  obtain ⟨_, _, _, frame, _⟩ := commandDue_frame x e pair g y
  rw [frame]
  exact h

/-- A command bound to a `FIRST` entry's buffer that holds it is due 1 µs after the window. -/
theorem commandsDue_due (x : Live) (e pair : Nat) (g : Fin 24) (hb : x.entBoth e = false)
    (hg : (x.entCyc e).gotA = true) (hm : x.cmdMap g.val 0 = x.entBuf e)
    (hl : x.cmdMap g.val 2 + 4 ≤ (x.buf (x.entBuf e)).data.length) :
    ((x.commandsDue e pair).en.cmd[g]).due =
      some (BitVec.ofNat 32 (natAt (x.buf (x.entBuf e)).data (x.cmdMap g.val 2) 4),
        x.jn.cbase + 4 * x.entEnd e + us 1) := by
  have payload : x.cmdPayload e pair = some (x.buf (x.entBuf e)).data := by
    unfold Live.cmdPayload
    dsimp only
    rw [hb, hg]
    rfl
  have bound : x.entBuf e < 1024 := Nat.mod_lt _ (by decide)
  have taken : ¬(x.cmdMap g.val 0 = 0xFFFF ∨
      (x.cmdMap g.val 0 ≠ x.entBuf e ∧ (x.entBoth e = false ∨ x.cmdMap g.val 0 ≠ x.entBuf e + 1))) := by
    rw [hm]
    exact fun h => h.elim (fun h => by omega) (fun h => h.1 rfl)
  have map : ∀ (y : Live) (off : Nat), y.cfg = x.cfg → y.cmdMap g.val off = x.cmdMap g.val off := fun y off h => by
    unfold Live.cmdMap Live.bytes
    rw [h]
  have cfg : ∀ (o : Fin 24) (y : Live), (x.commandDue e pair o y).cfg = y.cfg := fun o y => by
    obtain ⟨_, _, _, frame, _⟩ := commandDue_frame x e pair o y
    rw [frame]
  rw [commandsDue_eq]
  refine forAll_makes (x.commandDue e pair) g (fun y : Live => y.cfg = x.cfg → (y.en.cmd[g]).due =
    some (BitVec.ofNat 32 (natAt (x.buf (x.entBuf e)).data (x.cmdMap g.val 2) 4),
      x.jn.cbase + 4 * x.entEnd e + us 1)) (fun y h => ?_) (fun o y ho hy h => ?_) x
    (forAll_keeps _ (fun y : Live => y.cfg = x.cfg) (fun o y h => (cfg o y).trans h) x rfl)
  · rw [cfg] at h
    unfold Live.commandDue Live.commandValue
    rw [map y 0 h, map y 2 h, if_neg taken, payload, Option.bind_some, if_pos hl]
    exact congrArg CmdSt.due (vmod_self y.en.cmd g _)
  · obtain ⟨_, _, _, frame, others⟩ := commandDue_frame x e pair o y
    have stands := hy ((cfg o y).symm.trans h)
    rw [frame]
    exact (congrArg CmdSt.due (others g ho)).trans stands

/-! ### The end of a window (R366, R367) -/

theorem entCyc_modEnt (x : Live) (e : Nat) (f : EntryCyc → EntryCyc) : (x.modEnt e f).entCyc e = f (x.entCyc e) :=
  NMap.read_write_self ..

theorem buf_modBuf (x : Live) (b : Nat) (f : BufSt → BufSt) : (x.modBuf b f).buf b = f (x.buf b) :=
  NMap.read_write_self ..

theorem buf_modBuf_ne (x : Live) {b d : Nat} (f : BufSt → BufSt) (h : d ≠ b) : (x.modBuf b f).buf d = x.buf d :=
  NMap.read_write_other _ _ _ _ _ h

/-- An entry's window has ended. -/
def Live.endEntry (x : Live) (e : Nat) : Live := x.modEnt e (fun z => { z with ended := true })

/-- An empty slot counted on each channel of an entry's mask. -/
def Live.countSlots (x : Live) (e : Nat) : Live :=
  let y := if x.entOn e .a then x.countEmpty e .a else x
  if x.entOn e .b then y.countEmpty e .b else y

/-- An empty slot touches its channel and the entry's counter. -/
theorem countEmpty_frame (x : Live) (e : Nat) (c : Chan) : ∃ m, x.countEmpty e c =
    (x.countOn c (fun n => { n with emptyRx := satInc n.emptyRx })).modNet (fun q => { q with slotCnt := m }) := by
  unfold Live.countEmpty Live.countEnt
  dsimp only
  split
  · exact ⟨_, rfl⟩
  · exact ⟨_, rfl⟩

/-- The slots of an entry without a copy count on the channels of its mask, and nothing else. -/
theorem countSlots_frame (x : Live) (e : Nat) : ∃ a b m, x.countSlots e =
    { x with jn := { x.jn with chA := a, chB := b, slotCnt := m } } ∧
    a.cnt.emptyRx = (if x.entOn e .a then satInc x.jn.chA.cnt.emptyRx else x.jn.chA.cnt.emptyRx) ∧
    b.cnt.emptyRx = (if x.entOn e .b then satInc x.jn.chB.cnt.emptyRx else x.jn.chB.cnt.emptyRx) := by
  have first : ∃ a m, (if x.entOn e .a then x.countEmpty e .a else x) =
      { x with jn := { x.jn with chA := a, slotCnt := m } } ∧
      a.cnt.emptyRx = (if x.entOn e .a then satInc x.jn.chA.cnt.emptyRx else x.jn.chA.cnt.emptyRx) := by
    by_cases h : x.entOn e .a = true
    · obtain ⟨m, hm⟩ := countEmpty_frame x e .a
      rw [if_pos h, if_pos h, hm]
      exact ⟨_, _, rfl, rfl⟩
    · rw [if_neg h, if_neg h]
      exact ⟨_, _, rfl, rfl⟩
  obtain ⟨a, m, ha, hcount⟩ := first
  unfold Live.countSlots
  dsimp only
  rw [ha]
  by_cases h : x.entOn e .b = true
  · obtain ⟨k, hk⟩ := countEmpty_frame ({ x with jn := { x.jn with chA := a, slotCnt := m } } : Live) e .b
    rw [if_pos h, if_pos h, hk]
    exact ⟨a, _, _, rfl, hcount, rfl⟩
  · rw [if_neg h, if_neg h]
    exact ⟨a, _, _, rfl, hcount, rfl⟩

section
variable {x : Live} {e : Nat}

theorem windowEnd_of_closed (h : x.entActive e = false ∨ x.entRx e = false ∨ (x.entCyc e).ended = true) :
    x.windowEnd e = x := by
  have closed : (!(x.netOn && x.entActive e && x.entRx e) || (x.entCyc e).ended) = true := by
    rcases h with h | h | h <;> rw [h] <;> simp
  exact if_pos closed

theorem window_open (hn : x.netOn = true) (ha : x.entActive e = true) (hr : x.entRx e = true)
    (he : (x.entCyc e).ended = false) :
    ¬(!(x.netOn && x.entActive e && x.entRx e) || (x.entCyc e).ended) = true := by
  simp [hn, ha, hr, he]

/-- A `FIRST` entry without a copy counts its empty slots. -/
theorem windowEnd_of_empty (ho : ¬(!(x.netOn && x.entActive e && x.entRx e) || (x.entCyc e).ended) = true)
    (hb : x.entBoth e = false) (hA : (x.entCyc e).gotA = false) (hB : (x.entCyc e).gotB = false)
    (hev : x.entEvent e = false) :
    x.windowEnd e = (((x.countSlots e).endEntry e).commandsDue e 0).judgeInputs e := by
  have first : ((x.countSlots e).endEntry e).entBoth e = false := by
    obtain ⟨_, _, _, frame, _⟩ := countSlots_frame x e
    rw [frame]
    exact hb
  unfold Live.windowEnd
  rw [if_neg ho]
  simp only [hb, hA, hB, hev, Bool.or_self, Bool.false_eq_true, if_false]
  exact congrArg (fun z : Live => (z.commandsDue e 0).judgeInputs e) (if_neg (first.symm ▸ Bool.false_ne_true))

/-- A `FIRST` entry with a copy only ends. -/
theorem windowEnd_of_copy (ho : ¬(!(x.netOn && x.entActive e && x.entRx e) || (x.entCyc e).ended) = true)
    (hb : x.entBoth e = false) (hA : (x.entCyc e).gotA = true) :
    x.windowEnd e = ((x.endEntry e).commandsDue e 0).judgeInputs e := by
  unfold Live.windowEnd
  rw [if_neg ho]
  simp only [hb, hA, Bool.true_or, Bool.false_eq_true, if_false, if_true]
  exact congrArg (fun z : Live => (z.commandsDue e 0).judgeInputs e)
    (if_neg (show ¬(x.endEntry e).entBoth e = true from hb.symm ▸ Bool.false_ne_true))

/-- The pair status of a `BOTH` entry's two buffers. -/
def Live.markPair (x : Live) (e : Nat) (p : BitVec 3) : Live :=
  (x.modBuf (x.entBuf e) (fun z => { z with pair := p })).modBuf (x.entBuf e + 1) (fun z => { z with pair := p })

/-- A `BOTH` entry with two equal copies marks its pair COMPLETE. -/
theorem windowEnd_of_equal (ho : ¬(!(x.netOn && x.entActive e && x.entRx e) || (x.entCyc e).ended) = true)
    (hb : x.entBoth e = true) (hA : (x.entCyc e).gotA = true) (hB : (x.entCyc e).gotB = true)
    (hd : (x.entCyc e).dataA = (x.entCyc e).dataB) :
    x.windowEnd e = (((x.endEntry e).markPair e 1).commandsDue e 1).judgeInputs e := by
  have complete : x.pairEnd e = (1, x) := by
    unfold Live.pairEnd
    simp only [hA, hB, hd, if_true]
  unfold Live.windowEnd
  rw [if_neg ho]
  simp only [hb, if_true, complete]
  exact congrArg (fun z : Live => (z.commandsDue e 1).judgeInputs e) (if_pos hb)

end

/-! ### Channels lost and found (R374) -/

/-- A channel taken out, as a fault. -/
def Live.loseChannel (x : Live) (c : Chan) : Live :=
  (x.modChan c (fun q => { q with lost := true, quiet := 0, refRun := 0 })).countFault .jalsynChannel x.me c.num

theorem loseChannel_jn (x : Live) (c : Chan) :
    (x.loseChannel c).jn = (x.modChan c (fun q => { q with lost := true, quiet := 0, refRun := 0 })).jn := by
  obtain ⟨a, h⟩ := countFault_frame (x.modChan c (fun q => { q with lost := true, quiet := 0, refRun := 0 }))
    .jalsynChannel x.me c.num
  unfold Live.loseChannel
  rw [h]

/-- A channel is lost with its event; where the other one is lost too, a lane that its network took listens again and
becomes a follower. -/
theorem channelLost_of_lost {x : Live} {c : Chan} (hn : x.netOn = true) (hl : (x.chan c).lost = false)
    (h : (∃ t, (x.chan c).downAt = some t ∧ x.due (t + ms 10) = true) ∨ x.num Obj.lossCycles ≤ (x.chan c).quiet) :
    ∃ y : Live, (∃ syn, y = (x.loseChannel c).raise (272 + c.num) c.num syn) ∧ x.channelLost c =
      if y.jn.chA.lost && y.jn.chB.lost then (if y.jn.sync = .refused then y else y.toListen 2).makeFollower y.me false
      else y := by
  unfold Live.channelLost
  extract_lets q down quiet y z
  have gone : (down || quiet) = true := by
    unfold down quiet q
    rcases h with ⟨t, ht, hd⟩ | h
    · rw [ht]
      exact Bool.or_eq_true_iff.2 (.inl hd)
    · exact Bool.or_eq_true_iff.2 (.inr (decide_eq_true h))
  have taken : ¬(!x.netOn || q.lost || !(down || quiet)) = true := by
    rw [hn, gone, show q.lost = false from hl]
    exact Bool.false_ne_true
  have same : y.me = x.me := by cases c <;> rfl
  refine ⟨z, ⟨if down then 1 else 2, ?_⟩, if_neg taken⟩
  unfold z
  rw [same]
  rfl

theorem makeFollower_spec (x : Live) : ∃ a, x.makeFollower x.me false = { x with au := a } ∧ a.follower = true := by
  cases h : x.au.follower with
  | false =>
    obtain ⟨a, ha, hf, _⟩ := makeFollower_me x false h
    exact ⟨a, ha, hf⟩
  | true =>
    have already : x.laneFollower x.me = true := (if_pos rfl).trans h
    exact ⟨x.au, if_pos already, h⟩

theorem channelBack_of_returned {x : Live} {c : Chan} (hn : x.netOn = true) (hl : (x.chan c).lost = true)
    (h : x.num Obj.lossCycles ≤ (x.chan c).refRun) :
    x.channelBack c = x.modChan c (fun q => { q with lost := false, quiet := 0 }) :=
  if_pos (by simp [hn, hl, h])

theorem channelBack_of_short {x : Live} {c : Chan} (h : (x.chan c).refRun < x.num Obj.lossCycles) :
    x.channelBack c = x :=
  if_neg (by simp [Nat.not_le.2 h])

theorem linkDown_of_up {x : Live} {c : Chan} (hn : x.netOn = true) (h : (x.chan c).linkUp = true) :
    x.linkDown c = (x.modChan c (fun q => { q with
      linkUp := false, downAt := some x.clk, cnt := { q.cnt with downs := satInc q.cnt.downs } })).cableRun c := by
  refine (if_pos (Bool.and_eq_true_iff.2 ⟨hn, h⟩)).trans ?_
  cases c <;> rfl

/-! ### The obligation -/

/-- What a window's end leaves of the network and of the commands after its counts and marks. -/
theorem windowClosed_jn (x : Live) (e pair : Nat) : ∃ off,
    ((x.commandsDue e pair).judgeInputs e).jn = { x.jn with portsOff := off } ∧
    ((x.commandsDue e pair).judgeInputs e).en.cmd = (x.commandsDue e pair).en.cmd := by
  have net := judgeInputs_network (x.commandsDue e pair) e
  have stands := commandsDue_jn x e pair
  generalize (x.commandsDue e pair).judgeInputs e = y at net ⊢
  generalize x.commandsDue e pair = z at net stands ⊢
  obtain ⟨jn, cmd⟩ := Prod.mk.inj net
  have kept := congrArg (fun q : NetSt => { q with portsOff := y.jn.portsOff }) jn
  dsimp only at kept
  rw [stands] at kept
  exact ⟨y.jn.portsOff, kept, cmd⟩

/-- The end of the window of an entry without a copy, seen from the lane. -/
theorem emptyWindow_spec (x : Live) (e : Nat) :
    let y := (((x.countSlots e).endEntry e).commandsDue e 0).judgeInputs e
    (y.entCyc e).ended = true ∧ y.jn.bufs = x.jn.bufs ∧
      y.jn.chA.cnt.emptyRx = (if x.entOn e .a then satInc x.jn.chA.cnt.emptyRx else x.jn.chA.cnt.emptyRx) ∧
      y.jn.chB.cnt.emptyRx = (if x.entOn e .b then satInc x.jn.chB.cnt.emptyRx else x.jn.chB.cnt.emptyRx) := by
  obtain ⟨off, jn, _⟩ := windowClosed_jn ((x.countSlots e).endEntry e) e 0
  obtain ⟨a, b, m, frame, countA, countB⟩ := countSlots_frame x e
  have ended : (((x.countSlots e).endEntry e).entCyc e).ended = true := congrArg EntryCyc.ended (entCyc_modEnt ..)
  generalize (((x.countSlots e).endEntry e).commandsDue e 0).judgeInputs e = y at jn ⊢
  dsimp only
  have entries : y.entCyc e = ((x.countSlots e).endEntry e).entCyc e := by
    unfold Live.entCyc
    rw [jn]
  rw [entries, jn]
  refine ⟨ended, ?_⟩
  rw [frame]
  exact ⟨rfl, countA, countB⟩

/-- The end of the window of an equal pair, seen from the lane. -/
theorem equalWindow_spec (x : Live) (e : Nat) :
    let y := (((x.endEntry e).markPair e 1).commandsDue e 1).judgeInputs e
    (y.buf (x.entBuf e)).pair = 1 ∧ (y.buf (x.entBuf e + 1)).pair = 1 ∧ y.jn.chA = x.jn.chA ∧ y.jn.chB = x.jn.chB ∧
      y.jn.unequal = x.jn.unequal := by
  obtain ⟨off, jn, _⟩ := windowClosed_jn ((x.endEntry e).markPair e 1) e 1
  have second : (((x.endEntry e).markPair e 1).buf (x.entBuf e + 1)).pair = 1 := congrArg BufSt.pair (buf_modBuf ..)
  have first : (((x.endEntry e).markPair e 1).buf (x.entBuf e)).pair = 1 :=
    congrArg BufSt.pair ((buf_modBuf_ne _ _ (Nat.ne_of_lt (Nat.lt_succ_self _))).trans (buf_modBuf (x.endEntry e) ..))
  generalize (((x.endEntry e).markPair e 1).commandsDue e 1).judgeInputs e = y at jn ⊢
  dsimp only
  have bufs : ∀ b, y.buf b = ((x.endEntry e).markPair e 1).buf b := fun b => by
    unfold Live.buf
    rw [jn]
  rw [bufs, bufs, jn]
  refine ⟨first, second, ?_⟩
  unfold Live.markPair Live.modBuf Live.endEntry Live.modEnt
  exact ⟨rfl, rfl, rfl⟩

/-- Which channels are lost after one was. -/
theorem lost_of_loseChannel {x y : Live} {c : Chan} (h : ∃ syn, y = (x.loseChannel c).raise (272 + c.num) c.num syn) :
    (y.chan c).lost = true ∧ (y.jn.chA.lost && y.jn.chB.lost) = (x.chan (otherChan c)).lost ∧ y.jn.sync = x.jn.sync := by
  obtain ⟨syn, rfl⟩ := h
  have jn := congrArg Prod.fst (raise_network (x.loseChannel c) (272 + c.num) c.num syn)
  have lostA := congrArg (fun q : NetSt => q.chA.lost) jn
  have lostB := congrArg (fun q : NetSt => q.chB.lost) jn
  have sync := congrArg NetSt.sync jn
  unfold Live.network at lostA lostB sync
  dsimp only at lostA lostB sync
  rw [loseChannel_jn] at lostA lostB sync
  rw [lostA, lostB, sync]
  cases c
  · exact ⟨lostA, Bool.true_and _, rfl⟩
  · exact ⟨lostB, Bool.and_true _, rfl⟩

/-- Settles O47: the three ends of a window, and the loss and return of channels and links. -/
theorem windowsAndChannels : Obligations.WindowsAndChannels := by
  unfold Obligations.WindowsAndChannels
  refine ⟨fun l e s => ⟨fun h => runsTo_onLive (f := fun x => x.windowEnd e.val) rfl (windowEnd_of_closed h),
      fun hn ha hr he => ⟨fun hb hA hB hev => ?_, fun hb hA hB hd => ?_, fun g hb hA hm hl => ?_⟩⟩,
    fun l c s hn => ⟨fun hl h => ⟨fun ho => ?_, fun ho hs => ?_⟩, fun hl h => ?_, fun h => ?_, fun h => ?_, ?_⟩⟩
  · refine runs_onLive (f := fun x => x.windowEnd e.val) rfl ?_
    rw [windowEnd_of_empty (window_open hn ha hr he) hb hA hB hev]
    have spec := emptyWindow_spec (s.lane l).live e.val
    generalize ((((s.lane l).live.countSlots e.val).endEntry e.val).commandsDue e.val 0).judgeInputs e.val = y at spec ⊢
    exact ⟨rfl, rfl, spec⟩
  · refine runs_onLive (f := fun x => x.windowEnd e.val) rfl ?_
    rw [windowEnd_of_equal (window_open hn ha hr he) hb hA hB hd]
    have spec := equalWindow_spec (s.lane l).live e.val
    generalize ((((s.lane l).live.endEntry e.val).markPair e.val 1).commandsDue e.val 1).judgeInputs e.val = y at spec ⊢
    exact ⟨rfl, rfl, spec⟩
  · refine runs_onLive (f := fun x => x.windowEnd e.val) rfl ?_
    rw [windowEnd_of_copy (window_open hn ha hr he) hb hA]
    have ended : (((s.lane l).live.endEntry e.val).entCyc e.val).gotA = true :=
      (congrArg EntryCyc.gotA (entCyc_modEnt ..)).trans hA
    obtain ⟨_, _, cmd⟩ := windowClosed_jn ((s.lane l).live.endEntry e.val) e.val 0
    have due := commandsDue_due ((s.lane l).live.endEntry e.val) e.val 0 g hb ended hm hl
    rw [← cmd] at due
    generalize (((s.lane l).live.endEntry e.val).commandsDue e.val 0).judgeInputs e.val = y at due ⊢
    exact ⟨rfl, rfl, due⟩
  · obtain ⟨y, ⟨syn, hy⟩, e⟩ := channelLost_of_lost hn hl h
    obtain ⟨_, both, _⟩ := lost_of_loseChannel ⟨syn, hy⟩
    rw [both, ho, if_neg Bool.false_ne_true, hy] at e
    exact runsEv_raise (f := fun x => x.channelLost c) rfl e trivial
  · obtain ⟨y, hy, e⟩ := channelLost_of_lost hn hl h
    obtain ⟨lost, both, sync⟩ := lost_of_loseChannel hy
    obtain ⟨a, ha, follows⟩ := makeFollower_spec (y.toListen 2)
    have e' : (s.lane l).live.channelLost c = { y.toListen 2 with au := a } := by
      rw [e, both, ho, if_pos rfl, if_neg (sync.symm ▸ hs)]
      exact ha
    refine runs_onLive (f := fun x => x.channelLost c) rfl ?_
    rw [e']
    have kept : ({ y.toListen 2 with au := a } : Live).chan c = y.chan c := by cases c <;> rfl
    exact ⟨rfl, rfl, kept.symm ▸ lost, rfl, rfl, follows⟩
  · exact runsTo_onLive (f := fun x => x.channelBack c) rfl (channelBack_of_returned hn hl h)
  · exact runsTo_onLive (f := fun x => x.channelBack c) rfl (channelBack_of_short h)
  · exact runsTo_onLive (f := fun x => x.linkDown c) rfl (linkDown_of_up hn h)
  · exact runsTo_onLive (f := fun x => x.linkBack c) rfl (if_pos hn)

end Sys2Proof.Machine
end

section
/-!
PROOF SUPPORT. Threads (R452, R454 to R457, R466): what the scheduler touches, the commands case by case, and the
obligation about them.
-/

namespace Sys2Proof.Machine

/-! ### What the scheduler touches (R454) -/

theorem dispatch_frame (x : Live) (t : Fin 128) (core3 : Bool) : ∃ th rd c2 c3, x.dispatch t core3 =
    { x with sc := { x.sc with threads := th, ready := rd, core2 := c2, core3 := c3 } } := by
  unfold Live.dispatch
  cases x.onCore core3 with
  | none => cases core3 <;> exact ⟨_, _, _, _, rfl⟩
  | some r => cases core3 <;> exact ⟨_, _, _, _, rfl⟩

/-- Placing threads touches the threads, the ready list and the cores. -/
theorem reschedule_frame (k : Nat) (x : Live) : ∃ th rd c2 c3, x.reschedule k =
    { x with sc := { x.sc with threads := th, ready := rd, core2 := c2, core3 := c3 } } := by
  induction k generalizing x with
  | zero => exact ⟨x.sc.threads, x.sc.ready, x.sc.core2, x.sc.core3, rfl⟩
  | succ k ih =>
    unfold Live.reschedule
    cases x.nextReady with
    | none => exact ⟨x.sc.threads, x.sc.ready, x.sc.core2, x.sc.core3, rfl⟩
    | some p =>
      obtain ⟨_, _, _, _, first⟩ := dispatch_frame x p.1 p.2
      obtain ⟨th, rd, c2, c3, rest⟩ := ih (x.dispatch p.1 p.2)
      refine ⟨th, rd, c2, c3, rest.trans ?_⟩
      rw [first]

theorem schedule_frame (x : Live) : ∃ th rd c2 c3, x.schedule =
    { x with sc := { x.sc with threads := th, ready := rd, core2 := c2, core3 := c3 } } :=
  reschedule_frame 40 x

/-- The flows without a thread that waited for an item. -/
def Live.flowsWithout (x : Live) (t : Fin 128) : NMap FlowSt :=
  x.sc.flows.mapDflt {} (fun q => { q with waiters := q.waiters.filter (fun y => y != t) })

theorem unplace_frame (x : Live) (t : Fin 128) : ∃ rd c2 c3, x.unplace t =
    { x with sc := { x.sc with ready := rd, core2 := c2, core3 := c3, flows := x.flowsWithout t } } := by
  unfold Live.unplace
  dsimp only
  by_cases h2 : x.sc.core2 = some t
  · rw [if_pos h2]
    by_cases h3 : (x.setCore false none).sc.core3 = some t
    · rw [if_pos h3]
      exact ⟨_, _, _, rfl⟩
    · rw [if_neg h3]
      exact ⟨_, _, _, rfl⟩
  · rw [if_neg h2]
    by_cases h3 : x.sc.core3 = some t
    · rw [if_pos h3]
      exact ⟨_, _, _, rfl⟩
    · rw [if_neg h3]
      exact ⟨_, _, _, rfl⟩

/-- Making a thread ready takes it off the flows it waited for, and touches the threads, the ready list and the cores. -/
theorem makeReady_frame (x : Live) (t : Fin 128) : ∃ th rd c2 c3, x.makeReady t = { x with
    sc := { x.sc with threads := th, ready := rd, core2 := c2, core3 := c3, flows := x.flowsWithout t } } := by
  obtain ⟨_, _, _, off⟩ := unplace_frame x t
  unfold Live.makeReady
  rw [off]
  obtain ⟨_, _, _, _, placed⟩ := schedule_frame _
  exact ⟨_, _, _, _, placed⟩

/-- Making a thread wait likewise. -/
theorem makeWait_frame (x : Live) (t : Fin 128) (w : WaitFor) : ∃ th rd c2 c3, x.makeWait t w = { x with
    sc := { x.sc with threads := th, ready := rd, core2 := c2, core3 := c3, flows := x.flowsWithout t } } := by
  obtain ⟨_, _, _, off⟩ := unplace_frame x t
  unfold Live.makeWait
  rw [off]
  obtain ⟨_, _, _, _, placed⟩ := schedule_frame _
  exact ⟨_, _, _, _, placed⟩

@[simp] theorem makeWait_poised (x : Live) (t : Fin 128) (w : WaitFor) : (x.makeWait t w).poised = x.poised := by
  obtain ⟨_, _, _, _, h⟩ := makeWait_frame x t w
  rw [h, sc_poised]

/-! ### The caller (R452) -/

section
variable {l : LaneId} {c : Fin 128} {i : Instr} {s : State} {f : Live → Live}

theorem runsTo_of_silent (e : exec i s = .next (onLive l (fun x => x.byCaller c f) s))
    (h : (s.lane l).live.calls c = false) : RunsTo i l s id :=
  runsTo_onLive e (if_neg (h ▸ Bool.false_ne_true))

theorem runsTo_of_calls {g : Live → Live} (e : exec i s = .next (onLive l (fun x => x.byCaller c f) s))
    (h : (s.lane l).live.calls c = true) (hf : f (s.lane l).live = g (s.lane l).live) : RunsTo i l s g :=
  runsTo_onLive e ((if_pos h).trans hf)

theorem runs_of_calls {P : Lane → Prop} (e : exec i s = .next (onLive l (fun x => x.byCaller c f) s))
    (h : (s.lane l).live.calls c = true) (hf : P { s.lane l with live := f (s.lane l).live }) : Runs i l s P := by
  have caller : (s.lane l).live.byCaller c f = f (s.lane l).live := if_pos h
  refine runs_onLive e ?_
  rw [caller]
  exact hf

end

theorem namedThread_of_low {w : Word} (h : w.toNat % 256 < 128) : namedThread w = none :=
  dif_neg (Nat.not_le.2 h)

theorem namedThread_of_eq {w : Word} {t : Fin 128} (h : w.toNat % 256 = 128 + t.val) : namedThread w = some t := by
  unfold namedThread
  rw [dif_pos (h ▸ Nat.le_add_right 128 _)]
  exact congrArg some (Fin.ext (by simp [h]))

/-- The result of a caller stands in its own thread alone. -/
theorem run_schResult (x : Live) (c t : Fin 128) (r : Nat) : ((x.schResult c r).thread t).run = (x.thread t).run ∧
    ((x.schResult c r).thread t).held = (x.thread t).held := by
  unfold Live.schResult
  by_cases h : t = c
  · subst h
    rw [thread_modThread]
    exact ⟨rfl, rfl⟩
  · rw [thread_modThread_ne _ _ _ _ h]
    exact ⟨rfl, rfl⟩

theorem schRes_schResult (x : Live) (c : Fin 128) : ((x.schResult c 0).thread c).schRes = 0 :=
  congrArg ThreadSt.schRes (thread_modThread ..)

/-! ### Starts and stops (R455 to R457, R462) -/

/-- A started thread is ready with cleared registers; another thread keeps its result. -/
theorem startThread_thread (x : Live) (t c : Fin 128) :
    ((x.startThread t).thread t).placed ∧ ((x.startThread t).thread t).cleared = true ∧
    ((x.startThread t).thread t).held = none ∧ ((x.startThread t).thread c).schRes = (x.thread c).schRes := by
  unfold Live.startThread
  generalize hy : x.modThread t (fun q => { prio := q.prio, core3 := q.core3, dispatches := q.dispatches, preempts := q.preempts, schRes := q.schRes, cleared := true }) = y
  obtain ⟨own, placed⟩ := makeReady_thread y t t
  obtain ⟨other, _⟩ := makeReady_thread y t c
  have self : (y.thread t).cleared = true ∧ (y.thread t).held = none := by
    rw [← hy, thread_modThread]
    exact ⟨rfl, rfl⟩
  have result : (y.thread c).schRes = (x.thread c).schRes := by
    rw [← hy]
    by_cases h : c = t
    · subst h
      rw [thread_modThread]
    · rw [thread_modThread_ne _ _ _ _ h]
  exact ⟨placed, (congrArg ThreadSt.cleared own).trans self.1, (congrArg ThreadSt.held own).trans self.2,
    (congrArg ThreadSt.schRes other).trans result⟩

/-- A thread that holds no item halts, and is as it was but for its state; another thread keeps its result. -/
theorem haltThread_thread (x : Live) (t c : Fin 128) (r : RunState) (h : (x.thread t).held = none) :
    ((x.haltThread t r).thread t).run = r ∧ ((x.haltThread t r).thread c).schRes = (x.thread c).schRes ∧
    (x.haltThread t r).sc.faults = x.sc.faults ∧ (x.haltThread t r).cfg = x.cfg := by
  obtain ⟨_, _, _, off⟩ := unplace_frame x t
  have idle : ((x.unplace t).modThread t (fun q => { q with run := r })).idleThread t := unplace_idle x t
  have own := thread_modThread (x.unplace t) t (fun q => { q with run := r })
  have stands : (((x.unplace t).modThread t (fun q => { q with run := r })).thread c).schRes = (x.thread c).schRes := by
    by_cases hc : c = t
    · subst hc
      rw [own, thread_unplace]
    · rw [thread_modThread_ne _ _ _ _ hc, thread_unplace]
  have faults : ((x.unplace t).modThread t (fun q => { q with run := r })).sc.faults = x.sc.faults ∧
      ((x.unplace t).modThread t (fun q => { q with run := r })).cfg = x.cfg := by
    rw [off]
    exact ⟨rfl, rfl⟩
  have free : x.haltThread t r = ((x.unplace t).modThread t (fun q => { q with run := r })).schedule := by
    unfold Live.haltThread Live.discardHeld
    rw [own, thread_unplace, h]
  rw [free]
  generalize (x.unplace t).modThread t (fun q => { q with run := r }) = y at idle own stands faults ⊢
  obtain ⟨_, _, halted⟩ := schedule_thread y t
  obtain ⟨rest, _, _⟩ := schedule_thread y c
  obtain ⟨_, _, _, _, placed⟩ := schedule_frame y
  refine ⟨by rw [(halted idle).1, own], (congrArg ThreadSt.schRes rest).trans stands, ?_, ?_⟩
  · rw [placed]
    exact faults.1
  · rw [placed]
    exact faults.2

theorem stopPartner_of_none {x : Live} {t : Fin 128} (h : x.partner t = none) : x.stopPartner t = x := by
  unfold Live.stopPartner
  rw [h]

theorem partner_congr {x y : Live} (t : Fin 128) (h : x.cfg = y.cfg) : x.partner t = y.partner t := by
  unfold Live.partner Live.threadField Live.bytes
  rw [h]

/-! ### The commands (R466) -/

section
variable {x : Live} {c t : Fin 128} {w : Word}

theorem schStart_of_startable (hw : namedThread w = some t) (hs : x.startable t = true) (hp : x.partner t = none) :
    x.schStart c w = (x.schResult c 0).startThread t := by
  have alone : ((x.schResult c 0).startThread t).partner t = none := by
    have cfg := congrArg Live.cfg (startThread_poised (x.schResult c 0) t)
    exact (partner_congr (x := (x.schResult c 0).startThread t) t cfg).trans hp
  unfold Live.schStart
  rw [hw]
  dsimp only
  rw [hs, alone]
  rfl

theorem schStart_of_busy (hw : namedThread w = some t) (hs : x.startable t = false) :
    x.schStart c w = x.schResult c 2 := by
  unfold Live.schStart
  rw [hw]
  dsimp only
  rw [hs]
  rfl

theorem schStop_of_dormant (hw : namedThread w = some t) (hr : (x.thread t).run = .dormant) :
    x.schStop c w = x.schResult c 2 := by
  unfold Live.schStop
  rw [hw]
  dsimp only
  rw [hr]

theorem schStop_of_active (hw : namedThread w = some t) (hr : (x.thread t).run ≠ .dormant)
    (hh : (x.thread t).held = none) (hp : x.partner t = none) :
    x.schStop c w = (x.schResult c 0).haltThread t .dormant := by
  have held : ((x.schResult c 0).thread t).held = none := (run_schResult x c t 0).2.trans hh
  obtain ⟨_, _, _, cfg⟩ := haltThread_thread (x.schResult c 0) t t .dormant held
  have alone : ((x.schResult c 0).haltThread t .dormant).partner t = none := (partner_congr t cfg).trans hp
  unfold Live.schStop
  rw [hw]
  dsimp only
  cases h : (x.thread t).run with
  | dormant => exact absurd h hr
  | ready => exact stopPartner_of_none alone
  | running b => exact stopPartner_of_none alone
  | waiting v => exact stopPartner_of_none alone
  | faulted => exact stopPartner_of_none alone

/-- A priority given to a thread, its caller answered. -/
def Live.givePriority (x : Live) (c t : Fin 128) (p : Fin 16) : Live :=
  (x.schResult c 0).modThread t (fun q => { q with prio := some p })

theorem schPrio_cases (hw : namedThread w = some t) (ht : x.hasThread t = true) :
    x.schPrio c w = (x.givePriority c t ⟨w.toNat / 256 % 16, Nat.mod_lt _ (by decide)⟩).makeReady t ∨
    x.schPrio c w = (x.givePriority c t ⟨w.toNat / 256 % 16, Nat.mod_lt _ (by decide)⟩).schedule := by
  unfold Live.schPrio
  rw [hw]
  dsimp -zeta only
  rw [ht]
  simp -zeta only [Bool.not_true, Bool.false_eq_true, if_false]
  extract_lets y
  cases (y.thread t).run with
  | ready => exact .inl rfl
  | _ => exact .inr rfl

/-- A priority set: the thread named carries it, the caller has its result. -/
theorem schPrio_spec (hw : namedThread w = some t) (ht : x.hasThread t = true) :
    ((x.schPrio c w).thread t).prio.map Fin.val = some (w.toNat / 256 % 16) ∧
    ((x.schPrio c w).thread c).schRes = 0 ∧ (x.schPrio c w).poised = x.poised := by
  have cases' := schPrio_cases (c := c) hw ht
  generalize hp : (⟨w.toNat / 256 % 16, Nat.mod_lt _ (by decide)⟩ : Fin 16) = p at cases'
  have prio : ((x.givePriority c t p).thread t).prio = some p := congrArg ThreadSt.prio (thread_modThread ..)
  have result : ((x.givePriority c t p).thread c).schRes = 0 := by
    unfold Live.givePriority
    by_cases h : c = t
    · subst h
      rw [thread_modThread]
      exact schRes_schResult x c
    · rw [thread_modThread_ne _ _ _ _ h]
      exact schRes_schResult x c
  have same : (x.givePriority c t p).poised = x.poised := (modThread_poised ..).trans (modThread_poised ..)
  have kept : (∀ u, ((x.schPrio c w).thread u).rest = ((x.givePriority c t p).thread u).rest) ∧
      (x.schPrio c w).poised = (x.givePriority c t p).poised := by
    rcases cases' with h | h <;> rw [h]
    · exact ⟨fun u => (makeReady_thread _ t u).1, makeReady_poised ..⟩
    · exact ⟨fun u => (schedule_thread _ u).1, schedule_poised _⟩
  obtain ⟨rest, poised⟩ := kept
  refine ⟨?_, (congrArg ThreadSt.schRes (rest c)).trans result, poised.trans same⟩
  have set : ((x.schPrio c w).thread t).prio = some p := (congrArg ThreadSt.prio (rest t)).trans prio
  rw [set, ← hp]
  rfl

theorem schPrio_of_missing (hw : namedThread w = some t) (ht : x.hasThread t = false) :
    x.schPrio c w = x.schResult c 2 := by
  unfold Live.schPrio
  rw [hw]
  dsimp only
  rw [ht]
  rfl

/-- A register that names no application thread gives result 1. -/
theorem sch_of_unnamed (hw : namedThread w = none) : x.schStart c w = x.schResult c 1 ∧
    x.schStop c w = x.schResult c 1 ∧ x.schPrio c w = x.schResult c 1 := by
  unfold Live.schStart Live.schStop Live.schPrio
  rw [hw]
  exact ⟨rfl, rfl, rfl⟩

/-- A caller that waits, with its result. -/
theorem makeWait_spec (v : WaitFor) : (((x.schResult c 0).makeWait c v).thread c).run = .waiting v ∧
    (((x.schResult c 0).makeWait c v).thread c).schRes = 0 ∧
    ((x.schResult c 0).makeWait c v).poised = x.poised := by
  rw [makeWait_thread]
  exact ⟨rfl, schRes_schResult x c, (makeWait_poised ..).trans (modThread_poised ..)⟩

/-- A caller that yields is ready, with its result. -/
theorem schYield_spec : ((x.schYield c).thread c).placed ∧ ((x.schYield c).thread c).schRes = 0 ∧
    (x.schYield c).poised = x.poised := by
  obtain ⟨rest, placed⟩ := makeReady_thread (x.schResult c 0) c c
  exact ⟨placed, (congrArg ThreadSt.schRes rest).trans (schRes_schResult x c),
    (makeReady_poised ..).trans (modThread_poised ..)⟩

end

/-! ### Delays and faults (R455, R456) -/

theorem delayOver_of_waiting {x : Live} {t : Fin 128} {u : Nat} (h : (x.thread t).run = .waiting (.delay u)) :
    x.delayOver t = if x.due u then x.makeReady t else x := by
  unfold Live.delayOver
  rw [h]

/-- The syndrome of a thread fault: the exception code over the low bits of the address. -/
theorem faultWord (code : Byte) (addr : Word) : (code.setWidth 32 <<< 24) ||| (addr &&& 0xFFFFFF) =
    BitVec.ofNat 32 (code.toNat * 2 ^ 24 + addr.toNat % 2 ^ 24) := by
  have low : addr.toNat % 2 ^ 24 < 2 ^ 24 := Nat.mod_lt _ (by decide)
  have high : code.toNat < 2 ^ 8 := code.isLt
  have mask : addr.toNat &&& 0xFFFFFF = addr.toNat % 2 ^ 24 := Nat.and_two_pow_sub_one_eq_mod addr.toNat 24
  have narrow : code.toNat % 2 ^ 32 = code.toNat := Nat.mod_eq_of_lt (by omega)
  have fits : code.toNat <<< 24 % 2 ^ 32 = code.toNat <<< 24 := Nat.mod_eq_of_lt (by rw [Nat.shiftLeft_eq]; omega)
  refine BitVec.eq_of_toNat_eq ?_
  rw [BitVec.toNat_or, BitVec.toNat_shiftLeft, BitVec.toNat_setWidth, BitVec.toNat_and, BitVec.toNat_ofNat, narrow, fits,
    show (0xFFFFFF : Word).toNat = 0xFFFFFF from rfl, mask, ← Nat.shiftLeft_add_eq_or_of_lt low, Nat.shiftLeft_eq]
  omega

theorem faultThread_spec {x : Live} {t : Fin 128} (hh : (x.thread t).held = none) (hp : x.partner t = none) :
    ((x.faultThread t).thread t).run = .faulted ∧ (x.faultThread t).sc.faults = satInc x.sc.faults ∧
    (x.faultThread t).poised = x.poised := by
  obtain ⟨run, _, faults, cfg⟩ := haltThread_thread
    ({ x with sc := { x.sc with faults := satInc x.sc.faults } } : Live) t t .faulted hh
  have alone := stopPartner_of_none ((partner_congr t cfg).trans hp)
  refine ⟨?_, ?_, faultThread_poised x t⟩
  · unfold Live.faultThread
    rw [alone]
    exact run
  · unfold Live.faultThread
    rw [alone]
    exact faults

/-! ### The obligation -/

/-- Settles O49: each command of the window by its case. -/
theorem threadCommands : Obligations.ThreadCommands := by
  unfold Obligations.ThreadCommands
  refine ⟨fun l c w s h => ⟨runsTo_of_silent (f := fun x => x.schStart c w) rfl h,
      runsTo_of_silent (f := fun x => x.schStop c w) rfl h, runsTo_of_silent (f := fun x => x.schPrio c w) rfl h,
      runsTo_of_silent (f := fun x => x.schYield c) rfl h, runsTo_of_silent (f := fun x => x.schWait c 0 0) rfl h⟩,
    fun l c w s h hw => ?_, fun l c t w s h hw => ⟨fun hs hp => ?_, fun hs => ?_, fun hr hh hp => ?_, fun hr => ?_,
      fun ht => ?_, fun ht => ?_⟩, fun l c s h => ⟨?_, ?_, ?_, ?_, fun d hd => ?_⟩,
    fun l t u s hr => ⟨fun hd => ?_, fun hd => ?_⟩, fun l t code addr s h hh hp => ?_⟩
  · obtain ⟨start, stop, prio⟩ := sch_of_unnamed (x := (s.lane l).live) (c := c) (namedThread_of_low hw)
    exact ⟨runsTo_of_calls (f := fun x => x.schStart c w) rfl h start,
      runsTo_of_calls (f := fun x => x.schStop c w) rfl h stop, runsTo_of_calls (f := fun x => x.schPrio c w) rfl h prio⟩
  · have started := schStart_of_startable (c := c) (namedThread_of_eq hw) hs hp
    obtain ⟨placed, cleared, held, result⟩ := startThread_thread ((s.lane l).live.schResult c 0) t c
    refine runs_of_calls (f := fun x => x.schStart c w) rfl h ⟨rfl, rfl, ?_⟩
    dsimp only
    rw [started, startThread_poised]
    exact ⟨placed, cleared, held, result.trans (schRes_schResult ..), modThread_poised ..⟩
  · exact runsTo_of_calls (f := fun x => x.schStart c w) rfl h (schStart_of_busy (namedThread_of_eq hw) hs)
  · have stopped := schStop_of_active (c := c) (namedThread_of_eq hw) hr hh hp
    obtain ⟨run, result, _⟩ := haltThread_thread ((s.lane l).live.schResult c 0) t c .dormant
      ((run_schResult _ c t 0).2.trans hh)
    refine runs_of_calls (f := fun x => x.schStop c w) rfl h ⟨rfl, rfl, ?_⟩
    dsimp only
    rw [stopped, haltThread_poised]
    exact ⟨run, result.trans (schRes_schResult ..), modThread_poised ..⟩
  · exact runsTo_of_calls (f := fun x => x.schStop c w) rfl h (schStop_of_dormant (namedThread_of_eq hw) hr)
  · exact runs_of_calls (f := fun x => x.schPrio c w) rfl h ⟨rfl, rfl, (schPrio_spec (namedThread_of_eq hw) ht)⟩
  · exact runsTo_of_calls (f := fun x => x.schPrio c w) rfl h (schPrio_of_missing (namedThread_of_eq hw) ht)
  · exact runs_of_calls (f := fun x => x.schYield c) rfl h ⟨rfl, rfl, schYield_spec⟩
  · exact runs_of_calls (f := fun x => x.schWait c 0 0) rfl h ⟨rfl, rfl, (makeWait_spec .tick)⟩
  · exact runs_of_calls (f := fun x => x.schWait c 1 0) rfl h ⟨rfl, rfl, (makeWait_spec .cycle)⟩
  · exact runsTo_of_calls (f := fun x => x.schWait c 2 0) rfl h rfl
  · have delay : d.toNat ≠ 0 := fun e => hd (BitVec.eq_of_toNat_eq e)
    have waits : (s.lane l).live.schWait c 2 d.toNat =
        ((s.lane l).live.schResult c 0).makeWait c (.delay ((s.lane l).live.clk + us d.toNat)) := if_neg delay
    refine runs_of_calls (f := fun x => x.schWait c 2 d.toNat) rfl h ⟨rfl, rfl, ?_⟩
    dsimp only
    rw [waits]
    exact makeWait_spec _
  · refine runs_onLive (f := fun x => x.delayOver t) rfl ?_
    rw [delayOver_of_waiting hr, if_pos hd]
    exact ⟨rfl, rfl, (makeReady_thread _ t t).2, makeReady_poised ..⟩
  · refine runsTo_onLive (f := fun x => x.delayOver t) rfl ?_
    rw [delayOver_of_waiting hr, hd]
    rfl
  · refine ⟨(s.lane l).live.faultThread t, runsTo_of_calls (f := fun x => x.threadFault t code addr) rfl h ?_,
      faultThread_spec hh hp⟩
    unfold Live.threadFault
    rw [faultWord]

end Sys2Proof.Machine
end

section
/-!
PROOF SUPPORT. Flows (R458, R460 to R462, R464, R467): the codes of a post, an item given to a waiting thread, the commands
case by case, and the obligation about them.
-/

namespace Sys2Proof.Machine

/-! ### Posts refused (R460, R467) -/

section
variable {x : Live} {f : Fin 64}

/-- A refusal counted in its flow. -/
def Live.refuse (x : Live) (f : Fin 64) : Live := x.modFlow f (fun q => { q with refused := q.refused + 1 })

theorem post_of_closed (it : Item) (h : x.flowDepth f = 0) : x.post f it = (3, x.refuse f) := by
  unfold Live.post
  simp only [h, true_or, if_true]
  rfl

theorem post_of_full (it : Item) (hd : x.flowDepth f ≠ 0) (hp : x.flowPort f = none)
    (hl : x.flowDepth f ≤ (x.flow f).queue.length) : x.post f it = (1, x.refuse f) := by
  have queued : (x.flow f).queue.isEmpty = false := by
    rw [List.isEmpty_eq_false_iff]
    exact List.length_pos_iff.1 (Nat.lt_of_lt_of_le (Nat.pos_of_ne_zero hd) hl)
  unfold Live.post
  simp only [hp, hd, queued, hl, Bool.and_false, Bool.false_and, Bool.false_eq_true, or_self, and_self, if_false, if_true]
  rfl

theorem post_of_laneFull (it : Item) (hp : x.flowPort f = none) (hl : (x.flow f).queue.length < x.flowDepth f)
    (hn : 1024 ≤ x.pendingItems) : x.post f it = (2, x.refuse f) := by
  have depth : x.flowDepth f ≠ 0 := Nat.ne_of_gt (Nat.zero_lt_of_lt hl)
  unfold Live.post
  simp only [hp, depth, Nat.not_le.2 hl, hn, Bool.false_eq_true, or_self, and_false, if_false, if_true]
  rfl

end

/-! ### An item given to a waiting thread (R461) -/

theorem find_mapDflt {α : Type} [DecidableEq α] (m : NMap α) (d : α) (g : α → α) (n : Nat) (v : α)
    (h : m.find n = some v) (hv : g v ≠ d) : (m.mapDflt d g).find n = some (g v) := by
  induction m with
  | nil => exact absurd h nofun
  | cons p m ih =>
    obtain ⟨k, u⟩ := p
    unfold NMap.mapDflt at ih ⊢
    unfold NMap.find at h
    rw [List.map_cons, List.filter_cons]
    by_cases hk : k = n
    · rw [if_pos hk, Option.some.injEq] at h
      subst h
      rw [if_pos (decide_eq_true hv)]
      exact if_pos hk
    · rw [if_neg hk] at h
      split
      · exact (if_neg hk).trans (ih h)
      · exact ih h

/-- A flow in service loses a waiting thread, and no more, when that thread is taken off the flows. -/
theorem flowsWithout_of_serving {x : Live} {f : Fin 64} {p : Server × Item} (t : Fin 128)
    (h : (x.flow f).serving = some p) : (x.flowsWithout t).read {} f.val =
      { x.flow f with waiters := (x.flow f).waiters.filter (fun y => y != t) } := by
  have listed : x.sc.flows.find f.val = some (x.flow f) := by
    unfold Live.flow NMap.read at h ⊢
    split at h
    · next v hv =>
      rw [hv]
    · exact absurd h nofun
  have differs : ({ x.flow f with waiters := (x.flow f).waiters.filter (fun y => y != t) } : FlowSt) ≠ {} := fun e => by
    have served : (x.flow f).serving = none := congrArg FlowSt.serving e
    rw [h] at served
    exact absurd served nofun
  have found := find_mapDflt x.sc.flows {} (fun q => { q with waiters := q.waiters.filter (fun y => y != t) }) f.val _
    listed differs
  unfold Live.flowsWithout NMap.read
  rw [found]

/-- A thread given an item holds it and is ready, and the flow serves it. -/
theorem giveTo_spec (x : Live) (f : Fin 64) (t : Fin 128) (it : Item) :
    ((x.giveTo f t it).flow f).serving = some (.thread t, it) ∧ ((x.giveTo f t it).flow f).queue = (x.flow f).queue ∧
    ((x.giveTo f t it).thread t).held = some (f, it) ∧ ((x.giveTo f t it).thread t).placed := by
  unfold Live.giveTo
  generalize hy : x.modFlow f (fun q => { q with
    serving := some (.thread t, it), waiters := q.waiters.filter (fun y => y != t) }) = y
  have served : (y.flow f).serving = some (.thread t, it) ∧ (y.flow f).queue = (x.flow f).queue := by
    rw [← hy, flow_modFlow]
    exact ⟨rfl, rfl⟩
  dsimp only
  obtain ⟨rest, placed⟩ := makeReady_thread (y.modThread t (fun q => { q with held := some (f, it), tresult := 0 })) t t
  obtain ⟨_, _, _, _, frame⟩ := makeReady_frame (y.modThread t (fun q => { q with held := some (f, it), tresult := 0 })) t
  have flow : ((y.modThread t (fun q => { q with held := some (f, it), tresult := 0 })).makeReady t).flow f =
      { y.flow f with waiters := (y.flow f).waiters.filter (fun y => y != t) } := by
    rw [frame]
    exact flowsWithout_of_serving (x := y.modThread t (fun q => { q with held := some (f, it), tresult := 0 })) t served.1
  rw [flow]
  refine ⟨served.1, served.2, (congrArg ThreadSt.held rest).trans ?_, placed⟩
  exact congrArg ThreadSt.held (thread_modThread ..)

/-- A post to an idle flow with one waiting thread goes into service with it. -/
theorem post_of_waiting {x : Live} {f : Fin 64} {t : Fin 128} (it : Item) (hd : x.flowDepth f ≠ 0)
    (hp : x.flowPort f = none) (hq : (x.flow f).queue = []) (hs : (x.flow f).serving = none)
    (hw : (x.flow f).waiters = [t]) (hn : x.pendingItems < 1024) : ∃ y : Live,
    x.post f it = (0, y.giveTo f t it) ∧ (y.flow f).queue = [] := by
  have room : (x.flow f).queue.length < x.flowDepth f := by
    rw [hq]
    exact Nat.pos_of_ne_zero hd
  have posted := flow_modFlow x f (fun q => { q with queue := q.queue ++ [it] })
  refine ⟨(x.modFlow f (fun q => { q with queue := q.queue ++ [it] })).modFlow f (fun q => { q with queue := [] }), ?_,
    congrArg FlowSt.queue (flow_modFlow ..)⟩
  rw [post_of_room it hp room hn]
  have port : (x.modFlow f (fun q => { q with queue := q.queue ++ [it] })).flowPort f = none := hp
  generalize x.modFlow f (fun q => { q with queue := q.queue ++ [it] }) = z at posted port ⊢
  have first : z.firstWaiter f = some t := by
    unfold Live.firstWaiter
    rw [posted]
    dsimp only
    rw [hw]
    rfl
  have serving : (z.flow f).serving = none := by rw [posted]; exact hs
  have queue : (z.flow f).queue = [it] := by rw [posted]; exact (congrArg (· ++ [it]) hq)
  unfold Live.serveNext
  rw [serving, queue]
  dsimp only
  rw [port]
  dsimp only
  rw [first]

/-! ### The commands (R467) -/

/-- The staged item of a caller. -/
def Live.stagedItem (x : Live) (c : Fin 128) : Item :=
  { tag := (x.thread c).ptag, info := x.itemInfo (x.thread c).plen.toNat false 0 0,
    data := (bytesOf (x.thread c).pdata).take (x.thread c).plen.toNat }

theorem length_bytesOf (ws : Vector Word 16) : (bytesOf ws).length = 64 := by
  have word : ∀ w : Word, (wordBytes w).length = 4 := fun _ => rfl
  unfold bytesOf
  rw [List.length_flatMap, List.map_congr_left (fun w _ => word w), List.map_const', Vector.length_toList]
  rfl

/-- What a post leaves: its result in the caller, and the refusal counted in the lane. -/
def Live.answerPost (r : Nat × Live) (c : Fin 128) : Live :=
  let y := r.2.modThread c (fun z => { z with presult := BitVec.ofNat 3 r.1 })
  { y with sc := { y.sc with refusals := if r.1 = 1 then satInc y.sc.refusals else y.sc.refusals,
                             laneRefs := if r.1 = 2 then satInc y.sc.laneRefs else y.sc.laneRefs } }

section
variable {x : Live} {c : Fin 128} {f : Fin 64}

theorem flwPost_of_closed (hf : (x.thread c).pflow.toNat = f.val) (hd : x.flowDepth f = 0) :
    x.flwPost c = (x.refuse f).modThread c (fun q => { q with presult := 3 }) := by
  have named : (⟨(x.thread c).pflow.toNat, (x.thread c).pflow.isLt⟩ : Fin 64) = f := Fin.ext hf
  unfold Live.flwPost
  dsimp only
  rw [named, decide_eq_true hd, post_of_closed _ hd]
  rfl

/-- A flow that no port serves takes an item of at most 64 bytes, and refuses a longer one. -/
theorem flwPost_of_open (hf : (x.thread c).pflow.toNat = f.val) (hd : x.flowDepth f ≠ 0) (hp : x.flowPort f = none) :
    (64 < (x.thread c).plen.toNat → x.flwPost c = x.modThread c (fun q => { q with presult := 4 })) ∧
    ((x.thread c).plen.toNat ≤ 64 → x.flwPost c = Live.answerPost (x.post f (x.stagedItem c)) c) := by
  have named : (⟨(x.thread c).pflow.toNat, (x.thread c).pflow.isLt⟩ : Fin 64) = f := Fin.ext hf
  unfold Live.flwPost
  dsimp only
  rw [named, decide_eq_false hd, hp]
  refine ⟨fun hl => ?_, fun hl => ?_⟩
  · exact if_pos (by simp [hl])
  · exact if_neg (by simp [Nat.not_lt.2 hl])

/-- A take of a flow that threads may not take from. -/
theorem flwTake_of_closed {w : Word} (hf : w.toNat % 64 = f.val) (h : x.flowDepth f = 0 ∨ x.flowPort f ≠ none) :
    x.flwTake c w = x.modThread c (fun q => { q with tresult := 3 }) := by
  have named : (⟨w.toNat % 64, Nat.mod_lt _ (by decide)⟩ : Fin 64) = f := Fin.ext hf
  have closed : x.flowDepth f = 0 ∨ (x.flowPort f).isSome = true := by
    rwa [← Option.isSome_iff_ne_none] at h
  unfold Live.flwTake
  dsimp only
  rw [named]
  exact if_pos closed

/-- A take of an open flow by a thread without an item. -/
theorem flwTake_of_open {w : Word} (hf : w.toNat % 64 = f.val) (hd : x.flowDepth f ≠ 0) (hp : x.flowPort f = none) :
    ((x.thread c).held ≠ none → x.flwTake c w = x.modThread c (fun q => { q with tresult := 4 })) ∧
    ((x.thread c).held = none →
      (∀ it rest, (x.flow f).serving = none → (x.flow f).queue = it :: rest → x.flwTake c w =
        (x.modFlow f (fun z => { z with queue := rest, serving := some (.thread c, it) })).modThread c (fun q => { q with
          held := some (f, it), tresult := 0 })) ∧
      ((x.flow f).serving ≠ none ∨ (x.flow f).queue = [] → x.flwTake c w =
        if w.getLsbD 8 then (x.makeWait c (.item f)).modFlow f (fun z => { z with waiters := z.waiters ++ [c] })
        else x.modThread c (fun q => { q with tresult := BitVec.ofNat 3 (if (x.flow f).serving.isSome then 2 else 1) }))) := by
  have named : (⟨w.toNat % 64, Nat.mod_lt _ (by decide)⟩ : Fin 64) = f := Fin.ext hf
  have taken : ¬(x.flowDepth f = 0 ∨ (x.flowPort f).isSome = true) := by simp [hd, hp]
  unfold Live.flwTake
  dsimp only
  rw [named, if_neg taken]
  refine ⟨fun hh => if_pos (Option.isSome_iff_ne_none.2 hh), fun hh => ?_⟩
  rw [hh]
  refine ⟨fun it rest hs hq => ?_, fun h => ?_⟩
  · rw [hs, hq]
    rfl
  · cases hs : (x.flow f).serving with
    | none =>
      rw [h.resolve_left (not_not.2 hs)]
      rfl
    | some p => rfl

theorem discardHeld_of_none (h : (x.thread c).held = none) : x.discardHeld c = x := by
  unfold Live.discardHeld
  rw [h]

theorem discardHeld_of_some {it : Item} (h : (x.thread c).held = some (f, it)) (hq : (x.flow f).queue = []) :
    x.discardHeld c = (x.modThread c (fun q => { q with held := none })).modFlow f (fun q => { q with serving := none }) := by
  have empty : ((x.modThread c (fun q => { q with held := none })).flow f).queue = [] := hq
  unfold Live.discardHeld
  rw [h]
  exact endService_of_empty empty

/-- An answered post, seen from the lane: the caller's result, and every other thread and the flows as the post left
them. -/
theorem answerPost_spec (r : Nat) (y : Live) (c : Fin 128) :
    ((Live.answerPost (r, y) c).thread c).presult = BitVec.ofNat 3 r ∧
    (∀ u, u ≠ c → (Live.answerPost (r, y) c).thread u = y.thread u) ∧
    (∀ f, (Live.answerPost (r, y) c).flow f = y.flow f) :=
  have answered : (Live.answerPost (r, y) c).thread c = { y.thread c with presult := BitVec.ofNat 3 r } :=
    thread_modThread y c (fun z => { z with presult := BitVec.ofNat 3 r })
  ⟨congrArg ThreadSt.presult answered,
    fun u hu => thread_modThread_ne y c u (fun z => { z with presult := BitVec.ofNat 3 r }) hu, fun _ => rfl⟩

/-- A post refused, counted in the lane and in its flow. -/
theorem answerPost_refuse_spec (x : Live) (f : Fin 64) (c : Fin 128) (r : Nat) :
    ((Live.answerPost (r, x.refuse f) c).thread c).presult = BitVec.ofNat 3 r ∧
    (Live.answerPost (r, x.refuse f) c).sc.refusals = (if r = 1 then satInc x.sc.refusals else x.sc.refusals) ∧
    (Live.answerPost (r, x.refuse f) c).sc.laneRefs = (if r = 2 then satInc x.sc.laneRefs else x.sc.laneRefs) ∧
    (Live.answerPost (r, x.refuse f) c).flow f = { x.flow f with refused := (x.flow f).refused + 1 } := by
  obtain ⟨result, _, flow⟩ := answerPost_spec r (x.refuse f) c
  exact ⟨result, rfl, rfl, (flow f).trans (flow_modFlow ..)⟩

theorem answerPost_poised (r : Nat × Live) (c : Fin 128) : (Live.answerPost r c).poised = r.2.poised := by
  unfold Live.answerPost
  dsimp only
  rw [sc_poised, modThread_poised]

end

/-! ### The obligation -/

/-- Settles O50: the posts by the reason of their code, the takes by the state of their flow, and the end of service. -/
theorem flowCommands : Obligations.FlowCommands := by
  unfold Obligations.FlowCommands
  refine ⟨fun l c f s h hf => ⟨fun hd => ?_, fun hd hp hl => ?_, fun hd hp hl => ⟨fun hq => ?_, fun hq hn => ?_,
      fun hq hn hs => ?_, fun t ht hq hs hw hn => ?_⟩⟩,
    fun l c f w s h hf => ⟨fun hd => ?_, fun hd hp => ⟨fun hh => ?_, fun hh => ⟨fun it rest hs hq => ?_,
      fun hw hs hq => ?_, fun hw hs => ?_, fun hw hs => ?_⟩⟩⟩,
    fun l c s h => ⟨fun hh => ?_, fun f it hh hq => ?_⟩,
    fun l c w s h => ⟨runsTo_of_silent (f := fun x => x.flwPost c) rfl h,
      runsTo_of_silent (f := fun x => x.flwTake c w) rfl h, runsTo_of_silent (f := fun x => x.discardHeld c) rfl h⟩⟩
  · exact runsTo_of_calls (f := fun x => x.flwPost c) rfl h (flwPost_of_closed hf hd)
  · exact runsTo_of_calls (f := fun x => x.flwPost c) rfl h ((flwPost_of_open hf hd hp).1 hl)
  · refine runs_of_calls (f := fun x => x.flwPost c) rfl h ⟨rfl, rfl, ?_⟩
    dsimp only
    rw [(flwPost_of_open hf hd hp).2 hl, post_of_full _ hd hp hq, answerPost_poised]
    obtain ⟨result, refusals, laneRefs, flow⟩ := answerPost_refuse_spec (s.lane l).live f c 1
    exact ⟨result, refusals, laneRefs, flow, modFlow_poised ..⟩
  · refine runs_of_calls (f := fun x => x.flwPost c) rfl h ⟨rfl, rfl, ?_⟩
    dsimp only
    rw [(flwPost_of_open hf hd hp).2 hl, post_of_laneFull _ hp hq hn, answerPost_poised]
    obtain ⟨result, refusals, laneRefs, flow⟩ := answerPost_refuse_spec (s.lane l).live f c 2
    exact ⟨result, laneRefs, refusals, flow, modFlow_poised ..⟩
  · refine runs_of_calls (f := fun x => x.flwPost c) rfl h ⟨rfl, rfl, ?_⟩
    dsimp only
    rw [(flwPost_of_open hf hd hp).2 hl, post_of_serving _ hp hq hn hs, answerPost_poised]
    obtain ⟨result, _, flow⟩ := answerPost_spec 0 ((s.lane l).live.modFlow f (fun q => { q with
      queue := q.queue ++ [(s.lane l).live.stagedItem c] })) c
    have joined := (flow f).trans (flow_modFlow ..)
    rw [joined]
    refine ⟨result, rfl, ⟨(s.lane l).live.stagedItem c, rfl, rfl, ?_⟩, modFlow_poised ..⟩
    unfold Live.stagedItem
    rw [List.length_take, length_bytesOf, Nat.min_eq_left hl]
  · refine runs_of_calls (f := fun x => x.flwPost c) rfl h ⟨rfl, rfl, ?_⟩
    dsimp only
    have same := post_poised (s.lane l).live f ((s.lane l).live.stagedItem c)
    obtain ⟨y, posted, empty⟩ := post_of_waiting ((s.lane l).live.stagedItem c) hd hp hq hs hw hn
    rw [posted] at same
    rw [(flwPost_of_open hf hd hp).2 hl, posted, answerPost_poised]
    obtain ⟨result, others, flow⟩ := answerPost_spec 0 (y.giveTo f t ((s.lane l).live.stagedItem c)) c
    obtain ⟨serving, queue, held, placed⟩ := giveTo_spec y f t ((s.lane l).live.stagedItem c)
    rw [flow, others t ht]
    exact ⟨result, queue.trans empty, ⟨(s.lane l).live.stagedItem c, serving, held, rfl⟩, placed, same⟩
  · exact runsTo_of_calls (f := fun x => x.flwTake c w) rfl h (flwTake_of_closed hf hd)
  · exact runsTo_of_calls (f := fun x => x.flwTake c w) rfl h ((flwTake_of_open hf hd hp).1 hh)
  · exact runsTo_of_calls (f := fun x => x.flwTake c w) rfl h (((flwTake_of_open hf hd hp).2 hh).1 it rest hs hq)
  · refine runsTo_of_calls (f := fun x => x.flwTake c w) rfl h ?_
    rw [((flwTake_of_open hf hd hp).2 hh).2 (.inr hq), hw, hs]
    rfl
  · refine runsTo_of_calls (f := fun x => x.flwTake c w) rfl h ?_
    rw [((flwTake_of_open hf hd hp).2 hh).2 (.inl hs), hw, Option.isSome_iff_ne_none.2 hs]
    rfl
  · refine runs_of_calls (f := fun x => x.flwTake c w) rfl h ⟨rfl, rfl, ?_⟩
    dsimp only
    rw [((flwTake_of_open hf hd hp).2 hh).2 hs, if_pos hw, modFlow_poised, makeWait_poised, thread_modFlow, makeWait_thread,
      flow_modFlow]
    exact ⟨rfl, List.mem_append_right _ (List.mem_singleton.2 rfl), rfl⟩
  · exact runsTo_of_calls (f := fun x => x.discardHeld c) rfl h (discardHeld_of_none hh)
  · exact runsTo_of_calls (f := fun x => x.discardHeld c) rfl h (discardHeld_of_some hh hq)

end Sys2Proof.Machine
end

section
/-!
PROOF SUPPORT. Check-value units (R341, R342, R468): writes to a closed and to an open unit, a finish by its comparison and
its alive check, and the obligation about them.
-/

namespace Sys2Proof.Machine

/-! ### Closed and open units (R468) -/

theorem cvuOpen_of_closed {x : Live} {u : Fin 16}
    (h : u.val < x.num Obj.residentUnits ∨ x.fl.kUnits.getLsbD u.val = true) : x.cvuOpen u = false := by
  unfold Live.cvuOpen
  rcases h with h | h
  · rw [decide_eq_false (Nat.not_le.2 h), Bool.false_and]
  · rw [h, Bool.not_true, Bool.and_false]

theorem cvuOpen_of_open {x : Live} {u : Fin 16} (h : x.num Obj.residentUnits ≤ u.val)
    (hk : x.fl.kUnits.getLsbD u.val = false) : x.cvuOpen u = true := by
  unfold Live.cvuOpen
  rw [decide_eq_true h, hk]
  rfl

section
variable {x : Live} {u : Fin 16}

/-- A closed unit ignores what is fed, finished, reset and controlled. -/
theorem cvu_of_closed (h : x.cvuOpen u = false) (w : Word) : (∀ bs, x.cvuFeed u bs = x) ∧ x.cvuFinish u w = x ∧
    x.cvuReset u = x ∧ x.cvuCtrl u w = x :=
  ⟨fun _ => if_neg (h ▸ Bool.false_ne_true), if_pos (by rw [h]; rfl), if_neg (h ▸ Bool.false_ne_true),
    if_pos (by rw [h]; rfl)⟩

/-- A closed unit ignores the write of any of its registers. -/
theorem cvuWrite_of_closed (h : x.cvuOpen u = false) (off : Nat) (w : Word) : (x.cvuWrite u off w).getD x = x := by
  obtain ⟨feed, finish, _, ctrl⟩ := cvu_of_closed h w
  unfold Live.cvuWrite
  dsimp only
  simp only [h, feed, finish, ctrl, Bool.false_eq_true, if_false]
  split
  case h_10 => split <;> rfl
  all_goals rfl

/-- A post target is taken up, or refused where its flow is closed. -/
theorem cvuCtrl_of_open {w : Word} {f : Fin 64} (h : x.cvuOpen u = true) (h31 : w.getLsbD 31 = false)
    (hf : w.toNat / 256 % 64 = f.val) :
    (w.getLsbD 14 = true → x.flowDepth f = 0 →
      x.cvuCtrl u w = x.modCvu u (fun q => { q with aliveSkip := w.setWidth 4, ctrlRef := true })) ∧
    (w.getLsbD 14 = false ∨ x.flowDepth f ≠ 0 → x.cvuCtrl u w = x.modCvu u (fun q => { q with
      aliveSkip := w.setWidth 4, postFlow := (w >>> 8).setWidth 6, postEn := w.getLsbD 14 })) := by
  have named : (⟨w.toNat / 256 % 64, Nat.mod_lt _ (by decide)⟩ : Fin 64) = f := Fin.ext hf
  have target : BitVec.ofNat 6 (w.toNat / 256 % 64) = (w >>> 8).setWidth 6 := by
    refine BitVec.eq_of_toNat_eq ?_
    rw [BitVec.toNat_ofNat, BitVec.toNat_setWidth, BitVec.toNat_ushiftRight, Nat.shiftRight_eq_div_pow]
    exact Nat.mod_mod _ _
  unfold Live.cvuCtrl
  rw [h, h31]
  dsimp only
  rw [named]
  simp only [Bool.not_true, Bool.false_eq_true, if_false, target]
  refine ⟨fun h14 hd => ?_, fun hn => ?_⟩
  · simp only [h14, hd, decide_true, Bool.and_self, if_true]
  · have free : (w.getLsbD 14 && decide (x.flowDepth f = 0)) = false := by
      rcases hn with hn | hn
      · rw [hn, Bool.false_and]
      · rw [decide_eq_false hn, Bool.and_false]
    simp only [free, Bool.false_eq_true, if_false]

/-! ### A finish (R342) -/

/-- The computed value of a finish. -/
def CvuSt.fed (q : CvuSt) (w : Word) : Word := crc32Feed q.running ((bytesOf q.buf).take (min 64 (w.toNat % 128)))

/-- A unit with the values of a finish, its mismatch noted. -/
def CvuSt.compared (q : CvuSt) (r : Word) : CvuSt :=
  { q with running := r, result := ~~~r, mismatch := q.mismatch || decide (~~~r ≠ q.expect) }

/-- A change of one unit by what it held. -/
theorem modCvu_congr {f g : CvuSt → CvuSt} (h : f x.sf.cvu[u] = g x.sf.cvu[u]) : x.modCvu u f = x.modCvu u g := by
  have e : vmod x.sf.cvu u f = vmod x.sf.cvu u g := by
    unfold vmod
    exact congrArg (fun q => x.sf.cvu.set u.val q u.isLt) h
  exact congrArg (fun v => ({ x with sf := { x.sf with cvu := v } } : Live)) e

/-- A unit after a finish, its counts in the lane: the alive check's refusal and the mismatch. -/
def Live.finishUnit (x : Live) (u : Fin 16) (q : CvuSt) (ok bad : Bool) : Live :=
  let y := x.modCvu u (fun _ => q)
  { y with sf := { y.sf with
    aliveRej := if ok then y.sf.aliveRej else satInc y.sf.aliveRej,
    expMis := if bad then satInc y.sf.expMis else y.sf.expMis } }

/-- A finish of an open unit without an armed injection and without a post: the comparison, the alive check where the
write asks for it, and their counts. -/
theorem cvuFinish_of_open {w r : Word} (h : x.cvuOpen u = true) (ha : x.fl.armed = none) (hr : (x.sf.cvu[u]).fed w = r)
    {ok bad : Bool} {q : CvuSt} (hb : decide (~~~r ≠ (x.sf.cvu[u]).expect) = bad)
    (hp : (bad && (x.sf.cvu[u]).postEn) = false)
    (hq : (if w.getLsbD 8 then ((x.sf.cvu[u]).compared r).alive ((w >>> 16).setWidth 8)
      else (true, (x.sf.cvu[u]).compared r)) = (ok, q)) :
    x.cvuFinish u w = x.finishUnit u q ok bad := by
  unfold Live.cvuFinish
  rw [h]
  refine (if_neg Bool.false_ne_true).trans ?_
  extract_lets n inj y z run res bad' z' a y' b y''
  have unarmed : inj = (none, x) := injected_of_unarmed _ ha
  have same : y = x := congrArg Prod.snd unarmed
  have unit : z = x.sf.cvu[u] := congrArg (fun v : Live => v.sf.cvu[u]) same
  have fed : run = r := by
    unfold run
    rw [unit]
    exact hr
  have computed : res = ~~~r := by
    unfold res
    rw [unarmed, fed]
    rfl
  have differs : bad' = bad := by
    unfold bad'
    rw [computed, unit]
    exact hb
  have compared : z' = (x.sf.cvu[u]).compared r := by
    unfold z'
    rw [differs, computed, fed, unit, ← hb]
    rfl
  have checked : a = (ok, q) := by
    unfold a
    rw [compared]
    exact hq
  have silent : ¬(bad' && z'.postEn) = true := by
    rw [differs, compared]
    exact hp.symm ▸ Bool.false_ne_true
  refine (if_neg silent).trans ?_
  unfold y'' b y'
  rw [checked, differs, same]
  rfl

/-- A finished unit without a refusal and without a mismatch leaves the counts. -/
theorem finishUnit_of_good {q : CvuSt} {f : CvuSt → CvuSt} (hf : f x.sf.cvu[u] = q) :
    x.finishUnit u q true false = x.modCvu u f := by
  rw [modCvu_congr (g := fun _ => q) hf]
  rfl

theorem finishUnit_of_mismatch {q : CvuSt} {f : CvuSt → CvuSt} (hf : f x.sf.cvu[u] = q) :
    x.finishUnit u q true true = let y := x.modCvu u f
      { y with sf := { y.sf with expMis := satInc y.sf.expMis } } := by
  rw [modCvu_congr (g := fun _ => q) hf]
  rfl

theorem finishUnit_of_refused {q : CvuSt} {f : CvuSt → CvuSt} (hf : f x.sf.cvu[u] = q) :
    x.finishUnit u q false false = let y := x.modCvu u f
      { y with sf := { y.sf with aliveRej := satInc y.sf.aliveRej } } := by
  rw [modCvu_congr (g := fun _ => q) hf]
  rfl

theorem compared_of_equal {q : CvuSt} {r : Word} (h : ~~~r = q.expect) :
    q.compared r = { q with running := r, result := ~~~r } := by
  unfold CvuSt.compared
  rw [decide_eq_false (not_not.2 h), Bool.or_false]

theorem compared_of_different {q : CvuSt} {r : Word} (h : ~~~r ≠ q.expect) :
    q.compared r = { q with running := r, result := ~~~r, mismatch := true } := by
  unfold CvuSt.compared
  rw [decide_eq_true h, Bool.or_true]

theorem alive_of_first {q : CvuSt} (v : Byte) (h : q.first = true) : q.alive v = (true, { q with last := v, first := false }) := by
  unfold CvuSt.alive
  exact if_pos (.inl h)

theorem alive_of_same {q : CvuSt} {v : Byte} (h : q.first = false) (hv : v = q.last) :
    q.alive v = (false, { q with reject := true }) := by
  subst hv
  have zero : (q.last - q.last).toNat = 0 := by rw [BitVec.sub_self]; rfl
  unfold CvuSt.alive
  dsimp only
  rw [zero, h]
  exact (if_neg (by simp)).trans (if_neg (by simp))

end

/-- The four bytes of a word, least significant first. -/
theorem wordBytes_eq (w : Word) :
    wordBytes w = [w.setWidth 8, (w >>> 8).setWidth 8, (w >>> 16).setWidth 8, (w >>> 24).setWidth 8] := by
  have byte : ∀ k, BitVec.ofNat 8 (w.toNat / 2 ^ k) = (w >>> k).setWidth 8 := fun k => by
    refine BitVec.eq_of_toNat_eq ?_
    rw [BitVec.toNat_ofNat, BitVec.toNat_setWidth, BitVec.toNat_ushiftRight, Nat.shiftRight_eq_div_pow]
  have first : BitVec.ofNat 8 w.toNat = w.setWidth 8 := by
    refine BitVec.eq_of_toNat_eq ?_
    rw [BitVec.toNat_ofNat, BitVec.toNat_setWidth]
  unfold wordBytes
  simp only [leBytes, Nat.div_div_eq_div_mul]
  rw [first, ← byte 8, ← byte 16, ← byte 24]
  rfl

/-- The check value of CRC-32C: that of the digits 1 to 9. -/
theorem crc32c_check :
    ~~~(crc32Feed 0xFFFFFFFF [0x31, 0x32, 0x33, 0x34, 0x35, 0x36, 0x37, 0x38, 0x39]) = 0xE3069283 := by
  decide +kernel

/-! ### The obligation -/

/-- Settles O51: the writes to a closed unit, those to an open one, the finish by its comparison, and the check value. -/
theorem checkValueUnits : Obligations.CheckValueUnits := by
  unfold Obligations.CheckValueUnits
  refine ⟨fun l c u w s h => ?_, fun l c u w s hc ho hk => ?_, crc32c_check⟩
  · have closed := cvuOpen_of_closed h
    have ignores : ∀ (i : Instr) (f : Live → Live), exec i s = .next (onLive l (fun x => x.byCaller c f) s) →
        f (s.lane l).live = (s.lane l).live → RunsTo i l s id := fun i f e hf => by
      refine runsTo_onLive e ?_
      unfold Live.byCaller
      rw [hf, ite_self]
      rfl
    obtain ⟨feed, finish, reset, ctrl⟩ := cvu_of_closed closed w
    exact ⟨ignores _ (fun x => x.cvuFeed u (wordBytes w)) rfl (feed _),
      ignores _ (fun x => x.cvuFeed u [w.setWidth 8]) rfl (feed _),
      ignores _ (fun x => x.cvuFinish u w) rfl finish, ignores _ (fun x => x.cvuReset u) rfl reset,
      ignores _ (fun x => x.cvuCtrl u w) rfl ctrl, fun reg =>
      ignores _ (fun x => (x.cvuWrite u reg.toNat w).getD x) rfl (cvuWrite_of_closed closed reg.toNat w)⟩
  · have opened := cvuOpen_of_open ho hk
    refine ⟨?_, ?_, ?_, fun f h31 hf => ⟨fun h14 hd => ?_, fun h14 => ?_⟩, fun r ha hr => ⟨fun h8 hx => ?_,
      fun h8 hx hp => ?_, fun h8 hx hfirst => ?_, fun h8 hx hfirst hv => ?_⟩, rfl, rfl, rfl, ?_, ?_⟩
    · refine runsTo_of_calls (f := fun x => x.cvuFeed u (wordBytes w)) rfl hc ?_
      rw [wordBytes_eq]
      exact if_pos opened
    · exact runsTo_of_calls (f := fun x => x.cvuFeed u [w.setWidth 8]) rfl hc (if_pos opened)
    · exact runsTo_of_calls (f := fun x => x.cvuReset u) rfl hc (if_pos opened)
    · exact runsTo_of_calls (f := fun x => x.cvuCtrl u w) rfl hc ((cvuCtrl_of_open opened h31 hf).1 h14 hd)
    · exact runsTo_of_calls (f := fun x => x.cvuCtrl u w) rfl hc ((cvuCtrl_of_open opened h31 hf).2 h14)
    · refine runsTo_of_calls (f := fun x => x.cvuFinish u w) rfl hc ?_
      rw [cvuFinish_of_open opened ha hr (decide_eq_false (not_not.2 hx)) (Bool.false_and _)
        (if_neg (h8 ▸ Bool.false_ne_true))]
      exact finishUnit_of_good (compared_of_equal hx).symm
    · refine runsTo_of_calls (f := fun x => x.cvuFinish u w) rfl hc ?_
      rw [cvuFinish_of_open opened ha hr (decide_eq_true hx) hp (if_neg (h8 ▸ Bool.false_ne_true))]
      exact finishUnit_of_mismatch (compared_of_different hx).symm
    · refine runsTo_of_calls (f := fun x => x.cvuFinish u w) rfl hc ?_
      have first : (((s.lane l).live.sf.cvu[u]).compared r).first = true := hfirst
      rw [cvuFinish_of_open opened ha hr (decide_eq_false (not_not.2 hx)) (Bool.false_and _)
        ((if_pos h8).trans (alive_of_first _ first)), compared_of_equal hx]
      exact finishUnit_of_good rfl
    · refine runsTo_of_calls (f := fun x => x.cvuFinish u w) rfl hc ?_
      have first : (((s.lane l).live.sf.cvu[u]).compared r).first = false := hfirst
      have same : (w >>> 16).setWidth 8 = (((s.lane l).live.sf.cvu[u]).compared r).last := hv
      rw [cvuFinish_of_open opened ha hr (decide_eq_false (not_not.2 hx)) (Bool.false_and _)
        ((if_pos h8).trans (alive_of_same first same)), compared_of_equal hx]
      exact finishUnit_of_refused rfl
    · exact runsTo_of_calls (f := fun x => (x.cvuWrite u 0 w).getD x) rfl hc (if_pos opened)
    · exact runsTo_of_calls (f := fun x => (x.cvuWrite u 0xC w).getD x) rfl hc (if_pos opened)

end Sys2Proof.Machine
end

section
/-!
PROOF SUPPORT. A write to the code region of the application's memory (R465), which refutes the obligation about the
application window: it changes that memory, where the obligation says that the state stands.
-/

namespace Sys2Proof.Machine

/-- An aligned write to the code region reaches the application's memory (R465). -/
theorem appWrite_of_code {x : Live} {c : Fin 128} {addr w : Word} (ha : addr.toNat % 4 = 0)
    (hl : 0x600000 ≤ addr.toNat) (hu : addr.toNat < 0x800000) : x.appWrite c addr w =
      { x with sc := { x.sc with code := putBytes x.sc.code (addr.toNat - 0x600000) (wordBytes w) } } := by
  have outside : ¬(0x40000000 ≤ addr.toNat ∧ addr.toNat < 0x40008000) := by omega
  exact (if_neg (not_not.2 ha)).trans ((if_neg outside).trans (if_pos ⟨hl, hu⟩))

/-- A joined lane A whose thread 0 runs on core 2, its memory empty. -/
def threadState : State :=
  { State.reset with a := { State.reset.a with live := { State.reset.a.live with
    phase := .joined, sc := { threads := [(0, { run := .running false })], core2 := some 0 } } } }

/-- Refutes O52: its clause on writes to the code and data regions says that such a write changes nothing. Where thread 0
of lane A, its memory empty, writes 1 to 0x600000, the first byte of the code region becomes 1 (R465). -/
theorem not_applicationWindow : ¬ Obligations.ApplicationWindow := by
  unfold Obligations.ApplicationWindow
  intro h
  obtain ⟨_, _, _, _, _, _, _, registers, _⟩ := h
  have calls : (threadState.lane .a).live.calls 0 = true := by decide
  obtain ⟨_, _, memory⟩ := registers .a 0 0x600000 1 threadState calls
  obtain ⟨t, e, _, _, stands⟩ := memory (by decide) (.inl (by decide))
  have written : (threadState.lane .a).live.byCaller 0 (fun x => x.appWrite 0 0x600000 1) =
      (threadState.lane .a).live.appWrite 0 0x600000 1 := if_pos calls
  rw [appWrite_of_code (by decide) (by decide) (by decide)] at written
  have lane : (t.lane .a).live = (threadState.lane .a).live.byCaller 0 (fun x => x.appWrite 0 0x600000 1) := by
    have next : onLive .a (fun x => x.byCaller 0 (fun x => x.appWrite 0 0x600000 1)) threadState = t :=
      Host.Outcome.next.inj e
    rw [← next]
    rfl
  rw [stands, written] at lane
  have code : ([] : List Byte) = putBytes [] (0x600000 - 0x600000) (wordBytes 1) :=
    congrArg (fun x : Live => x.sc.code) lane
  exact absurd code (by decide)

end Sys2Proof.Machine
end

section
/-!
PROOF SUPPORT. The start of a tick (R15, R16, R22, R294, R502): no part of it after the advance touches the lane's time or
its tick count, and the obligation about it.
-/

namespace Sys2Proof.Machine

/-- A lane's time: its clock, its tick start and its tick count. -/
def Live.time (x : Live) : Nat × Nat × Long := (x.clk, x.start, x.tk.count)

/-! ### Views of the peers leave the time -/

/-- What every step of a fold leaves, the fold leaves. -/
theorem foldl_part {α β : Type} (p : Live → β) (f : Live → α → Live) (h : ∀ x a, p (f x a) = p x) (l : List α) (x : Live) :
    p (l.foldl f x) = p x := by
  induction l generalizing x with
  | nil => rfl
  | cons a l ih => exact (ih _).trans (h x a)

theorem foldl_time {α : Type} (f : Live → α → Live) (h : ∀ x a, (f x a).time = x.time) (l : List α) (x : Live) :
    (l.foldl f x).time = x.time :=
  foldl_part Live.time f h l x

theorem forAll_time {n : Nat} (f : Fin n → Live → Live) (h : ∀ i x, (f i x).time = x.time) (x : Live) :
    (forAll n f x).time = x.time :=
  foldl_time _ (fun y i => h i y) _ x

theorem setRole_time (x : Live) (o : LaneId) (r : Role) : (x.setRole o r).time = x.time := by
  obtain ⟨_, _, h⟩ := setRole_frame x o r
  rw [h]
  rfl

theorem moveUp_time (x : Live) : x.moveUp.time = x.time := by
  obtain ⟨_, h⟩ := moveUp_frame x
  rw [h]
  rfl

theorem countFault_time (x : Live) (k : FaultKind) (o : LaneId) (n : Nat) : (x.countFault k o n).time = x.time := by
  obtain ⟨_, h⟩ := countFault_frame x k o n
  rw [h]
  rfl

theorem makeFollower_time (x : Live) (o : LaneId) (counts : Bool) : (x.makeFollower o counts).time = x.time := by
  unfold Live.makeFollower
  refine iteInduction (motive := fun z : Live => z.time = x.time) (fun _ => rfl) (fun _ => ?_)
  dsimp only
  rw [moveUp_time]
  refine iteInduction (motive := fun z : Live => z.time = x.time) (fun _ => (countFault_time ..).trans ?_) (fun _ => ?_)
  all_goals exact iteInduction (motive := fun z : Live => z.time = x.time) (fun _ => setRole_time ..) (fun _ => setRole_time ..)

theorem promotePeer_time (x : Live) (o : LaneId) : (x.promotePeer o).time = x.time := by
  unfold Live.promotePeer
  dsimp only
  rw [moveUp_time, setRole_time]
  refine foldl_time _ (fun y q => ?_) _ x
  refine iteInduction (motive := fun z : Live => z.time = y.time) (fun _ => ?_) (fun _ => rfl)
  exact iteInduction (motive := fun z : Live => z.time = y.time) (fun _ => rfl) (fun _ => setRole_time ..)

theorem reportedRole_time (x : Live) (o : LaneId) (now before : Role) : (x.reportedRole o now before).time = x.time := by
  unfold Live.reportedRole
  refine iteInduction (motive := fun z : Live => z.time = x.time) (fun _ => rfl) (fun _ => ?_)
  cases now with
  | none => exact iteInduction (motive := fun z : Live => z.time = x.time) (fun _ => rfl) (fun _ => makeFollower_time ..)
  | lead => exact promotePeer_time x o
  | watch =>
    refine iteInduction (motive := fun z : Live => z.time = x.time) (fun _ => ?_) (fun _ => ?_)
    · cases x.holderOf .watch with
      | none => exact setRole_time ..
      | some w => exact (setRole_time ..).trans (setRole_time ..)
    · exact iteInduction (motive := fun z : Live => z.time = x.time) (fun _ => setRole_time ..) (fun _ => rfl)
  | heel => exact iteInduction (motive := fun z : Live => z.time = x.time) (fun _ => setRole_time ..) (fun _ => rfl)

theorem viewTick_time (x : Live) : x.viewTick.time = x.time := by
  refine foldl_time _ (fun y p => ?_) _ x
  unfold Live.viewRecord
  refine iteInduction (motive := fun z : Live => z.time = y.time) (fun _ => rfl) (fun _ => ?_)
  dsimp only
  rw [reportedRole_time]
  exact iteInduction (motive := fun z : Live => z.time = y.time) (fun _ => makeFollower_time ..) (fun _ => rfl)

/-! ### The rest of a tick start leaves the time -/

theorem rotateLinks_time (x : Live) : x.rotateLinks.time = x.time := by
  have rotate : ∀ (y : Live) (d : LinkDir), (y.rotateLink d).time = y.time := fun y d => by
    unfold Live.rotateLink
    dsimp only
    cases d
    · exact iteInduction (motive := fun z : Live => z.time = y.time) (fun _ => rfl) (fun _ => rfl)
    · exact iteInduction (motive := fun z : Live => z.time = y.time) (fun _ => rfl) (fun _ => rfl)
  exact (rotate (x.rotateLink .fwd) .back).trans (rotate x .fwd)

theorem freezeInputs_time (x : Live) (inp : TickInputs) : (x.freezeInputs inp).time = x.time := by
  have app : ∀ y : Live, y.freezeApp.time = y.time := fun y =>
    foldl_time (fun (z : Live) (p : Nat × F32) => z.setBus p.1 p.2) (fun _ _ => rfl) y.en.appNext y
  have ntc : ∀ y : Live, (forAll 8 (fun n (z : Live) => z.ntcEntry n) y).time = y.time := forAll_time _ (fun _ _ => rfl)
  unfold Live.freezeInputs
  dsimp only
  rw [app, ntc]
  rfl

theorem settle_time (x : Live) : x.settle.time = x.time := by
  unfold Live.time
  rw [settle_clk, settle_start, settle_tk]

theorem raise_time (x : Live) (src unit : Nat) (syn : Word) : (x.raise src unit syn).time = x.time := by
  unfold Live.time
  rw [raise_clk, raise_start, raise_tk]

theorem cycleTick_time (x : Live) (serial : List Byte) : (x.cycleTick serial).time = x.time := by
  unfold Live.cycleTick
  exact iteInduction (motive := fun z : Live => z.time = x.time) (fun _ => rfl) (fun _ => rfl)

/-- A sample for the logbook touches the logbook. -/
theorem logSample_frame (x : Live) : ∃ im, x.logSample = { x with im := im } := by
  unfold Live.logSample
  split
  · exact ⟨x.im, rfl⟩
  · exact ⟨_, rfl⟩

theorem logSample_time (x : Live) : x.logSample.time = x.time := by
  obtain ⟨_, h⟩ := logSample_frame x
  rw [h]
  rfl

theorem quietTick_time (x : Live) (inp : TickInputs) (serial : List Byte) : (x.quietTick inp serial).time = x.time := by
  have ports : ∀ y : Live, (forAll 8 (fun p (z : Live) => z.freezePort p z.start) y).time = y.time :=
    forAll_time _ (fun _ _ => rfl)
  have slew : ∀ y : Live, y.slewTick.time = y.time := fun _ => rfl
  have trend : ∀ y : Live, y.trendSample.time = y.time := fun _ => rfl
  unfold Live.quietTick
  dsimp only
  rw [trend, logSample_time, cycleTick_time, settle_time, ports, slew, rotateLinks_time, viewTick_time, freezeInputs_time]

theorem compareNow_time (s : State) (l : LaneId) (x : Live) : (s.compareNow l x).time = x.time := by
  unfold State.compareNow
  exact iteInduction (motive := fun z : Live => z.time = x.time) (fun _ => raise_time ..) (fun _ => rfl)

/-! ### The advance (R15, R16) -/

/-- What belonged to the tick that ends is neither its time nor the configuration. -/
theorem newTick_time (x : Live) : x.newTick.time = x.time ∧ x.newTick.cfg = x.cfg := by
  have roles : (x.fillRoles.time, x.fillRoles.cfg) = (x.time, x.cfg) := by
    refine foldl_part (fun y : Live => (y.time, y.cfg)) _ (fun y n => ?_) _ x
    dsimp only
    split <;> rfl
  exact Prod.mk.inj roles

/-- A tick start counts the tick, and the tick begins one period after the last one, or where the clock stands. -/
theorem advance_time (x : Live) : x.newTick.advance.serveWatchdog.time =
    (max x.clk (x.start + x.tick), max x.clk (x.start + x.tick), x.tk.count + 1) := by
  obtain ⟨time, cfg⟩ := newTick_time x
  unfold Live.time at time
  obtain ⟨clk, rest⟩ := Prod.mk.inj time
  obtain ⟨start, count⟩ := Prod.mk.inj rest
  have tick : x.newTick.tick = x.tick := by
    unfold Live.tick Live.num Live.bytes
    rw [cfg]
  have advanced : x.newTick.advance.serveWatchdog.time = (max x.newTick.clk (x.newTick.start + x.newTick.tick),
      max x.newTick.clk (x.newTick.start + x.newTick.tick), x.newTick.tk.count + 1) := rfl
  rw [advanced, clk, start, count, tick]

/-! ### The obligation -/

theorem tickStart_of_quiet {s : State} {l : LaneId} (inp : TickInputs)
    (h : (s.lane l).live.phase = .loaded ∨ (s.lane l).live.phase = .withdrawn ∨ (s.lane l).live.phase = .haltedState) :
    s.tickStart l inp =
      onLive l (fun x => (s.compareNow l (x.newTick.advance.serveWatchdog)).quietTick inp s.serial) s := by
  unfold State.tickStart
  rcases h with h | h | h <;> rw [h]

theorem tickStart_of_halted {s : State} {l : LaneId} (inp : TickInputs) (h : (s.lane l).live.phase = .halted) :
    s.tickStart l inp = onLive l (fun x => x.advance.serveWatchdog.logSample) s := by
  unfold State.tickStart
  rw [h]

theorem tickStart_of_asleep {s : State} {l : LaneId} (inp : TickInputs) (h : (s.lane l).live.awake = false)
    (hh : (s.lane l).live.phase ≠ .halted) : s.tickStart l inp = s := by
  unfold Live.awake at h
  unfold State.tickStart
  cases hp : (s.lane l).live.phase with
  | loaded | joined | withdrawn | haltedState =>
    rw [hp] at h
    exact absurd h nofun
  | halted => exact absurd hp hh
  | _ => rfl

/-- Settles O53: the tick start by the lane's phase; a joined lane's burns no fuse. -/
theorem tickStartCounts : Obligations.TickStartCounts := by
  unfold Obligations.TickStartCounts
  refine ⟨fun l inp s h => ?_, fun l inp s h => ?_, fun l inp s ha hh _ => runsTo_id rfl (tickStart_of_asleep inp ha hh),
    fun l inp s _ => ?_⟩
  · refine runs_onLive (congrArg _ (tickStart_of_quiet inp h)) ?_
    have time := (quietTick_time (s.compareNow l ((s.lane l).live.newTick.advance.serveWatchdog)) inp s.serial).trans
      ((compareNow_time s l _).trans (advance_time _))
    generalize (s.compareNow l ((s.lane l).live.newTick.advance.serveWatchdog)).quietTick inp s.serial = y at time ⊢
    obtain ⟨clk, rest⟩ := Prod.mk.inj time
    obtain ⟨start, count⟩ := Prod.mk.inj rest
    exact ⟨rfl, rfl, count, start, clk.trans start.symm⟩
  · refine runs_onLive (congrArg _ (tickStart_of_halted inp h)) ?_
    obtain ⟨im, sampled⟩ := logSample_frame (s.lane l).live.advance.serveWatchdog
    rw [sampled]
    unfold Live.serveWatchdog Live.advance
    exact ⟨rfl, rfl, rfl, rfl, h, rfl, rfl, rfl, rfl⟩
  · have touched : Touches true false l s (s.tickStart l inp) := touches_tickStart inp
    exact ⟨_, rfl, touched.pending, touched.outside, touched.otp rfl⟩

end Sys2Proof.Machine
end
